-- ==== Sys2Proof/Word.lean ====
section
/-! DEFINITION. The word types of the block: 32-bit registers (R4), 64-bit stage time (R27), memory bytes. -/

namespace Sys2Proof

/-- A register or a bus word, R4. -/
abbrev Word := BitVec 32

/-- A byte of memory. -/
abbrev Byte := BitVec 8

/-- The stage time of a die, R27: a 64-bit count of fabric cycles. -/
abbrev StageTime := BitVec 64

/-- A sparse table: entries with strictly rising keys, none of them at the table's default. -/
abbrev Tab (α : Type) := List (Nat × α)

end Sys2Proof
end

