-- ==== Sys2Proof/Syntax.lean ====
section
/-! DEFINITION. The commands of the block: one constructor per row of spec/opcode_table.json, with the operands the
command carries from outside the block (which die, which unit, a value written, what a wire or a sensor presents). -/

namespace Sys2Proof

/-- The family members, Table 0-1. -/
inductive Part where
  | tv21 | tv42 | tv64 | tv86
  deriving DecidableEq, Repr, Inhabited

/-- A control die, C0 or C1. -/
abbrev CDie := Fin 2
/-- A driver die, D0 to D5. -/
abbrev DDie := Fin 6
/-- A die by its index of R33: C0, C1, D0 to D5. -/
abbrev DieIx := Fin 8
/-- An axis, AX0 to AX5. -/
abbrev Axis := Fin 6

/-- Who makes a register access (R20, R410, R411): a core in machine or in another mode (cores 0 and 1 are pair A,
cores 2 and 3 pair B), a flume channel, the debug module, or the other C die through its peer window. -/
inductive Master where
  | core (k : Fin 4) (machine : Bool)
  | flume (n : Fin 16)
  | debug
  | peer
  deriving DecidableEq, Repr, Inhabited

/-- The monitored rails of Table 3-1, each with the die that monitors it. -/
inductive Rail where
  | vcore (d : CDie) | vana (d : CDie) | vioA (d : CDie) | vioB (d : CDie) | vioC (d : CDie)
  | vdrv (k : DDie) | vkeep (k : DDie)
  deriving DecidableEq, Repr, Inhabited

/-- What a core captures at a full-context checkpoint (R390): pc, x1 to x31, f0 to f31, fcsr, the machine CSRs mstatus,
mie, mtvec, mepc, mcause, mtval and mscratch, and the dirty-line signature. A register beyond the end of its list is 0. -/
structure CoreCtx where
  pc : Word
  x : List Word
  f : List Word
  fcsr : Word
  csr : List Word
  dirty : Word
  deriving DecidableEq, Repr, Inhabited

/-- Zero-current offsets as captured: the unit (0 to 3 a converter group, 4 + k the shunt intake of D die k), its entry or
channel, and the offset measured. -/
abbrev Captures := List (Nat × Nat × Int)

/-- The NEW slots of a reload's slot map (R237): the C die, the engine slot, and a mask of its state slots that are NEW; every
other slot is CARRY. -/
abbrev SlotMap := List (Nat × Nat × Nat)

/-- Readings of a die's sensors, or of its TMOD inputs, in order; a missing one reads 0. -/
abbrev Readings := List (BitVec 16)

/-- A CAN frame as a controller receives it without error (R456): its format bits, identifier, DLC and data bytes; a missing
byte reads 0. -/
structure CanFrame where
  ext : Bool
  rem : Bool
  fd : Bool
  brs : Bool
  esi : Bool
  id : BitVec 29
  dlc : Fin 16
  data : List Byte
  deriving DecidableEq, Repr, Inhabited


/-- The commands, one per row of the table of operations. -/
inductive Instr where
  /-- R8. A write to a register that has no row of its own takes effect field by field under its access codes, and any
  refusal is reported by the block's status bit. -/
  | registerWrite (d : CDie) (m : Master) (addr : Word) (v : Word)
  /-- R5. A narrower or misaligned register access raises a bus error on the issuing core and has no effect. -/
  | narrowOrMisalignedAccess (d : CDie) (m : Master) (addr : Word) (size : Nat) (write : Bool)
  /-- R32. An access outside every region, or to a window of a die the part lacks, raises a bus error. -/
  | unmappedAccess (d : CDie) (m : Master) (addr : Word) (write : Bool)
  /-- R28. A read of SYS_STLO returns the low stage-time bits and latches the high bits into SYS_STHI for the reading core. -/
  | stageTimeRead (d : CDie) (m : Master)
  /-- R29. A write of bit 0 of msip raises or removes the machine software interrupt of the core's pair. -/
  | msipWrite (d : CDie) (k : Fin 4) (v : Word)
  /-- R29. mtime reaching a core's mtimecmp raises the machine timer interrupt to the pair. -/
  | machineTimerInterrupt (d : CDie) (k : Fin 4)
  /-- R35. All supplies come within range and the device passes from OFF to RESET. -/
  | suppliesInRange
  /-- R65. A monitored rail stays below its falling threshold for the filter time and takes the reaction of its row. -/
  | supplyLow (r : Rail)
  /-- R65. A monitored rail stays above its rising threshold for the filter time and counts as recovered. -/
  | supplyRecovered (r : Rail)
  /-- R72. Reference loss or PLL unlock moves the die to its backup oscillator, stops the fabric clock and forwarding, and
  reports a package-wide fault. -/
  | clockLoss (d : CDie) (ref : Bool)
  /-- R71. The reference becomes valid and SYS_CLKST.REF_OK sets. -/
  | crystalReferenceOk (d : CDie)
  /-- R80. The PLL locks and the clocks of Table 1-4 run. -/
  | pllLock (d : CDie)
  /-- R74. RESET_N held low for 1 µs or more starts a package reset. -/
  | resetNAssert (low : Bool)
  /-- R74. A two-key write of SYS_RSTCTRL.PKG orders a package reset. -/
  | sysRstctrlPkg (d : CDie) (m : Master)
  /-- R74. A two-key write of SYS_RSTCTRL.DIE resets this C die and orphans the D dies it owns. -/
  | sysRstctrlDie (d : CDie) (m : Master)
  /-- R74. A reset ordered by the safety master of the other C die over the headrace resets this C die. -/
  | peerOrderedReset (d : CDie)
  /-- R337. A D die resets on low VDRV or its owner's command, its link is lost and its axes enter their curtain states. -/
  | dDieReset (k : DDie)
  /-- R84. A write of SYS_BRST holds the named blocks in reset, aborting frames, channels or excitation. -/
  | blockResetWrite (d : CDie) (v : Word)
  /-- R514. The reset of a die ends after its source's end time and its reference and PLL are valid, and the die leaves
  reset. -/
  | resetRelease (i : DieIx) (anchor rcvyN romOk : Bool)
  /-- R81. PFAIL high for 1 µs is recognised, a flush starts, MRAM writes are refused and the selected reaction is taken. -/
  | pfailRecognised
  /-- R83. PFAIL falls and the MRAM write refusal ends once the flush is also complete. -/
  | pfailFall
  /-- R89. C1 answers the training pattern and the C dies exchange identity, stepping and protocol versions. -/
  | rollCallC1Answer (ctl : Bool) (pos : DieIx) (step : Byte)
  /-- R89. C0 and C1 begin training their D links with the reset mark and the D answer windows open. -/
  | dLinkTrainingStart
  /-- R91. A D die answers with position and stepping and C0 checks it for mismatch. -/
  | dDieAnswer (k : DDie) (pos : DieIx) (step : Byte) (drv : Bool)
  /-- R90. A die's 5 ms answer window closes without an answer and the die is missing, holding CONFIG. -/
  | answerWindowExpiry (i : DieIx)
  /-- R89. The CRC-32 readback of pushed baseline microcode arrives and is compared, with one push repeated on failure. -/
  | microcodeReadback (k : DDie) (ok : Bool)
  /-- R95. One millisecond after alignment began, a die not within one count ends roll call with TIME_ALIGN_FAIL. -/
  | timeAlignCheck
  /-- R101. The version windows are resolved into dual control or single-control degraded mode and the device enters BIST. -/
  | versionWindowResolve (peerOk : Bool)
  /-- R97. Every 100 µs of a thermal hold C0 reads the sensors again and continues once all are below 135 °C. -/
  | thermalHoldRecheck
  /-- R98. Every 100 µs of an NVM_TEMP hold the ROM checks the C-die sensors again before a pending copy. -/
  | nvmTempHoldRecheck (d : CDie)
  /-- R94. A readiness item of Table 4-4 is met, its bit sets, and START_RDY sets when all are met. -/
  | readinessItemMet (d : CDie) (item : Fin 5)
  /-- R117. LIB_CMD LOAD verifies the full image at LIB_SRC, stores it as ACTIVE and applies it. -/
  | libLoad (d : CDie) (m : Master)
  /-- R125. LIB_CMD RELOAD verifies a per-axis bundle and stages it for transfer. -/
  | libReload (d : CDie) (m : Master) (ax : Fin 8)
  /-- R124. LIB_CMD ROLLBACK exchanges ACTIVE and PREVIOUS and applies the new ACTIVE. -/
  | libRollback (d : CDie) (m : Master)
  /-- R123. LIB_CMD ACCEPT ends the acceptance window at once with acceptance. -/
  | libAccept (d : CDie) (m : Master)
  /-- R127. LIB_CMD ABORT cancels a verification or a staged reload that has not applied. -/
  | libAbort (d : CDie) (m : Master)
  /-- R114. LIB_CMD STORE_UD verifies an image and stores it as USERDEF without applying it. -/
  | libStoreUd (d : CDie) (m : Master)
  /-- R114. LIB_CMD CLEAR_UD removes the USERDEF role and empties its slot. -/
  | libClearUd (d : CDie) (m : Master)
  /-- R118. The load checks of Table 5-6 complete, stopping at the first failure with its code. -/
  | libVerifyDone
  /-- R114. The MRAM store of an image completes and the directory word gives the slot its role. -/
  | libStoreDone
  /-- R122. At CONFIG the ACTIVE slot is applied, falling back to PREVIOUS, user default or factory, or holding CONFIG. -/
  | libConfigApply
  /-- R126. In the first idle cycle after a frame boundary every shadow of the axis transfers and the directory makes the
  slot ACTIVE. -/
  | reloadTransfer (news : SlotMap)
  /-- R123. The acceptance window runs out and closes with acceptance. -/
  | acceptWindowExpiry
  /-- R124. At each supervisory frame a refused directory write is tried again until it succeeds. -/
  | directoryWriteRetry
  /-- R128. The safety master writes the two-key target address, disarming any armed sequence. -/
  | libTkAddrWrite (d : CDie) (m : Master) (v : Word)
  /-- R128. A key write is checked against the sequence and the second correct key arms the sequence. -/
  | libTkKeyWrite (d : CDie) (m : Master) (v : Word)
  /-- R130. The armed target write to an RWP register takes effect, increments SEQ and writes a PROT_WRITE record. -/
  | twoKeyTargetWrite (d : CDie) (m : Master) (v : Word)
  /-- R129. More than 1 µs after the second key without the target write, the sequence fails with TIMEOUT. -/
  | twoKeyTimeout (d : CDie)
  /-- R135. A received flit is checked by CRC and delivered in order, or a NAK is sent and later flits are discarded. -/
  | flitReceive (i : DieIx) (n : Fin 7) (w : BitVec 64)
  /-- R135. A NAK makes the transmitter resend from the named flit out of its last 16. -/
  | nakReceive (i : DieIx) (n : Fin 7) (seq : Fin 16)
  /-- R136. No good flit for 64 cycles, loss of forwarded clock or a NOTICE makes a link lost and reports it. -/
  | linkLost (i : DieIx) (n : Fin 7)
  /-- R136. A lost link retrains by itself without restoring ownership. -/
  | linkRetrained (i : DieIx) (n : Fin 7)
  /-- R75. A D die receiving a reset notice turns all gates off and then resets. -/
  | resetNoticeReceive (k : DDie)
  /-- R138. A posted WR flit writes a register of the target die, refused with NOT_OWNER or BUS_ERROR where applicable. -/
  | remoteWrite (d : CDie) (m : Master) (addr : Word) (v : Word)
  /-- R138. An RD flit is answered by the target with RDRSP data and status. -/
  | remoteRead (d : CDie) (k : Fin 4) (machine : Bool) (addr : Word)
  /-- R138. An RDRSP completes the issuing core's read, or reports REMOTE_ERR with a bus error. -/
  | remoteReadResponse (d : CDie) (k : Fin 5) (machine crcOk : Bool)
  /-- R138. No RDRSP within 1 µs records TIMEOUT and raises a bus error. -/
  | remoteReadTimeout (d : CDie) (k : Fin 4) (machine : Bool)
  /-- R139. When the receiver's corrected count reaches a named T it loads all 64 bits of T. -/
  | timeLoad (i : DieIx) (n : Fin 7)
  /-- R139. Every 1 µs each owner and C0 send a TIME flit with H = 0. -/
  | timeSyncSend (d : CDie)
  /-- R139. A periodic TIME flit is compared with the local count and a slip of more than one count is reloaded and flagged. -/
  | timeSyncReceive (i : DieIx) (n : Fin 7) (t : BitVec 43)
  /-- R140. A two-key write of HDR_HO_CMD with OP HANDOVER is checked, a boundary B is found and HO_OFFER is sent. -/
  | handover (d : CDie) (m : Master) (k : Fin 8)
  /-- R145. A two-key write of HDR_HO_CMD with OP TAKE forwards the clock, sends TAKE and reads back the microcode CRC. -/
  | take (d : CDie) (m : Master) (k : Fin 8)
  /-- R235. The new owner receives HO_OFFER and starts mirroring the axes' engines, FIELD and PWM state. -/
  | hoOfferReceive (d : CDie)
  /-- R141. The owner receives HO_READY and sends HO_COMMIT to the D die before B − 1 µs. -/
  | hoReadyReceive (d : CDie)
  /-- R144. HO_READY not received by B − 2 µs cancels the handover with READY_LATE. -/
  | hoReadyDeadline (d : CDie)
  /-- R141. The D die receives HO_COMMIT and is armed to switch at B. -/
  | hoCommitReceive (k : DDie)
  /-- R141. At B an armed D die switches PWM inputs, clock and SHUNT destination together and sends HO_DONE. -/
  | handoverBoundary (k : DDie)
  /-- R141. Both C dies receive HO_DONE, update HDR_OWN and record the handover. -/
  | hoDoneReceive (d : CDie) (k : DDie)
  /-- R144. The owner cancels a handover on a listed cause and sends HO_CANCEL, keeping the D die. -/
  | hoCancel (d : CDie) (code : Fin 14)
  /-- R361. A D die receiving HO_CANCEL before B withdraws its held HO_COMMIT. -/
  | hoCancelReceive (d : CDie) (k : DDie)
  /-- R145. An orphan D die accepts the first valid TAKE and answers later ones with NOT_ORPHAN. -/
  | takeReceive (d : CDie) (k : DDie)
  /-- R146. A cue source event is routed to every enabled destination that selects it. -/
  | cueSourceEvent (d : CDie) (src : Byte)
  /-- R146. A cross-die cue arrives after its fixed latency, or is dropped or late and counted. -/
  | cueArrival (d : CDie) (dst : Byte) (late bad : Bool)
  /-- R149. A write of CUE_SWTRIG fires software cue source 0xCC plus the value. -/
  | softwareCue (d : CDie) (v : Fin 4)
  /-- R152. A cue or SWTRIG start begins a sequence, or is dropped with OVERRUN if it runs. -/
  | adcSequenceStart (d : CDie) (g : Fin 4) (q : Fin 4)
  /-- R155. A write of ADC_AGg_SWTRIG.STOP stops a running burst of the sequence. -/
  | adcSwtrigStop (d : CDie) (g : Fin 4) (mask : Fin 16)
  /-- R153. A SIMUL step samples its entries together on free working slices, delayed with LATE when slices lack. -/
  | adcStepSample (d : CDie) (g : Fin 4) (q : Fin 4) (n : Fin 16)
  /-- R156. A conversion completes, is corrected and scaled to Q15 and written to its result register. -/
  | adcConversionDone (d : CDie) (g : Fin 4) (e : Fin 64) (code : BitVec 14)
  /-- R155. A burst sample enters the FIFO, or is lost with FIFO_OVF, and the burst ends at BCOUNT. -/
  | adcBurstSample (d : CDie) (g : Fin 4) (code : BitVec 14)
  /-- R155. A read of ADC_AGg_FIFO returns and removes the oldest burst result. -/
  | adcFifoRead (d : CDie) (g : Fin 4)
  /-- R172. A read of a result register returns it and clears FRESH. -/
  | adcResultRead (d : CDie) (g : Fin 4) (e : Fin 64)
  /-- R157. A shunt start cue samples ISH0 to ISH2 together, or is dropped and counted. -/
  | shuntStart (k : DDie)
  /-- R157. The shunt codes complete and a SHUNT flit is framed with tag and flags. -/
  | shuntConversionDone (k : DDie) (c0 c1 c2 : BitVec 12)
  /-- R160. A cue or the 1 µs automatic start begins an SC3 voltage set, or is dropped if one is converting. -/
  | voltageStart (k : DDie) (auto : Bool)
  /-- R160. SC3 completes VPH2 or VDC and sends a flit of CONTENT 1 or 2. -/
  | voltageSetFlit (k : DDie) (c0 c1 c2 : BitVec 12)
  /-- R161. A write of MODE BURST is accepted, or ignored with REFUSED while a served axis runs. -/
  | shuntBurstModeWrite (d : CDie) (k : DDie) (v : Word)
  /-- R159. The intake checks the tag sequence, scales the codes to Q15 and presents them to the engines. -/
  | shuntFlitReceive (d : CDie) (k : DDie)
  /-- R174. A read of ADC_SHd_FIFO returns and removes the oldest burst result. -/
  | shuntFifoRead (d : CDie) (k : DDie)
  /-- R164. At CONFIG entry C0 starts self-calibration of every group and shunt converter in parallel. -/
  | adcSelfCalibrationStart
  /-- R164. Self-calibration stores the constants and retires or fails slices and converters per the outcomes. -/
  | adcSelfCalibrationDone (d : CDie) (fails : BitVec 32) (dfails : BitVec 6)
  /-- R165. ADC_GCTRL.CAL repeats self-calibration or is refused with a code of Table 7-5. -/
  | adcGctrlCal (d : CDie)
  /-- R167. ADC_GCTRL.ZCAP starts a zero-current capture or is refused. -/
  | adcGctrlZcap (d : CDie)
  /-- R167. At STANDBY entry the device starts a zero-current capture by itself. -/
  | zcapAtStandby (d : CDie)
  /-- R167. An axis's channels are captured once all its gates have been off for 1 ms. -/
  | zcapDeferredStart (d : CDie) (a : Axis)
  /-- R167. A capture completes and writes offsets within ZLIM, marking out-of-limit channels. -/
  | zcapDone (d : CDie) (caps : Captures)
  /-- R418. At the first frame boundary after PERIOD the next engine set or group rotates, is skipped or moves. -/
  | rotationPoint (d : CDie)
  /-- R233. In the slot's first idle cycle after the copy the state moves to the understudy and the slot is remapped, or
  defers. -/
  | engineHandoverMove (d : CDie)
  /-- R419. Each frame one in-service test slice runs on the released unit, which becomes understudy or is retired. -/
  | inServiceSlice (d : CDie) (code : Fin 6) (work : Fin 5)
  /-- R206. A write of FB EN = 1 starts the interface or is refused with CFGERR. -/
  | fbEnable (d : CDie) (n : Fin 4) (v : Word)
  /-- R181. An accepted A or B change moves the count, or a double change sets QERR. -/
  | encoderEdge (d : CDie) (n : Fin 4) (a b : Bool) (held : BitVec 8)
  /-- R182. An accepted Z rising edge sets ZIDX and loads, checks or latches per ZMODE. -/
  | encoderIndex (d : CDie) (n : Fin 4) (held : BitVec 8)
  /-- R183. A Hall state change moves the count or sets HALLERR. -/
  | hallStateChange (d : CDie) (n : Fin 4) (st : Fin 8) (held : BitVec 8)
  /-- R184. An excitation period starts when the stage time aligns and takes any new N or AMP. -/
  | excitationPeriodStart (d : CDie) (n : Fin 4)
  /-- R191. Every 1 µs the tracking observer updates its states, or coasts on an errored update. -/
  | observerUpdate (d : CDie) (n : Fin 4) (sin cos : BitVec 14)
  /-- R188. A cue, LATCH write or REQ period starts a serial frame, or is dropped or counted as TIMEOUT. -/
  | serialFrameRequest (d : CDie) (n : Fin 4) (ready : Bool)
  /-- R189. A serial frame ends and is checked for CRC, error bits and start bit. -/
  | serialFrameDone (d : CDie) (n : Fin 4) (raw : BitVec 64) (wait : Byte)
  /-- R199. A cue, LATCH write or index stores position, angles, speed and stage time of one cycle. -/
  | positionLatch (d : CDie) (n : Fin 4) (index : Bool)
  /-- R199. A read of FB_FBn_LSTAT returns it and clears NEW. -/
  | latchStatusRead (d : CDie) (n : Fin 4)
  /-- R200. A read of FB_FBn_POSLO stores POSHI, FRAC, ANGLE and SPD for the reading core. -/
  | positionRead (d : CDie) (n : Fin 4) (m : Master)
  /-- R195. A write of 1 to FB FAULT clears it, or is refused with CLRREF while CONSEC is not 0. -/
  | fbFaultClear (d : CDie) (n : Fin 4)
  /-- R206. A write of emulator EN = 1 sets the count to the target or is refused with CFGERR. -/
  | emuEnable (d : CDie) (m : Fin 2) (v : Word)
  /-- R202. The emulator steps its output count one toward the target, no sooner than 100 ns after the last edge. -/
  | emuStep (d : CDie) (m : Fin 2)
  /-- R214. A write of engine MODE is checked against the active bank and settings, or refused with CFGERR. -/
  | engineModeWrite (d : CDie) (n : Fin 63) (v : Word)
  /-- R219. A trigger or START latches the snapshots, applies presets and runs the program, or is dropped as an overrun. -/
  | engineStart (d : CDie) (n : Fin 64) (kind : Fin 5) (k : Fin 8) (ecc : Fin 3) (atStep : Fin 129)
  /-- R221. A stalled WAITF port becomes fresh, a new snapshot is taken and the run continues. -/
  | waitfResume (d : CDie) (n : Fin 64)
  /-- R221. WAITTMO cycles pass without freshness and the run ends with WAITTMO. -/
  | waitfTimeout (d : CDie) (n : Fin 64)
  /-- R212. A run ends at END or LEN steps and the following-error supervision is evaluated. -/
  | engineRunEnd (d : CDie) (n : Fin 64)
  /-- R222. A coefficient, slot or limit write, or the held writes after HOLDK = 0, take effect in the engine's first idle
  cycle. -/
  | heldWriteApply (d : CDie) (n : Fin 64)
  /-- R238. LOOP_LEn_CTRL.SWAP swaps the program banks in the next idle cycle, or is refused. -/
  | bankSwap (d : CDie) (n : Fin 63)
  /-- R224. A software write of LOOP_CHc_VAL updates a software channel or is refused. -/
  | channelSoftwareWrite (d : CDie) (c : Byte) (v : Word)
  /-- R224. A mirrored channel store arrives on the peer's channel as a WR flit. -/
  | mirrorChannelWrite (d : CDie) (c : Byte) (v : BitVec 16)
  /-- R241. A write of LOOP_SPk sets the setpoint source and increments its update count. -/
  | setpointWrite (d : CDie) (k : Fin 32) (v : Word)
  /-- R226. A weir selects the lowest enabled Y, computes tracking presets and tracks downstream. -/
  | weirEvaluate (d : CDie) (w : Fin 64)
  /-- R229. An input without a stored Y for STALE µs takes its fallback and the weir evaluates. -/
  | weirInputStale (d : CDie) (w : Fin 64) (j : Fin 4)
  /-- R230. A write of MAN.VALUE makes the weir evaluate with the manual output. -/
  | weirManualValueWrite (d : CDie) (w : Fin 64) (v : Word)
  /-- R228. A write of weir EN checks the tree for loops and depth and is refused if broken. -/
  | weirEnableWrite (d : CDie) (w : Fin 64) (v : Word)
  /-- R235. A twin starts when the owner's snapshots arrive, runs the same program and compares CRCs. -/
  | twinStart (d : CDie) (t : Fin 64) (ecc : Fin 3) (atStep : Fin 129)
  /-- R261. FIELD CMD START passes its checks and enters CATCH, or is refused. -/
  | fieldStart (d : CDie) (a : Axis)
  /-- R260. FIELD CMD STOP ramps the setpoint to 0 and enters STOPPING. -/
  | fieldStop (d : CDie) (a : Axis)
  /-- R260. FIELD CMD DISABLE disables the axis's PWM at once and returns to IDLE. -/
  | fieldDisable (d : CDie) (a : Axis)
  /-- R260. A command value not in Table 10-6 is refused with BAD_CMD. -/
  | fieldBadCmd (d : CDie) (a : Axis) (op : Fin 5)
  /-- R265. A write of SPSET is checked against the rotation and accepted or refused with REVERSE_SPEED. -/
  | spsetWrite (d : CDie) (a : Axis) (v : Word)
  /-- R262. CATCH completes with the caught speed, angle and amplitude and CATCHDONE sets. -/
  | catchDone (d : CDie) (a : Axis)
  /-- R263. No VPH set within 10 µs of CATCH refuses the start with NO_ANGLE. -/
  | catchNoVoltage (d : CDie) (a : Axis)
  /-- R256. Alignment completes and FIELD writes ELOFS so that the angle equals the found angle. -/
  | alignDone (d : CDie) (a : Axis)
  /-- R254. The HFI polarity test compares the ripple of two pulses and corrects the angle. -/
  | polarityTest (d : CDie) (a : Axis)
  /-- R260. Speed below STILL for 10 ms in STOPPING disables PWM and returns the axis to IDLE. -/
  | stopComplete (d : CDie) (a : Axis)
  /-- R266. Speed with the sign of SPSET beyond STILL ends REVERSING and sets REVDONE. -/
  | reversalDone (d : CDie) (a : Axis)
  /-- R267. REVERSING longer than REVTMO holds the setpoint at 0 and sets REVTMO. -/
  | reversalTimeout (d : CDie) (a : Axis)
  /-- R258. The grid PLL locks after 100 ms within tolerance. -/
  | gridLock (d : CDie) (a : Axis)
  /-- R258. Angle error beyond LOCKTOL for 1 ms clears LOCK and, in RUN, sets GRIDLOSS. -/
  | gridLoss (d : CDie) (a : Axis)
  /-- R269. A battery temperature not updated for TMO × 10 ms becomes stale and the factor goes to 0. -/
  | batteryTempStale (d : CDie) (b : Fin 3)
  /-- R276. A write of battery limits or band is checked and refused if inconsistent. -/
  | busBatteryWrite (d : CDie) (m : Master) (b : Fin 3) (j : Fin 2) (v : Word)
  /-- R279. A write of PWM_LGg_CFG.EN = 1 arms the group start, or is refused; EN = 0 turns its lines off. -/
  | loadGroupEnable (d : CDie) (g : Fin 8) (v : Word)
  /-- R279. At the aligned stage time the group count starts and the shadows load. -/
  | loadGroupStart (d : CDie) (g : Fin 8)
  /-- R278. The group count reaches a multiple of PER and loads, enables and settings take effect. -/
  | groupBoundary (d : CDie) (g : Fin 8)
  /-- R279. A sync cue restarts the group count at 0 in the next cycle. -/
  | syncCue (d : CDie) (k : Fin 18)
  /-- R285. A software write, engine store or cue arms the load of a group. -/
  | loadallArm (d : CDie) (g : Fin 8)
  /-- R293. A write of 1 to PWM_AXEN is checked in table order and accepted or refused with a code. -/
  | axisEnable (d : CDie) (a : Axis)
  /-- R295. A write of 0 to PWM_AXEN turns every line of the axis off within one cycle. -/
  | axisDisable (d : CDie) (a : Axis)
  /-- R297. An accepted active trip level latches, fires its cue, forces masked pairs off and reports the trip. -/
  | tripAssert (d : CDie) (n : Fin 4) (level : Bool) (held : BitVec 8)
  /-- R296. A trip input's inactive level is accepted after its filter. -/
  | tripInactive (d : CDie) (n : Fin 4) (level : Bool) (held : BitVec 8)
  /-- R298. A write to PWM_TRIPCLR clears a latch while the input is inactive, or is refused. -/
  | tripClear (d : CDie) (v : Word)
  /-- R299. Blanking ends while the trip input is still active and the trip latches. -/
  | tripBlankingEnd (d : CDie) (n : Fin 4)
  /-- R306. A rising PWM line at the D die releases its channel to ON unless a hold acts. -/
  | pwmLineRise (d : CDie) (k : DDie) (c : Fin 6) (gate : Bool)
  /-- R306. A falling PWM line turns its channel OFF and samples its telemetry. -/
  | pwmLineFall (d : CDie) (k : DDie) (c : Fin 6) (isns : BitVec 11) (toff tsw : BitVec 16)
  /-- R331. A cue arms a capture of the next turn-off of the chosen channel. -/
  | tcapArm (k : DDie)
  /-- R345. A read of DRV_Dd_CHc_TELMAX returns it and clears it. -/
  | telmaxRead (d : CDie) (k : DDie) (c : Fin 6)
  /-- R308. A write of DRV_Dd_CHc_LVL is checked against the rails and refused with CFGERR if out of range. -/
  | levelWrite (d : CDie) (k : DDie) (c : Fin 6) (v : Word) (vdrv vneg : Byte)
  /-- R314. A charging floating rail first recovers, ending its charge hold. -/
  | floatingRailCharged (k : DDie) (leg : Fin 3)
  /-- R315. A watched rail low forces all six channels FORCED_OFF, fires the cue and reports the lockout. -/
  | lockoutEntry (k : DDie) (rail : Fin 5)
  /-- R316. Every watched rail recovered releases the lockout after its delay, with channels left OFF. -/
  | lockoutRelease (k : DDie)
  /-- R319. An accepted sense-cell crossing starts a soft turn-off, sets the inhibit and latches SCLATCH. -/
  | scDetection (k : DDie) (c : Fin 6) (cur : BitVec 11) (held : BitVec 8)
  /-- R321. An accepted shunt comparator crossing puts the leg's ON channels into SOFT_OFF and latches SHLATCH. -/
  | shuntDetection (k : DDie) (leg : Fin 3) (mv : BitVec 10) (held : BitVec 8)
  /-- R319. A soft turn-off reaches its time, clamps at full strength and sets SOFT_DONE. -/
  | softOffEnd (k : DDie) (c : Fin 6) (peak : BitVec 11)
  /-- R327. Both lines of a leg high forces both channels OFF and latches SHOOT. -/
  | shootAttempt (k : DDie) (leg : Fin 3)
  /-- R328. A turn-on is held while the other gate is above VGOFF, latching GSTUCK after 1 µs. -/
  | gateSenseHold (k : DDie) (c : Fin 6) (kind : Fin 3)
  /-- R329. The incoming channel is released early once the gate-off, midpoint and minimum conditions hold. -/
  | adtEarlyRelease (k : DDie) (c : Fin 6)
  /-- R335. DRV_Dd_UC_CTRL.COMMIT checks bank 1 and reports ERR on failure. -/
  | ucodeCommit (d : CDie) (k : DDie) (v : Word)
  /-- R335. The sequencer switches to bank 1 once every channel is OFF and no entry runs. -/
  | ucodeBankSwitch (k : DDie)
  /-- R333. A sequencer entry runs its microcode on its event. -/
  | sequencerEntry (k : DDie) (e : Fin 7)
  /-- R338. A filtered STO input at torque off removes source enables or forces sinks on and runs the STO entry. -/
  | stoTorqueOff (k : DDie) (a b : Bool) (held : BitVec 16)
  /-- R340. Both STO inputs reading run release the STO hold, with channels waiting for a fresh edge. -/
  | stoRun (k : DDie) (a b : Bool) (held : BitVec 16)
  /-- R339. STO_A and STO_B differing for DISC ms latches STO_DISC. -/
  | stoDiscrepancy (k : DDie)
  /-- R341. An active sluice line latches the leg's sluice bit and forces both channels OFF. -/
  | sluiceActive (k : DDie) (x : CDie) (n : Fin 4)
  /-- R342. A trip clear command from Cx clears the D die's sluice latch of that trip. -/
  | sluiceClear (k : DDie) (x : CDie) (n : Fin 4)
  /-- R344. A two-key write of DRV_Dd_FCLR.SC clears SCLATCH of a channel or is refused. -/
  | fclrSc (d : CDie) (m : Master) (k : DDie) (ch : BitVec 6)
  /-- R344. A two-key write of DRV_Dd_FCLR.SHUNT clears SHLATCH of a leg or is refused. -/
  | fclrShunt (d : CDie) (m : Master) (k : DDie) (legs : BitVec 3)
  /-- R344. A two-key write of DRV_Dd_FCLR.SHOOT clears SHOOT of a leg or is refused. -/
  | fclrShoot (d : CDie) (m : Master) (k : DDie) (legs : BitVec 3)
  /-- R344. A two-key write of DRV_Dd_FCLR.STO_DISC clears the discrepancy latch or is refused. -/
  | fclrStoDisc (d : CDie) (m : Master) (k : DDie)
  /-- R344. A two-key write of DRV_Dd_FCLR.GSTUCK clears GSTUCK of a leg or is refused. -/
  | fclrGstuck (d : CDie) (m : Master) (k : DDie) (legs : BitVec 3)
  /-- R343. A STATUS flit reports a D-die change to the owner and fault collection. -/
  | statusFlitReceive (k : DDie)
  /-- R349. No VDC result for 10 µs clears VDCOK and curtains every axis of the bus. -/
  | vdcLoss (d : CDie) (b : Fin 3)
  /-- R349. Two measurements differing by more than VPLAUS for 100 µs set VPLAUS. -/
  | vdcPlausibility (d : CDie) (b : Fin 3)
  /-- R353. High duty with low current for FTIME declares the chopper faulty and curtains it. -/
  | chopperFault (d : CDie) (b : Fin 3)
  /-- R354. A cause puts an axis into its curtain state, the rule chooses OPEN or SHORT and the command is written. -/
  | curtainEntry (d : CDie) (a : Axis) (j : Fin 10)
  /-- R358. The rule of an axis in its curtain state is evaluated again and a change is written. -/
  | curtainRuleEvaluate (d : CDie) (a : Axis)
  /-- R358. 5 µs after OPEN is written for a side change, the new SHORT side is written. -/
  | shortSideSwitch (d : CDie) (a : Axis)
  /-- R354. A write of SAFE_REQ raises or removes the software curtain cause of each axis. -/
  | safeReqWrite (d : CDie) (v : Word)
  /-- R359. A two-key write of SAFE_CLR.AX clears an axis's curtain state or is refused with a code. -/
  | safeClrAx (d : CDie) (m : Master) (axes : BitVec 6)
  /-- R360. A two-key write of SAFE_CLR.PKG clears the device CURTAIN into STANDBY or is refused. -/
  | safeClrPkg (d : CDie) (m : Master) (axes : BitVec 6)
  /-- R360. A package-wide fault curtains every axis of both dies with cause PKG and enters CURTAIN. -/
  | packageCurtain (d : CDie)
  /-- R360. The other C die's package fault arrives and its axes follow within 1 µs. -/
  | peerCurtainReceive (d : CDie)
  /-- R366. DCMD OP RESISTOR starts a resistor discharge or is refused with a code. -/
  | dischargeResistor (d : CDie) (m : Master) (b : Fin 3)
  /-- R368. DCMD OP WINDING switches an idle motor axis with d-axis current to discharge, or is refused. -/
  | dischargeWinding (d : CDie) (m : Master) (b : Fin 3) (a : Fin 8)
  /-- R366. DCMD OP STOP ends a running discharge. -/
  | dischargeStop (d : CDie) (m : Master) (b : Fin 3)
  /-- R366. VDC below VEND ends the discharge with DONE. -/
  | dischargeVendReached (d : CDie) (b : Fin 3)
  /-- R366. TMAX elapsing ends the discharge with TIMEOUT. -/
  | dischargeTimeout (d : CDie) (b : Fin 3)
  /-- R366. More than 0.2 V at DISCH_SNS turns the switch off with FAULT. -/
  | dischargeOvercurrent (d : CDie) (b : Fin 3)
  /-- R367. An armed keep-alive domain discharges by itself after VDRV has been low 10 ms with VDC above VEND. -/
  | keepAutoDischarge (k : DDie)
  /-- R372. Every 10 µs the torque monitor compares its estimate with the request and latches VIOL after TREACT. -/
  | tmonCheck (d : CDie) (a : Axis) (emf spd ang : BitVec 16)
  /-- R374. After RDY_OFFS the monitor checks its currents at zero for 1 ms. -/
  | tmonZeroCheck (d : CDie) (a : Axis)
  /-- R375. A write of 1 to VIOL clears it, or is refused while OUT is 1. -/
  | tmonViolClear (d : CDie) (a : Axis)
  /-- R371. A write of TMON EN = 1 is checked for independence and refused with CFGERR if broken. -/
  | tmonEnable (d : CDie) (a : Axis) (v : Word)
  /-- R381. The leading core's external read is taken once and recorded for the trailing core. -/
  | replicatedRead (d : CDie) (core : Fin 4) (machine : Bool) (addr : Word) (csr : Fin 5) (data : Word) (lag : Fin 4097)
  /-- R381. The trailing core takes the recorded result, with an address difference reporting MISMATCH. -/
  | trailingRead (d : CDie) (p : Fin 2) (addr : Word) (lag : Fin 4097) (disagree : Bool) (ecc : Fin 3)
  /-- R382. The leading core accepts an interrupt and the trailing core traps after the same instruction count. -/
  | interruptAccept (d : CDie) (core : Fin 4) (kind : Fin 3) (r : Word) (trailing : Bool)
  /-- R384. A protected store copy waits in the output compare buffer and is released on a matching second copy. -/
  | protectedStore (d : CDie) (core : Fin 4) (machine : Bool) (addr data : Word) (be : BitVec 4)
      (disagree : Bool) (ecc : Fin 3) (atomic : Bool)
  /-- R384. A second copy not arriving within WIN latches TIMEOUT. -/
  | protectedStoreTimeout (d : CDie) (p : Fin 2)
  /-- R387. A core writes its checkpoint and at the second arrival ID, digest and any full context are compared. -/
  | checkpointWrite (d : CDie) (core : Fin 4) (id : BitVec 16) (full : Bool) (ctx : CoreCtx)
      (xMiss yMiss : Bool) (disagree : Bool) (ecc : Fin 3)
  /-- R389. The second core not arriving within WIN latches TIMEOUT. -/
  | checkpointTimeout (d : CDie) (p : Fin 2)
  /-- R391. No checkpoint for CPMAX µs latches CPMISS. -/
  | checkpointMiss (d : CDie) (p : Fin 2)
  /-- R393. A two-key write of CHK_P0_RSCMD.GO drains, merges caches and restarts pair A at RSVEC, or is refused. -/
  | resyncGo (d : CDie) (m : Master) (p : Fin 2) (lines : BitVec 16)
  /-- R398. A debug halt or register access splits the pair and latches REDUNDANCY. -/
  | debugAttach (d : CDie) (core : Fin 4)
  /-- R401. A fault latches its instance, writes a record and takes or defers its class reaction. -/
  | faultLatch (d : CDie) (g : Fin 32) (i : Fin 64) (act : Bool)
  /-- R403. A group's deferral timer runs out and its reaction is taken. -/
  | faultDeferExpiry (d : CDie) (g : Fin 32)
  /-- R405. A two-key write of SAFE_FC_CLR clears latches whose instances are inactive. -/
  | faultClear (d : CDie) (m : Master) (v : Word)
  /-- R406. A write of SAFE_FC_INJ by the safety master latches any group and instance. -/
  | faultInject (d : CDie) (m : Master) (v : Word)
  /-- R406. A write of SAFE_FC_SWREP latches an instance of group SW. -/
  | softwareFaultReport (d : CDie) (v : Word)
  /-- R408. A claim read returns the highest pending source of the context, replicated for the pair. -/
  | plicClaim (d : CDie) (core : Fin 4)
  /-- R408. A complete write ends the handling of a source as a protected store. -/
  | plicComplete (d : CDie) (ctx : Fin 2) (i : Byte)
  /-- R414. At roll-call completion start-up BIST begins on every die in parallel. -/
  | bistStart
  /-- R414. A start-up slice passes or fails with a code and the native or K4 reaction is taken. -/
  | bistSliceDone (i : DieIx) (code : Fin 6) (units : BitVec 64)
  /-- R414. A slice exceeding its budget fails with TIMEOUT. -/
  | bistSliceTimeout (i : DieIx)
  /-- R420. A write of BIST_REQ.GO requests a test or is refused with a code. -/
  | bistRequest (d : CDie) (v : Word)
  /-- R422. A die samples its sensors, checks faults, forms maxima and compares them with the thresholds. -/
  | thermalSample (i : DieIx) (vals : Readings)
  /-- R428. A D die at HWSHUT puts its loaded orphan command in force on every leg itself. -/
  | hwShutdownLocal (k : DDie)
  /-- R425. A D die measures each used TMOD input and flags opens, shorts and hot modules. -/
  | tmodSample (k : DDie) (mv : Readings)
  /-- R429. The shutdown record is written to MRAM, or to the last-gasp area once the die is at 150 °C or less. -/
  | shutdownRecordWrite (d : CDie)
  /-- R431. A two-key write of THERM_LACK.GO acknowledges the record and clears PWMLOCK, or is refused. -/
  | thermalAck (d : CDie) (m : Master)
  /-- R435. A START or start cue fetches the descriptor at HEAD and enters RUN, or is dropped. -/
  | flumeStart (d : CDie) (n : Fin 16)
  /-- R443. ABORT stops a channel, the abort winning or losing against completion. -/
  | flumeAbort (d : CDie) (n : Fin 16) (written : BitVec 24) (accepted : Bool)
  /-- R445. A doorbell sets DBPEND in RUN or re-reads the tail's NEXT in ENDED. -/
  | flumeDoorbell (d : CDie) (n : Fin 16)
  /-- R436. A descriptor is fetched and checked for address, reserved bits, mode, length and overlap. -/
  | descriptorFetch (d : CDie) (n : Fin 16) (ecc : Bool)
  /-- R442. The final write is accepted, WB is written, the cue fires and NEXT is followed. -/
  | descriptorComplete (d : CDie) (n : Fin 16)
  /-- R442. A descriptor ending in error writes its code, enters ERROR and fires no cue. -/
  | descriptorError (d : CDie) (n : Fin 16) (written : BitVec 24)
  /-- R453. A write of HALT = 1 stops the controller at the end of the frame in progress. -/
  | canHalt (d : CDie) (n : Fin 4)
  /-- R453. A write of HALT = 0 starts the controller in its mode after 11 recessive bits. -/
  | canStart (d : CDie) (n : Fin 4) (bits : Bool)
  /-- R451. A write of ARBT or FDT is checked and refused with CFGERR if out of range. -/
  | canBitTimingWrite (d : CDie) (n : Fin 4) (data : Bool) (v : Word)
  /-- R456. A frame received without error is filtered and stored, rejected or used for a partner entry. -/
  | canFrameReceive (d : CDie) (n : Fin 4) (frame : CanFrame)
  /-- R457. A write of RQmREL.UPTO frees held elements or is refused. -/
  | rxFifoRelease (d : CDie) (n : Fin 4) (m : Fin 2) (i : BitVec 9)
  /-- R458. A write of TXFQ queues the element at PUT or is refused. -/
  | txFifoQueue (d : CDie) (n : Fin 4)
  /-- R458. A write of MBCTRL.REQ makes a mailbox a candidate or is refused. -/
  | mailboxRequest (d : CDie) (n : Fin 4) (req : BitVec 2)
  /-- R459. A write of TXCAN cancels the FIFO or a mailbox with outcome NONE, CANCELLED or FAILED. -/
  | txCancel (d : CDie) (n : Fin 4) (bits : BitVec 3) (won : Bool)
  /-- R458. At a start of frame the candidate with the lowest identifier is sent. -/
  | canStartOfFrame (d : CDie) (n : Fin 4) (lost : Bool) (meas : Fin 128)
  /-- R461. A frame completes as SENT and writes its TX event if logged. -/
  | canFrameSent (d : CDie) (n : Fin 4)
  /-- R460. An attempt ends in an ACK error, counting toward NAKLIM and dropping the frame if NAKABT. -/
  | canAckError (d : CDie) (n : Fin 4)
  /-- R462. A bus error updates the error counters and state. -/
  | canErrorDetected (d : CDie) (n : Fin 4) (code : Fin 8) (data : Bool) (weigh : Fin 3)
  /-- R462. The 128th recessive sequence returns the controller to error-active. -/
  | canBusOn (d : CDie) (n : Fin 4) (seqs : BitVec 8)
  /-- R461. A write of TEQREL.UPTO frees TX events. -/
  | txEventRelease (d : CDie) (n : Fin 4) (i : BitVec 6)
  /-- R464. The cycle time reaching a trigger's TMARK acts per its TYPE. -/
  | ttTrigger (d : CDie) (n : Fin 4) (i : Fin 64)
  /-- R465. A rate-detection candidate window ends and detection moves on, finds or fails. -/
  | ardCandidateWindow (d : CDie) (n : Fin 4)
  /-- R466. Every millisecond the supervisor times out silent partner entries. -/
  | partnerCheck (d : CDie) (n : Fin 4)
  /-- R466. A write of 1 to TIMEOUT clears it, or is refused while ALIVE is 0. -/
  | partnerTimeoutClear (d : CDie) (n : Fin 4) (f : Fin 512)
  /-- R469. A read of ERRC returns it and clears TOTAL. -/
  | canErrorCountRead (d : CDie) (n : Fin 4)
  /-- R475. An event is written to the ring or merged into the most recent record, or dropped when the ring is full. -/
  | recordWrite (d : CDie) (src : DieIx) (blk : Fin 32) (code : BitVec 16) (inst : Byte) (sev : Fin 5) (w0 w1 w2 w3 : Word)
  /-- R477. A flush trigger starts writing unflushed records to the chosen destination. -/
  | flushStart (d : CDie)
  /-- R477. A write of PROMPT_CTRL.FLUSH requests a flush. -/
  | promptCtrlFlush (d : CDie) (v : Word)
  /-- R477. A flush ends with no records remaining and records its duration and destination. -/
  | flushDone (d : CDie)
  /-- R478. A blocked flush starts again 100 µs later. -/
  | flushBlockedRetry (d : CDie)
  /-- R478. A hot flush finding the last-gasp area full stops and sets LGFULL. -/
  | lastGaspFull (d : CDie)
  /-- R480. A two-key write of PROMPT_CLR.GO empties the logs or is refused. -/
  | promptClr (d : CDie) (m : Master)
  /-- R481. A write of PROMPT_SWREC with GO stores a software record. -/
  | softwareRecord (d : CDie) (v : Word)
  /-- R473. A read of PROMPT_OPTLO latches the high operating-time bits for the reading core. -/
  | optimeRead (d : CDie) (m : Master)
  /-- R472. Every 60 s and at each flush C0 saves the operating time and power-cycle count. -/
  | optimeSave
  /-- R483. C0 makes a frame tick at its period or at a valid CAN reference and sends it to C1. -/
  | frameTick (d : CDie) (dropped : Bool)
  /-- R483. No reference within FTMO makes a tick at FTMO and sets REFMISS and FREE. -/
  | frameRefTimeout (dropped : Bool)
  /-- R484. The frame boundary fires its cue and latches and restarts the statistics. -/
  | frameBoundary
  /-- R496. NVM_UPCMD OPEN checks a manifest and opens or resumes a session. -/
  | nvmUpdateOpen (d : CDie)
  /-- R497. NVM_UPCMD CHUNK checks and writes a chunk and sets its bitmap bit. -/
  | nvmUpdateChunk (d : CDie) (i : BitVec 11)
  /-- R496. NVM_UPCMD RESUME checks the staged manifest of a HELD session. -/
  | nvmUpdateResume (d : CDie)
  /-- R496. NVM_UPCMD ABORT clears the bitmap and returns the session to IDLE. -/
  | nvmUpdateAbort (d : CDie)
  /-- R496. A two-key write of NVM_UPARM.GO arms a complete session with COPY_PENDING. -/
  | nvmUpdateArm (d : CDie) (m : Master)
  /-- R496. An NVM command finishes, BUSY clears and the outcome stands in NVM_ST.CODE. -/
  | nvmCommandDone (d : CDie) (bad : Bool) (words : BitVec 12)
  /-- R498. A start with a pending copy verifies staging, copies it unit by unit and verifies the active image. -/
  | copyAtStart (d : CDie)
  /-- R498. A copy unit completes and the journal records the next unit. -/
  | copyUnitDone (d : CDie)
  /-- R502. The boot ROM enters RECOVERY for its cause and serves the recovery channels. -/
  | recoveryEntry (d : CDie)
  /-- R502. Recovery service IDENTIFY answers with hardware type, steppings, ID, life cycle, SVN and cause. -/
  | recoveryIdentify (d : CDie)
  /-- R502. Recovery service OPEN acts as OPEN or as RESUME for a held session. -/
  | recoveryOpen (d : CDie) (manifest : List Byte)
  /-- R502. Recovery service CHUNK acts as CHUNK. -/
  | recoveryChunk (d : CDie) (i : BitVec 16) (bytes : List Byte)
  /-- R502. Recovery service STATUS answers with the session state, counts and lowest missing chunk. -/
  | recoveryStatus (d : CDie)
  /-- R502. Recovery service INSTALL arms a complete session and resets the die. -/
  | recoveryInstall (d : CDie)
  /-- R502. Recovery service RESET resets the die, a package reset on C0. -/
  | recoveryReset (d : CDie)
  /-- R503. NVM_WRCMD.GO writes into the non-current settings bank or is refused with RANGE. -/
  | settingsWrite (d : CDie)
  /-- R503. NVM_WRCMD.COMMIT checks the non-current bank's header, SEQ and CRC and makes it current. -/
  | settingsCommit (d : CDie)
  /-- R494. A two-key write of SEC_REVOKE revokes a valid key slot or is refused. -/
  | secRevoke (d : CDie) (m : Master) (slot : Fin 8)
  /-- R506. A two-key write of SEC_LCCMD requests a life-cycle transition for the next package reset. -/
  | secLccmd (d : CDie) (m : Master) (target : Fin 8)
  /-- R493. SEC_KEYPROG.GO through PROV programs an empty key slot. -/
  | keyProgram (d : CDie) (slot : Fin 8) (use_ : BitVec 4) (data : List Word)
  /-- R509. SEC_DBGCMD.GO checks the signature and opens debug or return, or counts a failure. -/
  | debugAuth (d : CDie)
  /-- R508. JTAG instruction IDCODE selects the identification register. -/
  | idcode (d : CDie)
  /-- R508. JTAG instruction SAMPLE/PRELOAD samples or preloads the boundary scan. -/
  | samplePreload (d : CDie) (cells : List Bool)
  /-- R508. JTAG instruction EXTEST drives the bank terminals from boundary scan. -/
  | extest (d : CDie)
  /-- R508. JTAG instruction PROV opens provisioning of keys and life cycle. -/
  | prov (d : CDie) (target : Option Byte)
  /-- R508. JTAG instruction DEBUG opens the debug module for permitted pairs. -/
  | debug (d : CDie)
  /-- R508. JTAG instruction AUTH opens debug authentication in DEPLOYED. -/
  | auth (d : CDie)
  /-- R508. JTAG instruction SCAN opens scan test. -/
  | scan (d : CDie)
  /-- R508. JTAG instruction BYPASS, or an instruction not open, selects the bypass register. -/
  | bypass (d : CDie)
  /-- R247. Every 100 µs FIELD moves each axis's effective speed setpoint, source 7, one ramp step toward SPSET and
  increments its update count; this is how it passes 0 or reaches SPSET in a reversal or a STOP. -/
  | effectiveSetpointUpdate (d : CDie)
  deriving DecidableEq, Repr

end Sys2Proof
end

