-- ==== Sys2Proof/Decode.lean ====
section
/-! DEFINITION. The command that a word of the table of operations spells. -/

namespace Sys2Proof

/-- The table gives no row any bits: the commands of the block are not encoded in words, so no word spells one. -/
def decodeTableWord (_nbits _w : Nat) : Option Instr := none

end Sys2Proof
end

