-- ==== Sys2Proof/Config.lean ====
section
/-! DEFINITION. What the spec leaves open: free values (opaque, so that no proof can see what they are) and the
functions the spec names but does not define (signature checks, hashes). -/

namespace Sys2Proof.Config

/-- A value the spec leaves open, 32 bits: the n-th one drawn. Log entry 1. -/
opaque freeWord : Nat → BitVec 32

/-- The error of SCS at an angle, within ±2 LSB: sin at 2·A, cos at 2·A + 1 (R213; the same on both dies, R235). Log entry
1. -/
opaque scsError : Nat → BitVec 32

/-- SHA-256 of a byte string (R491, R497, R509; the spec names the function and does not define it). Log entry 2. -/
opaque sha256 : List Nat → BitVec 256

/-- ECDSA P-256 verification of a 64-byte signature (r then s) over a digest with a public key (x, y)
(R106, R491, R509). Log entry 2. -/
opaque ecdsaOk : BitVec 256 → BitVec 256 → BitVec 256 → List Nat → Bool

/-- The CRC-16 that both dies compute over the W registers and state slots of a run (R235): the spec gives no
polynomial. Log entry 2. -/
opaque crc16 : List Nat → BitVec 16

/-- The entries of the factory libretto's SETDEF section, byte by byte (R112, R121): the spec does not give them. Log entry
20. -/
opaque factorySettings : List Nat

/-- The excitation reference of R185 at a phase in 1/65,536 period, Q15: a sine whose precision the spec does not give.
Log entry 23. -/
opaque excRef (phase : Nat) : BitVec 16

/-- atan2(S, C) in 16 bits (R185): the spec does not say how it is rounded. Log entry 23. -/
opaque atan2 (sn cs : Int) : BitVec 16

/-- The amplitude of R185 in Q15 of 1.4 V from S² + C² over N products: the spec does not give the converters' volts per code.
Log entry 23. -/
opaque resolverAmp (sumSq n : Nat) : BitVec 16

/-- One update of the grid PLL (R258) with bandwidth `bw` on the three grid voltages: the next state, whose bits 15:0 are
the frequency in 0.01 Hz, 31:16 the angle, 47:32 the angle error. The spec gives the PLL's figures and no arithmetic. Log
entry 24. -/
opaque gridPll (bw : Nat) (st : BitVec 64) (v1 v2 v3 : Int) : BitVec 64

/-- What the voltage filter of a catch finds from its VPH sets (R262): speed in bits 15:0, angle in 31:16, AMP in 47:32, for a
speed full scale and pole pairs. The spec gives its accuracy and no arithmetic. Log entry 24. -/
opaque catchFilter (sets : List (Int × Int × Int)) (spdfs poles : Nat) : BitVec 48

/-- id and iq (low and high half) that the torque monitor forms from its currents, three or six, its angle and the offset
of a second set (R372): the arithmetic is not in the spec. Log entry 97. -/
opaque tmonDq (cur : List (BitVec 16)) (ang ofs2 : BitVec 16) : BitVec 32

/-- The corrected code × 4 of a C-die slice (R162, R166) from its raw code and its constants OFS and GTRIM: the spec names the
correction and gives no formula. Log entry 22. -/
opaque sliceCorrect (code ofs gtrim : Nat) : BitVec 16

/-- The corrected 12-bit code of a shunt-converter slice (R166) from its raw code and its trims OFS and GTRIM. Log entry 22. -/
opaque shuntCorrect (code ofs gtrim : Nat) : BitVec 12

end Sys2Proof.Config
end

