-- ==== Sys2Proof/Machine/Store.lean ====
section
/-! DEFINITION. The sparse tables the state is made of (registers, memory, per-die records): a list of (key, value)
pairs with strictly rising keys and no value equal to the key's default, and the integer and number-format helpers
of R9. -/

namespace Sys2Proof

/-! ### Sparse tables -/

/-- The value listed at a key, if any. -/
def Tab.find {α : Type} (k : Nat) : Tab α → Option α
  | [] => none
  | (j, v) :: t => if j = k then some v else Tab.find k t

/-- The value at a key: what is listed, or the default of the key. -/
def Tab.read {α : Type} (dflt : Nat → α) (m : Tab α) (k : Nat) : α :=
  (Tab.find k m).getD (dflt k)

/-- The table without a key. -/
def Tab.del {α : Type} (k : Nat) : Tab α → Tab α
  | [] => []
  | (j, v) :: t => if j = k then Tab.del k t else (j, v) :: Tab.del k t

/-- The table with a key listed once, in its place. -/
def Tab.ins {α : Type} (k : Nat) (v : α) : Tab α → Tab α
  | [] => [(k, v)]
  | (j, w) :: t =>
    if k < j then (k, v) :: (j, w) :: t
    else if k = j then (k, v) :: t
    else (j, w) :: Tab.ins k v t

/-- A write: a value equal to the key's default removes the entry, so equal tables are equal lists. -/
def Tab.write {α : Type} [DecidableEq α] (dflt : Nat → α) (m : Tab α) (k : Nat) (v : α) : Tab α :=
  if v = dflt k then Tab.del k m else Tab.ins k v m

/-- The canonical form: keys strictly rising above a bound. -/
def Tab.rising {α : Type} (lo : Nat) : Tab α → Bool
  | [] => true
  | (j, _) :: t => decide (lo ≤ j) && Tab.rising (j + 1) t

/-- No entry is at its default. -/
def Tab.lean {α : Type} [DecidableEq α] (dflt : Nat → α) : Tab α → Bool
  | [] => true
  | (j, v) :: t => decide (v ≠ dflt j) && Tab.lean dflt t

/-- The canonical form of a table. -/
def Tab.wf {α : Type} [DecidableEq α] (dflt : Nat → α) (m : Tab α) : Bool :=
  Tab.rising 0 m && Tab.lean dflt m

/-- The value at a key of a table whose default is the type's plain default. -/
def Tab.at {α : Type} [Inhabited α] (m : Tab α) (k : Nat) : α := Tab.read (fun _ => default) m k

/-- A write into a table whose default is the type's plain default. -/
def Tab.set {α : Type} [DecidableEq α] [Inhabited α] (m : Tab α) (k : Nat) (v : α) : Tab α :=
  Tab.write (fun _ => default) m k v

/-- A change of the value at a key. -/
def Tab.mod {α : Type} [DecidableEq α] [Inhabited α] (m : Tab α) (k : Nat) (f : α → α) : Tab α :=
  m.set k (f (m.at k))

/-! ### Numbers -/

/-- A 16-bit field read as a signed number. -/
def sx16 (n : Nat) : Int := if n % 65536 < 32768 then Int.ofNat (n % 65536) else Int.ofNat (n % 65536) - 65536

/-- An n-bit field read as a signed number. -/
def sxN (w : Nat) (n : Nat) : Int :=
  if n % 2 ^ w < 2 ^ (w - 1) then Int.ofNat (n % 2 ^ w) else Int.ofNat (n % 2 ^ w) - Int.ofNat (2 ^ w)

/-- The low w bits of a signed number. -/
def uxN (w : Nat) (z : Int) : Nat := (z % Int.ofNat (2 ^ w)).toNat

/-- The 16 bits of a signed number. -/
def ux16 (z : Int) : Nat := uxN 16 z

/-- A number held between two bounds. -/
def clampI (lo hi z : Int) : Int := if z < lo then lo else if hi < z then hi else z

/-- A number held in the Q15 range, R9. -/
def satQ15 (z : Int) : Int := clampI (-32768) 32767 z

/-- Whether a number lies outside the Q15 range. -/
def offQ15 (z : Int) : Bool := decide (z < -32768) || decide (32767 < z)

/-- The quotient rounded to the nearest integer, ties away from zero (d > 0). -/
def rndDiv (z d : Int) : Int := if z < 0 then -((-z * 2 + d) / (2 * d)) else (z * 2 + d) / (2 * d)

/-- The quotient rounded toward minus infinity (d > 0). -/
def floorDiv (z d : Int) : Int := z.fdiv d

/-- The absolute value. -/
def absI (z : Int) : Int := if z < 0 then -z else z

/-- A counter of w bits that stops at its end. -/
def satAdd (w : Nat) (a b : Nat) : Nat := if a + b < 2 ^ w then a + b else 2 ^ w - 1

/-- One as a Bool, as a field value. -/
def b2n (b : Bool) : Nat := if b then 1 else 0

/-- Bit i of a number. -/
def bit (n i : Nat) : Bool := n / 2 ^ i % 2 == 1

/-- A number with bit i set to b. -/
def setBit (n i : Nat) (b : Bool) : Nat :=
  if bit n i == b then n else if b then n + 2 ^ i else n - 2 ^ i

/-- The integer square root, rounded down, by bits from the top (63 to 0). -/
def isqrtGo : Nat → Nat → Nat → Nat
  | 0, _, r => r
  | k + 1, n, r => if (r + 2 ^ k) * (r + 2 ^ k) ≤ n then isqrtGo k n (r + 2 ^ k) else isqrtGo k n r

/-- The integer square root of a number below 2^80. -/
def isqrt (n : Nat) : Nat := isqrtGo 40 n 0

/-- The first number below n that meets a test. -/
def firstBelow (n : Nat) (p : Nat → Bool) : Option Nat := (List.range n).find? p

/-- How many numbers below n meet a test. -/
def countBelow (n : Nat) (p : Nat → Bool) : Nat := ((List.range n).filter p).length

/-- The number whose bit i, for i below n, is p i. -/
def bitsOf (n : Nat) (p : Nat → Bool) : Nat := (List.range n).foldl (fun a i => if p i then a + 2 ^ i else a) 0

/-! ### CRCs -/

/-- One step of a reflected CRC-32 (IEEE 802.3) over a bit of the register. -/
def crc32Bit (c : Nat) : Nat := if c % 2 = 1 then (c / 2) ^^^ 0xEDB88320 else c / 2

/-- A byte into a CRC-32 register. -/
def crc32Byte (c : Nat) (b : Nat) : Nat :=
  crc32Bit (crc32Bit (crc32Bit (crc32Bit (crc32Bit (crc32Bit (crc32Bit (crc32Bit (c ^^^ b))))))))

/-- The CRC-32 of IEEE 802.3 over bytes: preset to all ones, reflected, complemented at the end. -/
def crc32 (bs : List Nat) : Nat := (bs.foldl crc32Byte 0xFFFFFFFF) ^^^ 0xFFFFFFFF

/-- One bit, most significant first, into a CRC register of w bits with polynomial p. -/
def crcMsbBit (w p : Nat) (c : Nat) (b : Bool) : Nat :=
  let top := bit c (w - 1)
  let c := (c * 2) % 2 ^ w
  if top != b then c ^^^ p else c

/-- The lowest n bits of v, most significant first. -/
def bitsMsb (n v : Nat) : List Bool := (List.range n).map (fun i => bit v (n - 1 - i))

/-- The CRC-12 of a flit, R134: polynomial x^12 + x^11 + x^3 + x^2 + x + 1, preset to 0xFFF, over bits 63:12. -/
def crc12 (flit : Nat) : Nat := (bitsMsb 52 (flit / 4096)).foldl (crcMsbBit 12 0x80F) 0xFFF

/-- The bytes of a word, least significant first. -/
def wordBytes (w : Nat) : List Nat := [w % 256, w / 256 % 256, w / 65536 % 256, w / 16777216 % 256]

end Sys2Proof
end

