-- ==== Sys2Proof/Machine/State.lean ====
section
/-! DEFINITION. The state of the block: every register of spec/ in one sparse table, memory, and the state the spec
gives the machine that no register shows, grouped by block; the reasons a step can stop. -/

namespace Sys2Proof.Machine

/-- Why a step stops with a fault: it never does. A command at a die the part lacks changes nothing (log entry 4), and an
access to one raises the bus error of R32. -/
inductive Fault where
  deriving DecidableEq, Repr

/-- Why a step is refused. -/
inductive Refusal where
  /-- The command has no meaning yet. Raised by the arms of `exec` not written yet. Safe. -/
  | notModelled (mnemonic : String)
  deriving DecidableEq, Repr

/-- A field of a register: the register's offset in its die's map, its top and its lowest bit (R4). -/
structure Fld where
  off : Nat
  hi : Nat
  lo : Nat
  deriving DecidableEq, Repr

/-- One register of a map, or an array of them in one or two dimensions: the offset of the first, the outer count
and stride, the inner count and stride, the reset value and the bits that carry each access code (Table 0-6). -/
structure RegRow where
  off : Nat
  n1 : Nat
  s1 : Nat
  n2 : Nat
  s2 : Nat
  reset : Nat
  rw : Nat
  w1c : Nat
  rwp : Nat
  rwl : Nat
  wo : Nat
  deriving DecidableEq, Repr

/-- The last bus error raised on a core (R5, R32, R138, R476, R488). -/
structure BusErr where
  raised : Bool
  addr : Nat
  write : Bool
  count : Nat
  deriving DecidableEq, Repr, Inhabited

/-- Clocks, supplies and resets of a C die (R27 to R29, R65 to R83). R29 gives no reset value to mtimecmp, to msip or to
the timer interrupt: 0 and none pending here (DESIGN CHOICE, log entry 14). -/
structure SysC where
  /-- The stage time, R27. -/
  stage : StageTime
  /-- Operating time since the life began, in fabric counts, R472. -/
  opCounts : Nat
  /-- The latched upper half of the stage time, per core, R28. -/
  sthi : Tab Word
  /-- OPTIME bits 39:32 as latched, per core, R473. -/
  opthi : Tab Word
  /-- mtimecmp of each core, R29. -/
  mtimecmp : Tab (BitVec 64)
  /-- msip bit 0 of each core, R29. -/
  msip : Tab Bool
  /-- The machine timer interrupt as presented to each core's pair, R29, R382. -/
  mtip : Tab Bool
  /-- The die is held in reset, R74. -/
  inReset : Bool
  /-- VCORE, VANA, VIO_A, VIO_B, VIO_C counted as low, R65. -/
  vcoreLow : Bool
  vanaLow : Bool
  vioALow : Bool
  vioBLow : Bool
  vioCLow : Bool
  /-- The MRAM write refusal of R81 lasts. -/
  mramRefuse : Bool
  /-- A flush started by PFAIL runs, R81. -/
  pfFlush : Bool
  /-- The stage time at which PFAIL rose, R81 step 4. -/
  pfRise : Nat
  /-- The last bus error of each core. -/
  busErr : Tab BusErr
  /-- The data that the last read command of the table returned on this die. -/
  rdata : Word
  /-- The ROM failed its own check and holds the die, R87. -/
  romHold : Bool
  deriving DecidableEq, Repr, Inhabited

/-- What the prompt book holds beside its registers (R471 to R487). -/
structure PromptC where
  /-- Records were lost just before the next one, R476. -/
  lostNext : Bool
  /-- Stage time at which the running flush started, and whether it writes the last-gasp area. -/
  flushStart : Nat
  flushHot : Bool
  /-- A save of R472 waits for its next save point; the stage time of the last one. -/
  saveWaits : Bool
  saveAt : Nat
  /-- Stage time at which a flush began to wait, R478. -/
  blockedAt : Nat
  /-- Sum and number of the VDC results of the frame per bus, R485. -/
  vsum : Tab Int
  vcnt : Tab Nat
  /-- Stage time of the last tick and of the last boundary, R483. -/
  lastTick : Nat
  lastBoundary : Nat
  /-- A tick was made and its boundary is due, with the CAN cycle count and the two flags of PROMPT_SHDR. -/
  due : Bool
  dueCyc : Nat
  dueFree : Bool
  dueLocal : Bool
  /-- The FPER in force: a new one takes effect after the next boundary, R483. -/
  fper : Option Nat
  /-- Fabric cycles with TCLAMP = 1 below a whole µs, per axis (Table 18-4, PROMPT_SAa_CLAMP). -/
  clampSub : Tab Nat
  deriving DecidableEq, Repr, Inhabited

/-- A flit as sent: its type and its 44-bit payload (R134). -/
structure Flit where
  kind : Nat
  payload : Nat
  deriving DecidableEq, Repr, Inhabited

/-- One link of a C die beside its registers (R134 to R139). -/
structure LinkC where
  /-- The sequence number expected next, and whether flits are discarded until the resent one, R135. -/
  rxSeq : Nat
  discarding : Bool
  /-- The sequence number of the next flit sent, and the last 16 flits sent, oldest first. -/
  txSeq : Nat
  replay : List Flit
  /-- Flits waiting to be resent, with their sequence numbers, R135. -/
  resend : List (Nat × Flit)
  /-- A NAK to be sent, with the sequence number it names. -/
  nakDue : Option Nat
  /-- The flits delivered in order, most recent first (the last 16 kept). -/
  delivered : List Flit
  /-- The upper 21 bits of a TIME flit with H = 1 that waits for its second flit, R139. -/
  timeHi : Option Nat
  /-- The stage time named by a pair of TIME flits, to be loaded, R139. -/
  timeT : Option Nat
  /-- Slots of 6 bits waiting to go out, oldest first: bit 5 is the kind bit, R133. -/
  slots : List Nat
  /-- Stage time at which a flit last passed its CRC, R136. -/
  goodAt : Nat
  deriving DecidableEq, Repr, Inhabited

/-- A remote read in flight (R138). -/
structure RdFlight where
  active : Bool
  die : Nat
  addr : Nat
  since : Nat
  /-- The answer of the target, once it has answered: data and status. -/
  rsp : Option (Nat × Nat)
  deriving DecidableEq, Repr, Inhabited

/-- A handover or takeover in progress on a C die (R140 to R145). -/
structure HoC where
  active : Bool
  die : Nat
  static : Bool
  taking : Bool
  restoring : Bool
  /-- The boundary B, as full stage time. -/
  b : Nat
  /-- The loader issued it, and it is the retry, R143. -/
  byLoader : Bool
  retry : Bool
  deriving DecidableEq, Repr, Inhabited

/-- A handover offered to this die (R141, R143). -/
structure OfferC where
  active : Bool
  die : Nat
  static : Bool
  b : Nat
  deriving DecidableEq, Repr, Inhabited

/-- A cue on its way to a destination (R146): the stage time at which it arrives, and whether it waits for free slots. -/
structure CueDue where
  dst : Nat
  cross : Bool
  src : Nat
  due : Nat
  crowded : Bool
  deriving DecidableEq, Repr, Inhabited

/-- The headrace and the cue matrix of a C die beside their registers. -/
structure HdrC where
  links : Tab LinkC
  reads : Tab RdFlight
  ho : HoC
  offer : OfferC
  /-- D dies whose static handover the loader still issues, ascending, and after them those to retry, plus 8 (R143); on
  the C die that carries the package. -/
  hoQueue : List Nat
  cues : List CueDue
  /-- Stage times (plus one) of the last two cue symbols per link and direction: 0 from the peer, 1 + k from D die k, 7 to the
  peer, 8 + k to D die k (R137). -/
  cueAt : Tab (Nat × Nat)
  /-- D dies to which an HO_CANCEL is on its way, one bit each (R144, R361). -/
  cancelDue : Nat
  /-- D dies whose baseline microcode has been pushed a second time, one bit each (R89 step 5, R337). -/
  ucAgain : Nat
  /-- D dies whose restoring takeover waits for the end of another handover or takeover of this die, and D dies that only a
  package reset restores (R337), one bit each. -/
  restoreDue : Nat
  /-- Cues given out at GPC0 to GPC7 (R146, Table 6-7), counted. -/
  gpc : Tab Nat
  ucDead : Nat
  /-- Stage times at which the answer windows of C1 and of the D dies opened, and at which the alignment of step 6 began (R89,
  R90, R95); the window of C1 has closed without an answer. -/
  winC1 : Nat
  winD : Nat
  alignAt : Nat
  c1Missing : Bool
  /-- Stage time of the last periodic TIME flits, R139. -/
  syncAt : Nat
  deriving DecidableEq, Repr, Inhabited

/-- The two-key sequence of a C die (R128, R129). -/
structure TkC where
  /-- The address written to LIB_TK_ADDR. -/
  addr : Nat
  /-- Correct keys so far: 0, 1 or 2 (2 is ARMED). -/
  keys : Nat
  /-- Stage time of the second key. -/
  armedAt : Nat
  deriving DecidableEq, Repr, Inhabited

/-- The configuration loader of a C die beside its registers (R114 to R131). -/
structure LibC where
  tk : TkC
  /-- The command that runs (0 none), with its axis. -/
  cmd : Nat
  cmdAx : Nat
  /-- The checks have passed and the store runs into this slot (1 to 3). -/
  slot : Nat
  /-- The image is a reload staged for the next transfer. -/
  staged : Bool
  /-- Stage time at which the command began. -/
  began : Nat
  /-- The acceptance window opens at the next RUN entry, R123. -/
  watchArmed : Bool
  /-- Stage time at which the window opened. -/
  watchFrom : Nat
  /-- The window was opened by the rollback itself, R124. -/
  watchOfRollback : Bool
  /-- The change under watch was a reload of this axis (6: a full image), R126. -/
  watchAx : Nat
  /-- A rejection exchanged the roles; the new ACTIVE is applied at the return to STANDBY, R124. -/
  revertDue : Bool
  /-- A directory write was refused and is retried each frame, R124, R126: 1 the roles of a load of `slot`, 2 the exchange of
  ACTIVE and PREVIOUS, 3 the one and then the other. -/
  dirDue : Nat
  /-- Stage time (plus one) of the frame boundary from which a staged reload may transfer for 5 µs, R126; 0: none yet. -/
  xferAt : Nat
  /-- HELD in CONFIG: the start is held under R122. -/
  held : Bool
  /-- The libretto has been applied at this start. -/
  done : Bool
  /-- Writes of the loader to registers that start a block, as (offset, word): they are made when the blocks that the apply
  stopped are released (R119). -/
  starts : List (Nat × Word)
  /-- The records under execution are a reload's, which write the inactive program banks (R237). -/
  reloading : Bool
  /-- The engines whose program words the records of an apply or a reload have written (R237, R238). -/
  progs : List Nat
  deriving DecidableEq, Repr, Inhabited

/-- A gate channel of a D die beside its registers (R306 to R340). -/
structure ChanD where
  /-- The PWM line as it reaches the die. -/
  line : Bool
  /-- Stage time (plus one) at which the line last fell; 0: not since the die's reset. -/
  fellAt : Nat
  /-- The channel is on by an early release, before its line has risen (R329). -/
  early : Bool
  /-- The gate-sense hold of R328 acts on its turn-on, since the stage time of `heldAt`. -/
  held : Bool
  heldAt : Nat
  /-- The stage times at which the channel last turned on (R318) and at which its soft turn-off began (R319). -/
  onAt : Nat
  softAt : Nat
  /-- The gate-off comparator reads above VGOFF, R328; the stage time plus one at which it falls below (0: not known). -/
  gateUp : Bool
  gateAt : Nat
  /-- The word of DRV_Dd_CHc_DRIVE before a reload, in force until the next edge of the line (R343). -/
  oldDrive : Option Word
  /-- What the sequencer last drove on the channel: 0 nothing, 1 the source, 2 the sink, 3 the clamp; and the strength
  (R334). -/
  out : Nat
  str : Nat
  deriving DecidableEq, Repr, Inhabited

/-- A leg of a D die beside its registers. -/
structure LegD where
  /-- The floating rail has recovered since its pump started (R314): it charges until then. -/
  measured : Bool
  /-- After a lockout the leg waits for a new curtain or orphan command (R316). -/
  waitCmd : Bool
  /-- A curtain command held while a channel of the axis is in SOFT_OFF, R324. -/
  curtainHeld : Option Nat
  /-- An orphan command held in the same way. -/
  orphanHeld : Option Nat
  /-- The phase node crosses the midpoint at this stage time plus one (0: no crossing is on its way), to this side, R330. -/
  nodeAt : Nat
  nodeTo : Nat
  /-- The word of DRV_Dd_LEGk_ADT before a reload, in force until the next edge of a line of the leg (R343). -/
  oldAdt : Option Word
  deriving DecidableEq, Repr, Inhabited

/-- A sequencer entry that runs (R333, R334). -/
structure SeqD where
  /-- Its word of Table 12-6, and the channels its event names. -/
  entry : Nat
  named : Nat
  /-- The address of its next word. -/
  pc : Nat
  /-- Cycles that a WAIT or WAITG still has, and the channels a WAITG waits for (none under WAIT). -/
  wait : Nat
  waitG : Nat
  deriving DecidableEq, Repr, Inhabited

/-- A shunt-converter set of a D die in flight (R157, R160). -/
structure ShuntD where
  /-- A current set converts; the stage time plus one of the last accepted start (0: none yet), R157. -/
  iBusy : Bool
  iAt : Nat
  /-- Samples of a burst still to come, and taken, its channel, and the tag of its last flit. -/
  burstLeft : Nat
  burstDone : Nat
  burstCh : Nat
  burstTag : Nat
  /-- A voltage set converts: its first flit (CONTENT 1) has been sent; the stage time plus one of its start. -/
  vBusy : Bool
  vHalf : Bool
  vAt : Nat
  /-- A start was dropped since the last flit of CONTENT 0, 3, 1, 2 (R157, Table 7-4). -/
  iDropped : Bool
  bDropped : Bool
  vDropped : Bool
  vdcDropped : Bool
  /-- SHUNT flits on their way: the C die they go to, and their payload (R158, R159); above the payload's 44 bits, how
  many codes of a burst's flit are samples of the burst (2 bits), and its channel. -/
  flits : List (Nat × Nat)
  deriving DecidableEq, Repr, Inhabited

/-- A D die beside its registers. -/
structure DieD where
  /-- The stage time, R27. -/
  stage : StageTime
  /-- The die is held in reset, R74. -/
  inReset : Bool
  /-- The die has no owner: an orphan (R18), or one that has reset outside a package reset (R337). -/
  noOwner : Bool
  /-- The owner before the last change of ownership, and the stage time plus one of that change (0: none), R159. -/
  ownBefore : Nat
  ownSince : Nat
  /-- VDRV and VKEEP of the die counted as low, R65. -/
  vdrvLow : Bool
  vkeepLow : Bool
  /-- The last measured Dd_VDRV and −Dd_VNEG, in 100 mV, R308. -/
  lastVdrv : Nat
  lastVneg : Nat
  chans : Tab ChanD
  legs : Tab LegD
  /-- Axes inhibited under R320, one bit each. -/
  inhibit : Nat
  /-- Sluice latches, bit 8k + 4x + n as SLMASK, R341. -/
  sluice : Nat
  /-- The STO discrepancy latch of R339. -/
  stoDisc : Bool
  /-- Bank 1 passed its check and the switch waits, R335. -/
  ucCommit : Bool
  /-- The sequencer entries whose events have come, in order, with the channels each event names; and the one that runs,
  R333. -/
  seqDue : List (Nat × Nat)
  seq : Option SeqD
  /-- The code of the last FLAG word of the sequencer, R334. -/
  flag : Nat
  /-- The stage time plus one from which STO_A and STO_B differ (0: they agree), R339. -/
  stoAt : Nat
  /-- A capture is armed, R331. -/
  tcapArmed : Bool
  /-- Stage times plus one of the last samples of its sensors and of its TMOD inputs (0: none), R422, R425; its own
  comparator read HWSHUT at the last one, R428. -/
  sampAt : Nat
  tmodAt : Nat
  hot : Bool
  /-- BIST has marked the die: its gates stay at VOFF until the next package reset, R417. -/
  marked : Bool
  /-- A reset notice is on its way to the die (R75). -/
  noticeDue : Bool
  /-- A STATUS flit waits to be received by the owner, R343; the fault instances it brings (Table 14-3, group 23), one bit
  each. -/
  statusDue : Bool
  evtDue : Nat
  /-- Trip clears on their way to the die, bit 4x + n for trip n of Cx, R342. -/
  slClr : Nat
  /-- HO_COMMIT held: the new owner (0, 1), B, and whether the handover is static, R141, R143. -/
  commit : Option (Nat × Nat × Bool)
  /-- HO_DONE sent and not yet received by C0, by C1. -/
  doneDue0 : Bool
  doneDue1 : Bool
  shunt : ShuntD
  /-- Its ends of the links to C0 and C1. -/
  links : Tab LinkC
  /-- The C die whose TAKE it has accepted, R145. -/
  takenBy : Option Nat
  deriving DecidableEq, Repr, Inhabited

/-- The keep-alive domain of a D die (R70, R366, R367): it survives every reset but a VKEEP low. -/
structure Keep where
  /-- Armed for an automatic discharge, R367; VKEEP counted as low, R70. -/
  armed : Bool
  vkeepLow : Bool
  /-- A resistor discharge runs. -/
  running : Bool
  /-- It discharged by itself; EVT.KEEPDIS sets at the next power-up. -/
  keepDis : Bool
  deriving DecidableEq, Repr, Inhabited

/-- A load group beside its registers (R277 to R287). -/
structure LgC where
  /-- EN = 1 was written and the start waits for its alignment. -/
  waiting : Bool
  running : Bool
  /-- CARM in force. -/
  carm : Nat
  /-- A sync cue restarts the count in the next fabric cycle, R279. -/
  restart : Bool
  deriving DecidableEq, Repr, Inhabited

/-- The waveform of a pair over its carrier, as decided at the boundary at which its values were loaded (R281, R289, R290).
Positions are in steps of 1/64 count. -/
structure PwmPat where
  /-- The carrier in fabric cycles; 0 before the first boundary. -/
  cyc : Nat
  /-- Where the level rises and falls after the pulse rules; without edges, the level at rest (none: it stays). -/
  rise : Option Nat
  fall : Option Nat
  rest : Option Bool
  /-- The same before the pulse rules. -/
  rise0 : Option Nat
  fall0 : Option Nat
  /-- The interval the pulse rule acts on: where it begins, its level, and whether it is dropped (else stretched). -/
  hit : Option (Nat × Bool × Bool)
  deriving DecidableEq, Repr, Inhabited

/-- A PWM pair beside its registers. -/
structure PairC where
  /-- The settings in force, taken at group boundaries (R287). -/
  mode : Nat
  pulse : Nat
  phase : Nat
  dtr : Nat
  dtf : Nat
  minp : Nat
  pat : PwmPat
  /-- The enable has taken effect on the pair (R294), or the timer pair runs; the stage time at which it did. -/
  live : Bool
  liveAt : Nat
  /-- The lines after the pulse rules and the interlock, before trips and enables act (R299), with the stage times of their
  last changes. -/
  rawH : Bool
  rawL : Bool
  hAt : Nat
  lAt : Nat
  /-- The level that the lines follow, the stage time of its last edge and the step of that edge within its cycle. -/
  eff : Bool
  effAt : Nat
  effSub : Nat
  /-- An interval that a later load has prolonged ends at this stage time (0: none); the channel of the present interval
  stays off (R290). -/
  endAt : Nat
  drop : Bool
  deriving DecidableEq, Repr, Inhabited

/-- A trip input (R296, R299): the accepted level and whether its blanking channel blanks it. -/
structure TripC where
  active : Bool
  blanked : Bool
  deriving DecidableEq, Repr, Inhabited

/-- PWM of a C die beside its registers. -/
structure PwmC where
  groups : Tab LgC
  pairs : Tab PairC
  trips : Tab TripC
  /-- An accepted enable of the axis waits for a group boundary. -/
  enPend : Tab Bool
  deriving DecidableEq, Repr, Inhabited

/-- The curtain controller per axis beside SAFE_AXa (R354 to R363). -/
structure AxCurt where
  /-- The speed held at the entry, for observer sources, and its stage time (R355). -/
  spdHeld : Nat
  spdHeldOk : Bool
  entered : Nat
  /-- A side change waits: the new command, 5 µs after OPEN (R358), and the stage time at which OPEN was written. -/
  newSide : Option Nat
  newSideAt : Nat
  /-- D dies whose takeover raised cause TAKEOVER (bits), R363. -/
  takeover : Nat
  /-- The bus lost its voltage and raised FAULT, R349; the chopper is faulty, R353. -/
  vdcLoss : Bool
  chopFault : Bool
  deriving DecidableEq, Repr, Inhabited

/-- A fault group beside its registers (R401 to R407). -/
structure FcC where
  /-- Instances latched since the deferral started, and whether one has no active condition. -/
  defLo : Nat
  noAct : Bool
  /-- Stage time at which the deferral started. -/
  defAt : Nat
  /-- Instances whose class reaction has been taken (bits), R407. -/
  taken : Nat
  deriving DecidableEq, Repr, Inhabited

/-- SAFE of a C die beside its registers. -/
structure SafeC where
  ax : Tab AxCurt
  fc : Tab FcC
  /-- Frame loads of the orphan commands since the readiness items started, R362. -/
  orphLoads : Nat
  /-- The package cause lasts at this die: PFAIL reaction, clock loss (bits 0, 1). -/
  pkgCause : Nat
  /-- A package fault of the other C die is on its way (R360). -/
  peerDue : Bool
  /-- Stage time at which the discharge of each bus began, R366. -/
  disFrom : Tab Nat
  /-- The axis of the winding discharge of each bus, R368. -/
  disAx : Tab Nat
  /-- Axes whose monitored currents have been checked at zero since RDY_OFFS set, one bit each, R374. -/
  tmonZero : Nat
  /-- Results of entries with TMON = 1 as the torque monitor last took them, by 64g + e (R156), and the largest magnitude
  plus one since the zero check began (0: none came). -/
  tmonCur : Tab Nat
  tmonPk : Tab Nat
  /-- Stage times plus one of the last check of each axis (R372) and of the start of the zero check (R374). -/
  tmonAt : Tab Nat
  tmonZAt : Nat
  /-- Stage times plus one (0: not): of the last VDC result of each bus, since which its two measurements differ (R349),
  and since which its chopper has had high duty and low current (R353). -/
  vdcAt : Tab Nat
  plausAt : Tab Nat
  chopAt : Tab Nat
  /-- The last result of the second measurement of each bus, R349. -/
  vdc2 : Tab Int
  deriving DecidableEq, Repr, Inhabited

/-- A public key of a slot, R493. -/
structure KeySlot where
  x : BitVec 256
  y : BitVec 256
  deriving DecidableEq, Repr, Inhabited

/-- What a C die holds in MRAM with no byte layout given by the spec: the directory roles (slot 1 to 3, 0 none),
the lengths of the slots' contents, the keys (R114, R493). No reset clears it. -/
structure NvC where
  /-- The slots that hold the roles ACTIVE, PREVIOUS and USERDEF. -/
  active : Nat
  prev : Nat
  userdef : Nat
  /-- Bytes used in each slot. -/
  slotLen : Tab Nat
  keys : Tab KeySlot
  /-- The next unit of the copy, R498. -/
  copyUnit : Nat
  /-- The shutdown record (LREC0 to LREC2) as the last-gasp area holds it, until a write to the settings partition, R429. -/
  hotRec : Option (Nat × Nat × Nat)
  /-- MRAM bytes are erased at the next package reset by the life cycle, R506. -/
  eraseDue : Bool
  deriving DecidableEq, Repr, Inhabited

/-- The loop fabric beside its registers (R209 to R240). -/
structure LoopC where
  /-- Values of the sources of Table 9-5 that no register shows, by index. -/
  srcV : Tab Nat
  /-- Update counts of the sources, by index. -/
  srcN : Tab Nat
  /-- The axis (plus one) whose section placed an engine or a weir; 0: a package section or none (Table 14-3). -/
  engAx : Tab Nat
  weirAx : Tab Nat
  /-- Values stored to the FIELD destinations 0x130 + 8a + k, by index, plus one (0: never stored), and the stage time of
  the last store. -/
  dstV : Tab Nat
  dstT : Tab Nat
  /-- Stage time of the last Y stored to input j of weir w, at 4w + j, and whether the input is stale (R229). -/
  weirAt : Tab Nat
  weirStale : Tab Bool
  /-- Channel stores of this fabric cycle, visible in the next: channel and value (R223). -/
  chDue : List (Nat × Nat)
  /-- Weirs that evaluate in the next fabric cycle (R226). -/
  weirDue : List Nat
  /-- Values on their way to a fabric source: the stage time at which it carries them, its index, the value (R226, R247). -/
  srcDue : List (Nat × Nat × Nat)
  /-- Stage time plus one at which the temperature of each battery bus was last updated; 0: never (R269). -/
  battAt : Tab Nat
  /-- The battery buses whose factor f changes in the next fabric cycle, bit b (R276). -/
  battDue : Nat
  /-- Stage time (plus one) from which a physical unit has worked since its last test; 0: since the start (R233). -/
  puTested : Tab Nat
  /-- The slot whose unit is being copied to the understudy, plus one (0 none), R233. -/
  copying : Nat
  /-- Stage time at which the copy ends; a deferred move waits for another frame boundary than the one at this time less
  one (0: it does not wait), R233. -/
  copyEnd : Nat
  copyWait : Nat
  deriving DecidableEq, Repr, Inhabited

/-- A conversion of a converter group in flight (R153, R156): its entry, its sampling instant, LATE and its slice. -/
structure ConvC where
  ent : Nat
  at_ : Nat
  late : Bool
  slice : Nat
  deriving DecidableEq, Repr, Inhabited

/-- A sequence of a converter group (R152 to R155): its runs, the stage time of its start, the entries still to sample, the
conversions in flight, the samples of a burst taken; and the settings, by offset, with which a run that a reload's transfer
met completes (R170). -/
structure SeqC where
  runs : Nat
  startAt : Nat
  todo : List Nat
  flight : List ConvC
  taken : Nat
  kept : Tab Word
  deriving DecidableEq, Repr, Inhabited

/-- A converter group beside its registers: its sequences, its FIFO (FIFO words without VALID), and its slices in the
order in which they joined the working slices, the longest-working first (R168). -/
structure AgC where
  seqs : Tab SeqC
  fifo : List Nat
  order : List Nat
  deriving DecidableEq, Repr, Inhabited

/-- The conversion subsystem of a C die beside its registers. -/
structure AdcC where
  groups : Tab AgC
  /-- FIFO of the intake of each D die, and the last tag plus one of each CONTENT value, at 4d + content (R159). -/
  shFifo : Tab (List Nat)
  tags : Tab Nat
  /-- Axes whose channels the running capture still waits for, one bit each, and whether a channel was out of limit. -/
  zWait : Nat
  zBad : Bool
  /-- The axes whose channels are being captured now, one bit each; bit 6: the channels of no axis (R167). -/
  zRound : Nat
  /-- The axis (plus one) whose section placed entry e of group g, at 64g + e; 0: a package section or none. -/
  entAx : Tab Nat
  /-- The last capture completed with every channel within its limit (R94, R167). -/
  zOk : Bool
  /-- The OFFSET registers as the libretto set them, by register key (R167). -/
  zBase : Tab Word
  deriving DecidableEq, Repr, Inhabited

/-- A feedback interface beside its registers (R176 to R200). Positions are in 2^-16 counts, speed and acceleration in 2^-32
counts per s and per s². -/
structure FbC where
  /-- The measured count of INCR and HALL, the stage times of the last two accepted edges and the sense of the last. -/
  count : Int
  edgeAt : Nat
  edgeBefore : Nat
  down : Bool
  /-- The last valid Hall index plus one (0 none yet). -/
  hall : Nat
  /-- The first measurement has been taken; the observer's states and the stage time of its last update. -/
  started : Bool
  pos : Int
  omega : Int
  alpha : Int
  at_ : Nat
  /-- Positions and speeds at the last updates, most recent first (for the group delay of R185). -/
  hist : List (Int × Int)
  /-- The products of the SIN and COS samples with the excitation reference, most recent first (the last 500), R185. -/
  prods : List (Int × Int)
  /-- Stage time plus one of the last update of the observer; 0: none since the start. -/
  updAt : Nat
  /-- Consecutive updates without error and within LOTLIM, R194; the last update was beyond LOTLIM, R192. -/
  good : Nat
  beyond : Bool
  /-- The reported position is saturated until a restart, R178: 0 no, 1 high, 2 low. -/
  stuck : Nat
  /-- A serial frame runs since this stage time; the last valid frame not yet used, with its sampling instant; a frame was
  discarded since the last update. -/
  frameAt : Option Nat
  frame : Option (Nat × Nat)
  bad : Bool
  /-- Stage time plus one of the last position latch; 0: none (R199). -/
  latchAt : Nat
  /-- N and AMP of the excitation in force (R184). -/
  excN : Nat
  excAmp : Nat
  /-- POSHI, FRAC, ANGLE and SPD as stored for each core, R200. -/
  seen : Tab (Nat × Nat × Nat × Nat)
  deriving DecidableEq, Repr, Inhabited

/-- An encoder emulator beside its registers (R201 to R203): its output count, the counts dropped, the stage time of its
last edge, and the levels of its A, B and Z terminals. -/
structure EmuC where
  count : Int
  off : Int
  edgeAt : Nat
  a : Bool
  b : Bool
  z : Bool
  deriving DecidableEq, Repr, Inhabited

/-- A loop engine beside its registers (R211 to R238). -/
structure EngC where
  /-- The accumulator, the steps executed, the fabric cycles of the run so far, and those of the present stall (R212, R221). -/
  acc : Int
  pc : Nat
  cyc : Nat
  stall : Nat
  /-- Steps still to be skipped (R213). -/
  skip : Nat
  /-- Stage time plus one of the last start, and of the last step of the last run (R219, R220). -/
  startAt : Nat
  lastAt : Nat
  /-- A memory error that the run meets once so many steps are executed: whether it is a double-bit one (R211). -/
  eccAt : Option (Nat × Bool)
  /-- The run has executed its last step. -/
  ended : Bool
  /-- The update count of each port's source at its last snapshot. -/
  seen : Tab Nat
  /-- The pending presets by state slot, R227, R249, R264. -/
  presets : Tab (Option Int)
  /-- The last value stored through OUT0, R237. -/
  out0 : Int
  /-- Writes held until an idle cycle or by HOLDK, as (register offset, word), oldest first, R222. -/
  held : List (Nat × Word)
  /-- A bank swap waits for an idle cycle, R238. -/
  swap : Bool
  /-- Stage time of the last run end, R232. -/
  endAt : Nat
  /-- The end of the last following-error comparison was beyond LIMIT; 400ths of a µs of ELAPSED. -/
  ferrSub : Nat
  /-- A twin: its W, S, ACC and presets have been received; matched runs in a row, R235. -/
  synced : Bool
  matched : Nat
  /-- A twin's next snapshots as the owner sent them, and the CRC-16 of W and S that the owner and the twin computed for
  the run under comparison, R235. -/
  mail : Option (List Nat)
  crcOwner : Option Nat
  crcTwin : Option Nat
  deriving DecidableEq, Repr, Inhabited

/-- FIELD of an axis beside its registers (R243 to R273). -/
structure AxisC where
  /-- The catch runs since this stage time, by voltage; the VPH sets that have arrived in it, most recent first, as their three
  results (R262). -/
  catchAt : Nat
  catchV : Bool
  catchSets : List (Int × Int × Int)
  /-- The catch was made from the voltages (AMP valid) and the stage time at which it ended. -/
  caughtV : Bool
  caughtAt : Nat
  /-- The command in REVERSING was accepted after the catch; the phase becomes REVERSING at the enabling boundary, R264. -/
  revNext : Bool
  /-- The enable of ENGAGE has been requested. -/
  requested : Bool
  /-- The effective setpoint in 1/2560 counts of Q15 (R264), and its hold at 0 (R267). -/
  eff : Int
  effHeld : Bool
  /-- REVERSING began at this stage time, R267. -/
  since : Nat
  /-- Stage time plus one from which |speed| has been below STILL in STOPPING; 0: it is not (R260). -/
  stillAt : Nat
  /-- Stage time plus one at which the gates began to switch in ALIGN; 0: not yet (R256); and the ripple reported during the
  positive and the negative pulse of the polarity test (R254). -/
  alignAt : Nat
  ripPos : Option Nat
  ripNeg : Option Nat
  /-- Stage time plus one of the last command acted on, and the phase that it met (R260). -/
  cmdAt : Nat
  cmdPhase : Nat
  /-- The axis rides through on the observer until the next start, R255. -/
  riding : Bool
  /-- The angle of the catch still stands (ANGSRC CATCH), R264. -/
  onCatch : Bool
  /-- Polarity to add to the HFI angle, R254. -/
  flip : Bool
  /-- Stage time plus one of the first store to the observer speed, R255. -/
  obsFrom : Nat
  /-- The grid PLL's own state (R258, log entry 24), and the grid angle at a stage time. -/
  gridSt : BitVec 64
  gridAng : Nat
  gridAt : Nat
  /-- The line-to-line peak that the grid PLL measures, Q15 of the bus voltage scale. -/
  gridPeak : Nat
  /-- Updates in a row with the angle error within LOCKTOL, and beyond it. -/
  gridGood : Nat
  gridBad : Nat
  /-- A STOP of a LINE3 or DCDC axis ramps T: its value in 1/2560 counts, R260. -/
  stopT : Option Int
  deriving DecidableEq, Repr, Inhabited

/-- An entry of a pair's delay registers (R381, R382): a read with its address and result, or (`trap` 1 external,
2 timer, 3 software) an interrupt with the number of instructions retired before it. -/
structure DqEnt where
  trap : Nat
  addr : Nat
  data : Nat
  deriving DecidableEq, Repr, Inhabited

/-- The first copy of a protected store in an output compare buffer (R384): the core that sent it, address, data and byte
enables. -/
structure OcbEnt where
  core : Nat
  addr : Nat
  data : Nat
  be : Nat
  /-- The stage time of its arrival; its wait has been reported (R384). -/
  at_ : Nat
  timed : Bool
  deriving DecidableEq, Repr, Inhabited

/-- A checkpoint that awaits the peer (R387 to R390): the core that arrived, its identifier, whether it is full-context,
its digest and its captured context. -/
structure CpEnt where
  core : Nat
  id : Nat
  full : Bool
  digest : Nat
  ctx : CoreCtx
  /-- The stage time of its arrival; its wait has been reported (R389). -/
  at_ : Nat
  timed : Bool
  deriving DecidableEq, Repr, Inhabited

/-- Redundant execution of a core pair beside CHK_Pp (R380 to R398). -/
structure ChkPair where
  delay : List DqEnt
  ocb : List OcbEnt
  /-- The digest register of the lower and of the higher core, as its difference from the preset 0xFFFFFFFF. -/
  dig0 : Nat
  dig1 : Nat
  /-- SRAM stores issued by the lower and the higher core, less those that both have issued (R385). -/
  sram0 : Nat
  sram1 : Nat
  cp : Option CpEnt
  /-- Stage time plus one of the first arrival of the last full-context checkpoint; 0: none yet. -/
  fullAt : Nat
  /-- A full-context checkpoint has passed since the die's reset, R94. -/
  fullOk : Bool
  /-- Stage time of the last checkpoint write, or of the last report that there was none (R391). -/
  cpAt : Nat
  /-- The core of a split pair that the debug module runs: 0 the lower, 1 the higher (R398). -/
  dbg : Nat
  /-- Both cores stall at a checkpoint after a dormant divergence, R392. -/
  held : Bool
  deriving DecidableEq, Repr, Inhabited

/-- The PLIC of a C die (R408): priorities by source, enables at 256·context + source, thresholds by context, and the
context plus one that has a source in service. -/
structure PlicC where
  prio : Tab Nat
  enable : Tab Bool
  thr : Tab Nat
  claimed : Tab Nat
  deriving DecidableEq, Repr, Inhabited

/-- THERM of a C die beside its registers (R422 to R430). Dies are named by their index of R33. -/
structure ThermC where
  /-- Consecutive samples beyond 15 °C of the median, at 8·die + sensor, R423. -/
  off : Tab Nat
  /-- The die's maximum (plus 2^16) at its last sample, 0 before the first; the sensor that held it. -/
  top : Tab Nat
  at_ : Tab Nat
  /-- Per die, the thresholds it is at or above: bits 0 WARN, 1 DERATE, 2 SHUT, 3 HWSHUT, R426. -/
  flags : Tab Nat
  /-- Dies that sample every 10 µs, one bit each, R422. -/
  fast : Nat
  /-- D dies with a TMOD input that is faulty, or below LIM, one bit each, R425. -/
  modFault : Nat
  modHot : Nat
  /-- LOCKDOWN was entered from ROLL_CALL, BIST or CONFIG, R428. -/
  early : Bool
  /-- Stage time plus one of the last sample of the die's own sensors (0: none), R422. -/
  sampAt : Nat
  /-- The shutdown record LREC0 to LREC2 whose MRAM write waits, R429; it survives every reset but a power-on reset. -/
  pend : Option (Nat × Nat × Nat)
  deriving DecidableEq, Repr, Inhabited

/-- BIST of a C die beside its registers (R414 to R420). -/
structure BistC where
  /-- Start-up slices completed by each die, by die index. -/
  ran : Tab Nat
  /-- Stage time at which start-up BIST began. -/
  began : Nat
  /-- Released units under test, the one in the slices first: target (0 engines, 1 + g a converter group) and unit, R419. -/
  tests : List (Nat × Nat)
  /-- The die has rejoined and its start-up BIST, on itself alone, is due or runs (R104 step 5). -/
  alone : Bool
  /-- Stage times: at which the running slice of each die began (R414), of the last reading of a thermal hold (R97), of the last
  rotation point (R418). -/
  at_ : Tab Nat
  holdAt : Nat
  rotAt : Nat
  /-- Stage time plus one of the frame boundary after which the last in-service slice ran (0: none yet), R419. -/
  svcAt : Nat
  /-- The pending request: type (plus 8 while it is being served), index, die, R420. -/
  req : Option (Nat × Nat × Nat)
  deriving DecidableEq, Repr, Inhabited

/-- A descriptor as a flume channel latched it (R436): words 0x00 to 0x18. -/
structure DescW where
  src : Nat
  dst : Nat
  len : Nat
  ctrl : Nat
  next : Nat
  p0 : Nat
  p1 : Nat
  deriving DecidableEq, Repr, Inhabited

/-- A flume channel beside its registers (R435 to R445). -/
structure FlC where
  /-- The descriptor in progress; none while the channel has yet to fetch the one at CUR. -/
  desc : Option DescW
  /-- No descriptor of the chain has completed since the last START. -/
  first : Bool
  /-- The CRC type of the previous descriptor of the chain (0 none) and its running register, R441. -/
  crcType : Nat
  crcReg : Nat
  /-- The stage time of the last start: a START and a cue of one fabric cycle make one start (R435). -/
  startAt : Option Nat
  /-- Bytes of the descriptor's data written so far, and its source bytes where they are read whole at its first burst
  (R438, R446). -/
  moved : Nat
  held : List Nat
  deriving DecidableEq, Repr, Inhabited

/-- The frame a CAN controller sends (R458 to R461): its source (0 FIFO, 1 MB0, 2 MB1, 3 a time master's reference), its
header words and data bytes, the stage time of its start of frame, and whether an error drops it (R459). -/
structure CanTx where
  src : Nat
  w0 : Nat
  w1 : Nat
  data : List Nat
  sof : Nat
  drop : Bool
  deriving DecidableEq, Repr, Inhabited

/-- A CAN controller beside its registers (R453 to R467). -/
structure CanC where
  /-- A write of HALT = 1 waits for the end of the frame in progress, R453. -/
  haltReq : Bool
  /-- Pending elements of the TX FIFO, oldest first, R458. -/
  fifo : List Nat
  tx : Option CanTx
  /-- Attempts of the present frame of a source that ended in an ACK error, and whether they have reached NAKLIM, R460. -/
  nak : Tab Nat
  nakHit : Tab Bool
  /-- Stage time plus one of the last start of frame of the present frame of a source; 0: none yet. -/
  sofs : Tab Nat
  /-- Stage time plus one of the sync mark (0 none), and valid references in a row, R463, R464. -/
  sync : Nat
  refs : Nat
  /-- Stage time plus one of the last valid reference message (0: none); stage time of the start of frame on the bus; the
  index plus one of the last trigger of this basic cycle, R463, R464. -/
  refAt : Nat
  busSof : Nat
  trigDone : Nat
  /-- A reference has arrived since the last WATCH; filters that have accepted a frame since the last trigger, R464. -/
  refSeen : Bool
  arrived : List Nat
  /-- The window the last trigger opened: 0 none, 1 MB0, 2 MB1, 3 FIFO frames; a reference waits to be sent. -/
  window : Nat
  refDue : Bool
  /-- Rate detection: the candidate listened with, the passes completed, the good frames in a row, R465. -/
  ardK : Nat
  ardPass : Nat
  ardGood : Nat
  /-- Stage time at which the present candidate's window began, R465; stage time plus one of the last partner check, R466. -/
  ardAt : Nat
  checkAt : Nat
  /-- Stage time plus one of the last frame of a partner entry since its EN was set, R466; 0: none. -/
  lastAt : Tab Nat
  deriving DecidableEq, Repr, Inhabited

/-- The update engine and the recovery service of a C die beside NVM's registers (R496 to R503). -/
structure NvmC where
  /-- The command that runs: NVM_ST.OP, its index, and the code it will end with. -/
  busy : Option (Nat × Nat × Nat)
  /-- Stage time plus one at which the copy of this start began; 0: none runs. -/
  copyAt : Nat
  /-- The stage time from which the next unit of the copy can be done (R498), and that of the last check of an NVM_TEMP hold
  (R98). -/
  unitAt : Nat
  holdAt : Nat
  /-- The boot ROM has verified the active image of this start and entered it (R492). -/
  entered : Bool
  /-- Source, destination and length of the settings write that runs (R503). -/
  wrSrc : Nat
  wrDst : Nat
  wrLen : Nat
  /-- The last answer of the recovery service, R502, byte by byte. -/
  answer : List Nat
  deriving DecidableEq, Repr, Inhabited

/-- The test access port of a C die (R508): the instruction selected (0, as after its own reset, is IDCODE), the cells of the
boundary scan as last sampled or loaded, and whether they drive the terminals. -/
structure TapC where
  ir : Nat
  cells : List Bool
  drives : Bool
  deriving DecidableEq, Repr, Inhabited


/-- A C die: the state of its blocks that no register shows. -/
structure CtlDie where
  sys : SysC
  prompt : PromptC
  hdr : HdrC
  lib : LibC
  pwm : PwmC
  safe : SafeC
  loop : LoopC
  adc : AdcC
  fb : Tab FbC
  emu : Tab EmuC
  eng : Tab EngC
  axis : Tab AxisC
  chk : Tab ChkPair
  plic : PlicC
  therm : ThermC
  bist : BistC
  flume : Tab FlC
  /-- The flume channel whose burst was served last (R446). -/
  flumeLast : Nat
  can : Tab CanC
  nvm : NvmC
  deriving DecidableEq, Repr, Inhabited

/-- The package: what no single die holds. -/
structure Pkg where
  /-- Supplies absent: the device is OFF (Table 1-7). -/
  off : Bool
  /-- RESET_N reads low. -/
  resetNLow : Bool
  /-- ANCHOR sampled low at the reset release of C0: anchor hold (R85, R87). -/
  anchorHold : Bool
  /-- A package reset lasts until the release of C0: stage time then starts at 0 (R75, R76). -/
  inReset : Bool
  /-- The levels of ANCHOR and RCVY_N that both C dies sampled at the last release of C0 from a package reset (R85). -/
  anchor : Bool
  rcvyN : Bool
  deriving DecidableEq, Repr, Inhabited

/-- The state of the block. -/
structure State where
  /-- Which member of the family this is, Table 0-1. -/
  part : Part
  /-- Every register of spec/, at die index × 2^24 + offset (R33); an unlisted one is at its reset value. -/
  regs : Tab Word
  /-- Memory: ROM, MRAM, SRAM and the CAN message RAMs of both C dies, byte by byte; an unlisted byte reads 0. -/
  mem : List Host.Cell
  cdie : Tab CtlDie
  nv : Tab NvC
  ddie : Tab DieD
  keep : Tab Keep
  /-- The test access ports of the C dies: no reset of a die touches them (R87). -/
  tap : Tab TapC
  pkg : Pkg
  /-- How many free values have been drawn (the model's own field). -/
  free : Nat
  /-- The C die whose loader executes records within the command: its writes reach RWP and RWL fields (R109). The model's own
  field: a command begins and ends with none. -/
  ld : Option Nat
  /-- The commands that wait, first in first out. -/
  pending : List Instr
  deriving DecidableEq, Repr

/-- The machine right after reset: a TV-86 at the moment at which C0 leaves its power-on reset (R514, R74), before its
boot ROM runs. Registers are at their reset values (R7), but for what a power-up leaves in the retained bank (R77): the
state is ROLL_CALL (SYS_DSTATE's reset value), SYS_RSTCAUSE.POR is 1, the power-cycle count is 1, and SEC_HWTYPE names
the part. Memory lists nothing. -/
def State.reset : State where
  part := .tv86
  regs := [(0x00000004, 1#32), (0x00050020, 1#32), (0x0007000C, 0x0086#32), (0x01000004, 1#32), (0x0107000C, 0x0086#32)]
  mem := []
  cdie := []
  nv := []
  ddie := []
  keep := []
  tap := []
  pkg := ⟨false, false, false, false, false, false⟩
  free := 0
  ld := none
  pending := []

end Sys2Proof.Machine
end

