-- ==== Sys2Proof/Machine/MapAdc.lean ====
section
/-! DEFINITION. The register fields of Adc, one name per field of the register maps of spec/, and one row per register:
its reset value and which of its bits carry which access code (R7, Table 0-6). A name drops the lower-case instance
letters of the manual and takes the instance numbers as arguments. -/

namespace Sys2Proof.Machine

abbrev F.ADC_AG_CTRL_EN (g : Nat) : Fld := ⟨0x100000 + 0x4000 * g, 0, 0⟩
abbrev F.ADC_AG_STAT_RUN (g : Nat) : Fld := ⟨0x100004 + 0x4000 * g, 0, 0⟩
abbrev F.ADC_AG_STAT_CALBUSY (g : Nat) : Fld := ⟨0x100004 + 0x4000 * g, 1, 1⟩
abbrev F.ADC_AG_STAT_US (g : Nat) : Fld := ⟨0x100004 + 0x4000 * g, 6, 4⟩
abbrev F.ADC_AG_STAT_NO_US (g : Nat) : Fld := ⟨0x100004 + 0x4000 * g, 7, 7⟩
abbrev F.ADC_AG_STAT_RETIRED (g : Nat) : Fld := ⟨0x100004 + 0x4000 * g, 15, 8⟩
abbrev F.ADC_AG_STAT_GFAULT (g : Nat) : Fld := ⟨0x100004 + 0x4000 * g, 16, 16⟩
abbrev F.ADC_AG_STAT_SEQBUSY (g : Nat) : Fld := ⟨0x100004 + 0x4000 * g, 23, 20⟩
abbrev F.ADC_AG_EVT_DONE (g : Nat) : Fld := ⟨0x100008 + 0x4000 * g, 3, 0⟩
abbrev F.ADC_AG_EVT_OVERRUN (g : Nat) : Fld := ⟨0x100008 + 0x4000 * g, 7, 4⟩
abbrev F.ADC_AG_EVT_LATE (g : Nat) : Fld := ⟨0x100008 + 0x4000 * g, 11, 8⟩
abbrev F.ADC_AG_EVT_SAT (g : Nat) : Fld := ⟨0x100008 + 0x4000 * g, 12, 12⟩
abbrev F.ADC_AG_EVT_CLIP (g : Nat) : Fld := ⟨0x100008 + 0x4000 * g, 13, 13⟩
abbrev F.ADC_AG_EVT_WINHIT (g : Nat) : Fld := ⟨0x100008 + 0x4000 * g, 14, 14⟩
abbrev F.ADC_AG_EVT_ROTATED (g : Nat) : Fld := ⟨0x100008 + 0x4000 * g, 15, 15⟩
abbrev F.ADC_AG_EVT_RETIRE (g : Nat) : Fld := ⟨0x100008 + 0x4000 * g, 16, 16⟩
abbrev F.ADC_AG_EVT_FIFO_OVF (g : Nat) : Fld := ⟨0x100008 + 0x4000 * g, 17, 17⟩
abbrev F.ADC_AG_EVT_WRREF (g : Nat) : Fld := ⟨0x100008 + 0x4000 * g, 18, 18⟩
abbrev F.ADC_AG_IEN (g : Nat) : Fld := ⟨0x10000C + 0x4000 * g, 18, 0⟩
abbrev F.ADC_AG_SEQ_CFG_LEN (g s : Nat) : Fld := ⟨0x100010 + 0x4000 * g + 0x4 * s, 4, 0⟩
abbrev F.ADC_AG_SEQ_CFG_MODE (g s : Nat) : Fld := ⟨0x100010 + 0x4000 * g + 0x4 * s, 5, 5⟩
abbrev F.ADC_AG_SEQ_CFG_GAP (g s : Nat) : Fld := ⟨0x100010 + 0x4000 * g + 0x4 * s, 15, 8⟩
abbrev F.ADC_AG_SEQ_CFG_BCOUNT (g s : Nat) : Fld := ⟨0x100010 + 0x4000 * g + 0x4 * s, 31, 16⟩
abbrev F.ADC_AG_SWTRIG_START (g : Nat) : Fld := ⟨0x100020 + 0x4000 * g, 3, 0⟩
abbrev F.ADC_AG_SWTRIG_STOP (g : Nat) : Fld := ⟨0x100020 + 0x4000 * g, 7, 4⟩
abbrev F.ADC_AG_FIFO_VALUE (g : Nat) : Fld := ⟨0x100024 + 0x4000 * g, 15, 0⟩
abbrev F.ADC_AG_FIFO_VALID (g : Nat) : Fld := ⟨0x100024 + 0x4000 * g, 16, 16⟩
abbrev F.ADC_AG_FIFO_SAT (g : Nat) : Fld := ⟨0x100024 + 0x4000 * g, 17, 17⟩
abbrev F.ADC_AG_FIFO_CLIP (g : Nat) : Fld := ⟨0x100024 + 0x4000 * g, 18, 18⟩
abbrev F.ADC_AG_FIFOLVL (g : Nat) : Fld := ⟨0x100028 + 0x4000 * g, 7, 0⟩
abbrev F.ADC_AG_ENT_AIN (g e : Nat) : Fld := ⟨0x100100 + 0x4000 * g + 0x4 * e, 5, 0⟩
abbrev F.ADC_AG_ENT_STEP (g e : Nat) : Fld := ⟨0x100100 + 0x4000 * g + 0x4 * e, 11, 8⟩
abbrev F.ADC_AG_ENT_ZCAP (g e : Nat) : Fld := ⟨0x100100 + 0x4000 * g + 0x4 * e, 12, 12⟩
abbrev F.ADC_AG_ENT_TMON (g e : Nat) : Fld := ⟨0x100100 + 0x4000 * g + 0x4 * e, 13, 13⟩
abbrev F.ADC_AG_SCL_GAIN (g e : Nat) : Fld := ⟨0x100200 + 0x4000 * g + 0x4 * e, 15, 0⟩
abbrev F.ADC_AG_SCL_SHIFT (g e : Nat) : Fld := ⟨0x100200 + 0x4000 * g + 0x4 * e, 18, 16⟩
abbrev F.ADC_AG_OFS_OFFSET (g e : Nat) : Fld := ⟨0x100300 + 0x4000 * g + 0x4 * e, 15, 0⟩
abbrev F.ADC_AG_RES_VALUE (g e : Nat) : Fld := ⟨0x100400 + 0x4000 * g + 0x4 * e, 15, 0⟩
abbrev F.ADC_AG_RES_TAG (g e : Nat) : Fld := ⟨0x100400 + 0x4000 * g + 0x4 * e, 23, 16⟩
abbrev F.ADC_AG_RES_FRESH (g e : Nat) : Fld := ⟨0x100400 + 0x4000 * g + 0x4 * e, 24, 24⟩
abbrev F.ADC_AG_RES_SAT (g e : Nat) : Fld := ⟨0x100400 + 0x4000 * g + 0x4 * e, 25, 25⟩
abbrev F.ADC_AG_RES_CLIP (g e : Nat) : Fld := ⟨0x100400 + 0x4000 * g + 0x4 * e, 26, 26⟩
abbrev F.ADC_AG_RES_LATE (g e : Nat) : Fld := ⟨0x100400 + 0x4000 * g + 0x4 * e, 27, 27⟩
abbrev F.ADC_AG_WIN_CFG_ENT (g w : Nat) : Fld := ⟨0x100500 + 0x4000 * g + 0x8 * w, 5, 0⟩
abbrev F.ADC_AG_WIN_CFG_EN (g w : Nat) : Fld := ⟨0x100500 + 0x4000 * g + 0x8 * w, 8, 8⟩
abbrev F.ADC_AG_WIN_CFG_INSIDE (g w : Nat) : Fld := ⟨0x100500 + 0x4000 * g + 0x8 * w, 9, 9⟩
abbrev F.ADC_AG_WIN_LIM_LO (g w : Nat) : Fld := ⟨0x100504 + 0x4000 * g + 0x8 * w, 15, 0⟩
abbrev F.ADC_AG_WIN_LIM_HI (g w : Nat) : Fld := ⟨0x100504 + 0x4000 * g + 0x8 * w, 31, 16⟩
abbrev F.ADC_AG_SL_CAL_OFS (g s : Nat) : Fld := ⟨0x100600 + 0x4000 * g + 0x4 * s, 11, 0⟩
abbrev F.ADC_AG_SL_CAL_GTRIM (g s : Nat) : Fld := ⟨0x100600 + 0x4000 * g + 0x4 * s, 23, 12⟩
abbrev F.ADC_AG_SL_CAL_SKEW (g s : Nat) : Fld := ⟨0x100600 + 0x4000 * g + 0x4 * s, 29, 24⟩
abbrev F.ADC_AG_SL_CAL_VALID (g s : Nat) : Fld := ⟨0x100600 + 0x4000 * g + 0x4 * s, 31, 31⟩
abbrev F.ADC_GCTRL_CAL : Fld := ⟨0x110000, 0, 0⟩
abbrev F.ADC_GCTRL_ZCAP : Fld := ⟨0x110000, 1, 1⟩
abbrev F.ADC_GSTAT_CALDONE : Fld := ⟨0x110004, 0, 0⟩
abbrev F.ADC_GSTAT_CALBUSY : Fld := ⟨0x110004, 1, 1⟩
abbrev F.ADC_GSTAT_ZCAPDONE : Fld := ⟨0x110004, 2, 2⟩
abbrev F.ADC_GSTAT_ZCAPBUSY : Fld := ⟨0x110004, 3, 3⟩
abbrev F.ADC_GSTAT_CALFAIL : Fld := ⟨0x110004, 7, 4⟩
abbrev F.ADC_GSTAT_DCALFAIL : Fld := ⟨0x110004, 13, 8⟩
abbrev F.ADC_GSTAT_CODE : Fld := ⟨0x110004, 19, 16⟩
abbrev F.ADC_GSTAT_ZFAIL : Fld := ⟨0x110004, 23, 20⟩
abbrev F.ADC_GSTAT_DZFAIL : Fld := ⟨0x110004, 29, 24⟩
abbrev F.ADC_ZCAPCFG_ZLIM : Fld := ⟨0x110008, 15, 0⟩
abbrev F.ADC_ZCAPCFG_NAVG : Fld := ⟨0x110008, 19, 16⟩
abbrev F.ADC_SH_CTRL_EN (d : Nat) : Fld := ⟨0x111000 + 0x100 * d, 0, 0⟩
abbrev F.ADC_SH_STAT_ITAG (d : Nat) : Fld := ⟨0x111004 + 0x100 * d, 3, 0⟩
abbrev F.ADC_SH_STAT_VTAG (d : Nat) : Fld := ⟨0x111004 + 0x100 * d, 7, 4⟩
abbrev F.ADC_SH_STAT_OWNED (d : Nat) : Fld := ⟨0x111004 + 0x100 * d, 8, 8⟩
abbrev F.ADC_SH_EVT_TAGERR (d : Nat) : Fld := ⟨0x111008 + 0x100 * d, 0, 0⟩
abbrev F.ADC_SH_EVT_SAT (d : Nat) : Fld := ⟨0x111008 + 0x100 * d, 1, 1⟩
abbrev F.ADC_SH_EVT_CLIP (d : Nat) : Fld := ⟨0x111008 + 0x100 * d, 2, 2⟩
abbrev F.ADC_SH_EVT_DROP (d : Nat) : Fld := ⟨0x111008 + 0x100 * d, 3, 3⟩
abbrev F.ADC_SH_EVT_FIFO_OVF (d : Nat) : Fld := ⟨0x111008 + 0x100 * d, 4, 4⟩
abbrev F.ADC_SH_EVT_WRREF (d : Nat) : Fld := ⟨0x111008 + 0x100 * d, 5, 5⟩
abbrev F.ADC_SH_IEN (d : Nat) : Fld := ⟨0x11100C + 0x100 * d, 5, 0⟩
abbrev F.ADC_SH_SCL_GAIN (d i : Nat) : Fld := ⟨0x111010 + 0x100 * d + 0x4 * i, 15, 0⟩
abbrev F.ADC_SH_SCL_SHIFT (d i : Nat) : Fld := ⟨0x111010 + 0x100 * d + 0x4 * i, 18, 16⟩
abbrev F.ADC_SH_OFS_OFFSET (d i : Nat) : Fld := ⟨0x111030 + 0x100 * d + 0x4 * i, 15, 0⟩
abbrev F.ADC_SH_RES_VALUE (d i : Nat) : Fld := ⟨0x111050 + 0x100 * d + 0x4 * i, 15, 0⟩
abbrev F.ADC_SH_RES_TAG (d i : Nat) : Fld := ⟨0x111050 + 0x100 * d + 0x4 * i, 19, 16⟩
abbrev F.ADC_SH_RES_FRESH (d i : Nat) : Fld := ⟨0x111050 + 0x100 * d + 0x4 * i, 24, 24⟩
abbrev F.ADC_SH_RES_SAT (d i : Nat) : Fld := ⟨0x111050 + 0x100 * d + 0x4 * i, 25, 25⟩
abbrev F.ADC_SH_RES_CLIP (d i : Nat) : Fld := ⟨0x111050 + 0x100 * d + 0x4 * i, 26, 26⟩
abbrev F.ADC_SH_FIFO_VALUE (d : Nat) : Fld := ⟨0x111070 + 0x100 * d, 15, 0⟩
abbrev F.ADC_SH_FIFO_VALID (d : Nat) : Fld := ⟨0x111070 + 0x100 * d, 16, 16⟩
abbrev F.ADC_SH_FIFOLVL (d : Nat) : Fld := ⟨0x111074 + 0x100 * d, 8, 0⟩

def adcRows0 : List RegRow := [
  ⟨0x100000, 1, 0x1000000, 4, 0x4000, 0x0, 0x1, 0x0, 0x0, 0x0, 0x0⟩, -- ADC_AGg_CTRL
  ⟨0x100004, 1, 0x1000000, 4, 0x4000, 0x70, 0x0, 0x0, 0x0, 0x0, 0x0⟩, -- ADC_AGg_STAT
  ⟨0x100008, 1, 0x1000000, 4, 0x4000, 0x0, 0x0, 0x7FFFF, 0x0, 0x0, 0x0⟩, -- ADC_AGg_EVT
  ⟨0x10000C, 1, 0x1000000, 4, 0x4000, 0x0, 0x7FFFF, 0x0, 0x0, 0x0, 0x0⟩, -- ADC_AGg_IEN
  ⟨0x100010, 4, 0x4000, 4, 0x4, 0x1000, 0x0, 0x0, 0x0, 0xFFFFFF3F, 0x0⟩, -- ADC_AGg_SEQs_CFG
  ⟨0x100020, 1, 0x1000000, 4, 0x4000, 0x0, 0x0, 0x0, 0x0, 0x0, 0xFF⟩, -- ADC_AGg_SWTRIG
  ⟨0x100024, 1, 0x1000000, 4, 0x4000, 0x0, 0x0, 0x0, 0x0, 0x0, 0x0⟩, -- ADC_AGg_FIFO
  ⟨0x100028, 1, 0x1000000, 4, 0x4000, 0x0, 0x0, 0x0, 0x0, 0x0, 0x0⟩, -- ADC_AGg_FIFOLVL
  ⟨0x100100, 4, 0x4000, 64, 0x4, 0x0, 0x0, 0x0, 0x0, 0x3F3F, 0x0⟩, -- ADC_AGg_ENTe
  ⟨0x100200, 4, 0x4000, 64, 0x4, 0x7FFF, 0x0, 0x0, 0x0, 0x7FFFF, 0x0⟩, -- ADC_AGg_SCLe
  ⟨0x100300, 4, 0x4000, 64, 0x4, 0x0, 0xFFFF, 0x0, 0x0, 0x0, 0x0⟩, -- ADC_AGg_OFSe
  ⟨0x100400, 4, 0x4000, 64, 0x4, 0x0, 0x0, 0x0, 0x0, 0x0, 0x0⟩, -- ADC_AGg_RESe
  ⟨0x100500, 4, 0x4000, 4, 0x8, 0x0, 0x33F, 0x0, 0x0, 0x0, 0x0⟩, -- ADC_AGg_WINw_CFG
  ⟨0x100504, 4, 0x4000, 4, 0x8, 0x7FFF8000, 0xFFFFFFFF, 0x0, 0x0, 0x0, 0x0⟩, -- ADC_AGg_WINw_LIM
  ⟨0x100600, 4, 0x4000, 8, 0x4, 0x0, 0x0, 0x0, 0x0, 0x0, 0x0⟩, -- ADC_AGg_SLs_CAL
  ⟨0x110000, 1, 0x1000000, 1, 0x4, 0x0, 0x0, 0x0, 0x0, 0x0, 0x3⟩, -- ADC_GCTRL
  ⟨0x110004, 1, 0x1000000, 1, 0x4, 0x0, 0x0, 0x0, 0x0, 0x0, 0x0⟩, -- ADC_GSTAT
  ⟨0x110008, 1, 0x1000000, 1, 0x4, 0xC0400, 0xFFFFF, 0x0, 0x0, 0x0, 0x0⟩, -- ADC_ZCAPCFG
  ⟨0x111000, 1, 0x1000000, 6, 0x100, 0x0, 0x1, 0x0, 0x0, 0x0, 0x0⟩, -- ADC_SHd_CTRL
  ⟨0x111004, 1, 0x1000000, 6, 0x100, 0x0, 0x0, 0x0, 0x0, 0x0, 0x0⟩, -- ADC_SHd_STAT
  ⟨0x111008, 1, 0x1000000, 6, 0x100, 0x0, 0x0, 0x3F, 0x0, 0x0, 0x0⟩, -- ADC_SHd_EVT
  ⟨0x11100C, 1, 0x1000000, 6, 0x100, 0x0, 0x3F, 0x0, 0x0, 0x0, 0x0⟩, -- ADC_SHd_IEN
  ⟨0x111010, 6, 0x100, 7, 0x4, 0x7FFF, 0x0, 0x0, 0x0, 0x7FFFF, 0x0⟩, -- ADC_SHd_SCLi
  ⟨0x111030, 6, 0x100, 7, 0x4, 0x0, 0xFFFF, 0x0, 0x0, 0x0, 0x0⟩ -- ADC_SHd_OFSi
  ]
def adcRows1 : List RegRow := [
  ⟨0x111050, 6, 0x100, 7, 0x4, 0x0, 0x0, 0x0, 0x0, 0x0, 0x0⟩, -- ADC_SHd_RESi
  ⟨0x111070, 1, 0x1000000, 6, 0x100, 0x0, 0x0, 0x0, 0x0, 0x0, 0x0⟩, -- ADC_SHd_FIFO
  ⟨0x111074, 1, 0x1000000, 6, 0x100, 0x0, 0x0, 0x0, 0x0, 0x0, 0x0⟩ -- ADC_SHd_FIFOLVL
  ]
/-- The registers of the block, tables 7-8, 7-9, 7-10 of spec/. -/
def adcRows : List RegRow := adcRows0 ++ adcRows1

end Sys2Proof.Machine
end

