-- ==== Sys2Proof/Machine/MapBist.lean ====
section
/-! DEFINITION. The register fields of Bist, one name per field of the register maps of spec/, and one row per register:
its reset value and which of its bits carry which access code (R7, Table 0-6). A name drops the lower-case instance
letters of the manual and takes the instance numbers as arguments. -/

namespace Sys2Proof.Machine

abbrev F.BIST_STAT_PHASE : Fld := ⟨0x30000, 2, 0⟩
abbrev F.BIST_STAT_MODE : Fld := ⟨0x30000, 3, 3⟩
abbrev F.BIST_STAT_SLICE : Fld := ⟨0x30000, 15, 8⟩
abbrev F.BIST_STAT_DIE : Fld := ⟨0x30000, 18, 16⟩
abbrev F.BIST_STAT_CODE : Fld := ⟨0x30000, 23, 20⟩
abbrev F.BIST_SUTIME : Fld := ⟨0x30004, 23, 0⟩
abbrev F.BIST_MARK0_PP : Fld := ⟨0x30008, 17, 0⟩
abbrev F.BIST_MARK0_FB : Fld := ⟨0x30008, 23, 20⟩
abbrev F.BIST_MARK0_CAN : Fld := ⟨0x30008, 27, 24⟩
abbrev F.BIST_MARK0_C1 : Fld := ⟨0x30008, 28, 28⟩
abbrev F.BIST_MARK1_D : Fld := ⟨0x3000C, 5, 0⟩
abbrev F.BIST_ROT_PERIOD : Fld := ⟨0x30010, 11, 0⟩
abbrev F.BIST_ROTST_NEXT : Fld := ⟨0x30014, 2, 0⟩
abbrev F.BIST_ROTST_BUSY : Fld := ⟨0x30014, 3, 3⟩
abbrev F.BIST_ROTST_DONE : Fld := ⟨0x30014, 11, 8⟩
abbrev F.BIST_REQ_TYPE : Fld := ⟨0x30018, 1, 0⟩
abbrev F.BIST_REQ_INDEX : Fld := ⟨0x30018, 13, 8⟩
abbrev F.BIST_REQ_DIE : Fld := ⟨0x30018, 18, 16⟩
abbrev F.BIST_REQ_GO : Fld := ⟨0x30018, 24, 24⟩
abbrev F.BIST_REQST_CODE : Fld := ⟨0x3001C, 3, 0⟩
abbrev F.BIST_REQST_RESULT : Fld := ⟨0x3001C, 7, 4⟩
abbrev F.BIST_EVT_MARKED : Fld := ⟨0x30020, 0, 0⟩
abbrev F.BIST_EVT_SVCFAIL : Fld := ⟨0x30020, 1, 1⟩
abbrev F.BIST_EVT_REQDONE : Fld := ⟨0x30020, 2, 2⟩
abbrev F.BIST_EVT_REQREF : Fld := ⟨0x30020, 3, 3⟩
abbrev F.BIST_EVT_WRREF : Fld := ⟨0x30020, 4, 4⟩
abbrev F.BIST_IEN : Fld := ⟨0x30024, 4, 0⟩
abbrev F.BIST_SVCCNT : Fld := ⟨0x30028, 31, 0⟩

def bistRows0 : List RegRow := [
  ⟨0x30000, 1, 0x1000000, 1, 0x4, 0x0, 0x0, 0x0, 0x0, 0x0, 0x0⟩, -- BIST_STAT
  ⟨0x30004, 1, 0x1000000, 1, 0x4, 0x0, 0x0, 0x0, 0x0, 0x0, 0x0⟩, -- BIST_SUTIME
  ⟨0x30008, 1, 0x1000000, 1, 0x4, 0x0, 0x0, 0x0, 0x0, 0x0, 0x0⟩, -- BIST_MARK0
  ⟨0x3000C, 1, 0x1000000, 1, 0x4, 0x0, 0x0, 0x0, 0x0, 0x0, 0x0⟩, -- BIST_MARK1
  ⟨0x30010, 1, 0x1000000, 1, 0x4, 0xA, 0x0, 0x0, 0xFFF, 0x0, 0x0⟩, -- BIST_ROT
  ⟨0x30014, 1, 0x1000000, 1, 0x4, 0x0, 0x0, 0x0, 0x0, 0x0, 0x0⟩, -- BIST_ROTST
  ⟨0x30018, 1, 0x1000000, 1, 0x4, 0x0, 0x73F03, 0x0, 0x0, 0x0, 0x1000000⟩, -- BIST_REQ
  ⟨0x3001C, 1, 0x1000000, 1, 0x4, 0x0, 0x0, 0x0, 0x0, 0x0, 0x0⟩, -- BIST_REQST
  ⟨0x30020, 1, 0x1000000, 1, 0x4, 0x0, 0x0, 0x1F, 0x0, 0x0, 0x0⟩, -- BIST_EVT
  ⟨0x30024, 1, 0x1000000, 1, 0x4, 0x0, 0x1F, 0x0, 0x0, 0x0, 0x0⟩, -- BIST_IEN
  ⟨0x30028, 1, 0x1000000, 1, 0x4, 0x0, 0x0, 0x0, 0x0, 0x0, 0x0⟩ -- BIST_SVCCNT
  ]
/-- The registers of the block, tables 15-11 of spec/. -/
def bistRows : List RegRow := bistRows0

end Sys2Proof.Machine
end

