-- ==== Sys2Proof/Machine/MapCan.lean ====
section
/-! DEFINITION. The register fields of Can, one name per field of the register maps of spec/, and one row per register:
its reset value and which of its bits carry which access code (R7, Table 0-6). A name drops the lower-case instance
letters of the manual and takes the instance numbers as arguments. -/

namespace Sys2Proof.Machine

abbrev F.CAN_CAN_CTRL_HALT (n : Nat) : Fld := ⟨0x240000 + 0x10000 * n, 0, 0⟩
abbrev F.CAN_CAN_CTRL_MODE (n : Nat) : Fld := ⟨0x240000 + 0x10000 * n, 6, 4⟩
abbrev F.CAN_CAN_CTRL_FDEN (n : Nat) : Fld := ⟨0x240000 + 0x10000 * n, 8, 8⟩
abbrev F.CAN_CAN_CTRL_RATESW (n : Nat) : Fld := ⟨0x240000 + 0x10000 * n, 9, 9⟩
abbrev F.CAN_CAN_CTRL_RESERR (n : Nat) : Fld := ⟨0x240000 + 0x10000 * n, 10, 10⟩
abbrev F.CAN_CAN_STAT_ACTY (n : Nat) : Fld := ⟨0x240004 + 0x10000 * n, 1, 0⟩
abbrev F.CAN_CAN_STAT_PASSIVE (n : Nat) : Fld := ⟨0x240004 + 0x10000 * n, 2, 2⟩
abbrev F.CAN_CAN_STAT_WARN (n : Nat) : Fld := ⟨0x240004 + 0x10000 * n, 3, 3⟩
abbrev F.CAN_CAN_STAT_OFF (n : Nat) : Fld := ⟨0x240004 + 0x10000 * n, 4, 4⟩
abbrev F.CAN_CAN_STAT_LASTERR (n : Nat) : Fld := ⟨0x240004 + 0x10000 * n, 10, 8⟩
abbrev F.CAN_CAN_STAT_LASTERRD (n : Nat) : Fld := ⟨0x240004 + 0x10000 * n, 14, 12⟩
abbrev F.CAN_CAN_STAT_RECSEQ (n : Nat) : Fld := ⟨0x240004 + 0x10000 * n, 23, 16⟩
abbrev F.CAN_CAN_ERRC_RXCNT (n : Nat) : Fld := ⟨0x240008 + 0x10000 * n, 7, 0⟩
abbrev F.CAN_CAN_ERRC_TXCNT (n : Nat) : Fld := ⟨0x240008 + 0x10000 * n, 16, 8⟩
abbrev F.CAN_CAN_ERRC_RXPASS (n : Nat) : Fld := ⟨0x240008 + 0x10000 * n, 17, 17⟩
abbrev F.CAN_CAN_ERRC_TOTAL (n : Nat) : Fld := ⟨0x240008 + 0x10000 * n, 31, 24⟩
abbrev F.CAN_CAN_ARBT_SJW (n : Nat) : Fld := ⟨0x24000C + 0x10000 * n, 6, 0⟩
abbrev F.CAN_CAN_ARBT_PH2 (n : Nat) : Fld := ⟨0x24000C + 0x10000 * n, 13, 7⟩
abbrev F.CAN_CAN_ARBT_PH1 (n : Nat) : Fld := ⟨0x24000C + 0x10000 * n, 21, 14⟩
abbrev F.CAN_CAN_ARBT_PRE (n : Nat) : Fld := ⟨0x24000C + 0x10000 * n, 30, 22⟩
abbrev F.CAN_CAN_FDT_FPRE (n : Nat) : Fld := ⟨0x240010 + 0x10000 * n, 4, 0⟩
abbrev F.CAN_CAN_FDT_FPH1 (n : Nat) : Fld := ⟨0x240010 + 0x10000 * n, 12, 8⟩
abbrev F.CAN_CAN_FDT_FPH2 (n : Nat) : Fld := ⟨0x240010 + 0x10000 * n, 19, 16⟩
abbrev F.CAN_CAN_FDT_FSJW (n : Nat) : Fld := ⟨0x240010 + 0x10000 * n, 27, 24⟩
abbrev F.CAN_CAN_FDT_SSPEN (n : Nat) : Fld := ⟨0x240010 + 0x10000 * n, 31, 31⟩
abbrev F.CAN_CAN_SSP_OFS (n : Nat) : Fld := ⟨0x240014 + 0x10000 * n, 6, 0⟩
abbrev F.CAN_CAN_SSP_MEAS (n : Nat) : Fld := ⟨0x240014 + 0x10000 * n, 22, 16⟩
abbrev F.CAN_CAN_EVT (n : Nat) : Fld := ⟨0x240018 + 0x10000 * n, 19, 0⟩
abbrev F.CAN_CAN_IEN (n : Nat) : Fld := ⟨0x24001C + 0x10000 * n, 19, 0⟩
abbrev F.CAN_CAN_RAMPAGE_PA (n : Nat) : Fld := ⟨0x240020 + 0x10000 * n, 0, 0⟩
abbrev F.CAN_CAN_RAMPAGE_PB (n : Nat) : Fld := ⟨0x240020 + 0x10000 * n, 1, 1⟩
abbrev F.CAN_CAN_RAMPAGE_FL (n : Nat) : Fld := ⟨0x240020 + 0x10000 * n, 2, 2⟩
abbrev F.CAN_CAN_FLTCFG_USED (n : Nat) : Fld := ⟨0x240024 + 0x10000 * n, 9, 0⟩
abbrev F.CAN_CAN_FLTCFG_NOMATCH (n : Nat) : Fld := ⟨0x240024 + 0x10000 * n, 13, 12⟩
abbrev F.CAN_CAN_FLTCFG_REMREJ (n : Nat) : Fld := ⟨0x240024 + 0x10000 * n, 16, 16⟩
abbrev F.CAN_CAN_RQST_LEVEL (n m : Nat) : Fld := ⟨0x240028 + 0x10000 * n + 0x8 * m, 8, 0⟩
abbrev F.CAN_CAN_RQST_RDIDX (n m : Nat) : Fld := ⟨0x240028 + 0x10000 * n + 0x8 * m, 24, 16⟩
abbrev F.CAN_CAN_RQST_FULL (n m : Nat) : Fld := ⟨0x240028 + 0x10000 * n + 0x8 * m, 9, 9⟩
abbrev F.CAN_CAN_RQREL_UPTO (n m : Nat) : Fld := ⟨0x24002C + 0x10000 * n + 0x8 * m, 8, 0⟩
abbrev F.CAN_CAN_TXFS_FREE (n : Nat) : Fld := ⟨0x240038 + 0x10000 * n, 7, 0⟩
abbrev F.CAN_CAN_TXFS_PUT (n : Nat) : Fld := ⟨0x240038 + 0x10000 * n, 23, 16⟩
abbrev F.CAN_CAN_TXFS_FULL (n : Nat) : Fld := ⟨0x240038 + 0x10000 * n, 31, 31⟩
abbrev F.CAN_CAN_TXFQ (n : Nat) : Fld := ⟨0x24003C + 0x10000 * n, 0, 0⟩
abbrev F.CAN_CAN_TXFCFG_NAKLIM (n : Nat) : Fld := ⟨0x240040 + 0x10000 * n, 9, 0⟩
abbrev F.CAN_CAN_TXFCFG_NAKABT (n : Nat) : Fld := ⟨0x240040 + 0x10000 * n, 16, 16⟩
abbrev F.CAN_CAN_MBCTRL_REQ (n : Nat) : Fld := ⟨0x240044 + 0x10000 * n, 1, 0⟩
abbrev F.CAN_CAN_MBCTRL_PEND (n : Nat) : Fld := ⟨0x240044 + 0x10000 * n, 9, 8⟩
abbrev F.CAN_CAN_MBCFG_NAKLIM0 (n : Nat) : Fld := ⟨0x240048 + 0x10000 * n, 9, 0⟩
abbrev F.CAN_CAN_MBCFG_NAKABT0 (n : Nat) : Fld := ⟨0x240048 + 0x10000 * n, 10, 10⟩
abbrev F.CAN_CAN_MBCFG_NAKLIM1 (n : Nat) : Fld := ⟨0x240048 + 0x10000 * n, 25, 16⟩
abbrev F.CAN_CAN_MBCFG_NAKABT1 (n : Nat) : Fld := ⟨0x240048 + 0x10000 * n, 26, 26⟩
abbrev F.CAN_CAN_TXCAN (n : Nat) : Fld := ⟨0x24004C + 0x10000 * n, 2, 0⟩
abbrev F.CAN_CAN_TXCST_FIFO (n : Nat) : Fld := ⟨0x240050 + 0x10000 * n, 1, 0⟩
abbrev F.CAN_CAN_TXCST_MB0 (n : Nat) : Fld := ⟨0x240050 + 0x10000 * n, 5, 4⟩
abbrev F.CAN_CAN_TXCST_MB1 (n : Nat) : Fld := ⟨0x240050 + 0x10000 * n, 9, 8⟩
abbrev F.CAN_CAN_TEQST_LEVEL (n : Nat) : Fld := ⟨0x240054 + 0x10000 * n, 6, 0⟩
abbrev F.CAN_CAN_TEQST_RDIDX (n : Nat) : Fld := ⟨0x240054 + 0x10000 * n, 21, 16⟩
abbrev F.CAN_CAN_TEQREL_UPTO (n : Nat) : Fld := ⟨0x240058 + 0x10000 * n, 5, 0⟩
abbrev F.CAN_CAN_TSCAP (n : Nat) : Fld := ⟨0x24005C + 0x10000 * n, 31, 0⟩
abbrev F.CAN_CAN_TTCFG_ROLE (n : Nat) : Fld := ⟨0x240060 + 0x10000 * n, 1, 0⟩
abbrev F.CAN_CAN_TTCFG_PRIO (n : Nat) : Fld := ⟨0x240060 + 0x10000 * n, 6, 4⟩
abbrev F.CAN_CAN_TTREF_ID (n : Nat) : Fld := ⟨0x240064 + 0x10000 * n, 28, 0⟩
abbrev F.CAN_CAN_TTREF_XTD (n : Nat) : Fld := ⟨0x240064 + 0x10000 * n, 31, 31⟩
abbrev F.CAN_CAN_TTSTAT_CYC (n : Nat) : Fld := ⟨0x240068 + 0x10000 * n, 5, 0⟩
abbrev F.CAN_CAN_TTSTAT_MASTER (n : Nat) : Fld := ⟨0x240068 + 0x10000 * n, 8, 8⟩
abbrev F.CAN_CAN_TTSTAT_STATE (n : Nat) : Fld := ⟨0x240068 + 0x10000 * n, 13, 12⟩
abbrev F.CAN_CAN_TTSTAT_CTIME (n : Nat) : Fld := ⟨0x240068 + 0x10000 * n, 31, 16⟩
abbrev F.CAN_CAN_TTTRIG_N (n : Nat) : Fld := ⟨0x24006C + 0x10000 * n, 6, 0⟩
abbrev F.CAN_CAN_ARDCTRL_NCAND (n : Nat) : Fld := ⟨0x240070 + 0x10000 * n, 1, 0⟩
abbrev F.CAN_CAN_ARDCTRL_WIN (n : Nat) : Fld := ⟨0x240070 + 0x10000 * n, 15, 8⟩
abbrev F.CAN_CAN_ARDCTRL_ROUNDS (n : Nat) : Fld := ⟨0x240070 + 0x10000 * n, 23, 16⟩
abbrev F.CAN_CAN_ARDST_STATE (n : Nat) : Fld := ⟨0x240074 + 0x10000 * n, 1, 0⟩
abbrev F.CAN_CAN_ARDST_IDX (n : Nat) : Fld := ⟨0x240074 + 0x10000 * n, 5, 4⟩
abbrev F.CAN_CAN_ARDA (n k : Nat) : Fld := ⟨0x240080 + 0x10000 * n + 0x8 * k, 31, 0⟩
abbrev F.CAN_CAN_ARDF (n k : Nat) : Fld := ⟨0x240084 + 0x10000 * n + 0x8 * k, 31, 0⟩
abbrev F.CAN_CAN_PTSUM_NTMO (n : Nat) : Fld := ⟨0x2400A0 + 0x10000 * n, 9, 0⟩
abbrev F.CAN_CAN_PTSUM_FIRST (n : Nat) : Fld := ⟨0x2400A0 + 0x10000 * n, 24, 16⟩
abbrev F.CAN_CAN_PTSUM_ANY (n : Nat) : Fld := ⟨0x2400A0 + 0x10000 * n, 31, 31⟩
abbrev F.CAN_CAN_PTSCH_MIN (n : Nat) : Fld := ⟨0x2400A4 + 0x10000 * n, 7, 0⟩
abbrev F.CAN_CAN_PTSCH_VALID (n : Nat) : Fld := ⟨0x2400A4 + 0x10000 * n, 8, 8⟩
abbrev F.CAN_CAN_FLT_ACTION (n f : Nat) : Fld := ⟨0x244000 + 0x10000 * n + 0x4 * f, 2, 0⟩
abbrev F.CAN_CAN_FLT_EXT (n f : Nat) : Fld := ⟨0x244000 + 0x10000 * n + 0x4 * f, 3, 3⟩
abbrev F.CAN_CAN_FLT_KIND (n f : Nat) : Fld := ⟨0x244000 + 0x10000 * n + 0x4 * f, 5, 4⟩
abbrev F.CAN_CAN_PT_CFG_TMO (n f : Nat) : Fld := ⟨0x241000 + 0x10000 * n + 0x10 * f, 15, 0⟩
abbrev F.CAN_CAN_PT_CFG_EN (n f : Nat) : Fld := ⟨0x241000 + 0x10000 * n + 0x10 * f, 16, 16⟩
abbrev F.CAN_CAN_PT_CFG_SCHEN (n f : Nat) : Fld := ⟨0x241000 + 0x10000 * n + 0x10 * f, 17, 17⟩
abbrev F.CAN_CAN_PT_STAT_ALIVE (n f : Nat) : Fld := ⟨0x241004 + 0x10000 * n + 0x10 * f, 0, 0⟩
abbrev F.CAN_CAN_PT_STAT_TIMEOUT (n f : Nat) : Fld := ⟨0x241004 + 0x10000 * n + 0x10 * f, 1, 1⟩
abbrev F.CAN_CAN_PT_STAT_SCHEMA (n f : Nat) : Fld := ⟨0x241004 + 0x10000 * n + 0x10 * f, 15, 8⟩
abbrev F.CAN_CAN_PT_STAT_COUNT (n f : Nat) : Fld := ⟨0x241004 + 0x10000 * n + 0x10 * f, 31, 16⟩
abbrev F.CAN_CAN_PT_LAST (n f : Nat) : Fld := ⟨0x241008 + 0x10000 * n + 0x10 * f, 31, 0⟩

def canRows0 : List RegRow := [
  ⟨0x240000, 1, 0x1000000, 4, 0x10000, 0x1, 0x1, 0x0, 0x0, 0x770, 0x0⟩, -- CAN_CANn_CTRL
  ⟨0x240004, 1, 0x1000000, 4, 0x10000, 0x0, 0x0, 0x0, 0x0, 0x0, 0x0⟩, -- CAN_CANn_STAT
  ⟨0x240008, 1, 0x1000000, 4, 0x10000, 0x0, 0x0, 0x0, 0x0, 0x0, 0x0⟩, -- CAN_CANn_ERRC
  ⟨0x24000C, 1, 0x1000000, 4, 0x10000, 0x1F8F9F, 0x0, 0x0, 0x0, 0x7FFFFFFF, 0x0⟩, -- CAN_CANn_ARBT
  ⟨0x240010, 1, 0x1000000, 4, 0x10000, 0x1010600, 0x0, 0x0, 0x0, 0x8F0F1F1F, 0x0⟩, -- CAN_CANn_FDT
  ⟨0x240014, 1, 0x1000000, 4, 0x10000, 0x0, 0x0, 0x0, 0x0, 0x7F, 0x0⟩, -- CAN_CANn_SSP
  ⟨0x240018, 1, 0x1000000, 4, 0x10000, 0x0, 0x0, 0xFFFFF, 0x0, 0x0, 0x0⟩, -- CAN_CANn_EVT
  ⟨0x24001C, 1, 0x1000000, 4, 0x10000, 0x0, 0xFFFFF, 0x0, 0x0, 0x0, 0x0⟩, -- CAN_CANn_IEN
  ⟨0x240020, 1, 0x1000000, 4, 0x10000, 0x0, 0x7, 0x0, 0x0, 0x0, 0x0⟩, -- CAN_CANn_RAMPAGE
  ⟨0x240024, 1, 0x1000000, 4, 0x10000, 0x0, 0x0, 0x0, 0x0, 0x133FF, 0x0⟩, -- CAN_CANn_FLTCFG
  ⟨0x240028, 4, 0x10000, 2, 0x8, 0x0, 0x0, 0x0, 0x0, 0x0, 0x0⟩, -- CAN_CANn_RQmST
  ⟨0x24002C, 4, 0x10000, 2, 0x8, 0x0, 0x0, 0x0, 0x0, 0x0, 0x1FF⟩, -- CAN_CANn_RQmREL
  ⟨0x240038, 1, 0x1000000, 4, 0x10000, 0xC0, 0x0, 0x0, 0x0, 0x0, 0x0⟩, -- CAN_CANn_TXFS
  ⟨0x24003C, 1, 0x1000000, 4, 0x10000, 0x0, 0x0, 0x0, 0x0, 0x0, 0x1⟩, -- CAN_CANn_TXFQ
  ⟨0x240040, 1, 0x1000000, 4, 0x10000, 0x100, 0x103FF, 0x0, 0x0, 0x0, 0x0⟩, -- CAN_CANn_TXFCFG
  ⟨0x240044, 1, 0x1000000, 4, 0x10000, 0x0, 0x0, 0x0, 0x0, 0x0, 0x3⟩, -- CAN_CANn_MBCTRL
  ⟨0x240048, 1, 0x1000000, 4, 0x10000, 0x1000100, 0x7FF07FF, 0x0, 0x0, 0x0, 0x0⟩, -- CAN_CANn_MBCFG
  ⟨0x24004C, 1, 0x1000000, 4, 0x10000, 0x0, 0x0, 0x0, 0x0, 0x0, 0x7⟩, -- CAN_CANn_TXCAN
  ⟨0x240050, 1, 0x1000000, 4, 0x10000, 0x0, 0x0, 0x0, 0x0, 0x0, 0x0⟩, -- CAN_CANn_TXCST
  ⟨0x240054, 1, 0x1000000, 4, 0x10000, 0x0, 0x0, 0x0, 0x0, 0x0, 0x0⟩, -- CAN_CANn_TEQST
  ⟨0x240058, 1, 0x1000000, 4, 0x10000, 0x0, 0x0, 0x0, 0x0, 0x0, 0x3F⟩, -- CAN_CANn_TEQREL
  ⟨0x24005C, 1, 0x1000000, 4, 0x10000, 0x0, 0x0, 0x0, 0x0, 0x0, 0x0⟩, -- CAN_CANn_TSCAP
  ⟨0x240060, 1, 0x1000000, 4, 0x10000, 0x0, 0x0, 0x0, 0x0, 0x73, 0x0⟩, -- CAN_CANn_TTCFG
  ⟨0x240064, 1, 0x1000000, 4, 0x10000, 0x0, 0x0, 0x0, 0x0, 0x9FFFFFFF, 0x0⟩ -- CAN_CANn_TTREF
  ]
def canRows1 : List RegRow := [
  ⟨0x240068, 1, 0x1000000, 4, 0x10000, 0x0, 0x0, 0x0, 0x0, 0x0, 0x0⟩, -- CAN_CANn_TTSTAT
  ⟨0x24006C, 1, 0x1000000, 4, 0x10000, 0x0, 0x0, 0x0, 0x0, 0x7F, 0x0⟩, -- CAN_CANn_TTTRIG
  ⟨0x240070, 1, 0x1000000, 4, 0x10000, 0x86400, 0x0, 0x0, 0x0, 0xFFFF03, 0x0⟩, -- CAN_CANn_ARDCTRL
  ⟨0x240074, 1, 0x1000000, 4, 0x10000, 0x0, 0x0, 0x0, 0x0, 0x0, 0x0⟩, -- CAN_CANn_ARDST
  ⟨0x240080, 4, 0x10000, 4, 0x8, 0x1F8F9F, 0x0, 0x0, 0x0, 0xFFFFFFFF, 0x0⟩, -- CAN_CANn_ARDAk
  ⟨0x240084, 4, 0x10000, 4, 0x8, 0x1010600, 0x0, 0x0, 0x0, 0xFFFFFFFF, 0x0⟩, -- CAN_CANn_ARDFk
  ⟨0x2400A0, 1, 0x1000000, 4, 0x10000, 0x0, 0x0, 0x0, 0x0, 0x0, 0x0⟩, -- CAN_CANn_PTSUM
  ⟨0x2400A4, 1, 0x1000000, 4, 0x10000, 0x0, 0x0, 0x0, 0x0, 0x0, 0x0⟩, -- CAN_CANn_PTSCH
  ⟨0x244000, 4, 0x10000, 512, 0x4, 0x0, 0x0, 0x0, 0x0, 0x3F, 0x0⟩, -- CAN_CANn_FLTf
  ⟨0x241000, 4, 0x10000, 512, 0x10, 0x64, 0x3FFFF, 0x0, 0x0, 0x0, 0x0⟩, -- CAN_CANn_PTf_CFG
  ⟨0x241004, 4, 0x10000, 512, 0x10, 0x0, 0x0, 0x2, 0x0, 0x0, 0x0⟩, -- CAN_CANn_PTf_STAT
  ⟨0x241008, 4, 0x10000, 512, 0x10, 0x0, 0x0, 0x0, 0x0, 0x0, 0x0⟩ -- CAN_CANn_PTf_LAST
  ]
/-- The registers of the block, tables 17-5, 17-6 of spec/. -/
def canRows : List RegRow := canRows0 ++ canRows1

end Sys2Proof.Machine
end

