-- ==== Sys2Proof/Machine/MapChk.lean ====
section
/-! DEFINITION. The register fields of Chk, one name per field of the register maps of spec/, and one row per register:
its reset value and which of its bits carry which access code (R7, Table 0-6). A name drops the lower-case instance
letters of the manual and takes the instance numbers as arguments. -/

namespace Sys2Proof.Machine

abbrev F.CHK_P_CP_ID (p : Nat) : Fld := ⟨0x20000 + 0x100 * p, 15, 0⟩
abbrev F.CHK_P_CP_FULL (p : Nat) : Fld := ⟨0x20000 + 0x100 * p, 31, 31⟩
abbrev F.CHK_P_CFG_WIN (p : Nat) : Fld := ⟨0x20004 + 0x100 * p, 9, 0⟩
abbrev F.CHK_P_CFG_FCPER (p : Nat) : Fld := ⟨0x20004 + 0x100 * p, 25, 16⟩
abbrev F.CHK_P_CFG_RESYNC (p : Nat) : Fld := ⟨0x20004 + 0x100 * p, 31, 31⟩
abbrev F.CHK_P_CPMAX (p : Nat) : Fld := ⟨0x20008 + 0x100 * p, 15, 0⟩
abbrev F.CHK_P_STAT_LOCK (p : Nat) : Fld := ⟨0x2000C + 0x100 * p, 0, 0⟩
abbrev F.CHK_P_STAT_SPLIT (p : Nat) : Fld := ⟨0x2000C + 0x100 * p, 1, 1⟩
abbrev F.CHK_P_STAT_LEADER (p : Nat) : Fld := ⟨0x2000C + 0x100 * p, 2, 2⟩
abbrev F.CHK_P_STAT_RSYNC (p : Nat) : Fld := ⟨0x2000C + 0x100 * p, 3, 3⟩
abbrev F.CHK_P_STAT_WAITPEER (p : Nat) : Fld := ⟨0x2000C + 0x100 * p, 4, 4⟩
abbrev F.CHK_P_STAT_LAG (p : Nat) : Fld := ⟨0x2000C + 0x100 * p, 31, 16⟩
abbrev F.CHK_P_EVT_MISMATCH (p : Nat) : Fld := ⟨0x20010 + 0x100 * p, 0, 0⟩
abbrev F.CHK_P_EVT_TIMEOUT (p : Nat) : Fld := ⟨0x20010 + 0x100 * p, 1, 1⟩
abbrev F.CHK_P_EVT_OCB (p : Nat) : Fld := ⟨0x20010 + 0x100 * p, 2, 2⟩
abbrev F.CHK_P_EVT_CPMISS (p : Nat) : Fld := ⟨0x20010 + 0x100 * p, 3, 3⟩
abbrev F.CHK_P_EVT_DORMANT (p : Nat) : Fld := ⟨0x20010 + 0x100 * p, 4, 4⟩
abbrev F.CHK_P_EVT_ECCCOR (p : Nat) : Fld := ⟨0x20010 + 0x100 * p, 5, 5⟩
abbrev F.CHK_P_EVT_ECCUNC (p : Nat) : Fld := ⟨0x20010 + 0x100 * p, 6, 6⟩
abbrev F.CHK_P_EVT_SPLIT (p : Nat) : Fld := ⟨0x20010 + 0x100 * p, 7, 7⟩
abbrev F.CHK_P_EVT_RSDONE (p : Nat) : Fld := ⟨0x20010 + 0x100 * p, 8, 8⟩
abbrev F.CHK_P_EVT_RSFAIL (p : Nat) : Fld := ⟨0x20010 + 0x100 * p, 9, 9⟩
abbrev F.CHK_P_CPCNT (p : Nat) : Fld := ⟨0x20014 + 0x100 * p, 31, 0⟩
abbrev F.CHK_P_LASTID_MATCH (p : Nat) : Fld := ⟨0x20018 + 0x100 * p, 15, 0⟩
abbrev F.CHK_P_LASTID_MISS (p : Nat) : Fld := ⟨0x20018 + 0x100 * p, 31, 16⟩
abbrev F.CHK_P_DIVMAP0 (p : Nat) : Fld := ⟨0x2001C + 0x100 * p, 31, 0⟩
abbrev F.CHK_P_DIVMAP1 (p : Nat) : Fld := ⟨0x20020 + 0x100 * p, 31, 0⟩
abbrev F.CHK_P_DIVX_FCSR (p : Nat) : Fld := ⟨0x20024 + 0x100 * p, 0, 0⟩
abbrev F.CHK_P_DIVX_CSR (p : Nat) : Fld := ⟨0x20024 + 0x100 * p, 1, 1⟩
abbrev F.CHK_P_DIVX_DIRTY (p : Nat) : Fld := ⟨0x20024 + 0x100 * p, 2, 2⟩
abbrev F.CHK_P_RSVEC (p : Nat) : Fld := ⟨0x20028 + 0x100 * p, 31, 2⟩
abbrev F.CHK_P_RSCMD_GO (p : Nat) : Fld := ⟨0x2002C + 0x100 * p, 0, 0⟩
abbrev F.CHK_P_RSST_CODE (p : Nat) : Fld := ⟨0x20030 + 0x100 * p, 3, 0⟩
abbrev F.CHK_P_RSST_LINES (p : Nat) : Fld := ⟨0x20030 + 0x100 * p, 31, 16⟩
abbrev F.CHK_P_LVL_OCB (p : Nat) : Fld := ⟨0x20034 + 0x100 * p, 4, 0⟩
abbrev F.CHK_P_LVL_DQ (p : Nat) : Fld := ⟨0x20034 + 0x100 * p, 25, 16⟩
abbrev F.CHK_P_TFULL (p : Nat) : Fld := ⟨0x20038 + 0x100 * p, 31, 0⟩
abbrev F.CHK_CMPST_XMISS : Fld := ⟨0x20400, 0, 0⟩
abbrev F.CHK_CMPST_YMISS : Fld := ⟨0x20400, 1, 1⟩
abbrev F.CHK_CMPST_DISAGREE : Fld := ⟨0x20400, 2, 2⟩
abbrev F.CHK_CMPST_LANE : Fld := ⟨0x20400, 12, 8⟩
abbrev F.CHK_DRILLCNT : Fld := ⟨0x20404, 31, 0⟩
abbrev F.CHK_ECCCNT_COR : Fld := ⟨0x20408, 15, 0⟩
abbrev F.CHK_ECCCNT_UNC : Fld := ⟨0x20408, 31, 16⟩
abbrev F.CHK_IEN : Fld := ⟨0x2040C, 9, 0⟩
abbrev F.CHK_BENCH_VLIM (b : Nat) : Fld := ⟨0x20410 + 0x4 * b, 15, 0⟩
abbrev F.CHK_BENCHST_OK : Fld := ⟨0x20420, 2, 0⟩
abbrev F.CHK_BENCHST_REQ : Fld := ⟨0x20420, 8, 8⟩
abbrev F.CHK_BENCHST_PKGSPLIT : Fld := ⟨0x20420, 9, 9⟩
abbrev F.CHK_ERR_WRREF : Fld := ⟨0x20424, 0, 0⟩

def chkRows0 : List RegRow := [
  ⟨0x20000, 1, 0x1000000, 2, 0x100, 0x0, 0x0, 0x0, 0x0, 0x0, 0x8000FFFF⟩, -- CHK_Pp_CP
  ⟨0x20004, 1, 0x1000000, 2, 0x100, 0x64000A, 0x0, 0x0, 0x83FF03FF, 0x0, 0x0⟩, -- CHK_Pp_CFG
  ⟨0x20008, 1, 0x1000000, 2, 0x100, 0x64, 0x0, 0x0, 0xFFFF, 0x0, 0x0⟩, -- CHK_Pp_CPMAX
  ⟨0x2000C, 1, 0x1000000, 2, 0x100, 0x1, 0x0, 0x0, 0x0, 0x0, 0x0⟩, -- CHK_Pp_STAT
  ⟨0x20010, 1, 0x1000000, 2, 0x100, 0x0, 0x0, 0x3FF, 0x0, 0x0, 0x0⟩, -- CHK_Pp_EVT
  ⟨0x20014, 1, 0x1000000, 2, 0x100, 0x0, 0x0, 0x0, 0x0, 0x0, 0x0⟩, -- CHK_Pp_CPCNT
  ⟨0x20018, 1, 0x1000000, 2, 0x100, 0x0, 0x0, 0x0, 0x0, 0x0, 0x0⟩, -- CHK_Pp_LASTID
  ⟨0x2001C, 1, 0x1000000, 2, 0x100, 0x0, 0x0, 0x0, 0x0, 0x0, 0x0⟩, -- CHK_Pp_DIVMAP0
  ⟨0x20020, 1, 0x1000000, 2, 0x100, 0x0, 0x0, 0x0, 0x0, 0x0, 0x0⟩, -- CHK_Pp_DIVMAP1
  ⟨0x20024, 1, 0x1000000, 2, 0x100, 0x0, 0x0, 0x0, 0x0, 0x0, 0x0⟩, -- CHK_Pp_DIVX
  ⟨0x20028, 1, 0x1000000, 2, 0x100, 0x0, 0x0, 0x0, 0xFFFFFFFC, 0x0, 0x0⟩, -- CHK_Pp_RSVEC
  ⟨0x2002C, 1, 0x1000000, 2, 0x100, 0x0, 0x0, 0x0, 0x1, 0x0, 0x0⟩, -- CHK_Pp_RSCMD
  ⟨0x20030, 1, 0x1000000, 2, 0x100, 0x0, 0x0, 0x0, 0x0, 0x0, 0x0⟩, -- CHK_Pp_RSST
  ⟨0x20034, 1, 0x1000000, 2, 0x100, 0x0, 0x0, 0x0, 0x0, 0x0, 0x0⟩, -- CHK_Pp_LVL
  ⟨0x20038, 1, 0x1000000, 2, 0x100, 0x0, 0x0, 0x0, 0x0, 0x0, 0x0⟩, -- CHK_Pp_TFULL
  ⟨0x20400, 1, 0x1000000, 1, 0x4, 0x0, 0x0, 0x0, 0x0, 0x0, 0x0⟩, -- CHK_CMPST
  ⟨0x20404, 1, 0x1000000, 1, 0x4, 0x0, 0x0, 0x0, 0x0, 0x0, 0x0⟩, -- CHK_DRILLCNT
  ⟨0x20408, 1, 0x1000000, 1, 0x4, 0x0, 0x0, 0x0, 0x0, 0x0, 0x0⟩, -- CHK_ECCCNT
  ⟨0x2040C, 1, 0x1000000, 1, 0x4, 0x0, 0x3FF, 0x0, 0x0, 0x0, 0x0⟩, -- CHK_IEN
  ⟨0x20410, 1, 0x1000000, 3, 0x4, 0x0, 0x0, 0x0, 0xFFFF, 0x0, 0x0⟩, -- CHK_BENCHb
  ⟨0x20420, 1, 0x1000000, 1, 0x4, 0x0, 0x0, 0x0, 0x0, 0x0, 0x0⟩, -- CHK_BENCHST
  ⟨0x20424, 1, 0x1000000, 1, 0x4, 0x0, 0x0, 0x1, 0x0, 0x0, 0x0⟩ -- CHK_ERR
  ]
/-- The registers of the block, tables 14-7 of spec/. -/
def chkRows : List RegRow := chkRows0

end Sys2Proof.Machine
end

