-- ==== Sys2Proof/Machine/MapCue.lean ====
section
/-! DEFINITION. The register fields of Cue, one name per field of the register maps of spec/, and one row per register:
its reset value and which of its bits carry which access code (R7, Table 0-6). A name drops the lower-case instance
letters of the manual and takes the instance numbers as arguments. -/

namespace Sys2Proof.Machine

abbrev F.CUE_DST_SRC (n : Nat) : Fld := ⟨0x80000 + 0x4 * n, 7, 0⟩
abbrev F.CUE_DST_PEER (n : Nat) : Fld := ⟨0x80000 + 0x4 * n, 8, 8⟩
abbrev F.CUE_DST_EN (n : Nat) : Fld := ⟨0x80000 + 0x4 * n, 12, 12⟩
abbrev F.CUE_SWTRIG : Fld := ⟨0x80400, 1, 0⟩
abbrev F.CUE_STAT_LATE : Fld := ⟨0x80404, 0, 0⟩
abbrev F.CUE_LATECNT : Fld := ⟨0x80408, 31, 0⟩
abbrev F.CUE_INACT (m : Nat) : Fld := ⟨0x80410 + 0x4 * m, 31, 0⟩

def cueRows0 : List RegRow := [
  ⟨0x80000, 1, 0x1000000, 256, 0x4, 0x0, 0x11FF, 0x0, 0x0, 0x0, 0x0⟩, -- CUE_DSTn
  ⟨0x80400, 1, 0x1000000, 1, 0x4, 0x0, 0x0, 0x0, 0x0, 0x0, 0x3⟩, -- CUE_SWTRIG
  ⟨0x80404, 1, 0x1000000, 1, 0x4, 0x0, 0x0, 0x1, 0x0, 0x0, 0x0⟩, -- CUE_STAT
  ⟨0x80408, 1, 0x1000000, 1, 0x4, 0x0, 0x0, 0x0, 0x0, 0x0, 0x0⟩, -- CUE_LATECNT
  ⟨0x80410, 1, 0x1000000, 8, 0x4, 0x0, 0x0, 0x0, 0x0, 0x0, 0x0⟩ -- CUE_INACTm
  ]
/-- The registers of the block, tables 6-9 of spec/. -/
def cueRows : List RegRow := cueRows0

end Sys2Proof.Machine
end

