-- ==== Sys2Proof/Machine/MapDisch.lean ====
section
/-! DEFINITION. The register fields of Disch, one name per field of the register maps of spec/, and one row per register:
its reset value and which of its bits carry which access code (R7, Table 0-6). A name drops the lower-case instance
letters of the manual and takes the instance numbers as arguments. -/

namespace Sys2Proof.Machine

abbrev F.DISCH_BUS_CFG_EN (b : Nat) : Fld := ⟨0x2D0000 + 0x40 * b, 0, 0⟩
abbrev F.DISCH_BUS_CFG_VDIE (b : Nat) : Fld := ⟨0x2D0000 + 0x40 * b, 6, 4⟩
abbrev F.DISCH_BUS_CFG_VDIE2 (b : Nat) : Fld := ⟨0x2D0000 + 0x40 * b, 10, 8⟩
abbrev F.DISCH_BUS_CFG_DDIE (b : Nat) : Fld := ⟨0x2D0000 + 0x40 * b, 14, 12⟩
abbrev F.DISCH_BUS_CFG_AUTO (b : Nat) : Fld := ⟨0x2D0000 + 0x40 * b, 16, 16⟩
abbrev F.DISCH_BUS_CFG_PFDIS (b : Nat) : Fld := ⟨0x2D0000 + 0x40 * b, 17, 17⟩
abbrev F.DISCH_BUS_VTH_VOV (b : Nat) : Fld := ⟨0x2D0004 + 0x40 * b, 15, 0⟩
abbrev F.DISCH_BUS_VTH_VUV (b : Nat) : Fld := ⟨0x2D0004 + 0x40 * b, 31, 16⟩
abbrev F.DISCH_BUS_VHYS_OVHYS (b : Nat) : Fld := ⟨0x2D0008 + 0x40 * b, 15, 0⟩
abbrev F.DISCH_BUS_VHYS_VPLAUS (b : Nat) : Fld := ⟨0x2D0008 + 0x40 * b, 31, 16⟩
abbrev F.DISCH_BUS_CHOP_CHLO (b : Nat) : Fld := ⟨0x2D000C + 0x40 * b, 15, 0⟩
abbrev F.DISCH_BUS_CHOP_CHHI (b : Nat) : Fld := ⟨0x2D000C + 0x40 * b, 31, 16⟩
abbrev F.DISCH_BUS_CHFLT_FCUR (b : Nat) : Fld := ⟨0x2D0010 + 0x40 * b, 15, 0⟩
abbrev F.DISCH_BUS_CHFLT_FTIME (b : Nat) : Fld := ⟨0x2D0010 + 0x40 * b, 23, 16⟩
abbrev F.DISCH_BUS_CHFLT_FDUTY (b : Nat) : Fld := ⟨0x2D0010 + 0x40 * b, 31, 24⟩
abbrev F.DISCH_BUS_CHISRC (b : Nat) : Fld := ⟨0x2D0014 + 0x40 * b, 9, 0⟩
abbrev F.DISCH_BUS_DIS_VEND (b : Nat) : Fld := ⟨0x2D0018 + 0x40 * b, 15, 0⟩
abbrev F.DISCH_BUS_DIS_TMAX (b : Nat) : Fld := ⟨0x2D0018 + 0x40 * b, 31, 16⟩
abbrev F.DISCH_BUS_DCMD_OP (b : Nat) : Fld := ⟨0x2D001C + 0x40 * b, 1, 0⟩
abbrev F.DISCH_BUS_DCMD_AX (b : Nat) : Fld := ⟨0x2D001C + 0x40 * b, 6, 4⟩
abbrev F.DISCH_BUS_WIND_ID (b : Nat) : Fld := ⟨0x2D0020 + 0x40 * b, 15, 0⟩
abbrev F.DISCH_BUS_STAT_VDC (b : Nat) : Fld := ⟨0x2D0024 + 0x40 * b, 15, 0⟩
abbrev F.DISCH_BUS_STAT_STATE (b : Nat) : Fld := ⟨0x2D0024 + 0x40 * b, 19, 16⟩
abbrev F.DISCH_BUS_STAT_CHFAULT (b : Nat) : Fld := ⟨0x2D0024 + 0x40 * b, 20, 20⟩
abbrev F.DISCH_BUS_STAT_OV (b : Nat) : Fld := ⟨0x2D0024 + 0x40 * b, 21, 21⟩
abbrev F.DISCH_BUS_STAT_UV (b : Nat) : Fld := ⟨0x2D0024 + 0x40 * b, 22, 22⟩
abbrev F.DISCH_BUS_STAT_KEEPARM (b : Nat) : Fld := ⟨0x2D0024 + 0x40 * b, 23, 23⟩
abbrev F.DISCH_BUS_STAT_VDCOK (b : Nat) : Fld := ⟨0x2D0024 + 0x40 * b, 24, 24⟩
abbrev F.DISCH_BUS_DST_CODE (b : Nat) : Fld := ⟨0x2D0028 + 0x40 * b, 3, 0⟩
abbrev F.DISCH_BUS_DST_TIME (b : Nat) : Fld := ⟨0x2D0028 + 0x40 * b, 31, 16⟩
abbrev F.DISCH_BUS_CHDUTY (b : Nat) : Fld := ⟨0x2D002C + 0x40 * b, 16, 0⟩
abbrev F.DISCH_BUS_EVT_OV (b : Nat) : Fld := ⟨0x2D0030 + 0x40 * b, 0, 0⟩
abbrev F.DISCH_BUS_EVT_UV (b : Nat) : Fld := ⟨0x2D0030 + 0x40 * b, 1, 1⟩
abbrev F.DISCH_BUS_EVT_CHFAULT (b : Nat) : Fld := ⟨0x2D0030 + 0x40 * b, 2, 2⟩
abbrev F.DISCH_BUS_EVT_VPLAUS (b : Nat) : Fld := ⟨0x2D0030 + 0x40 * b, 3, 3⟩
abbrev F.DISCH_BUS_EVT_VDCLOSS (b : Nat) : Fld := ⟨0x2D0030 + 0x40 * b, 4, 4⟩
abbrev F.DISCH_BUS_EVT_DDONE (b : Nat) : Fld := ⟨0x2D0030 + 0x40 * b, 5, 5⟩
abbrev F.DISCH_BUS_EVT_DTMO (b : Nat) : Fld := ⟨0x2D0030 + 0x40 * b, 6, 6⟩
abbrev F.DISCH_BUS_EVT_DOC (b : Nat) : Fld := ⟨0x2D0030 + 0x40 * b, 7, 7⟩
abbrev F.DISCH_BUS_EVT_KEEPDIS (b : Nat) : Fld := ⟨0x2D0030 + 0x40 * b, 8, 8⟩
abbrev F.DISCH_BUS_EVT_DREF (b : Nat) : Fld := ⟨0x2D0030 + 0x40 * b, 9, 9⟩
abbrev F.DISCH_BUS_EVT_WRREF (b : Nat) : Fld := ⟨0x2D0030 + 0x40 * b, 10, 10⟩
abbrev F.DISCH_BUS_EVT_CLRREF (b : Nat) : Fld := ⟨0x2D0030 + 0x40 * b, 11, 11⟩
abbrev F.DISCH_BUS_IEN (b : Nat) : Fld := ⟨0x2D0034 + 0x40 * b, 11, 0⟩

def dischRows0 : List RegRow := [
  ⟨0x2D0000, 1, 0x1000000, 3, 0x40, 0x7770, 0x0, 0x0, 0x0, 0x37771, 0x0⟩, -- DISCH_BUSb_CFG
  ⟨0x2D0004, 1, 0x1000000, 3, 0x40, 0x7FFF, 0x0, 0x0, 0xFFFFFFFF, 0x0, 0x0⟩, -- DISCH_BUSb_VTH
  ⟨0x2D0008, 1, 0x1000000, 3, 0x40, 0x4000100, 0x0, 0x0, 0xFFFFFFFF, 0x0, 0x0⟩, -- DISCH_BUSb_VHYS
  ⟨0x2D000C, 1, 0x1000000, 3, 0x40, 0x7FFF7FFE, 0x0, 0x0, 0xFFFFFFFF, 0x0, 0x0⟩, -- DISCH_BUSb_CHOP
  ⟨0x2D0010, 1, 0x1000000, 3, 0x40, 0x40140000, 0x0, 0x0, 0xFFFFFFFF, 0x0, 0x0⟩, -- DISCH_BUSb_CHFLT
  ⟨0x2D0014, 1, 0x1000000, 3, 0x40, 0x2C0, 0x0, 0x0, 0x0, 0x3FF, 0x0⟩, -- DISCH_BUSb_CHISRC
  ⟨0x2D0018, 1, 0x1000000, 3, 0x40, 0x9C406FB, 0x0, 0x0, 0xFFFFFFFF, 0x0, 0x0⟩, -- DISCH_BUSb_DIS
  ⟨0x2D001C, 1, 0x1000000, 3, 0x40, 0x0, 0x0, 0x0, 0x73, 0x0, 0x0⟩, -- DISCH_BUSb_DCMD
  ⟨0x2D0020, 1, 0x1000000, 3, 0x40, 0x0, 0xFFFF, 0x0, 0x0, 0x0, 0x0⟩, -- DISCH_BUSb_WIND
  ⟨0x2D0024, 1, 0x1000000, 3, 0x40, 0x0, 0x0, 0x0, 0x0, 0x0, 0x0⟩, -- DISCH_BUSb_STAT
  ⟨0x2D0028, 1, 0x1000000, 3, 0x40, 0x0, 0x0, 0x0, 0x0, 0x0, 0x0⟩, -- DISCH_BUSb_DST
  ⟨0x2D002C, 1, 0x1000000, 3, 0x40, 0x0, 0x0, 0x0, 0x0, 0x0, 0x0⟩, -- DISCH_BUSb_CHDUTY
  ⟨0x2D0030, 1, 0x1000000, 3, 0x40, 0x0, 0x0, 0xFFF, 0x0, 0x0, 0x0⟩, -- DISCH_BUSb_EVT
  ⟨0x2D0034, 1, 0x1000000, 3, 0x40, 0x0, 0xFFF, 0x0, 0x0, 0x0, 0x0⟩ -- DISCH_BUSb_IEN
  ]
/-- The registers of the block, tables 13-11 of spec/. -/
def dischRows : List RegRow := dischRows0

end Sys2Proof.Machine
end

