-- ==== Sys2Proof/Machine/MapDrv.lean ====
section
/-! DEFINITION. The register fields of Drv, one name per field of the register maps of spec/, and one row per register:
its reset value and which of its bits carry which access code (R7, Table 0-6). A name drops the lower-case instance
letters of the manual and takes the instance numbers as arguments. -/

namespace Sys2Proof.Machine

abbrev F.DRV_D_SHCCTRL_EN : Fld := ⟨0x3000, 0, 0⟩
abbrev F.DRV_D_SHCCTRL_VAUTO : Fld := ⟨0x3000, 1, 1⟩
abbrev F.DRV_D_SHCCTRL_MODE : Fld := ⟨0x3000, 2, 2⟩
abbrev F.DRV_D_SHCCTRL_BCH : Fld := ⟨0x3000, 5, 4⟩
abbrev F.DRV_D_SHCCTRL_BLEN : Fld := ⟨0x3000, 27, 16⟩
abbrev F.DRV_D_SHCSTAT_ITAG : Fld := ⟨0x3004, 3, 0⟩
abbrev F.DRV_D_SHCSTAT_VTAG : Fld := ⟨0x3004, 7, 4⟩
abbrev F.DRV_D_SHCSTAT_CALDONE : Fld := ⟨0x3004, 8, 8⟩
abbrev F.DRV_D_SHCSTAT_CALFAIL : Fld := ⟨0x3004, 9, 9⟩
abbrev F.DRV_D_SHCSTAT_BURST : Fld := ⟨0x3004, 10, 10⟩
abbrev F.DRV_D_SHCSTAT_DROPCNT : Fld := ⟨0x3004, 23, 16⟩
abbrev F.DRV_D_SHCEVT_REFUSED : Fld := ⟨0x3008, 0, 0⟩
abbrev F.DRV_D_SHCEVT_DROP : Fld := ⟨0x3008, 1, 1⟩
abbrev F.DRV_D_SHCTRIM_OFS (j : Nat) : Fld := ⟨0x3010 + 0x4 * j, 9, 0⟩
abbrev F.DRV_D_SHCTRIM_GTRIM (j : Nat) : Fld := ⟨0x3010 + 0x4 * j, 21, 12⟩
abbrev F.DRV_D_SHCTRIM_VALID (j : Nat) : Fld := ⟨0x3010 + 0x4 * j, 31, 31⟩
abbrev F.DRV_D_ID_STEP : Fld := ⟨0x0, 7, 0⟩
abbrev F.DRV_D_ID_POS : Fld := ⟨0x0, 10, 8⟩
abbrev F.DRV_D_ID_OWNER : Fld := ⟨0x0, 12, 12⟩
abbrev F.DRV_D_STAT_LOCKOUT : Fld := ⟨0x4, 0, 0⟩
abbrev F.DRV_D_STAT_ORPHAN : Fld := ⟨0x4, 1, 1⟩
abbrev F.DRV_D_STAT_STO_OFF : Fld := ⟨0x4, 2, 2⟩
abbrev F.DRV_D_STAT_SLUICE : Fld := ⟨0x4, 3, 3⟩
abbrev F.DRV_D_STAT_INHIBIT : Fld := ⟨0x4, 4, 4⟩
abbrev F.DRV_D_STAT_UCODE : Fld := ⟨0x4, 5, 5⟩
abbrev F.DRV_D_EVT_SC : Fld := ⟨0x8, 0, 0⟩
abbrev F.DRV_D_EVT_SHUNTFB : Fld := ⟨0x8, 1, 1⟩
abbrev F.DRV_D_EVT_SHOOT_ATTEMPT : Fld := ⟨0x8, 2, 2⟩
abbrev F.DRV_D_EVT_LOCKOUT : Fld := ⟨0x8, 3, 3⟩
abbrev F.DRV_D_EVT_STO_DISC : Fld := ⟨0x8, 4, 4⟩
abbrev F.DRV_D_EVT_GSTUCK : Fld := ⟨0x8, 5, 5⟩
abbrev F.DRV_D_EVT_WRREF : Fld := ⟨0x8, 6, 6⟩
abbrev F.DRV_D_EVT_CLRREF : Fld := ⟨0x8, 7, 7⟩
abbrev F.DRV_D_EVT_CFGERR : Fld := ⟨0x8, 8, 8⟩
abbrev F.DRV_D_EVT_UC_ERR : Fld := ⟨0x8, 9, 9⟩
abbrev F.DRV_D_LOCKST_VDRV : Fld := ⟨0xC, 0, 0⟩
abbrev F.DRV_D_LOCKST_VNEG : Fld := ⟨0xC, 1, 1⟩
abbrev F.DRV_D_LOCKST_FLT : Fld := ⟨0xC, 4, 2⟩
abbrev F.DRV_D_LOCKST_LOCKCNT : Fld := ⟨0xC, 23, 16⟩
abbrev F.DRV_D_FCLR_SC : Fld := ⟨0x10, 5, 0⟩
abbrev F.DRV_D_FCLR_SHUNT : Fld := ⟨0x10, 10, 8⟩
abbrev F.DRV_D_FCLR_SHOOT : Fld := ⟨0x10, 14, 12⟩
abbrev F.DRV_D_FCLR_STO_DISC : Fld := ⟨0x10, 16, 16⟩
abbrev F.DRV_D_FCLR_GSTUCK : Fld := ⟨0x10, 19, 17⟩
abbrev F.DRV_D_CURTAIN : Fld := ⟨0x14, 5, 0⟩
abbrev F.DRV_D_ORPHAN : Fld := ⟨0x18, 5, 0⟩
abbrev F.DRV_D_LEGAX : Fld := ⟨0x1C, 8, 0⟩
abbrev F.DRV_D_VGOFF : Fld := ⟨0x20, 5, 0⟩
abbrev F.DRV_D_TCAPCFG_CH : Fld := ⟨0x30, 2, 0⟩
abbrev F.DRV_D_TCAPCFG_DONE : Fld := ⟨0x30, 8, 8⟩
abbrev F.DRV_D_TCAP0_TOFF : Fld := ⟨0x34, 15, 0⟩
abbrev F.DRV_D_TCAP0_TSW : Fld := ⟨0x34, 31, 16⟩
abbrev F.DRV_D_TCAP1_ISNS : Fld := ⟨0x38, 10, 0⟩
abbrev F.DRV_D_CH_LVL_VON (c : Nat) : Fld := ⟨0x100 + 0x40 * c, 7, 0⟩
abbrev F.DRV_D_CH_LVL_VOFF (c : Nat) : Fld := ⟨0x100 + 0x40 * c, 15, 8⟩
abbrev F.DRV_D_CH_LVL_DIRECT (c : Nat) : Fld := ⟨0x100 + 0x40 * c, 16, 16⟩
abbrev F.DRV_D_CH_DRIVE_SRCSTR (c : Nat) : Fld := ⟨0x104 + 0x40 * c, 3, 0⟩
abbrev F.DRV_D_CH_DRIVE_SNKSTR (c : Nat) : Fld := ⟨0x104 + 0x40 * c, 7, 4⟩
abbrev F.DRV_D_CH_DRIVE_SSTR (c : Nat) : Fld := ⟨0x104 + 0x40 * c, 11, 8⟩
abbrev F.DRV_D_CH_SCCFG_SCTH (c : Nat) : Fld := ⟨0x108 + 0x40 * c, 10, 0⟩
abbrev F.DRV_D_CH_SCCFG_FILT (c : Nat) : Fld := ⟨0x108 + 0x40 * c, 12, 11⟩
abbrev F.DRV_D_CH_SCCFG_BMULT (c : Nat) : Fld := ⟨0x108 + 0x40 * c, 20, 16⟩
abbrev F.DRV_D_CH_SCCFG_BLANK (c : Nat) : Fld := ⟨0x108 + 0x40 * c, 28, 24⟩
abbrev F.DRV_D_CH_SCCFG_EN (c : Nat) : Fld := ⟨0x108 + 0x40 * c, 31, 31⟩
abbrev F.DRV_D_CH_SOFT (c : Nat) : Fld := ⟨0x10C + 0x40 * c, 3, 0⟩
abbrev F.DRV_D_CH_FSTAT_SCLATCH (c : Nat) : Fld := ⟨0x110 + 0x40 * c, 0, 0⟩
abbrev F.DRV_D_CH_FSTAT_SRC_SENSE (c : Nat) : Fld := ⟨0x110 + 0x40 * c, 1, 1⟩
abbrev F.DRV_D_CH_FSTAT_SRC_SHUNT (c : Nat) : Fld := ⟨0x110 + 0x40 * c, 2, 2⟩
abbrev F.DRV_D_CH_FSTAT_IN_BLANK (c : Nat) : Fld := ⟨0x110 + 0x40 * c, 3, 3⟩
abbrev F.DRV_D_CH_FSTAT_SOFT_ACTIVE (c : Nat) : Fld := ⟨0x110 + 0x40 * c, 4, 4⟩
abbrev F.DRV_D_CH_FSTAT_SOFT_DONE (c : Nat) : Fld := ⟨0x110 + 0x40 * c, 5, 5⟩
abbrev F.DRV_D_CH_FSTAT_STATE (c : Nat) : Fld := ⟨0x110 + 0x40 * c, 7, 6⟩
abbrev F.DRV_D_CH_TEL_ISNS (c : Nat) : Fld := ⟨0x114 + 0x40 * c, 10, 0⟩
abbrev F.DRV_D_CH_TEL_TOFF (c : Nat) : Fld := ⟨0x114 + 0x40 * c, 31, 16⟩
abbrev F.DRV_D_CH_TELMAX (c : Nat) : Fld := ⟨0x118 + 0x40 * c, 10, 0⟩
abbrev F.DRV_D_CH_FREC0_PEAK (c : Nat) : Fld := ⟨0x11C + 0x40 * c, 10, 0⟩
abbrev F.DRV_D_CH_FREC0_COUNT (c : Nat) : Fld := ⟨0x11C + 0x40 * c, 23, 16⟩
abbrev F.DRV_D_CH_FREC1 (c : Nat) : Fld := ⟨0x120 + 0x40 * c, 31, 0⟩
abbrev F.DRV_D_LEG_SHCMP_SHTH (k : Nat) : Fld := ⟨0x400 + 0x40 * k, 6, 0⟩
abbrev F.DRV_D_LEG_SHCMP_SHFILT (k : Nat) : Fld := ⟨0x400 + 0x40 * k, 9, 8⟩
abbrev F.DRV_D_LEG_SHCMP_EN (k : Nat) : Fld := ⟨0x400 + 0x40 * k, 15, 15⟩
abbrev F.DRV_D_LEG_ADT_EN (k : Nat) : Fld := ⟨0x404 + 0x40 * k, 0, 0⟩
abbrev F.DRV_D_LEG_ADT_MARGIN (k : Nat) : Fld := ⟨0x404 + 0x40 * k, 11, 4⟩
abbrev F.DRV_D_LEG_ADT_MINDT (k : Nat) : Fld := ⟨0x404 + 0x40 * k, 23, 16⟩
abbrev F.DRV_D_LEG_ADTST_ADVCNT (k : Nat) : Fld := ⟨0x408 + 0x40 * k, 15, 0⟩
abbrev F.DRV_D_LEG_ADTST_HOLDCNT (k : Nat) : Fld := ⟨0x408 + 0x40 * k, 31, 16⟩
abbrev F.DRV_D_LEG_TSW_HL (k : Nat) : Fld := ⟨0x40C + 0x40 * k, 15, 0⟩
abbrev F.DRV_D_LEG_TSW_LH (k : Nat) : Fld := ⟨0x40C + 0x40 * k, 31, 16⟩
abbrev F.DRV_D_LEG_STAT_SHOOT (k : Nat) : Fld := ⟨0x410 + 0x40 * k, 0, 0⟩
abbrev F.DRV_D_LEG_STAT_GSTUCK (k : Nat) : Fld := ⟨0x410 + 0x40 * k, 1, 1⟩
abbrev F.DRV_D_LEG_STAT_SHLATCH (k : Nat) : Fld := ⟨0x410 + 0x40 * k, 2, 2⟩
abbrev F.DRV_D_LEG_STAT_NODE (k : Nat) : Fld := ⟨0x410 + 0x40 * k, 3, 3⟩
abbrev F.DRV_D_SLMASK : Fld := ⟨0x600, 23, 0⟩
abbrev F.DRV_D_STOCFG_STOFILT : Fld := ⟨0x604, 8, 0⟩
abbrev F.DRV_D_STOCFG_DISC : Fld := ⟨0x604, 22, 16⟩
abbrev F.DRV_D_SLST_STO_A : Fld := ⟨0x608, 0, 0⟩
abbrev F.DRV_D_SLST_STO_B : Fld := ⟨0x608, 1, 1⟩
abbrev F.DRV_D_SLST_PATHA : Fld := ⟨0x608, 2, 2⟩
abbrev F.DRV_D_SLST_PATHB : Fld := ⟨0x608, 3, 3⟩
abbrev F.DRV_D_SLST_LINES : Fld := ⟨0x608, 11, 4⟩
abbrev F.DRV_D_SLST_LATCH : Fld := ⟨0x608, 18, 16⟩
abbrev F.DRV_D_UC_CTRL_COMMIT : Fld := ⟨0x700, 0, 0⟩
abbrev F.DRV_D_UC_STAT_BANK : Fld := ⟨0x704, 0, 0⟩
abbrev F.DRV_D_UC_STAT_LOCK : Fld := ⟨0x704, 1, 1⟩
abbrev F.DRV_D_UC_STAT_ERR : Fld := ⟨0x704, 7, 4⟩
abbrev F.DRV_D_UC_CRC : Fld := ⟨0x708, 31, 0⟩

def drvRows0 : List RegRow := [
  ⟨0x3000, 1, 0x1000000, 1, 0x4, 0x2, 0xFFF0037, 0x0, 0x0, 0x0, 0x0⟩, -- DRV_Dd_SHCCTRL
  ⟨0x3004, 1, 0x1000000, 1, 0x4, 0x0, 0x0, 0x0, 0x0, 0x0, 0x0⟩, -- DRV_Dd_SHCSTAT
  ⟨0x3008, 1, 0x1000000, 1, 0x4, 0x0, 0x0, 0x3, 0x0, 0x0, 0x0⟩, -- DRV_Dd_SHCEVT
  ⟨0x3010, 1, 0x1000000, 4, 0x4, 0x0, 0x0, 0x0, 0x0, 0x0, 0x0⟩, -- DRV_Dd_SHCTRIMj
  ⟨0x0, 1, 0x1000000, 1, 0x4, 0xB0, 0x0, 0x0, 0x0, 0x0, 0x0⟩, -- DRV_Dd_ID
  ⟨0x4, 1, 0x1000000, 1, 0x4, 0x5, 0x0, 0x0, 0x0, 0x0, 0x0⟩, -- DRV_Dd_STAT
  ⟨0x8, 1, 0x1000000, 1, 0x4, 0x0, 0x0, 0x3FF, 0x0, 0x0, 0x0⟩, -- DRV_Dd_EVT
  ⟨0xC, 1, 0x1000000, 1, 0x4, 0x1F, 0x0, 0x0, 0x0, 0x0, 0x0⟩, -- DRV_Dd_LOCKST
  ⟨0x10, 1, 0x1000000, 1, 0x4, 0x0, 0x0, 0x0, 0xF773F, 0x0, 0x0⟩, -- DRV_Dd_FCLR
  ⟨0x14, 1, 0x1000000, 1, 0x4, 0x15, 0x0, 0x0, 0x0, 0x0, 0x0⟩, -- DRV_Dd_CURTAIN
  ⟨0x18, 1, 0x1000000, 1, 0x4, 0x15, 0x0, 0x0, 0x0, 0x0, 0x0⟩, -- DRV_Dd_ORPHAN
  ⟨0x1C, 1, 0x1000000, 1, 0x4, 0x1FF, 0x0, 0x0, 0x0, 0x1FF, 0x0⟩, -- DRV_Dd_LEGAX
  ⟨0x20, 1, 0x1000000, 1, 0x4, 0xF, 0x0, 0x0, 0x0, 0x3F, 0x0⟩, -- DRV_Dd_VGOFF
  ⟨0x30, 1, 0x1000000, 1, 0x4, 0x0, 0x7, 0x100, 0x0, 0x0, 0x0⟩, -- DRV_Dd_TCAPCFG
  ⟨0x34, 1, 0x1000000, 1, 0x4, 0x0, 0x0, 0x0, 0x0, 0x0, 0x0⟩, -- DRV_Dd_TCAP0
  ⟨0x38, 1, 0x1000000, 1, 0x4, 0x0, 0x0, 0x0, 0x0, 0x0, 0x0⟩, -- DRV_Dd_TCAP1
  ⟨0x100, 1, 0x1000000, 6, 0x40, 0x10096, 0x0, 0x0, 0x0, 0x1FFFF, 0x0⟩, -- DRV_Dd_CHc_LVL
  ⟨0x104, 1, 0x1000000, 6, 0x40, 0x1FF, 0x0, 0x0, 0x0, 0xFFF, 0x0⟩, -- DRV_Dd_CHc_DRIVE
  ⟨0x108, 1, 0x1000000, 6, 0x40, 0x8B0809F4, 0x0, 0x0, 0x9F1F1FFF, 0x0, 0x0⟩, -- DRV_Dd_CHc_SCCFG
  ⟨0x10C, 1, 0x1000000, 6, 0x40, 0x5, 0x0, 0x0, 0xF, 0x0, 0x0⟩, -- DRV_Dd_CHc_SOFT
  ⟨0x110, 1, 0x1000000, 6, 0x40, 0x0, 0x0, 0x0, 0x0, 0x0, 0x0⟩, -- DRV_Dd_CHc_FSTAT
  ⟨0x114, 1, 0x1000000, 6, 0x40, 0x0, 0x0, 0x0, 0x0, 0x0, 0x0⟩, -- DRV_Dd_CHc_TEL
  ⟨0x118, 1, 0x1000000, 6, 0x40, 0x0, 0x0, 0x0, 0x0, 0x0, 0x0⟩, -- DRV_Dd_CHc_TELMAX
  ⟨0x11C, 1, 0x1000000, 6, 0x40, 0x0, 0x0, 0x0, 0x0, 0x0, 0x0⟩ -- DRV_Dd_CHc_FREC0
  ]
def drvRows1 : List RegRow := [
  ⟨0x120, 1, 0x1000000, 6, 0x40, 0x0, 0x0, 0x0, 0x0, 0x0, 0x0⟩, -- DRV_Dd_CHc_FREC1
  ⟨0x400, 1, 0x1000000, 3, 0x40, 0x8178, 0x0, 0x0, 0x837F, 0x0, 0x0⟩, -- DRV_Dd_LEGk_SHCMP
  ⟨0x404, 1, 0x1000000, 3, 0x40, 0x100080, 0xFF0FF1, 0x0, 0x0, 0x0, 0x0⟩, -- DRV_Dd_LEGk_ADT
  ⟨0x408, 1, 0x1000000, 3, 0x40, 0x0, 0x0, 0x0, 0x0, 0x0, 0x0⟩, -- DRV_Dd_LEGk_ADTST
  ⟨0x40C, 1, 0x1000000, 3, 0x40, 0x0, 0x0, 0x0, 0x0, 0x0, 0x0⟩, -- DRV_Dd_LEGk_TSW
  ⟨0x410, 1, 0x1000000, 3, 0x40, 0x0, 0x0, 0x0, 0x0, 0x0, 0x0⟩, -- DRV_Dd_LEGk_STAT
  ⟨0x600, 1, 0x1000000, 1, 0x4, 0xFFFFFF, 0x0, 0x0, 0xFFFFFF, 0x0, 0x0⟩, -- DRV_Dd_SLMASK
  ⟨0x604, 1, 0x1000000, 1, 0x4, 0xA0001, 0x0, 0x0, 0x7F01FF, 0x0, 0x0⟩, -- DRV_Dd_STOCFG
  ⟨0x608, 1, 0x1000000, 1, 0x4, 0xC, 0x0, 0x0, 0x0, 0x0, 0x0⟩, -- DRV_Dd_SLST
  ⟨0x700, 1, 0x1000000, 1, 0x4, 0x0, 0x0, 0x0, 0x0, 0x1, 0x0⟩, -- DRV_Dd_UC_CTRL
  ⟨0x704, 1, 0x1000000, 1, 0x4, 0x0, 0x0, 0x0, 0x0, 0x0, 0x0⟩, -- DRV_Dd_UC_STAT
  ⟨0x708, 1, 0x1000000, 1, 0x4, 0x0, 0x0, 0x0, 0x0, 0x0, 0x0⟩, -- DRV_Dd_UC_CRC
  ⟨0x2000, 1, 0x1000000, 512, 0x4, 0x0, 0x0, 0x0, 0x0, 0xFFFFFFFF, 0x0⟩, -- bank 1 words, R347
  ⟨0x2800, 1, 0x1000000, 512, 0x4, 0x0, 0x0, 0x0, 0x0, 0x0, 0x0⟩ -- bank 0 words, R347
  ]
/-- The registers of the block, tables 7-11, 12-9, 12-11, 12-12, 12-13 of spec/. -/
def drvRows : List RegRow := drvRows0 ++ drvRows1

end Sys2Proof.Machine
end

