-- ==== Sys2Proof/Machine/MapFb.lean ====
section
/-! DEFINITION. The register fields of Fb, one name per field of the register maps of spec/, and one row per register: its
reset value and which of its bits carry which access code (R7, Table 0-6). A name drops the lower-case instance letters of
the manual and takes the instance numbers as arguments. -/

namespace Sys2Proof.Machine

abbrev F.FB_FB_CTRL_EN (n : Nat) : Fld := ⟨0x200000 + 0x1000 * n, 0, 0⟩
abbrev F.FB_FB_CTRL_LATCH (n : Nat) : Fld := ⟨0x200000 + 0x1000 * n, 1, 1⟩
abbrev F.FB_FB_CTRL_EXCEN (n : Nat) : Fld := ⟨0x200000 + 0x1000 * n, 2, 2⟩
abbrev F.FB_FB_CFG_MODE (n : Nat) : Fld := ⟨0x200004 + 0x1000 * n, 2, 0⟩
abbrev F.FB_FB_CFG_DIRINV (n : Nat) : Fld := ⟨0x200004 + 0x1000 * n, 3, 3⟩
abbrev F.FB_FB_CFG_ZMODE (n : Nat) : Fld := ⟨0x200004 + 0x1000 * n, 5, 4⟩
abbrev F.FB_FB_CFG_ZLATCH (n : Nat) : Fld := ⟨0x200004 + 0x1000 * n, 6, 6⟩
abbrev F.FB_FB_CFG_TMON (n : Nat) : Fld := ⟨0x200004 + 0x1000 * n, 7, 7⟩
abbrev F.FB_FB_CFG_FILT (n : Nat) : Fld := ⟨0x200004 + 0x1000 * n, 11, 8⟩
abbrev F.FB_FB_CFG_POLEPAIRS (n : Nat) : Fld := ⟨0x200004 + 0x1000 * n, 20, 16⟩
abbrev F.FB_FB_CPR (n : Nat) : Fld := ⟨0x200008 + 0x1000 * n, 24, 0⟩
abbrev F.FB_FB_STAT_RUN (n : Nat) : Fld := ⟨0x20000C + 0x1000 * n, 0, 0⟩
abbrev F.FB_FB_STAT_VALID (n : Nat) : Fld := ⟨0x20000C + 0x1000 * n, 1, 1⟩
abbrev F.FB_FB_STAT_REF (n : Nat) : Fld := ⟨0x20000C + 0x1000 * n, 2, 2⟩
abbrev F.FB_FB_STAT_DIR (n : Nat) : Fld := ⟨0x20000C + 0x1000 * n, 3, 3⟩
abbrev F.FB_FB_STAT_SLIM_LO (n : Nat) : Fld := ⟨0x20000C + 0x1000 * n, 4, 4⟩
abbrev F.FB_FB_STAT_SLIM_HI (n : Nat) : Fld := ⟨0x20000C + 0x1000 * n, 5, 5⟩
abbrev F.FB_FB_STAT_COAST (n : Nat) : Fld := ⟨0x20000C + 0x1000 * n, 6, 6⟩
abbrev F.FB_FB_STAT_HALL (n : Nat) : Fld := ⟨0x20000C + 0x1000 * n, 10, 8⟩
abbrev F.FB_FB_EVT_QERR (n : Nat) : Fld := ⟨0x200010 + 0x1000 * n, 0, 0⟩
abbrev F.FB_FB_EVT_ZERR (n : Nat) : Fld := ⟨0x200010 + 0x1000 * n, 1, 1⟩
abbrev F.FB_FB_EVT_HALLERR (n : Nat) : Fld := ⟨0x200010 + 0x1000 * n, 2, 2⟩
abbrev F.FB_FB_EVT_LOS (n : Nat) : Fld := ⟨0x200010 + 0x1000 * n, 3, 3⟩
abbrev F.FB_FB_EVT_DOS (n : Nat) : Fld := ⟨0x200010 + 0x1000 * n, 4, 4⟩
abbrev F.FB_FB_EVT_LOT (n : Nat) : Fld := ⟨0x200010 + 0x1000 * n, 5, 5⟩
abbrev F.FB_FB_EVT_CRCERR (n : Nat) : Fld := ⟨0x200010 + 0x1000 * n, 6, 6⟩
abbrev F.FB_FB_EVT_ERRBIT (n : Nat) : Fld := ⟨0x200010 + 0x1000 * n, 7, 7⟩
abbrev F.FB_FB_EVT_TIMEOUT (n : Nat) : Fld := ⟨0x200010 + 0x1000 * n, 8, 8⟩
abbrev F.FB_FB_EVT_SERBUSY (n : Nat) : Fld := ⟨0x200010 + 0x1000 * n, 9, 9⟩
abbrev F.FB_FB_EVT_SLIM (n : Nat) : Fld := ⟨0x200010 + 0x1000 * n, 10, 10⟩
abbrev F.FB_FB_EVT_OVF (n : Nat) : Fld := ⟨0x200010 + 0x1000 * n, 11, 11⟩
abbrev F.FB_FB_EVT_DIRCHG (n : Nat) : Fld := ⟨0x200010 + 0x1000 * n, 12, 12⟩
abbrev F.FB_FB_EVT_LOVR (n : Nat) : Fld := ⟨0x200010 + 0x1000 * n, 13, 13⟩
abbrev F.FB_FB_EVT_FAULT (n : Nat) : Fld := ⟨0x200010 + 0x1000 * n, 14, 14⟩
abbrev F.FB_FB_EVT_CFGERR (n : Nat) : Fld := ⟨0x200010 + 0x1000 * n, 15, 15⟩
abbrev F.FB_FB_EVT_WRREF (n : Nat) : Fld := ⟨0x200010 + 0x1000 * n, 16, 16⟩
abbrev F.FB_FB_EVT_ZIDX (n : Nat) : Fld := ⟨0x200010 + 0x1000 * n, 17, 17⟩
abbrev F.FB_FB_EVT_CLRREF (n : Nat) : Fld := ⟨0x200010 + 0x1000 * n, 18, 18⟩
abbrev F.FB_FB_IEN (n : Nat) : Fld := ⟨0x200014 + 0x1000 * n, 18, 0⟩
abbrev F.FB_FB_OBS_BW (n : Nat) : Fld := ⟨0x200018 + 0x1000 * n, 12, 0⟩
abbrev F.FB_FB_OBS_LOTLIM (n : Nat) : Fld := ⟨0x200018 + 0x1000 * n, 31, 16⟩
abbrev F.FB_FB_SCALE_SPDFS (n : Nat) : Fld := ⟨0x20001C + 0x1000 * n, 15, 0⟩
abbrev F.FB_FB_SCALE_ACCFS (n : Nat) : Fld := ⟨0x20001C + 0x1000 * n, 31, 16⟩
abbrev F.FB_FB_ELOFS (n : Nat) : Fld := ⟨0x200020 + 0x1000 * n, 15, 0⟩
abbrev F.FB_FB_INDEX_ZPOS (n : Nat) : Fld := ⟨0x200024 + 0x1000 * n, 23, 0⟩
abbrev F.FB_FB_INDEX_ZTOL (n : Nat) : Fld := ⟨0x200024 + 0x1000 * n, 31, 24⟩
abbrev F.FB_FB_ERRMAX (n : Nat) : Fld := ⟨0x200028 + 0x1000 * n, 7, 0⟩
abbrev F.FB_FB_ERRCNT_TOTAL (n : Nat) : Fld := ⟨0x20002C + 0x1000 * n, 15, 0⟩
abbrev F.FB_FB_ERRCNT_CONSEC (n : Nat) : Fld := ⟨0x20002C + 0x1000 * n, 23, 16⟩
abbrev F.FB_FB_POSLO (n : Nat) : Fld := ⟨0x200040 + 0x1000 * n, 31, 0⟩
abbrev F.FB_FB_POSHI (n : Nat) : Fld := ⟨0x200044 + 0x1000 * n, 15, 0⟩
abbrev F.FB_FB_ANGLE_ELEC (n : Nat) : Fld := ⟨0x200048 + 0x1000 * n, 15, 0⟩
abbrev F.FB_FB_ANGLE_MECH (n : Nat) : Fld := ⟨0x200048 + 0x1000 * n, 31, 16⟩
abbrev F.FB_FB_SPD_SPEED (n : Nat) : Fld := ⟨0x20004C + 0x1000 * n, 15, 0⟩
abbrev F.FB_FB_SPD_ACCEL (n : Nat) : Fld := ⟨0x20004C + 0x1000 * n, 31, 16⟩
abbrev F.FB_FB_FRAC (n : Nat) : Fld := ⟨0x200050 + 0x1000 * n, 15, 0⟩
abbrev F.FB_FB_LPOSLO (n : Nat) : Fld := ⟨0x200060 + 0x1000 * n, 31, 0⟩
abbrev F.FB_FB_LPOSHI (n : Nat) : Fld := ⟨0x200064 + 0x1000 * n, 15, 0⟩
abbrev F.FB_FB_LANGLE (n : Nat) : Fld := ⟨0x200068 + 0x1000 * n, 31, 0⟩
abbrev F.FB_FB_LSPD (n : Nat) : Fld := ⟨0x20006C + 0x1000 * n, 31, 0⟩
abbrev F.FB_FB_LSTLO (n : Nat) : Fld := ⟨0x200070 + 0x1000 * n, 31, 0⟩
abbrev F.FB_FB_LSTHI (n : Nat) : Fld := ⟨0x200074 + 0x1000 * n, 31, 0⟩
abbrev F.FB_FB_LSTAT_SEQ (n : Nat) : Fld := ⟨0x200078 + 0x1000 * n, 7, 0⟩
abbrev F.FB_FB_LSTAT_SRC (n : Nat) : Fld := ⟨0x200078 + 0x1000 * n, 9, 8⟩
abbrev F.FB_FB_LSTAT_SLIM (n : Nat) : Fld := ⟨0x200078 + 0x1000 * n, 10, 10⟩
abbrev F.FB_FB_LSTAT_VALID (n : Nat) : Fld := ⟨0x200078 + 0x1000 * n, 11, 11⟩
abbrev F.FB_FB_LSTAT_NEW (n : Nat) : Fld := ⟨0x200078 + 0x1000 * n, 12, 12⟩
abbrev F.FB_FB_SLIMLOLO (n : Nat) : Fld := ⟨0x200080 + 0x1000 * n, 31, 0⟩
abbrev F.FB_FB_SLIMLOHI (n : Nat) : Fld := ⟨0x200084 + 0x1000 * n, 15, 0⟩
abbrev F.FB_FB_SLIMHILO (n : Nat) : Fld := ⟨0x200088 + 0x1000 * n, 31, 0⟩
abbrev F.FB_FB_SLIMHIHI (n : Nat) : Fld := ⟨0x20008C + 0x1000 * n, 15, 0⟩
abbrev F.FB_FB_SLIMCFG_EN (n : Nat) : Fld := ⟨0x200090 + 0x1000 * n, 0, 0⟩
abbrev F.FB_FB_EXC_N (n : Nat) : Fld := ⟨0x2000A0 + 0x1000 * n, 8, 0⟩
abbrev F.FB_FB_EXC_AMP (n : Nat) : Fld := ⟨0x2000A0 + 0x1000 * n, 23, 16⟩
abbrev F.FB_FB_EXCPH (n : Nat) : Fld := ⟨0x2000A4 + 0x1000 * n, 15, 0⟩
abbrev F.FB_FB_AMPLIM_LOSLIM (n : Nat) : Fld := ⟨0x2000A8 + 0x1000 * n, 15, 0⟩
abbrev F.FB_FB_AMPLIM_DOSLIM (n : Nat) : Fld := ⟨0x2000A8 + 0x1000 * n, 31, 16⟩
abbrev F.FB_FB_AMP (n : Nat) : Fld := ⟨0x2000AC + 0x1000 * n, 15, 0⟩
abbrev F.FB_FB_SERCLK_CLKDIV (n : Nat) : Fld := ⟨0x2000C0 + 0x1000 * n, 8, 0⟩
abbrev F.FB_FB_SERCLK_DLY (n : Nat) : Fld := ⟨0x2000C0 + 0x1000 * n, 23, 16⟩
abbrev F.FB_FB_SERFMT_STB (n : Nat) : Fld := ⟨0x2000C4 + 0x1000 * n, 4, 0⟩
abbrev F.FB_FB_SERFMT_MTB (n : Nat) : Fld := ⟨0x2000C4 + 0x1000 * n, 12, 8⟩
abbrev F.FB_FB_SERFMT_EB (n : Nat) : Fld := ⟨0x2000C4 + 0x1000 * n, 17, 16⟩
abbrev F.FB_FB_SERFMT_EPOL (n : Nat) : Fld := ⟨0x2000C4 + 0x1000 * n, 18, 18⟩
abbrev F.FB_FB_SERFMT_CRCW (n : Nat) : Fld := ⟨0x2000C4 + 0x1000 * n, 23, 20⟩
abbrev F.FB_FB_SERFMT_GRAY (n : Nat) : Fld := ⟨0x2000C4 + 0x1000 * n, 24, 24⟩
abbrev F.FB_FB_SERFMT_START (n : Nat) : Fld := ⟨0x2000C4 + 0x1000 * n, 25, 25⟩
abbrev F.FB_FB_SERCRC_POLY (n : Nat) : Fld := ⟨0x2000C8 + 0x1000 * n, 7, 0⟩
abbrev F.FB_FB_SERCRC_INIT (n : Nat) : Fld := ⟨0x2000C8 + 0x1000 * n, 15, 8⟩
abbrev F.FB_FB_SERCRC_XOROUT (n : Nat) : Fld := ⟨0x2000C8 + 0x1000 * n, 23, 16⟩
abbrev F.FB_FB_SERTIM_REQ (n : Nat) : Fld := ⟨0x2000CC + 0x1000 * n, 15, 0⟩
abbrev F.FB_FB_SERTIM_TMO (n : Nat) : Fld := ⟨0x2000CC + 0x1000 * n, 23, 16⟩
abbrev F.FB_FB_SERRAWLO (n : Nat) : Fld := ⟨0x2000D0 + 0x1000 * n, 31, 0⟩
abbrev F.FB_FB_SERRAWHI (n : Nat) : Fld := ⟨0x2000D4 + 0x1000 * n, 31, 0⟩
abbrev F.FB_EMU_CTRL_EN (m : Nat) : Fld := ⟨0x208000 + 0x100 * m, 0, 0⟩
abbrev F.FB_EMU_CTRL_SRC (m : Nat) : Fld := ⟨0x208000 + 0x100 * m, 5, 4⟩
abbrev F.FB_EMU_CTRL_ZEN (m : Nat) : Fld := ⟨0x208000 + 0x100 * m, 8, 8⟩
abbrev F.FB_EMU_CTRL_INV (m : Nat) : Fld := ⟨0x208000 + 0x100 * m, 9, 9⟩
abbrev F.FB_EMU_LINES (m : Nat) : Fld := ⟨0x208004 + 0x100 * m, 14, 0⟩
abbrev F.FB_EMU_STAT_RUN (m : Nat) : Fld := ⟨0x208008 + 0x100 * m, 0, 0⟩
abbrev F.FB_EMU_STAT_BACKLOG (m : Nat) : Fld := ⟨0x208008 + 0x100 * m, 15, 8⟩
abbrev F.FB_EMU_EVT_OVF (m : Nat) : Fld := ⟨0x20800C + 0x100 * m, 0, 0⟩
abbrev F.FB_EMU_EVT_SRCFAULT (m : Nat) : Fld := ⟨0x20800C + 0x100 * m, 1, 1⟩
abbrev F.FB_EMU_EVT_WRREF (m : Nat) : Fld := ⟨0x20800C + 0x100 * m, 2, 2⟩
abbrev F.FB_EMU_EVT_CFGERR (m : Nat) : Fld := ⟨0x20800C + 0x100 * m, 3, 3⟩

def fbRows0 : List RegRow := [
  ⟨0x200000, 1, 0x1000000, 4, 0x1000, 0x0, 0x5, 0x0, 0x0, 0x0, 0x2⟩, -- FB_FBn_CTRL
  ⟨0x200004, 1, 0x1000000, 4, 0x1000, 0x10300, 0x0, 0x0, 0x0, 0x1F0FFF, 0x0⟩, -- FB_FBn_CFG
  ⟨0x200008, 1, 0x1000000, 4, 0x1000, 0x0, 0x0, 0x0, 0x0, 0x1FFFFFF, 0x0⟩, -- FB_FBn_CPR
  ⟨0x20000C, 1, 0x1000000, 4, 0x1000, 0x0, 0x0, 0x0, 0x0, 0x0, 0x0⟩, -- FB_FBn_STAT
  ⟨0x200010, 1, 0x1000000, 4, 0x1000, 0x0, 0x0, 0x7FFFF, 0x0, 0x0, 0x0⟩, -- FB_FBn_EVT
  ⟨0x200014, 1, 0x1000000, 4, 0x1000, 0x0, 0x7FFFF, 0x0, 0x0, 0x0, 0x0⟩, -- FB_FBn_IEN
  ⟨0x200018, 1, 0x1000000, 4, 0x1000, 0xE3901F4, 0xFFFF1FFF, 0x0, 0x0, 0x0, 0x0⟩, -- FB_FBn_OBS
  ⟨0x20001C, 1, 0x1000000, 4, 0x1000, 0x3E82710, 0x0, 0x0, 0x0, 0xFFFFFFFF, 0x0⟩, -- FB_FBn_SCALE
  ⟨0x200020, 1, 0x1000000, 4, 0x1000, 0x0, 0xFFFF, 0x0, 0x0, 0x0, 0x0⟩, -- FB_FBn_ELOFS
  ⟨0x200024, 1, 0x1000000, 4, 0x1000, 0x4000000, 0x0, 0x0, 0x0, 0xFFFFFFFF, 0x0⟩, -- FB_FBn_INDEX
  ⟨0x200028, 1, 0x1000000, 4, 0x1000, 0x8, 0xFF, 0x0, 0x0, 0x0, 0x0⟩, -- FB_FBn_ERRMAX
  ⟨0x20002C, 1, 0x1000000, 4, 0x1000, 0x0, 0x0, 0x0, 0x0, 0x0, 0x0⟩, -- FB_FBn_ERRCNT
  ⟨0x200040, 1, 0x1000000, 4, 0x1000, 0x0, 0x0, 0x0, 0x0, 0x0, 0x0⟩, -- FB_FBn_POSLO
  ⟨0x200044, 1, 0x1000000, 4, 0x1000, 0x0, 0x0, 0x0, 0x0, 0x0, 0x0⟩, -- FB_FBn_POSHI
  ⟨0x200048, 1, 0x1000000, 4, 0x1000, 0x0, 0x0, 0x0, 0x0, 0x0, 0x0⟩, -- FB_FBn_ANGLE
  ⟨0x20004C, 1, 0x1000000, 4, 0x1000, 0x0, 0x0, 0x0, 0x0, 0x0, 0x0⟩, -- FB_FBn_SPD
  ⟨0x200050, 1, 0x1000000, 4, 0x1000, 0x0, 0x0, 0x0, 0x0, 0x0, 0x0⟩, -- FB_FBn_FRAC
  ⟨0x200060, 1, 0x1000000, 4, 0x1000, 0x0, 0x0, 0x0, 0x0, 0x0, 0x0⟩, -- FB_FBn_LPOSLO
  ⟨0x200064, 1, 0x1000000, 4, 0x1000, 0x0, 0x0, 0x0, 0x0, 0x0, 0x0⟩, -- FB_FBn_LPOSHI
  ⟨0x200068, 1, 0x1000000, 4, 0x1000, 0x0, 0x0, 0x0, 0x0, 0x0, 0x0⟩, -- FB_FBn_LANGLE
  ⟨0x20006C, 1, 0x1000000, 4, 0x1000, 0x0, 0x0, 0x0, 0x0, 0x0, 0x0⟩, -- FB_FBn_LSPD
  ⟨0x200070, 1, 0x1000000, 4, 0x1000, 0x0, 0x0, 0x0, 0x0, 0x0, 0x0⟩, -- FB_FBn_LSTLO
  ⟨0x200074, 1, 0x1000000, 4, 0x1000, 0x0, 0x0, 0x0, 0x0, 0x0, 0x0⟩, -- FB_FBn_LSTHI
  ⟨0x200078, 1, 0x1000000, 4, 0x1000, 0x0, 0x0, 0x0, 0x0, 0x0, 0x0⟩ -- FB_FBn_LSTAT
  ]
def fbRows1 : List RegRow := [
  ⟨0x200080, 1, 0x1000000, 4, 0x1000, 0x0, 0xFFFFFFFF, 0x0, 0x0, 0x0, 0x0⟩, -- FB_FBn_SLIMLOLO
  ⟨0x200084, 1, 0x1000000, 4, 0x1000, 0x8000, 0xFFFF, 0x0, 0x0, 0x0, 0x0⟩, -- FB_FBn_SLIMLOHI
  ⟨0x200088, 1, 0x1000000, 4, 0x1000, 0xFFFFFFFF, 0xFFFFFFFF, 0x0, 0x0, 0x0, 0x0⟩, -- FB_FBn_SLIMHILO
  ⟨0x20008C, 1, 0x1000000, 4, 0x1000, 0x7FFF, 0xFFFF, 0x0, 0x0, 0x0, 0x0⟩, -- FB_FBn_SLIMHIHI
  ⟨0x200090, 1, 0x1000000, 4, 0x1000, 0x0, 0x1, 0x0, 0x0, 0x0, 0x0⟩, -- FB_FBn_SLIMCFG
  ⟨0x2000A0, 1, 0x1000000, 4, 0x1000, 0x64, 0xFF01FF, 0x0, 0x0, 0x0, 0x0⟩, -- FB_FBn_EXC
  ⟨0x2000A4, 1, 0x1000000, 4, 0x1000, 0x0, 0xFFFF, 0x0, 0x0, 0x0, 0x0⟩, -- FB_FBn_EXCPH
  ⟨0x2000A8, 1, 0x1000000, 4, 0x1000, 0x70002000, 0xFFFFFFFF, 0x0, 0x0, 0x0, 0x0⟩, -- FB_FBn_AMPLIM
  ⟨0x2000AC, 1, 0x1000000, 4, 0x1000, 0x0, 0x0, 0x0, 0x0, 0x0, 0x0⟩, -- FB_FBn_AMP
  ⟨0x2000C0, 1, 0x1000000, 4, 0x1000, 0x27, 0x0, 0x0, 0x0, 0xFF01FF, 0x0⟩, -- FB_FBn_SERCLK
  ⟨0x2000C4, 1, 0x1000000, 4, 0x1000, 0x0, 0x0, 0x0, 0x0, 0x3F71F1F, 0x0⟩, -- FB_FBn_SERFMT
  ⟨0x2000C8, 1, 0x1000000, 4, 0x1000, 0x0, 0x0, 0x0, 0x0, 0xFFFFFF, 0x0⟩, -- FB_FBn_SERCRC
  ⟨0x2000CC, 1, 0x1000000, 4, 0x1000, 0x100000, 0xFFFFFF, 0x0, 0x0, 0x0, 0x0⟩, -- FB_FBn_SERTIM
  ⟨0x2000D0, 1, 0x1000000, 4, 0x1000, 0x0, 0x0, 0x0, 0x0, 0x0, 0x0⟩, -- FB_FBn_SERRAWLO
  ⟨0x2000D4, 1, 0x1000000, 4, 0x1000, 0x0, 0x0, 0x0, 0x0, 0x0, 0x0⟩, -- FB_FBn_SERRAWHI
  ⟨0x208000, 1, 0x1000000, 2, 0x100, 0x0, 0x1, 0x0, 0x0, 0x330, 0x0⟩, -- FB_EMUm_CTRL
  ⟨0x208004, 1, 0x1000000, 2, 0x100, 0x400, 0x0, 0x0, 0x0, 0x7FFF, 0x0⟩, -- FB_EMUm_LINES
  ⟨0x208008, 1, 0x1000000, 2, 0x100, 0x0, 0x0, 0x0, 0x0, 0x0, 0x0⟩, -- FB_EMUm_STAT
  ⟨0x20800C, 1, 0x1000000, 2, 0x100, 0x0, 0x0, 0xF, 0x0, 0x0, 0x0⟩ -- FB_EMUm_EVT
  ]
/-- The registers of the block, tables 8-6, 8-7 of spec/. -/
def fbRows : List RegRow := fbRows0 ++ fbRows1

end Sys2Proof.Machine
end

