-- ==== Sys2Proof/Machine/MapField.lean ====
section
/-! DEFINITION. The register fields of Field, one name per field of the register maps of spec/, and one row per register:
its reset value and which of its bits carry which access code (R7, Table 0-6). A name drops the lower-case instance
letters of the manual and takes the instance numbers as arguments. -/

namespace Sys2Proof.Machine

abbrev F.FIELD_AX_CMD_OP (a : Nat) : Fld := ⟨0x180000 + 0x1000 * a, 2, 0⟩
abbrev F.FIELD_AX_CMDST_CODE (a : Nat) : Fld := ⟨0x180004 + 0x1000 * a, 7, 0⟩
abbrev F.FIELD_AX_CMDST_LASTOP (a : Nat) : Fld := ⟨0x180004 + 0x1000 * a, 10, 8⟩
abbrev F.FIELD_AX_CFG_TYPE (a : Nat) : Fld := ⟨0x180008 + 0x1000 * a, 2, 0⟩
abbrev F.FIELD_AX_CFG_BUS (a : Nat) : Fld := ⟨0x180008 + 0x1000 * a, 5, 4⟩
abbrev F.FIELD_AX_CFG_PORT (a : Nat) : Fld := ⟨0x180008 + 0x1000 * a, 7, 6⟩
abbrev F.FIELD_AX_CFG_FB (a : Nat) : Fld := ⟨0x180008 + 0x1000 * a, 9, 8⟩
abbrev F.FIELD_AX_CFG_CTRL (a : Nat) : Fld := ⟨0x180008 + 0x1000 * a, 12, 12⟩
abbrev F.FIELD_AX_CFG_FBLOSS (a : Nat) : Fld := ⟨0x180008 + 0x1000 * a, 13, 13⟩
abbrev F.FIELD_AX_CFG_NLEG (a : Nat) : Fld := ⟨0x180008 + 0x1000 * a, 17, 16⟩
abbrev F.FIELD_AX_CFG_CHSW (a : Nat) : Fld := ⟨0x180008 + 0x1000 * a, 18, 18⟩
abbrev F.FIELD_AX_HB (a : Nat) : Fld := ⟨0x18000C + 0x1000 * a, 29, 0⟩
abbrev F.FIELD_AX_STAT_PHASE (a : Nat) : Fld := ⟨0x180010 + 0x1000 * a, 3, 0⟩
abbrev F.FIELD_AX_STAT_EPATH (a : Nat) : Fld := ⟨0x180010 + 0x1000 * a, 4, 4⟩
abbrev F.FIELD_AX_STAT_DIR (a : Nat) : Fld := ⟨0x180010 + 0x1000 * a, 5, 5⟩
abbrev F.FIELD_AX_STAT_ANGSRC (a : Nat) : Fld := ⟨0x180010 + 0x1000 * a, 8, 6⟩
abbrev F.FIELD_AX_STAT_TCLAMP (a : Nat) : Fld := ⟨0x180010 + 0x1000 * a, 9, 9⟩
abbrev F.FIELD_AX_STAT_WATCH (a : Nat) : Fld := ⟨0x180010 + 0x1000 * a, 10, 10⟩
abbrev F.FIELD_AX_STAT_ELIMACT (a : Nat) : Fld := ⟨0x180010 + 0x1000 * a, 11, 11⟩
abbrev F.FIELD_AX_STAT_POLOK (a : Nat) : Fld := ⟨0x180010 + 0x1000 * a, 12, 12⟩
abbrev F.FIELD_AX_EVT_REFUSED (a : Nat) : Fld := ⟨0x180014 + 0x1000 * a, 0, 0⟩
abbrev F.FIELD_AX_EVT_CATCHDONE (a : Nat) : Fld := ⟨0x180014 + 0x1000 * a, 1, 1⟩
abbrev F.FIELD_AX_EVT_ANGSW (a : Nat) : Fld := ⟨0x180014 + 0x1000 * a, 2, 2⟩
abbrev F.FIELD_AX_EVT_GRIDLOSS (a : Nat) : Fld := ⟨0x180014 + 0x1000 * a, 3, 3⟩
abbrev F.FIELD_AX_EVT_REVDONE (a : Nat) : Fld := ⟨0x180014 + 0x1000 * a, 4, 4⟩
abbrev F.FIELD_AX_EVT_REVTMO (a : Nat) : Fld := ⟨0x180014 + 0x1000 * a, 5, 5⟩
abbrev F.FIELD_AX_EVT_BSTALE (a : Nat) : Fld := ⟨0x180014 + 0x1000 * a, 6, 6⟩
abbrev F.FIELD_AX_EVT_WRREF (a : Nat) : Fld := ⟨0x180014 + 0x1000 * a, 7, 7⟩
abbrev F.FIELD_AX_IEN (a : Nat) : Fld := ⟨0x180018 + 0x1000 * a, 7, 0⟩
abbrev F.FIELD_AX_SPSET (a : Nat) : Fld := ⟨0x18001C + 0x1000 * a, 15, 0⟩
abbrev F.FIELD_AX_TSET_VALUE (a : Nat) : Fld := ⟨0x180020 + 0x1000 * a, 15, 0⟩
abbrev F.FIELD_AX_TSET_Q (a : Nat) : Fld := ⟨0x180020 + 0x1000 * a, 31, 16⟩
abbrev F.FIELD_AX_RAMP (a : Nat) : Fld := ⟨0x180024 + 0x1000 * a, 23, 0⟩
abbrev F.FIELD_AX_SCALE_SPDFS (a : Nat) : Fld := ⟨0x180028 + 0x1000 * a, 15, 0⟩
abbrev F.FIELD_AX_SCALE_POLEPAIRS (a : Nat) : Fld := ⟨0x180028 + 0x1000 * a, 20, 16⟩
abbrev F.FIELD_AX_MOT_KE (a : Nat) : Fld := ⟨0x18002C + 0x1000 * a, 15, 0⟩
abbrev F.FIELD_AX_ILIM_IMAX (a : Nat) : Fld := ⟨0x180030 + 0x1000 * a, 15, 0⟩
abbrev F.FIELD_AX_ILIM_IDMIN (a : Nat) : Fld := ⟨0x180030 + 0x1000 * a, 31, 16⟩
abbrev F.FIELD_AX_FW_VNOM (a : Nat) : Fld := ⟨0x180034 + 0x1000 * a, 15, 0⟩
abbrev F.FIELD_AX_FW_MODLIM (a : Nat) : Fld := ⟨0x180034 + 0x1000 * a, 31, 16⟩
abbrev F.FIELD_AX_REV_REVTH (a : Nat) : Fld := ⟨0x180038 + 0x1000 * a, 15, 0⟩
abbrev F.FIELD_AX_REV_REVTMO (a : Nat) : Fld := ⟨0x180038 + 0x1000 * a, 31, 16⟩
abbrev F.FIELD_AX_WATCH_VWATCH (a : Nat) : Fld := ⟨0x18003C + 0x1000 * a, 15, 0⟩
abbrev F.FIELD_AX_WATCH_VHYS (a : Nat) : Fld := ⟨0x18003C + 0x1000 * a, 31, 16⟩
abbrev F.FIELD_AX_ANG_SRC (a : Nat) : Fld := ⟨0x180040 + 0x1000 * a, 2, 0⟩
abbrev F.FIELD_AX_ANG_SET2OFS (a : Nat) : Fld := ⟨0x180040 + 0x1000 * a, 31, 16⟩
abbrev F.FIELD_AX_HFI_S1 (a : Nat) : Fld := ⟨0x180044 + 0x1000 * a, 15, 0⟩
abbrev F.FIELD_AX_HFI_S2 (a : Nat) : Fld := ⟨0x180044 + 0x1000 * a, 31, 16⟩
abbrev F.FIELD_AX_ALIGN_METHOD (a : Nat) : Fld := ⟨0x180048 + 0x1000 * a, 1, 0⟩
abbrev F.FIELD_AX_ALIGN_TIME (a : Nat) : Fld := ⟨0x180048 + 0x1000 * a, 15, 4⟩
abbrev F.FIELD_AX_ALIGN_CUR (a : Nat) : Fld := ⟨0x180048 + 0x1000 * a, 31, 16⟩
abbrev F.FIELD_AX_CATCH_VSTILL (a : Nat) : Fld := ⟨0x18004C + 0x1000 * a, 15, 0⟩
abbrev F.FIELD_AX_CATCH_STILL (a : Nat) : Fld := ⟨0x18004C + 0x1000 * a, 31, 16⟩
abbrev F.FIELD_AX_CATCHST_SPEED (a : Nat) : Fld := ⟨0x180050 + 0x1000 * a, 15, 0⟩
abbrev F.FIELD_AX_CATCHST_ANGLE (a : Nat) : Fld := ⟨0x180050 + 0x1000 * a, 31, 16⟩
abbrev F.FIELD_AX_CATCHAMP (a : Nat) : Fld := ⟨0x180054 + 0x1000 * a, 15, 0⟩
abbrev F.FIELD_AX_CURTRK_ENGD (a : Nat) : Fld := ⟨0x180058 + 0x1000 * a, 5, 0⟩
abbrev F.FIELD_AX_CURTRK_SLOTD (a : Nat) : Fld := ⟨0x180058 + 0x1000 * a, 11, 8⟩
abbrev F.FIELD_AX_CURTRK_ENGQ (a : Nat) : Fld := ⟨0x180058 + 0x1000 * a, 21, 16⟩
abbrev F.FIELD_AX_CURTRK_SLOTQ (a : Nat) : Fld := ⟨0x180058 + 0x1000 * a, 27, 24⟩
abbrev F.FIELD_AX_SPDTRK_ENG (a : Nat) : Fld := ⟨0x18005C + 0x1000 * a, 5, 0⟩
abbrev F.FIELD_AX_SPDTRK_SLOT (a : Nat) : Fld := ⟨0x18005C + 0x1000 * a, 11, 8⟩
abbrev F.FIELD_AX_SPDTRK_EN (a : Nat) : Fld := ⟨0x18005C + 0x1000 * a, 12, 12⟩
abbrev F.FIELD_AX_OBSTRK_ENG (a : Nat) : Fld := ⟨0x180060 + 0x1000 * a, 5, 0⟩
abbrev F.FIELD_AX_OBSTRK_SLOTA (a : Nat) : Fld := ⟨0x180060 + 0x1000 * a, 11, 8⟩
abbrev F.FIELD_AX_OBSTRK_SLOTW (a : Nat) : Fld := ⟨0x180060 + 0x1000 * a, 15, 12⟩
abbrev F.FIELD_AX_GRID_BW (a : Nat) : Fld := ⟨0x180064 + 0x1000 * a, 7, 0⟩
abbrev F.FIELD_AX_GRID_AG (a : Nat) : Fld := ⟨0x180064 + 0x1000 * a, 9, 8⟩
abbrev F.FIELD_AX_GRID_ENT (a : Nat) : Fld := ⟨0x180064 + 0x1000 * a, 15, 10⟩
abbrev F.FIELD_AX_GRID_LOCKTOL (a : Nat) : Fld := ⟨0x180064 + 0x1000 * a, 31, 16⟩
abbrev F.FIELD_AX_GRIDST_FREQ (a : Nat) : Fld := ⟨0x180068 + 0x1000 * a, 15, 0⟩
abbrev F.FIELD_AX_GRIDST_LOCK (a : Nat) : Fld := ⟨0x180068 + 0x1000 * a, 16, 16⟩
abbrev F.FIELD_AX_ELIM_MAX (a : Nat) : Fld := ⟨0x18006C + 0x1000 * a, 15, 0⟩
abbrev F.FIELD_AX_OUT_ID (a : Nat) : Fld := ⟨0x180070 + 0x1000 * a, 15, 0⟩
abbrev F.FIELD_AX_OUT_IQ (a : Nat) : Fld := ⟨0x180070 + 0x1000 * a, 31, 16⟩
abbrev F.FIELD_AX_TOUT_T (a : Nat) : Fld := ⟨0x180074 + 0x1000 * a, 15, 0⟩
abbrev F.FIELD_AX_TOUT_ELIM (a : Nat) : Fld := ⟨0x180074 + 0x1000 * a, 31, 16⟩
abbrev F.FIELD_AX_MTPA_ID (a i : Nat) : Fld := ⟨0x180100 + 0x1000 * a + 0x4 * i, 15, 0⟩
abbrev F.FIELD_AX_MTPA_IQ (a i : Nat) : Fld := ⟨0x180100 + 0x1000 * a + 0x4 * i, 31, 16⟩
abbrev F.FIELD_AX_FWT_ID (a i : Nat) : Fld := ⟨0x180200 + 0x1000 * a + 0x4 * i, 15, 0⟩
abbrev F.FIELD_BUS_BATT_TMIN (b : Nat) : Fld := ⟨0x186000 + 0x20 * b, 15, 0⟩
abbrev F.FIELD_BUS_BATT_TMAX (b : Nat) : Fld := ⟨0x186000 + 0x20 * b, 31, 16⟩
abbrev F.FIELD_BUS_BCFG_EN (b : Nat) : Fld := ⟨0x186004 + 0x20 * b, 0, 0⟩
abbrev F.FIELD_BUS_BCFG_SRC (b : Nat) : Fld := ⟨0x186004 + 0x20 * b, 1, 1⟩
abbrev F.FIELD_BUS_BCFG_CH (b : Nat) : Fld := ⟨0x186004 + 0x20 * b, 15, 8⟩
abbrev F.FIELD_BUS_BCFG_BAND (b : Nat) : Fld := ⟨0x186004 + 0x20 * b, 23, 16⟩
abbrev F.FIELD_BUS_BCFG_TMO (b : Nat) : Fld := ⟨0x186004 + 0x20 * b, 31, 24⟩
abbrev F.FIELD_BUS_BTEMP (b : Nat) : Fld := ⟨0x186008 + 0x20 * b, 15, 0⟩
abbrev F.FIELD_BUS_BST_TEMP (b : Nat) : Fld := ⟨0x18600C + 0x20 * b, 15, 0⟩
abbrev F.FIELD_BUS_BST_STALE (b : Nat) : Fld := ⟨0x18600C + 0x20 * b, 16, 16⟩
abbrev F.FIELD_BUS_BST2_FACTOR (b : Nat) : Fld := ⟨0x186010 + 0x20 * b, 15, 0⟩

def fieldRows0 : List RegRow := [
  ⟨0x180000, 1, 0x1000000, 6, 0x1000, 0x0, 0x0, 0x0, 0x0, 0x0, 0x7⟩, -- FIELD_AXa_CMD
  ⟨0x180004, 1, 0x1000000, 6, 0x1000, 0x0, 0x0, 0x0, 0x0, 0x0, 0x0⟩, -- FIELD_AXa_CMDST
  ⟨0x180008, 1, 0x1000000, 6, 0x1000, 0x10000, 0x0, 0x0, 0x0, 0x733F7, 0x0⟩, -- FIELD_AXa_CFG
  ⟨0x18000C, 1, 0x1000000, 6, 0x1000, 0x3FFFFFFF, 0x0, 0x0, 0x0, 0x3FFFFFFF, 0x0⟩, -- FIELD_AXa_HB
  ⟨0x180010, 1, 0x1000000, 6, 0x1000, 0x180, 0x0, 0x0, 0x0, 0x0, 0x0⟩, -- FIELD_AXa_STAT
  ⟨0x180014, 1, 0x1000000, 6, 0x1000, 0x0, 0x0, 0xFF, 0x0, 0x0, 0x0⟩, -- FIELD_AXa_EVT
  ⟨0x180018, 1, 0x1000000, 6, 0x1000, 0x0, 0xFF, 0x0, 0x0, 0x0, 0x0⟩, -- FIELD_AXa_IEN
  ⟨0x18001C, 1, 0x1000000, 6, 0x1000, 0x0, 0xFFFF, 0x0, 0x0, 0x0, 0x0⟩, -- FIELD_AXa_SPSET
  ⟨0x180020, 1, 0x1000000, 6, 0x1000, 0x0, 0xFFFFFFFF, 0x0, 0x0, 0x0, 0x0⟩, -- FIELD_AXa_TSET
  ⟨0x180024, 1, 0x1000000, 6, 0x1000, 0x100, 0xFFFFFF, 0x0, 0x0, 0x0, 0x0⟩, -- FIELD_AXa_RAMP
  ⟨0x180028, 1, 0x1000000, 6, 0x1000, 0x12710, 0x0, 0x0, 0x0, 0x1FFFFF, 0x0⟩, -- FIELD_AXa_SCALE
  ⟨0x18002C, 1, 0x1000000, 6, 0x1000, 0x0, 0x0, 0x0, 0x0, 0xFFFF, 0x0⟩, -- FIELD_AXa_MOT
  ⟨0x180030, 1, 0x1000000, 6, 0x1000, 0x80007FFF, 0xFFFFFFFF, 0x0, 0x0, 0x0, 0x0⟩, -- FIELD_AXa_ILIM
  ⟨0x180034, 1, 0x1000000, 6, 0x1000, 0x49E77FFF, 0xFFFFFFFF, 0x0, 0x0, 0x0, 0x0⟩, -- FIELD_AXa_FW
  ⟨0x180038, 1, 0x1000000, 6, 0x1000, 0x27100CCD, 0xFFFFFFFF, 0x0, 0x0, 0x0, 0x0⟩, -- FIELD_AXa_REV
  ⟨0x18003C, 1, 0x1000000, 6, 0x1000, 0x1007FFF, 0x0, 0x0, 0xFFFFFFFF, 0x0, 0x0⟩, -- FIELD_AXa_WATCH
  ⟨0x180040, 1, 0x1000000, 6, 0x1000, 0x4, 0x0, 0x0, 0x0, 0xFFFF0007, 0x0⟩, -- FIELD_AXa_ANG
  ⟨0x180044, 1, 0x1000000, 6, 0x1000, 0x6660333, 0xFFFFFFFF, 0x0, 0x0, 0x0, 0x0⟩, -- FIELD_AXa_HFI
  ⟨0x180048, 1, 0x1000000, 6, 0x1000, 0x640, 0x0, 0x0, 0x0, 0xFFFFFFF3, 0x0⟩, -- FIELD_AXa_ALIGN
  ⟨0x18004C, 1, 0x1000000, 6, 0x1000, 0x100100, 0xFFFFFFFF, 0x0, 0x0, 0x0, 0x0⟩, -- FIELD_AXa_CATCH
  ⟨0x180050, 1, 0x1000000, 6, 0x1000, 0x0, 0x0, 0x0, 0x0, 0x0, 0x0⟩, -- FIELD_AXa_CATCHST
  ⟨0x180054, 1, 0x1000000, 6, 0x1000, 0x0, 0x0, 0x0, 0x0, 0x0, 0x0⟩, -- FIELD_AXa_CATCHAMP
  ⟨0x180058, 1, 0x1000000, 6, 0x1000, 0x0, 0x0, 0x0, 0x0, 0xF3F0F3F, 0x0⟩, -- FIELD_AXa_CURTRK
  ⟨0x18005C, 1, 0x1000000, 6, 0x1000, 0x0, 0x0, 0x0, 0x0, 0x1F3F, 0x0⟩ -- FIELD_AXa_SPDTRK
  ]
def fieldRows1 : List RegRow := [
  ⟨0x180060, 1, 0x1000000, 6, 0x1000, 0x0, 0x0, 0x0, 0x0, 0xFF3F, 0x0⟩, -- FIELD_AXa_OBSTRK
  ⟨0x180064, 1, 0x1000000, 6, 0x1000, 0x2D80014, 0x0, 0x0, 0x0, 0xFFFFFFFF, 0x0⟩, -- FIELD_AXa_GRID
  ⟨0x180068, 1, 0x1000000, 6, 0x1000, 0x0, 0x0, 0x0, 0x0, 0x0, 0x0⟩, -- FIELD_AXa_GRIDST
  ⟨0x18006C, 1, 0x1000000, 6, 0x1000, 0x7FFF, 0x0, 0x0, 0xFFFF, 0x0, 0x0⟩, -- FIELD_AXa_ELIM
  ⟨0x180070, 1, 0x1000000, 6, 0x1000, 0x0, 0x0, 0x0, 0x0, 0x0, 0x0⟩, -- FIELD_AXa_OUT
  ⟨0x180074, 1, 0x1000000, 6, 0x1000, 0x7FFF0000, 0x0, 0x0, 0x0, 0x0, 0x0⟩, -- FIELD_AXa_TOUT
  ⟨0x180100, 6, 0x1000, 33, 0x4, 0x0, 0xFFFFFFFF, 0x0, 0x0, 0x0, 0x0⟩, -- FIELD_AXa_MTPAi
  ⟨0x180200, 6, 0x1000, 33, 0x4, 0x0, 0xFFFF, 0x0, 0x0, 0x0, 0x0⟩, -- FIELD_AXa_FWTi
  ⟨0x186000, 1, 0x1000000, 3, 0x20, 0x0, 0x0, 0x0, 0xFFFFFFFF, 0x0, 0x0⟩, -- FIELD_BUSb_BATT
  ⟨0x186004, 1, 0x1000000, 3, 0x20, 0x64050000, 0x0, 0x0, 0xFFFFFF03, 0x0, 0x0⟩, -- FIELD_BUSb_BCFG
  ⟨0x186008, 1, 0x1000000, 3, 0x20, 0x0, 0xFFFF, 0x0, 0x0, 0x0, 0x0⟩, -- FIELD_BUSb_BTEMP
  ⟨0x18600C, 1, 0x1000000, 3, 0x20, 0x10000, 0x0, 0x0, 0x0, 0x0, 0x0⟩, -- FIELD_BUSb_BST
  ⟨0x186010, 1, 0x1000000, 3, 0x20, 0x0, 0x0, 0x0, 0x0, 0x0, 0x0⟩ -- FIELD_BUSb_BST2
  ]
/-- The registers of the block, tables 10-10, 10-11 of spec/. -/
def fieldRows : List RegRow := fieldRows0 ++ fieldRows1

end Sys2Proof.Machine
end

