-- ==== Sys2Proof/Machine/MapFlume.lean ====
section
/-! DEFINITION. The register fields of Flume, one name per field of the register maps of spec/, and one row per register:
its reset value and which of its bits carry which access code (R7, Table 0-6). A name drops the lower-case instance
letters of the manual and takes the instance numbers as arguments. -/

namespace Sys2Proof.Machine

abbrev F.FLUME_FL_CTRL_START (n : Nat) : Fld := ⟨0x90000 + 0x40 * n, 0, 0⟩
abbrev F.FLUME_FL_CTRL_ABORT (n : Nat) : Fld := ⟨0x90000 + 0x40 * n, 1, 1⟩
abbrev F.FLUME_FL_CFG_EN (n : Nat) : Fld := ⟨0x90004 + 0x40 * n, 0, 0⟩
abbrev F.FLUME_FL_CFG_PRIO (n : Nat) : Fld := ⟨0x90004 + 0x40 * n, 4, 4⟩
abbrev F.FLUME_FL_HEAD (n : Nat) : Fld := ⟨0x90008 + 0x40 * n, 31, 5⟩
abbrev F.FLUME_FL_DB (n : Nat) : Fld := ⟨0x9000C + 0x40 * n, 0, 0⟩
abbrev F.FLUME_FL_STAT_STATE (n : Nat) : Fld := ⟨0x90010 + 0x40 * n, 2, 0⟩
abbrev F.FLUME_FL_STAT_CODE (n : Nat) : Fld := ⟨0x90010 + 0x40 * n, 7, 4⟩
abbrev F.FLUME_FL_STAT_ABRES (n : Nat) : Fld := ⟨0x90010 + 0x40 * n, 9, 8⟩
abbrev F.FLUME_FL_STAT_DBPEND (n : Nat) : Fld := ⟨0x90010 + 0x40 * n, 10, 10⟩
abbrev F.FLUME_FL_CUR (n : Nat) : Fld := ⟨0x90014 + 0x40 * n, 31, 0⟩
abbrev F.FLUME_FL_REMAIN (n : Nat) : Fld := ⟨0x90018 + 0x40 * n, 23, 0⟩
abbrev F.FLUME_FL_CRC (n : Nat) : Fld := ⟨0x9001C + 0x40 * n, 31, 0⟩
abbrev F.FLUME_FL_EVT_ERR (n : Nat) : Fld := ⟨0x90020 + 0x40 * n, 0, 0⟩
abbrev F.FLUME_FL_EVT_STARTDROP (n : Nat) : Fld := ⟨0x90020 + 0x40 * n, 1, 1⟩
abbrev F.FLUME_FL_EVT_DBNOP (n : Nat) : Fld := ⟨0x90020 + 0x40 * n, 2, 2⟩
abbrev F.FLUME_FL_EVT_LATE (n : Nat) : Fld := ⟨0x90020 + 0x40 * n, 3, 3⟩
abbrev F.FLUME_FL_EVT_WRREF (n : Nat) : Fld := ⟨0x90020 + 0x40 * n, 4, 4⟩
abbrev F.FLUME_FL_IEN (n : Nat) : Fld := ⟨0x90024 + 0x40 * n, 4, 0⟩
abbrev F.FLUME_FL_DCNT (n : Nat) : Fld := ⟨0x90028 + 0x40 * n, 31, 0⟩
abbrev F.FLUME_GSTAT_RUN : Fld := ⟨0x90800, 15, 0⟩
abbrev F.FLUME_GSTAT_ERR : Fld := ⟨0x90800, 31, 16⟩
abbrev F.FLUME_GSTAT2_ENDED : Fld := ⟨0x90804, 15, 0⟩

def flumeRows0 : List RegRow := [
  ⟨0x90000, 1, 0x1000000, 16, 0x40, 0x0, 0x0, 0x0, 0x0, 0x0, 0x3⟩, -- FLUME_FLn_CTRL
  ⟨0x90004, 1, 0x1000000, 16, 0x40, 0x0, 0x1, 0x0, 0x0, 0x10, 0x0⟩, -- FLUME_FLn_CFG
  ⟨0x90008, 1, 0x1000000, 16, 0x40, 0x0, 0x0, 0x0, 0x0, 0xFFFFFFE0, 0x0⟩, -- FLUME_FLn_HEAD
  ⟨0x9000C, 1, 0x1000000, 16, 0x40, 0x0, 0x0, 0x0, 0x0, 0x0, 0x1⟩, -- FLUME_FLn_DB
  ⟨0x90010, 1, 0x1000000, 16, 0x40, 0x0, 0x0, 0x0, 0x0, 0x0, 0x0⟩, -- FLUME_FLn_STAT
  ⟨0x90014, 1, 0x1000000, 16, 0x40, 0x0, 0x0, 0x0, 0x0, 0x0, 0x0⟩, -- FLUME_FLn_CUR
  ⟨0x90018, 1, 0x1000000, 16, 0x40, 0x0, 0x0, 0x0, 0x0, 0x0, 0x0⟩, -- FLUME_FLn_REMAIN
  ⟨0x9001C, 1, 0x1000000, 16, 0x40, 0x0, 0x0, 0x0, 0x0, 0x0, 0x0⟩, -- FLUME_FLn_CRC
  ⟨0x90020, 1, 0x1000000, 16, 0x40, 0x0, 0x0, 0x1F, 0x0, 0x0, 0x0⟩, -- FLUME_FLn_EVT
  ⟨0x90024, 1, 0x1000000, 16, 0x40, 0x0, 0x1F, 0x0, 0x0, 0x0, 0x0⟩, -- FLUME_FLn_IEN
  ⟨0x90028, 1, 0x1000000, 16, 0x40, 0x0, 0x0, 0x0, 0x0, 0x0, 0x0⟩, -- FLUME_FLn_DCNT
  ⟨0x90800, 1, 0x1000000, 1, 0x4, 0x0, 0x0, 0x0, 0x0, 0x0, 0x0⟩, -- FLUME_GSTAT
  ⟨0x90804, 1, 0x1000000, 1, 0x4, 0x0, 0x0, 0x0, 0x0, 0x0, 0x0⟩ -- FLUME_GSTAT2
  ]
/-- The registers of the block, tables 16-7, 16-8 of spec/. -/
def flumeRows : List RegRow := flumeRows0

end Sys2Proof.Machine
end

