-- ==== Sys2Proof/Machine/MapHdr.lean ====
section
/-! DEFINITION. The register fields of Hdr, one name per field of the register maps of spec/, and one row per register:
its reset value and which of its bits carry which access code (R7, Table 0-6). A name drops the lower-case instance
letters of the manual and takes the instance numbers as arguments. -/

namespace Sys2Proof.Machine

abbrev F.HDR_RC_STATUS_PHASE : Fld := ⟨0xAF000, 3, 0⟩
abbrev F.HDR_RC_STATUS_CODE : Fld := ⟨0xAF000, 11, 8⟩
abbrev F.HDR_RC_STATUS_ROLE : Fld := ⟨0xAF000, 13, 12⟩
abbrev F.HDR_RC_STATUS_SINGLE : Fld := ⟨0xAF000, 14, 14⟩
abbrev F.HDR_RC_STATUS_DEGRADED : Fld := ⟨0xAF000, 15, 15⟩
abbrev F.HDR_RC_STATUS_HOLD : Fld := ⟨0xAF000, 19, 16⟩
abbrev F.HDR_RC_STATUS_RDY_OFFS : Fld := ⟨0xAF000, 20, 20⟩
abbrev F.HDR_RC_STATUS_RDY_PUMP : Fld := ⟨0xAF000, 21, 21⟩
abbrev F.HDR_RC_STATUS_RDY_ORPHAN : Fld := ⟨0xAF000, 22, 22⟩
abbrev F.HDR_RC_STATUS_RDY_CHK : Fld := ⟨0xAF000, 23, 23⟩
abbrev F.HDR_RC_STATUS_RDY_TMON : Fld := ⟨0xAF000, 24, 24⟩
abbrev F.HDR_RC_STATUS_START_RDY : Fld := ⟨0xAF000, 25, 25⟩
abbrev F.HDR_RC_DIEMAP_EXPECTED : Fld := ⟨0xAF004, 7, 0⟩
abbrev F.HDR_RC_DIEMAP_PRESENT : Fld := ⟨0xAF004, 15, 8⟩
abbrev F.HDR_RC_DIEMAP_MISMATCH : Fld := ⟨0xAF004, 23, 16⟩
abbrev F.HDR_RC_PROTO_OWN : Fld := ⟨0xAF008, 7, 0⟩
abbrev F.HDR_RC_PROTO_PEER : Fld := ⟨0xAF008, 15, 8⟩
abbrev F.HDR_RC_PROTO_AGREED : Fld := ⟨0xAF008, 23, 16⟩
abbrev F.HDR_RC_STRAP_ANCHOR : Fld := ⟨0xAF00C, 0, 0⟩
abbrev F.HDR_RC_STRAP_RCVY_N : Fld := ⟨0xAF00C, 1, 1⟩
abbrev F.HDR_RC_TRC : Fld := ⟨0xAF010, 23, 0⟩
abbrev F.HDR_RC_TSTBY : Fld := ⟨0xAF014, 23, 0⟩
abbrev F.HDR_RC_TRDY : Fld := ⟨0xAF018, 23, 0⟩
abbrev F.HDR_RC_STEP_STEP (i : Nat) : Fld := ⟨0xAF020 + 0x4 * i, 7, 0⟩
abbrev F.HDR_L_STAT_UP (n : Nat) : Fld := ⟨0xA0000 + 0x40 * n, 0, 0⟩
abbrev F.HDR_L_STAT_LOST (n : Nat) : Fld := ⟨0xA0000 + 0x40 * n, 1, 1⟩
abbrev F.HDR_L_STAT_LANES (n : Nat) : Fld := ⟨0xA0000 + 0x40 * n, 6, 4⟩
abbrev F.HDR_L_STAT_ABSENT (n : Nat) : Fld := ⟨0xA0000 + 0x40 * n, 8, 8⟩
abbrev F.HDR_L_RETRY (n : Nat) : Fld := ⟨0xA0004 + 0x40 * n, 31, 0⟩
abbrev F.HDR_L_CRCERR (n : Nat) : Fld := ⟨0xA0008 + 0x40 * n, 31, 0⟩
abbrev F.HDR_L_DELAY (n : Nat) : Fld := ⟨0xA000C + 0x40 * n, 11, 0⟩
abbrev F.HDR_OWN_OWNER : Fld := ⟨0xA0200, 5, 0⟩
abbrev F.HDR_OWN_ORPHAN : Fld := ⟨0xA0200, 13, 8⟩
abbrev F.HDR_OWN_MINE : Fld := ⟨0xA0200, 21, 16⟩
abbrev F.HDR_OWNCFG_C1 : Fld := ⟨0xA0204, 5, 0⟩
abbrev F.HDR_HO_CMD_DIE : Fld := ⟨0xA0210, 2, 0⟩
abbrev F.HDR_HO_CMD_OP : Fld := ⟨0xA0210, 5, 4⟩
abbrev F.HDR_HO_STAT_STATE : Fld := ⟨0xA0214, 3, 0⟩
abbrev F.HDR_HO_STAT_CODE : Fld := ⟨0xA0214, 11, 8⟩
abbrev F.HDR_HO_STAT_DIE : Fld := ⟨0xA0214, 14, 12⟩
abbrev F.HDR_HO_STAT_DONE : Fld := ⟨0xA0214, 16, 16⟩
abbrev F.HDR_HO_TB : Fld := ⟨0xA0218, 31, 0⟩
abbrev F.HDR_ACCERR_CODE : Fld := ⟨0xA0220, 3, 0⟩
abbrev F.HDR_ACCERR_DIE : Fld := ⟨0xA0220, 6, 4⟩
abbrev F.HDR_ACCERR_WRITE : Fld := ⟨0xA0220, 8, 8⟩
abbrev F.HDR_ACCERR_RSTAT : Fld := ⟨0xA0220, 15, 12⟩
abbrev F.HDR_ACCADDR : Fld := ⟨0xA0224, 31, 0⟩
abbrev F.HDR_TSYNC_SLIP : Fld := ⟨0xA0230, 7, 0⟩
abbrev F.HDR_ERR_WRREF : Fld := ⟨0xA0240, 0, 0⟩

def hdrRows0 : List RegRow := [
  ⟨0xAF000, 1, 0x1000000, 1, 0x4, 0x0, 0x0, 0x0, 0x0, 0x0, 0x0⟩, -- HDR_RC_STATUS
  ⟨0xAF004, 1, 0x1000000, 1, 0x4, 0x0, 0x0, 0x0, 0x0, 0x0, 0x0⟩, -- HDR_RC_DIEMAP
  ⟨0xAF008, 1, 0x1000000, 1, 0x4, 0x0, 0x0, 0x0, 0x0, 0x0, 0x0⟩, -- HDR_RC_PROTO
  ⟨0xAF00C, 1, 0x1000000, 1, 0x4, 0x0, 0x0, 0x0, 0x0, 0x0, 0x0⟩, -- HDR_RC_STRAP
  ⟨0xAF010, 1, 0x1000000, 1, 0x4, 0x0, 0x0, 0x0, 0x0, 0x0, 0x0⟩, -- HDR_RC_TRC
  ⟨0xAF014, 1, 0x1000000, 1, 0x4, 0x0, 0x0, 0x0, 0x0, 0x0, 0x0⟩, -- HDR_RC_TSTBY
  ⟨0xAF018, 1, 0x1000000, 1, 0x4, 0x0, 0x0, 0x0, 0x0, 0x0, 0x0⟩, -- HDR_RC_TRDY
  ⟨0xAF020, 1, 0x1000000, 8, 0x4, 0x0, 0x0, 0x0, 0x0, 0x0, 0x0⟩, -- HDR_RC_STEPi
  ⟨0xA0000, 1, 0x1000000, 7, 0x40, 0x0, 0x0, 0x2, 0x0, 0x0, 0x0⟩, -- HDR_Ln_STAT
  ⟨0xA0004, 1, 0x1000000, 7, 0x40, 0x0, 0x0, 0x0, 0x0, 0x0, 0x0⟩, -- HDR_Ln_RETRY
  ⟨0xA0008, 1, 0x1000000, 7, 0x40, 0x0, 0x0, 0x0, 0x0, 0x0, 0x0⟩, -- HDR_Ln_CRCERR
  ⟨0xA000C, 1, 0x1000000, 7, 0x40, 0x0, 0x0, 0x0, 0x0, 0x0, 0x0⟩, -- HDR_Ln_DELAY
  ⟨0xA0200, 1, 0x1000000, 1, 0x4, 0x0, 0x0, 0x0, 0x0, 0x0, 0x0⟩, -- HDR_OWN
  ⟨0xA0204, 1, 0x1000000, 1, 0x4, 0x0, 0x0, 0x0, 0x3F, 0x0, 0x0⟩, -- HDR_OWNCFG
  ⟨0xA0210, 1, 0x1000000, 1, 0x4, 0x0, 0x0, 0x0, 0x37, 0x0, 0x0⟩, -- HDR_HO_CMD
  ⟨0xA0214, 1, 0x1000000, 1, 0x4, 0x0, 0x0, 0x10000, 0x0, 0x0, 0x0⟩, -- HDR_HO_STAT
  ⟨0xA0218, 1, 0x1000000, 1, 0x4, 0x0, 0x0, 0x0, 0x0, 0x0, 0x0⟩, -- HDR_HO_TB
  ⟨0xA0220, 1, 0x1000000, 1, 0x4, 0x0, 0x0, 0x0, 0x0, 0x0, 0x0⟩, -- HDR_ACCERR
  ⟨0xA0224, 1, 0x1000000, 1, 0x4, 0x0, 0x0, 0x0, 0x0, 0x0, 0x0⟩, -- HDR_ACCADDR
  ⟨0xA0230, 1, 0x1000000, 1, 0x4, 0x0, 0x0, 0xFF, 0x0, 0x0, 0x0⟩, -- HDR_TSYNC
  ⟨0xA0240, 1, 0x1000000, 1, 0x4, 0x0, 0x0, 0x1, 0x0, 0x0, 0x0⟩ -- HDR_ERR
  ]
/-- The registers of the block, tables 4-6, 6-8 of spec/. -/
def hdrRows : List RegRow := hdrRows0

end Sys2Proof.Machine
end

