-- ==== Sys2Proof/Machine/MapLib.lean ====
section
/-! DEFINITION. The register fields of Lib, one name per field of the register maps of spec/, and one row per register:
its reset value and which of its bits carry which access code (R7, Table 0-6). A name drops the lower-case instance
letters of the manual and takes the instance numbers as arguments. -/

namespace Sys2Proof.Machine

abbrev F.LIB_STAT_STATE : Fld := ⟨0xB0000, 3, 0⟩
abbrev F.LIB_STAT_SOURCE : Fld := ⟨0xB0000, 7, 4⟩
abbrev F.LIB_STAT_CODE : Fld := ⟨0xB0000, 15, 8⟩
abbrev F.LIB_STAT_FALLBACK : Fld := ⟨0xB0000, 16, 16⟩
abbrev F.LIB_STAT_SET_ASIDE : Fld := ⟨0xB0000, 17, 17⟩
abbrev F.LIB_STAT_WATCH : Fld := ⟨0xB0000, 18, 18⟩
abbrev F.LIB_STAT_K4 : Fld := ⟨0xB0000, 19, 19⟩
abbrev F.LIB_STAT_SINGLE_PLACE : Fld := ⟨0xB0000, 20, 20⟩
abbrev F.LIB_STAT_WRREF : Fld := ⟨0xB0000, 21, 21⟩
abbrev F.LIB_CMD_CMD : Fld := ⟨0xB0004, 3, 0⟩
abbrev F.LIB_CMD_AXSEL : Fld := ⟨0xB0004, 6, 4⟩
abbrev F.LIB_SRC : Fld := ⟨0xB0008, 31, 0⟩
abbrev F.LIB_LEN : Fld := ⟨0xB000C, 17, 0⟩
abbrev F.LIB_ACTVER : Fld := ⟨0xB0010, 31, 0⟩
abbrev F.LIB_PREVVER : Fld := ⟨0xB0014, 31, 0⟩
abbrev F.LIB_UDVER : Fld := ⟨0xB0018, 31, 0⟩
abbrev F.LIB_SCHEMA_LIB : Fld := ⟨0xB001C, 15, 0⟩
abbrev F.LIB_SCHEMA_SET : Fld := ⟨0xB001C, 31, 16⟩
abbrev F.LIB_WATCH_REMAIN : Fld := ⟨0xB0020, 15, 0⟩
abbrev F.LIB_WATCH_WIN : Fld := ⟨0xB0020, 31, 16⟩
abbrev F.LIB_AXST : Fld := ⟨0xB0024, 23, 0⟩
abbrev F.LIB_RELST_AX : Fld := ⟨0xB0028, 2, 0⟩
abbrev F.LIB_RELST_STAGED : Fld := ⟨0xB0028, 3, 3⟩
abbrev F.LIB_RELST_APPLIED : Fld := ⟨0xB0028, 4, 4⟩
abbrev F.LIB_RELST_CODE : Fld := ⟨0xB0028, 15, 8⟩
abbrev F.LIB_ERRSEC_INDEX : Fld := ⟨0xB002C, 15, 0⟩
abbrev F.LIB_ERRSEC_TYPE : Fld := ⟨0xB002C, 31, 16⟩
abbrev F.LIB_TAPPLY : Fld := ⟨0xB0030, 23, 0⟩
abbrev F.LIB_TK_ADDR : Fld := ⟨0xB0100, 31, 0⟩
abbrev F.LIB_TK_KEY : Fld := ⟨0xB0104, 31, 0⟩
abbrev F.LIB_TK_STAT_SEQ : Fld := ⟨0xB0108, 15, 0⟩
abbrev F.LIB_TK_STAT_ARMED : Fld := ⟨0xB0108, 16, 16⟩
abbrev F.LIB_TK_STAT_CODE : Fld := ⟨0xB0108, 23, 20⟩

def libRows0 : List RegRow := [
  ⟨0xB0000, 1, 0x1000000, 1, 0x4, 0x0, 0x0, 0x200000, 0x0, 0x0, 0x0⟩, -- LIB_STAT
  ⟨0xB0004, 1, 0x1000000, 1, 0x4, 0x0, 0x0, 0x0, 0x7F, 0x0, 0x0⟩, -- LIB_CMD
  ⟨0xB0008, 1, 0x1000000, 1, 0x4, 0x20000000, 0xFFFFFFFF, 0x0, 0x0, 0x0, 0x0⟩, -- LIB_SRC
  ⟨0xB000C, 1, 0x1000000, 1, 0x4, 0x0, 0x3FFFF, 0x0, 0x0, 0x0, 0x0⟩, -- LIB_LEN
  ⟨0xB0010, 1, 0x1000000, 1, 0x4, 0x0, 0x0, 0x0, 0x0, 0x0, 0x0⟩, -- LIB_ACTVER
  ⟨0xB0014, 1, 0x1000000, 1, 0x4, 0x0, 0x0, 0x0, 0x0, 0x0, 0x0⟩, -- LIB_PREVVER
  ⟨0xB0018, 1, 0x1000000, 1, 0x4, 0x0, 0x0, 0x0, 0x0, 0x0, 0x0⟩, -- LIB_UDVER
  ⟨0xB001C, 1, 0x1000000, 1, 0x4, 0x0, 0x0, 0x0, 0x0, 0x0, 0x0⟩, -- LIB_SCHEMA
  ⟨0xB0020, 1, 0x1000000, 1, 0x4, 0x0, 0x0, 0x0, 0x0, 0x0, 0x0⟩, -- LIB_WATCH
  ⟨0xB0024, 1, 0x1000000, 1, 0x4, 0x0, 0x0, 0x0, 0x0, 0x0, 0x0⟩, -- LIB_AXST
  ⟨0xB0028, 1, 0x1000000, 1, 0x4, 0x0, 0x0, 0x10, 0x0, 0x0, 0x0⟩, -- LIB_RELST
  ⟨0xB002C, 1, 0x1000000, 1, 0x4, 0x0, 0x0, 0x0, 0x0, 0x0, 0x0⟩, -- LIB_ERRSEC
  ⟨0xB0030, 1, 0x1000000, 1, 0x4, 0x0, 0x0, 0x0, 0x0, 0x0, 0x0⟩, -- LIB_TAPPLY
  ⟨0xB0100, 1, 0x1000000, 1, 0x4, 0x0, 0x0, 0x0, 0x0, 0x0, 0xFFFFFFFF⟩, -- LIB_TK_ADDR
  ⟨0xB0104, 1, 0x1000000, 1, 0x4, 0x0, 0x0, 0x0, 0x0, 0x0, 0xFFFFFFFF⟩, -- LIB_TK_KEY
  ⟨0xB0108, 1, 0x1000000, 1, 0x4, 0x0, 0x0, 0x0, 0x0, 0x0, 0x0⟩ -- LIB_TK_STAT
  ]
/-- The registers of the block, tables 5-9 of spec/. -/
def libRows : List RegRow := libRows0

end Sys2Proof.Machine
end

