-- ==== Sys2Proof/Machine/MapLoop.lean ====
section
/-! DEFINITION. The register fields of Loop, one name per field of the register maps of spec/, and one row per register:
its reset value and which of its bits carry which access code (R7, Table 0-6). A name drops the lower-case instance
letters of the manual and takes the instance numbers as arguments. -/

namespace Sys2Proof.Machine

abbrev F.LOOP_LE_CTRL_START (n : Nat) : Fld := ⟨0x140000 + 0x400 * n, 0, 0⟩
abbrev F.LOOP_LE_CTRL_SWAP (n : Nat) : Fld := ⟨0x140000 + 0x400 * n, 1, 1⟩
abbrev F.LOOP_LE_CTRL_HOLDK (n : Nat) : Fld := ⟨0x140000 + 0x400 * n, 2, 2⟩
abbrev F.LOOP_LE_CFG_MODE (n : Nat) : Fld := ⟨0x140004 + 0x400 * n, 1, 0⟩
abbrev F.LOOP_LE_CFG_TRIG (n : Nat) : Fld := ⟨0x140004 + 0x400 * n, 3, 2⟩
abbrev F.LOOP_LE_CFG_SHIFT (n : Nat) : Fld := ⟨0x140004 + 0x400 * n, 7, 4⟩
abbrev F.LOOP_LE_CFG_TRIGD (n : Nat) : Fld := ⟨0x140004 + 0x400 * n, 10, 8⟩
abbrev F.LOOP_LE_CFG_SPTRK (n : Nat) : Fld := ⟨0x140004 + 0x400 * n, 11, 11⟩
abbrev F.LOOP_LE_CFG_SPPORT (n : Nat) : Fld := ⟨0x140004 + 0x400 * n, 14, 12⟩
abbrev F.LOOP_LE_CFG_FBPORT (n : Nat) : Fld := ⟨0x140004 + 0x400 * n, 18, 16⟩
abbrev F.LOOP_LE_CFG_LEN (n : Nat) : Fld := ⟨0x140004 + 0x400 * n, 31, 24⟩
abbrev F.LOOP_LE_PER_PER (n : Nat) : Fld := ⟨0x140008 + 0x400 * n, 15, 0⟩
abbrev F.LOOP_LE_PER_PH (n : Nat) : Fld := ⟨0x140008 + 0x400 * n, 31, 16⟩
abbrev F.LOOP_LE_STAT_RUN (n : Nat) : Fld := ⟨0x14000C + 0x400 * n, 0, 0⟩
abbrev F.LOOP_LE_STAT_WAIT (n : Nat) : Fld := ⟨0x14000C + 0x400 * n, 1, 1⟩
abbrev F.LOOP_LE_STAT_BANK (n : Nat) : Fld := ⟨0x14000C + 0x400 * n, 2, 2⟩
abbrev F.LOOP_LE_STAT_MIRROR (n : Nat) : Fld := ⟨0x14000C + 0x400 * n, 3, 3⟩
abbrev F.LOOP_LE_STAT_PU (n : Nat) : Fld := ⟨0x14000C + 0x400 * n, 13, 8⟩
abbrev F.LOOP_LE_STAT_INCLAMP (n : Nat) : Fld := ⟨0x14000C + 0x400 * n, 31, 16⟩
abbrev F.LOOP_LE_EVT_OVERRUN (n : Nat) : Fld := ⟨0x140010 + 0x400 * n, 0, 0⟩
abbrev F.LOOP_LE_EVT_SAT (n : Nat) : Fld := ⟨0x140010 + 0x400 * n, 1, 1⟩
abbrev F.LOOP_LE_EVT_ACCSAT (n : Nat) : Fld := ⟨0x140010 + 0x400 * n, 2, 2⟩
abbrev F.LOOP_LE_EVT_WAITTMO (n : Nat) : Fld := ⟨0x140010 + 0x400 * n, 3, 3⟩
abbrev F.LOOP_LE_EVT_FERR (n : Nat) : Fld := ⟨0x140010 + 0x400 * n, 4, 4⟩
abbrev F.LOOP_LE_EVT_ECCCOR (n : Nat) : Fld := ⟨0x140010 + 0x400 * n, 5, 5⟩
abbrev F.LOOP_LE_EVT_ECCFAULT (n : Nat) : Fld := ⟨0x140010 + 0x400 * n, 6, 6⟩
abbrev F.LOOP_LE_EVT_HANDED (n : Nat) : Fld := ⟨0x140010 + 0x400 * n, 7, 7⟩
abbrev F.LOOP_LE_EVT_WRREF (n : Nat) : Fld := ⟨0x140010 + 0x400 * n, 8, 8⟩
abbrev F.LOOP_LE_EVT_CLRREF (n : Nat) : Fld := ⟨0x140010 + 0x400 * n, 9, 9⟩
abbrev F.LOOP_LE_EVT_MIRRERR (n : Nat) : Fld := ⟨0x140010 + 0x400 * n, 10, 10⟩
abbrev F.LOOP_LE_EVT_CFGERR (n : Nat) : Fld := ⟨0x140010 + 0x400 * n, 11, 11⟩
abbrev F.LOOP_LE_IEN (n : Nat) : Fld := ⟨0x140014 + 0x400 * n, 11, 0⟩
abbrev F.LOOP_LE_RUNCYC_LAST (n : Nat) : Fld := ⟨0x140018 + 0x400 * n, 15, 0⟩
abbrev F.LOOP_LE_RUNCYC_MAX (n : Nat) : Fld := ⟨0x140018 + 0x400 * n, 31, 16⟩
abbrev F.LOOP_LE_OVRCNT (n : Nat) : Fld := ⟨0x14001C + 0x400 * n, 15, 0⟩
abbrev F.LOOP_LE_WAITTMO (n : Nat) : Fld := ⟨0x140020 + 0x400 * n, 15, 0⟩
abbrev F.LOOP_LE_FERR_LIMIT (n : Nat) : Fld := ⟨0x140024 + 0x400 * n, 15, 0⟩
abbrev F.LOOP_LE_FERR_WREG (n : Nat) : Fld := ⟨0x140024 + 0x400 * n, 20, 16⟩
abbrev F.LOOP_LE_FERR_EN (n : Nat) : Fld := ⟨0x140024 + 0x400 * n, 24, 24⟩
abbrev F.LOOP_LE_FERRT_TIME (n : Nat) : Fld := ⟨0x140028 + 0x400 * n, 15, 0⟩
abbrev F.LOOP_LE_FERRT_ELAPSED (n : Nat) : Fld := ⟨0x140028 + 0x400 * n, 31, 16⟩
abbrev F.LOOP_LE_TWIN (n : Nat) : Fld := ⟨0x14002C + 0x400 * n, 5, 0⟩
abbrev F.LOOP_LE_ACCLO (n : Nat) : Fld := ⟨0x140030 + 0x400 * n, 31, 0⟩
abbrev F.LOOP_LE_ACCHI (n : Nat) : Fld := ⟨0x140034 + 0x400 * n, 7, 0⟩
abbrev F.LOOP_LE_IN_SRC (n p : Nat) : Fld := ⟨0x140040 + 0x400 * n + 0x4 * p, 9, 0⟩
abbrev F.LOOP_LE_IN_EN (n p : Nat) : Fld := ⟨0x140040 + 0x400 * n + 0x4 * p, 16, 16⟩
abbrev F.LOOP_LE_OUT_DST (n q : Nat) : Fld := ⟨0x140060 + 0x400 * n + 0x4 * q, 9, 0⟩
abbrev F.LOOP_LE_OUT_EN (n q : Nat) : Fld := ⟨0x140060 + 0x400 * n + 0x4 * q, 16, 16⟩
abbrev F.LOOP_LE_COEF (n k : Nat) : Fld := ⟨0x140100 + 0x400 * n + 0x4 * k, 15, 0⟩
abbrev F.LOOP_LE_W (n w : Nat) : Fld := ⟨0x140200 + 0x400 * n + 0x4 * w, 15, 0⟩
abbrev F.LOOP_LE_SLO (n s : Nat) : Fld := ⟨0x140280 + 0x400 * n + 0x8 * s, 31, 0⟩
abbrev F.LOOP_LE_SHI (n s : Nat) : Fld := ⟨0x140284 + 0x400 * n + 0x8 * s, 7, 0⟩
abbrev F.LOOP_LE_ILIM_LO (n s : Nat) : Fld := ⟨0x140300 + 0x400 * n + 0x4 * s, 15, 0⟩
abbrev F.LOOP_LE_ILIM_HI (n s : Nat) : Fld := ⟨0x140300 + 0x400 * n + 0x4 * s, 31, 16⟩
abbrev F.LOOP_LE_LAT (n p : Nat) : Fld := ⟨0x140340 + 0x400 * n + 0x4 * p, 15, 0⟩
abbrev F.LOOP_WR_CFG_EN (w : Nat) : Fld := ⟨0x150000 + 0x100 * w, 0, 0⟩
abbrev F.LOOP_WR_CFG_INEN (w : Nat) : Fld := ⟨0x150000 + 0x100 * w, 7, 4⟩
abbrev F.LOOP_WR_CFG_MANEN (w : Nat) : Fld := ⟨0x150000 + 0x100 * w, 8, 8⟩
abbrev F.LOOP_WR_CFG_DOWNEN (w : Nat) : Fld := ⟨0x150000 + 0x100 * w, 9, 9⟩
abbrev F.LOOP_WR_CFG_DWEIR (w : Nat) : Fld := ⟨0x150000 + 0x100 * w, 21, 16⟩
abbrev F.LOOP_WR_CFG_DIN (w : Nat) : Fld := ⟨0x150000 + 0x100 * w, 23, 22⟩
abbrev F.LOOP_WR_MAN_VALUE (w : Nat) : Fld := ⟨0x150004 + 0x100 * w, 15, 0⟩
abbrev F.LOOP_WR_OUT_VALUE (w : Nat) : Fld := ⟨0x150008 + 0x100 * w, 15, 0⟩
abbrev F.LOOP_WR_OUT_SEL (w : Nat) : Fld := ⟨0x150008 + 0x100 * w, 17, 16⟩
abbrev F.LOOP_WR_OUT_EMPTY (w : Nat) : Fld := ⟨0x150008 + 0x100 * w, 18, 18⟩
abbrev F.LOOP_WR_OUT_MANUAL (w : Nat) : Fld := ⟨0x150008 + 0x100 * w, 19, 19⟩
abbrev F.LOOP_WR_OUT_TRKDOWN (w : Nat) : Fld := ⟨0x150008 + 0x100 * w, 20, 20⟩
abbrev F.LOOP_WR_EVT_SELCHG (w : Nat) : Fld := ⟨0x15000C + 0x100 * w, 0, 0⟩
abbrev F.LOOP_WR_EVT_STALE (w : Nat) : Fld := ⟨0x15000C + 0x100 * w, 1, 1⟩
abbrev F.LOOP_WR_EVT_WRREF (w : Nat) : Fld := ⟨0x15000C + 0x100 * w, 2, 2⟩
abbrev F.LOOP_WR_IEN (w : Nat) : Fld := ⟨0x150010 + 0x100 * w, 2, 0⟩
abbrev F.LOOP_WR_IN_CFG_ENG (w j : Nat) : Fld := ⟨0x150020 + 0x100 * w + 0x8 * j, 5, 0⟩
abbrev F.LOOP_WR_IN_CFG_SLOT (w j : Nat) : Fld := ⟨0x150020 + 0x100 * w + 0x8 * j, 11, 8⟩
abbrev F.LOOP_WR_IN_CFG_TRK (w j : Nat) : Fld := ⟨0x150020 + 0x100 * w + 0x8 * j, 12, 12⟩
abbrev F.LOOP_WR_IN_CFG_STALE (w j : Nat) : Fld := ⟨0x150020 + 0x100 * w + 0x8 * j, 31, 16⟩
abbrev F.LOOP_WR_IN_VAL_Y (w j : Nat) : Fld := ⟨0x150024 + 0x100 * w + 0x8 * j, 15, 0⟩
abbrev F.LOOP_WR_IN_VAL_P (w j : Nat) : Fld := ⟨0x150024 + 0x100 * w + 0x8 * j, 31, 16⟩
abbrev F.LOOP_WR_IN_FB_FALLBACK (w j : Nat) : Fld := ⟨0x150040 + 0x100 * w + 0x4 * j, 15, 0⟩
abbrev F.LOOP_CH_CFG_WRITER (c : Nat) : Fld := ⟨0x158000 + 0x8 * c, 6, 0⟩
abbrev F.LOOP_CH_CFG_MIRROR (c : Nat) : Fld := ⟨0x158000 + 0x8 * c, 8, 8⟩
abbrev F.LOOP_CH_VAL_VALUE (c : Nat) : Fld := ⟨0x158004 + 0x8 * c, 15, 0⟩
abbrev F.LOOP_CH_VAL_SEQ (c : Nat) : Fld := ⟨0x158004 + 0x8 * c, 23, 16⟩
abbrev F.LOOP_SP (k : Nat) : Fld := ⟨0x159000 + 0x4 * k, 15, 0⟩
abbrev F.LOOP_GSTAT_US : Fld := ⟨0x15A000, 5, 0⟩
abbrev F.LOOP_GSTAT_NO_US : Fld := ⟨0x15A000, 6, 6⟩
abbrev F.LOOP_GSTAT_COPYING : Fld := ⟨0x15A000, 7, 7⟩
abbrev F.LOOP_RETIRED0 : Fld := ⟨0x15A004, 31, 0⟩
abbrev F.LOOP_RETIRED1 : Fld := ⟨0x15A008, 31, 0⟩
abbrev F.LOOP_GEVT_ROTATED : Fld := ⟨0x15A00C, 0, 0⟩
abbrev F.LOOP_GEVT_RETIRE : Fld := ⟨0x15A00C, 1, 1⟩
abbrev F.LOOP_GEVT_ROTDEFER : Fld := ⟨0x15A00C, 2, 2⟩
abbrev F.LOOP_GEVT_WRREF : Fld := ⟨0x15A00C, 3, 3⟩
abbrev F.LOOP_GIEN : Fld := ⟨0x15A010, 3, 0⟩

def loopRows0 : List RegRow := [
  ⟨0x140000, 1, 0x1000000, 64, 0x400, 0x0, 0x4, 0x0, 0x0, 0x0, 0x3⟩, -- LOOP_LEn_CTRL
  ⟨0x140004, 1, 0x1000000, 64, 0x400, 0x0, 0x3, 0x0, 0x0, 0xFF077FFC, 0x0⟩, -- LOOP_LEn_CFG
  ⟨0x140008, 1, 0x1000000, 64, 0x400, 0x0, 0x0, 0x0, 0x0, 0xFFFFFFFF, 0x0⟩, -- LOOP_LEn_PER
  ⟨0x14000C, 1, 0x1000000, 64, 0x400, 0x0, 0x0, 0x0, 0x0, 0x0, 0x0⟩, -- LOOP_LEn_STAT
  ⟨0x140010, 1, 0x1000000, 64, 0x400, 0x0, 0x0, 0xFFF, 0x0, 0x0, 0x0⟩, -- LOOP_LEn_EVT
  ⟨0x140014, 1, 0x1000000, 64, 0x400, 0x0, 0xFFF, 0x0, 0x0, 0x0, 0x0⟩, -- LOOP_LEn_IEN
  ⟨0x140018, 1, 0x1000000, 64, 0x400, 0x0, 0xFFFF0000, 0x0, 0x0, 0x0, 0x0⟩, -- LOOP_LEn_RUNCYC
  ⟨0x14001C, 1, 0x1000000, 64, 0x400, 0x0, 0x0, 0x0, 0x0, 0x0, 0x0⟩, -- LOOP_LEn_OVRCNT
  ⟨0x140020, 1, 0x1000000, 64, 0x400, 0x190, 0xFFFF, 0x0, 0x0, 0x0, 0x0⟩, -- LOOP_LEn_WAITTMO
  ⟨0x140024, 1, 0x1000000, 64, 0x400, 0x7FFF, 0x0, 0x0, 0x11FFFFF, 0x0, 0x0⟩, -- LOOP_LEn_FERR
  ⟨0x140028, 1, 0x1000000, 64, 0x400, 0x64, 0x0, 0x0, 0xFFFF, 0x0, 0x0⟩, -- LOOP_LEn_FERRT
  ⟨0x14002C, 1, 0x1000000, 64, 0x400, 0x0, 0x0, 0x0, 0x0, 0x3F, 0x0⟩, -- LOOP_LEn_TWIN
  ⟨0x140030, 1, 0x1000000, 64, 0x400, 0x0, 0x0, 0x0, 0x0, 0x0, 0x0⟩, -- LOOP_LEn_ACCLO
  ⟨0x140034, 1, 0x1000000, 64, 0x400, 0x0, 0x0, 0x0, 0x0, 0x0, 0x0⟩, -- LOOP_LEn_ACCHI
  ⟨0x140040, 64, 0x400, 8, 0x4, 0x0, 0x0, 0x0, 0x0, 0x103FF, 0x0⟩, -- LOOP_LEn_INp
  ⟨0x140060, 64, 0x400, 8, 0x4, 0x0, 0x0, 0x0, 0x0, 0x103FF, 0x0⟩, -- LOOP_LEn_OUTq
  ⟨0x140100, 64, 0x400, 64, 0x4, 0x0, 0xFFFF, 0x0, 0x0, 0x0, 0x0⟩, -- LOOP_LEn_COEFk
  ⟨0x140200, 64, 0x400, 32, 0x4, 0x0, 0x0, 0x0, 0x0, 0x0, 0x0⟩, -- LOOP_LEn_Ww
  ⟨0x140280, 64, 0x400, 16, 0x8, 0x0, 0xFFFFFFFF, 0x0, 0x0, 0x0, 0x0⟩, -- LOOP_LEn_SsLO
  ⟨0x140284, 64, 0x400, 16, 0x8, 0x0, 0xFF, 0x0, 0x0, 0x0, 0x0⟩, -- LOOP_LEn_SsHI
  ⟨0x140300, 64, 0x400, 16, 0x4, 0x7FFF8000, 0xFFFFFFFF, 0x0, 0x0, 0x0, 0x0⟩, -- LOOP_LEn_ILIMs
  ⟨0x140340, 64, 0x400, 8, 0x4, 0x0, 0x0, 0x0, 0x0, 0x0, 0x0⟩, -- LOOP_LEn_LATp
  ⟨0x150000, 1, 0x1000000, 64, 0x100, 0x0, 0x101, 0x0, 0x0, 0xFF02F0, 0x0⟩, -- LOOP_WRw_CFG
  ⟨0x150004, 1, 0x1000000, 64, 0x100, 0x0, 0xFFFF, 0x0, 0x0, 0x0, 0x0⟩ -- LOOP_WRw_MAN
  ]
def loopRows1 : List RegRow := [
  ⟨0x150008, 1, 0x1000000, 64, 0x100, 0x47FFF, 0x0, 0x0, 0x0, 0x0, 0x0⟩, -- LOOP_WRw_OUT
  ⟨0x15000C, 1, 0x1000000, 64, 0x100, 0x0, 0x0, 0x7, 0x0, 0x0, 0x0⟩, -- LOOP_WRw_EVT
  ⟨0x150010, 1, 0x1000000, 64, 0x100, 0x0, 0x7, 0x0, 0x0, 0x0, 0x0⟩, -- LOOP_WRw_IEN
  ⟨0x150020, 64, 0x100, 4, 0x8, 0x0, 0x0, 0x0, 0x0, 0xFFFF1F3F, 0x0⟩, -- LOOP_WRw_INj_CFG
  ⟨0x150024, 64, 0x100, 4, 0x8, 0x7FFF, 0x0, 0x0, 0x0, 0x0, 0x0⟩, -- LOOP_WRw_INj_VAL
  ⟨0x150040, 64, 0x100, 4, 0x4, 0x0, 0x0, 0x0, 0x0, 0xFFFF, 0x0⟩, -- LOOP_WRw_INj_FB
  ⟨0x158000, 1, 0x1000000, 256, 0x8, 0x7F, 0x0, 0x0, 0x0, 0x17F, 0x0⟩, -- LOOP_CHc_CFG
  ⟨0x158004, 1, 0x1000000, 256, 0x8, 0x0, 0xFFFF, 0x0, 0x0, 0x0, 0x0⟩, -- LOOP_CHc_VAL
  ⟨0x159000, 1, 0x1000000, 32, 0x4, 0x0, 0xFFFF, 0x0, 0x0, 0x0, 0x0⟩, -- LOOP_SPk
  ⟨0x15A000, 1, 0x1000000, 1, 0x4, 0x3F, 0x0, 0x0, 0x0, 0x0, 0x0⟩, -- LOOP_GSTAT
  ⟨0x15A004, 1, 0x1000000, 1, 0x4, 0x0, 0x0, 0x0, 0x0, 0x0, 0x0⟩, -- LOOP_RETIRED0
  ⟨0x15A008, 1, 0x1000000, 1, 0x4, 0x0, 0x0, 0x0, 0x0, 0x0, 0x0⟩, -- LOOP_RETIRED1
  ⟨0x15A00C, 1, 0x1000000, 1, 0x4, 0x0, 0x0, 0xF, 0x0, 0x0, 0x0⟩, -- LOOP_GEVT
  ⟨0x15A010, 1, 0x1000000, 1, 0x4, 0x0, 0xF, 0x0, 0x0, 0x0, 0x0⟩, -- LOOP_GIEN
  ⟨0x160000, 1, 0x1000000, 16384, 0x4, 0x80000000, 0xFFFFFFFF, 0x0, 0x0, 0x0, 0x0⟩ -- program words, R242
  ]
/-- The registers of the block, tables 9-9, 9-10, 9-11 of spec/. -/
def loopRows : List RegRow := loopRows0 ++ loopRows1

end Sys2Proof.Machine
end

