-- ==== Sys2Proof/Machine/MapNvm.lean ====
section
/-! DEFINITION. The register fields of Nvm, one name per field of the register maps of spec/, and one row per register:
its reset value and which of its bits carry which access code (R7, Table 0-6). A name drops the lower-case instance
letters of the manual and takes the instance numbers as arguments. -/

namespace Sys2Proof.Machine

abbrev F.NVM_ST_BUSY : Fld := ⟨0x60000, 0, 0⟩
abbrev F.NVM_ST_OP : Fld := ⟨0x60000, 7, 4⟩
abbrev F.NVM_ST_CODE : Fld := ⟨0x60000, 12, 8⟩
abbrev F.NVM_EVT_DONE : Fld := ⟨0x60004, 0, 0⟩
abbrev F.NVM_EVT_REFUSED : Fld := ⟨0x60004, 1, 1⟩
abbrev F.NVM_EVT_WRFAIL : Fld := ⟨0x60004, 2, 2⟩
abbrev F.NVM_EVT_COMPLETE : Fld := ⟨0x60004, 3, 3⟩
abbrev F.NVM_EVT_WRREF : Fld := ⟨0x60004, 4, 4⟩
abbrev F.NVM_IEN : Fld := ⟨0x60008, 4, 0⟩
abbrev F.NVM_WRSRC : Fld := ⟨0x60010, 31, 0⟩
abbrev F.NVM_WRDST : Fld := ⟨0x60014, 31, 0⟩
abbrev F.NVM_WRLEN : Fld := ⟨0x60018, 16, 0⟩
abbrev F.NVM_WRCMD_GO : Fld := ⟨0x6001C, 0, 0⟩
abbrev F.NVM_WRCMD_COMMIT : Fld := ⟨0x6001C, 1, 1⟩
abbrev F.NVM_SETST_BANK : Fld := ⟨0x60020, 0, 0⟩
abbrev F.NVM_SETST_VALID : Fld := ⟨0x60020, 2, 1⟩
abbrev F.NVM_SETST_SCHEMA : Fld := ⟨0x60020, 31, 16⟩
abbrev F.NVM_SETSEQ : Fld := ⟨0x60024, 31, 0⟩
abbrev F.NVM_UPCMD_OP : Fld := ⟨0x60100, 2, 0⟩
abbrev F.NVM_UPCMD_INDEX : Fld := ⟨0x60100, 26, 16⟩
abbrev F.NVM_UPSRC : Fld := ⟨0x60104, 31, 0⟩
abbrev F.NVM_UPST_STATE : Fld := ⟨0x60108, 2, 0⟩
abbrev F.NVM_UPST_RESUMED : Fld := ⟨0x60108, 4, 4⟩
abbrev F.NVM_UPCNT_PRESENT : Fld := ⟨0x6010C, 10, 0⟩
abbrev F.NVM_UPCNT_NCHUNK : Fld := ⟨0x6010C, 26, 16⟩
abbrev F.NVM_UPMISS : Fld := ⟨0x60110, 10, 0⟩
abbrev F.NVM_UPARM_GO : Fld := ⟨0x60114, 0, 0⟩
abbrev F.NVM_UPVER : Fld := ⟨0x60118, 31, 0⟩
abbrev F.NVM_ACTVER : Fld := ⟨0x6011C, 31, 0⟩
abbrev F.NVM_ACTINFO_PROTO : Fld := ⟨0x60120, 7, 0⟩
abbrev F.NVM_ACTINFO_PEER_MIN : Fld := ⟨0x60120, 15, 8⟩
abbrev F.NVM_ACTINFO_PEER_MAX : Fld := ⟨0x60120, 23, 16⟩
abbrev F.NVM_ACTINFO_SEC_VER : Fld := ⟨0x60120, 31, 24⟩
abbrev F.NVM_JRNL_STATE : Fld := ⟨0x60124, 1, 0⟩
abbrev F.NVM_JRNL_RCAUSE : Fld := ⟨0x60124, 7, 4⟩
abbrev F.NVM_JRNL_RESTARTS : Fld := ⟨0x60124, 15, 8⟩
abbrev F.NVM_JRNL_COPYTIME : Fld := ⟨0x60124, 31, 16⟩
abbrev F.NVM_UPMAP (j : Nat) : Fld := ⟨0x60200 + 0x4 * j, 31, 0⟩

def nvmRows0 : List RegRow := [
  ⟨0x60000, 1, 0x1000000, 1, 0x4, 0x0, 0x0, 0x0, 0x0, 0x0, 0x0⟩, -- NVM_ST
  ⟨0x60004, 1, 0x1000000, 1, 0x4, 0x0, 0x0, 0x1F, 0x0, 0x0, 0x0⟩, -- NVM_EVT
  ⟨0x60008, 1, 0x1000000, 1, 0x4, 0x0, 0x1F, 0x0, 0x0, 0x0, 0x0⟩, -- NVM_IEN
  ⟨0x60010, 1, 0x1000000, 1, 0x4, 0x20000000, 0xFFFFFFFF, 0x0, 0x0, 0x0, 0x0⟩, -- NVM_WRSRC
  ⟨0x60014, 1, 0x1000000, 1, 0x4, 0x10B81000, 0xFFFFFFFF, 0x0, 0x0, 0x0, 0x0⟩, -- NVM_WRDST
  ⟨0x60018, 1, 0x1000000, 1, 0x4, 0x0, 0x1FFFF, 0x0, 0x0, 0x0, 0x0⟩, -- NVM_WRLEN
  ⟨0x6001C, 1, 0x1000000, 1, 0x4, 0x0, 0x0, 0x0, 0x0, 0x0, 0x3⟩, -- NVM_WRCMD
  ⟨0x60020, 1, 0x1000000, 1, 0x4, 0x0, 0x0, 0x0, 0x0, 0x0, 0x0⟩, -- NVM_SETST
  ⟨0x60024, 1, 0x1000000, 1, 0x4, 0x0, 0x0, 0x0, 0x0, 0x0, 0x0⟩, -- NVM_SETSEQ
  ⟨0x60100, 1, 0x1000000, 1, 0x4, 0x0, 0x0, 0x0, 0x0, 0x0, 0x7FF0007⟩, -- NVM_UPCMD
  ⟨0x60104, 1, 0x1000000, 1, 0x4, 0x20000000, 0xFFFFFFFF, 0x0, 0x0, 0x0, 0x0⟩, -- NVM_UPSRC
  ⟨0x60108, 1, 0x1000000, 1, 0x4, 0x0, 0x0, 0x0, 0x0, 0x0, 0x0⟩, -- NVM_UPST
  ⟨0x6010C, 1, 0x1000000, 1, 0x4, 0x0, 0x0, 0x0, 0x0, 0x0, 0x0⟩, -- NVM_UPCNT
  ⟨0x60110, 1, 0x1000000, 1, 0x4, 0x0, 0x0, 0x0, 0x0, 0x0, 0x0⟩, -- NVM_UPMISS
  ⟨0x60114, 1, 0x1000000, 1, 0x4, 0x0, 0x0, 0x0, 0x1, 0x0, 0x0⟩, -- NVM_UPARM
  ⟨0x60118, 1, 0x1000000, 1, 0x4, 0x0, 0x0, 0x0, 0x0, 0x0, 0x0⟩, -- NVM_UPVER
  ⟨0x6011C, 1, 0x1000000, 1, 0x4, 0x0, 0x0, 0x0, 0x0, 0x0, 0x0⟩, -- NVM_ACTVER
  ⟨0x60120, 1, 0x1000000, 1, 0x4, 0x0, 0x0, 0x0, 0x0, 0x0, 0x0⟩, -- NVM_ACTINFO
  ⟨0x60124, 1, 0x1000000, 1, 0x4, 0x0, 0x0, 0x0, 0x0, 0x0, 0x0⟩, -- NVM_JRNL
  ⟨0x60200, 1, 0x1000000, 40, 0x4, 0x0, 0x0, 0x0, 0x0, 0x0, 0x0⟩ -- NVM_UPMAPj
  ]
/-- The registers of the block, tables 19-12 of spec/. -/
def nvmRows : List RegRow := nvmRows0

end Sys2Proof.Machine
end

