-- ==== Sys2Proof/Machine/MapPrompt.lean ====
section
/-! DEFINITION. The register fields of Prompt, one name per field of the register maps of spec/, and one row per register:
its reset value and which of its bits carry which access code (R7, Table 0-6). A name drops the lower-case instance
letters of the manual and takes the instance numbers as arguments. -/

namespace Sys2Proof.Machine

abbrev F.PROMPT_CTRL_FLUSH : Fld := ⟨0x50000, 0, 0⟩
abbrev F.PROMPT_STAT_FLUSHING : Fld := ⟨0x50004, 0, 0⟩
abbrev F.PROMPT_STAT_BLOCKED : Fld := ⟨0x50004, 1, 1⟩
abbrev F.PROMPT_STAT_UNFL : Fld := ⟨0x50004, 27, 16⟩
abbrev F.PROMPT_RING_HEAD : Fld := ⟨0x50008, 12, 0⟩
abbrev F.PROMPT_RING_OLDEST : Fld := ⟨0x50008, 28, 16⟩
abbrev F.PROMPT_MLOG_MHEAD : Fld := ⟨0x5000C, 14, 0⟩
abbrev F.PROMPT_MLOG_MCNT : Fld := ⟨0x5000C, 30, 16⟩
abbrev F.PROMPT_LGFILL : Fld := ⟨0x50010, 11, 0⟩
abbrev F.PROMPT_LOSTCNT : Fld := ⟨0x50014, 15, 0⟩
abbrev F.PROMPT_OPTLO : Fld := ⟨0x50018, 31, 0⟩
abbrev F.PROMPT_OPTHI : Fld := ⟨0x5001C, 7, 0⟩
abbrev F.PROMPT_PCYCLE : Fld := ⟨0x50020, 23, 0⟩
abbrev F.PROMPT_FLTH : Fld := ⟨0x50024, 11, 0⟩
abbrev F.PROMPT_FLST_TIME : Fld := ⟨0x50028, 15, 0⟩
abbrev F.PROMPT_FLST_DEST : Fld := ⟨0x50028, 17, 16⟩
abbrev F.PROMPT_CLR_GO : Fld := ⟨0x5002C, 0, 0⟩
abbrev F.PROMPT_CLRST_CODE : Fld := ⟨0x50030, 3, 0⟩
abbrev F.PROMPT_EVT_FLUSHDONE : Fld := ⟨0x50034, 0, 0⟩
abbrev F.PROMPT_EVT_LOST : Fld := ⟨0x50034, 1, 1⟩
abbrev F.PROMPT_EVT_LGFULL : Fld := ⟨0x50034, 2, 2⟩
abbrev F.PROMPT_EVT_BLOCKED : Fld := ⟨0x50034, 3, 3⟩
abbrev F.PROMPT_EVT_REFMISS : Fld := ⟨0x50034, 4, 4⟩
abbrev F.PROMPT_EVT_REFEARLY : Fld := ⟨0x50034, 5, 5⟩
abbrev F.PROMPT_EVT_TICKLOST : Fld := ⟨0x50034, 6, 6⟩
abbrev F.PROMPT_EVT_WRREF : Fld := ⟨0x50034, 7, 7⟩
abbrev F.PROMPT_EVT_CLRREF : Fld := ⟨0x50034, 8, 8⟩
abbrev F.PROMPT_IEN : Fld := ⟨0x50038, 8, 0⟩
abbrev F.PROMPT_SWREC_CODE : Fld := ⟨0x50040, 11, 0⟩
abbrev F.PROMPT_SWREC_SEV : Fld := ⟨0x50040, 14, 12⟩
abbrev F.PROMPT_SWREC_GO : Fld := ⟨0x50040, 15, 15⟩
abbrev F.PROMPT_SWREC_INST : Fld := ⟨0x50040, 23, 16⟩
abbrev F.PROMPT_SWPAY (k : Nat) : Fld := ⟨0x50044 + 0x4 * k, 31, 0⟩
abbrev F.PROMPT_FCFG_SRC : Fld := ⟨0x50100, 0, 0⟩
abbrev F.PROMPT_FCFG_CAN : Fld := ⟨0x50100, 5, 4⟩
abbrev F.PROMPT_FPER : Fld := ⟨0x50104, 16, 0⟩
abbrev F.PROMPT_FTMO : Fld := ⟨0x50108, 16, 0⟩
abbrev F.PROMPT_FSTAT_FREE : Fld := ⟨0x5010C, 0, 0⟩
abbrev F.PROMPT_FSTAT_LOCAL : Fld := ⟨0x5010C, 1, 1⟩
abbrev F.PROMPT_FNUM : Fld := ⟨0x50110, 31, 0⟩
abbrev F.PROMPT_SHDR_SEQ : Fld := ⟨0x50200, 15, 0⟩
abbrev F.PROMPT_SHDR_CYC : Fld := ⟨0x50200, 21, 16⟩
abbrev F.PROMPT_SHDR_FREE : Fld := ⟨0x50200, 24, 24⟩
abbrev F.PROMPT_SHDR_LOCAL : Fld := ⟨0x50200, 25, 25⟩
abbrev F.PROMPT_SLEN : Fld := ⟨0x50204, 16, 0⟩
abbrev F.PROMPT_SA_DROP (a : Nat) : Fld := ⟨0x50210 + 0x20 * a, 31, 0⟩
abbrev F.PROMPT_SA_STR_STRETCH (a : Nat) : Fld := ⟨0x50214 + 0x20 * a, 15, 0⟩
abbrev F.PROMPT_SA_STR_FORCED (a : Nat) : Fld := ⟨0x50214 + 0x20 * a, 31, 16⟩
abbrev F.PROMPT_SA_ENG_OVR (a : Nat) : Fld := ⟨0x50218 + 0x20 * a, 15, 0⟩
abbrev F.PROMPT_SA_ENG_WAITTMO (a : Nat) : Fld := ⟨0x50218 + 0x20 * a, 31, 16⟩
abbrev F.PROMPT_SA_RUN_RUNMAX (a : Nat) : Fld := ⟨0x5021C + 0x20 * a, 15, 0⟩
abbrev F.PROMPT_SA_RUN_SELCHG (a : Nat) : Fld := ⟨0x5021C + 0x20 * a, 31, 16⟩
abbrev F.PROMPT_SA_IPK_PEAK (a : Nat) : Fld := ⟨0x50220 + 0x20 * a, 15, 0⟩
abbrev F.PROMPT_SA_IPK_SC (a : Nat) : Fld := ⟨0x50220 + 0x20 * a, 31, 16⟩
abbrev F.PROMPT_SA_CLAMP (a : Nat) : Fld := ⟨0x50224 + 0x20 * a, 31, 0⟩
abbrev F.PROMPT_SB_V_VMIN (b : Nat) : Fld := ⟨0x502D0 + 0x10 * b, 15, 0⟩
abbrev F.PROMPT_SB_V_VMAX (b : Nat) : Fld := ⟨0x502D0 + 0x10 * b, 31, 16⟩
abbrev F.PROMPT_SB_VAVG (b : Nat) : Fld := ⟨0x502D4 + 0x10 * b, 15, 0⟩
abbrev F.PROMPT_SD_HDR_RETRY : Fld := ⟨0x50300, 15, 0⟩
abbrev F.PROMPT_SD_HDR_CRCERR : Fld := ⟨0x50300, 31, 16⟩
abbrev F.PROMPT_SD_MISC_CUELATE : Fld := ⟨0x50304, 15, 0⟩
abbrev F.PROMPT_SD_MISC_ECCCOR : Fld := ⟨0x50304, 31, 16⟩
abbrev F.PROMPT_SD_TMAX : Fld := ⟨0x50308, 15, 0⟩
abbrev F.PROMPT_LIVE_SHDR_SEQ : Fld := ⟨0x50400, 15, 0⟩
abbrev F.PROMPT_LIVE_SHDR_CYC : Fld := ⟨0x50400, 21, 16⟩
abbrev F.PROMPT_LIVE_SHDR_FREE : Fld := ⟨0x50400, 24, 24⟩
abbrev F.PROMPT_LIVE_SHDR_LOCAL : Fld := ⟨0x50400, 25, 25⟩
abbrev F.PROMPT_LIVE_SLEN : Fld := ⟨0x50404, 16, 0⟩
abbrev F.PROMPT_LIVE_SA_DROP (a : Nat) : Fld := ⟨0x50410 + 0x20 * a, 31, 0⟩
abbrev F.PROMPT_LIVE_SA_STR_STRETCH (a : Nat) : Fld := ⟨0x50414 + 0x20 * a, 15, 0⟩
abbrev F.PROMPT_LIVE_SA_STR_FORCED (a : Nat) : Fld := ⟨0x50414 + 0x20 * a, 31, 16⟩
abbrev F.PROMPT_LIVE_SA_ENG_OVR (a : Nat) : Fld := ⟨0x50418 + 0x20 * a, 15, 0⟩
abbrev F.PROMPT_LIVE_SA_ENG_WAITTMO (a : Nat) : Fld := ⟨0x50418 + 0x20 * a, 31, 16⟩
abbrev F.PROMPT_LIVE_SA_RUN_RUNMAX (a : Nat) : Fld := ⟨0x5041C + 0x20 * a, 15, 0⟩
abbrev F.PROMPT_LIVE_SA_RUN_SELCHG (a : Nat) : Fld := ⟨0x5041C + 0x20 * a, 31, 16⟩
abbrev F.PROMPT_LIVE_SA_IPK_PEAK (a : Nat) : Fld := ⟨0x50420 + 0x20 * a, 15, 0⟩
abbrev F.PROMPT_LIVE_SA_IPK_SC (a : Nat) : Fld := ⟨0x50420 + 0x20 * a, 31, 16⟩
abbrev F.PROMPT_LIVE_SA_CLAMP (a : Nat) : Fld := ⟨0x50424 + 0x20 * a, 31, 0⟩
abbrev F.PROMPT_LIVE_SB_V_VMIN (b : Nat) : Fld := ⟨0x504D0 + 0x10 * b, 15, 0⟩
abbrev F.PROMPT_LIVE_SB_V_VMAX (b : Nat) : Fld := ⟨0x504D0 + 0x10 * b, 31, 16⟩
abbrev F.PROMPT_LIVE_SB_VAVG (b : Nat) : Fld := ⟨0x504D4 + 0x10 * b, 15, 0⟩
abbrev F.PROMPT_LIVE_SD_HDR_RETRY : Fld := ⟨0x50500, 15, 0⟩
abbrev F.PROMPT_LIVE_SD_HDR_CRCERR : Fld := ⟨0x50500, 31, 16⟩
abbrev F.PROMPT_LIVE_SD_MISC_CUELATE : Fld := ⟨0x50504, 15, 0⟩
abbrev F.PROMPT_LIVE_SD_MISC_ECCCOR : Fld := ⟨0x50504, 31, 16⟩
abbrev F.PROMPT_LIVE_SD_TMAX : Fld := ⟨0x50508, 15, 0⟩

def promptRows0 : List RegRow := [
  ⟨0x50000, 1, 0x1000000, 1, 0x4, 0x0, 0x0, 0x0, 0x0, 0x0, 0x1⟩, -- PROMPT_CTRL
  ⟨0x50004, 1, 0x1000000, 1, 0x4, 0x0, 0x0, 0x0, 0x0, 0x0, 0x0⟩, -- PROMPT_STAT
  ⟨0x50008, 1, 0x1000000, 1, 0x4, 0x0, 0x0, 0x0, 0x0, 0x0, 0x0⟩, -- PROMPT_RING
  ⟨0x5000C, 1, 0x1000000, 1, 0x4, 0x0, 0x0, 0x0, 0x0, 0x0, 0x0⟩, -- PROMPT_MLOG
  ⟨0x50010, 1, 0x1000000, 1, 0x4, 0x0, 0x0, 0x0, 0x0, 0x0, 0x0⟩, -- PROMPT_LGFILL
  ⟨0x50014, 1, 0x1000000, 1, 0x4, 0x0, 0x0, 0x0, 0x0, 0x0, 0x0⟩, -- PROMPT_LOSTCNT
  ⟨0x50018, 1, 0x1000000, 1, 0x4, 0x0, 0x0, 0x0, 0x0, 0x0, 0x0⟩, -- PROMPT_OPTLO
  ⟨0x5001C, 1, 0x1000000, 1, 0x4, 0x0, 0x0, 0x0, 0x0, 0x0, 0x0⟩, -- PROMPT_OPTHI
  ⟨0x50020, 1, 0x1000000, 1, 0x4, 0x0, 0x0, 0x0, 0x0, 0x0, 0x0⟩, -- PROMPT_PCYCLE
  ⟨0x50024, 1, 0x1000000, 1, 0x4, 0x600, 0x0, 0x0, 0xFFF, 0x0, 0x0⟩, -- PROMPT_FLTH
  ⟨0x50028, 1, 0x1000000, 1, 0x4, 0x0, 0x0, 0x0, 0x0, 0x0, 0x0⟩, -- PROMPT_FLST
  ⟨0x5002C, 1, 0x1000000, 1, 0x4, 0x0, 0x0, 0x0, 0x1, 0x0, 0x0⟩, -- PROMPT_CLR
  ⟨0x50030, 1, 0x1000000, 1, 0x4, 0x0, 0x0, 0x0, 0x0, 0x0, 0x0⟩, -- PROMPT_CLRST
  ⟨0x50034, 1, 0x1000000, 1, 0x4, 0x0, 0x0, 0x1FF, 0x0, 0x0, 0x0⟩, -- PROMPT_EVT
  ⟨0x50038, 1, 0x1000000, 1, 0x4, 0x0, 0x1FF, 0x0, 0x0, 0x0, 0x0⟩, -- PROMPT_IEN
  ⟨0x50040, 1, 0x1000000, 1, 0x4, 0x0, 0xFF7FFF, 0x0, 0x0, 0x0, 0x8000⟩, -- PROMPT_SWREC
  ⟨0x50044, 1, 0x1000000, 4, 0x4, 0x0, 0xFFFFFFFF, 0x0, 0x0, 0x0, 0x0⟩, -- PROMPT_SWPAYk
  ⟨0x50100, 1, 0x1000000, 1, 0x4, 0x0, 0x0, 0x0, 0x31, 0x0, 0x0⟩, -- PROMPT_FCFG
  ⟨0x50104, 1, 0x1000000, 1, 0x4, 0x3E8, 0x0, 0x0, 0x1FFFF, 0x0, 0x0⟩, -- PROMPT_FPER
  ⟨0x50108, 1, 0x1000000, 1, 0x4, 0x7D0, 0x0, 0x0, 0x1FFFF, 0x0, 0x0⟩, -- PROMPT_FTMO
  ⟨0x5010C, 1, 0x1000000, 1, 0x4, 0x0, 0x0, 0x0, 0x0, 0x0, 0x0⟩, -- PROMPT_FSTAT
  ⟨0x50110, 1, 0x1000000, 1, 0x4, 0x0, 0x0, 0x0, 0x0, 0x0, 0x0⟩, -- PROMPT_FNUM
  ⟨0x50200, 1, 0x1000000, 1, 0x4, 0x0, 0x0, 0x0, 0x0, 0x0, 0x0⟩, -- PROMPT_SHDR
  ⟨0x50204, 1, 0x1000000, 1, 0x4, 0x0, 0x0, 0x0, 0x0, 0x0, 0x0⟩ -- PROMPT_SLEN
  ]
def promptRows1 : List RegRow := [
  ⟨0x50210, 1, 0x1000000, 6, 0x20, 0x0, 0x0, 0x0, 0x0, 0x0, 0x0⟩, -- PROMPT_SAa_DROP
  ⟨0x50214, 1, 0x1000000, 6, 0x20, 0x0, 0x0, 0x0, 0x0, 0x0, 0x0⟩, -- PROMPT_SAa_STR
  ⟨0x50218, 1, 0x1000000, 6, 0x20, 0x0, 0x0, 0x0, 0x0, 0x0, 0x0⟩, -- PROMPT_SAa_ENG
  ⟨0x5021C, 1, 0x1000000, 6, 0x20, 0x0, 0x0, 0x0, 0x0, 0x0, 0x0⟩, -- PROMPT_SAa_RUN
  ⟨0x50220, 1, 0x1000000, 6, 0x20, 0x0, 0x0, 0x0, 0x0, 0x0, 0x0⟩, -- PROMPT_SAa_IPK
  ⟨0x50224, 1, 0x1000000, 6, 0x20, 0x0, 0x0, 0x0, 0x0, 0x0, 0x0⟩, -- PROMPT_SAa_CLAMP
  ⟨0x502D0, 1, 0x1000000, 3, 0x10, 0x0, 0x0, 0x0, 0x0, 0x0, 0x0⟩, -- PROMPT_SBb_V
  ⟨0x502D4, 1, 0x1000000, 3, 0x10, 0x0, 0x0, 0x0, 0x0, 0x0, 0x0⟩, -- PROMPT_SBb_VAVG
  ⟨0x50300, 1, 0x1000000, 1, 0x4, 0x0, 0x0, 0x0, 0x0, 0x0, 0x0⟩, -- PROMPT_SD_HDR
  ⟨0x50304, 1, 0x1000000, 1, 0x4, 0x0, 0x0, 0x0, 0x0, 0x0, 0x0⟩, -- PROMPT_SD_MISC
  ⟨0x50308, 1, 0x1000000, 1, 0x4, 0x0, 0x0, 0x0, 0x0, 0x0, 0x0⟩, -- PROMPT_SD_TMAX
  ⟨0x50400, 1, 0x1000000, 1, 0x4, 0x0, 0x0, 0x0, 0x0, 0x0, 0x0⟩, -- PROMPT_SHDR
  ⟨0x50404, 1, 0x1000000, 1, 0x4, 0x0, 0x0, 0x0, 0x0, 0x0, 0x0⟩, -- PROMPT_SLEN (live)
  ⟨0x50410, 1, 0x1000000, 6, 0x20, 0x0, 0x0, 0x0, 0x0, 0x0, 0x0⟩, -- PROMPT_SAa_DROP (live)
  ⟨0x50414, 1, 0x1000000, 6, 0x20, 0x0, 0x0, 0x0, 0x0, 0x0, 0x0⟩, -- PROMPT_SAa_STR
  ⟨0x50418, 1, 0x1000000, 6, 0x20, 0x0, 0x0, 0x0, 0x0, 0x0, 0x0⟩, -- PROMPT_SAa_ENG
  ⟨0x5041C, 1, 0x1000000, 6, 0x20, 0x0, 0x0, 0x0, 0x0, 0x0, 0x0⟩, -- PROMPT_SAa_RUN
  ⟨0x50420, 1, 0x1000000, 6, 0x20, 0x0, 0x0, 0x0, 0x0, 0x0, 0x0⟩, -- PROMPT_SAa_IPK
  ⟨0x50424, 1, 0x1000000, 6, 0x20, 0x0, 0x0, 0x0, 0x0, 0x0, 0x0⟩, -- PROMPT_SAa_CLAMP (live)
  ⟨0x504D0, 1, 0x1000000, 3, 0x10, 0x0, 0x0, 0x0, 0x0, 0x0, 0x0⟩, -- PROMPT_SBb_V
  ⟨0x504D4, 1, 0x1000000, 3, 0x10, 0x0, 0x0, 0x0, 0x0, 0x0, 0x0⟩, -- PROMPT_SBb_VAVG (live)
  ⟨0x50500, 1, 0x1000000, 1, 0x4, 0x0, 0x0, 0x0, 0x0, 0x0, 0x0⟩, -- PROMPT_SD_HDR
  ⟨0x50504, 1, 0x1000000, 1, 0x4, 0x0, 0x0, 0x0, 0x0, 0x0, 0x0⟩, -- PROMPT_SD_MISC
  ⟨0x50508, 1, 0x1000000, 1, 0x4, 0x0, 0x0, 0x0, 0x0, 0x0, 0x0⟩ -- PROMPT_SD_TMAX (live)
  ]
/-- The registers of the block, tables 18-4 of spec/. -/
def promptRows : List RegRow := promptRows0 ++ promptRows1

end Sys2Proof.Machine
end

