-- ==== Sys2Proof/Machine/MapPwm.lean ====
section
/-! DEFINITION. The register fields of Pwm, one name per field of the register maps of spec/, and one row per register:
its reset value and which of its bits carry which access code (R7, Table 0-6). A name drops the lower-case instance
letters of the manual and takes the instance numbers as arguments. -/

namespace Sys2Proof.Machine

abbrev F.PWM_PP_CFG_MODE (k : Nat) : Fld := ⟨0x1C0000 + 0x100 * k, 1, 0⟩
abbrev F.PWM_PP_CFG_LGRP (k : Nat) : Fld := ⟨0x1C0000 + 0x100 * k, 6, 4⟩
abbrev F.PWM_PP_CFG_AX (k : Nat) : Fld := ⟨0x1C0000 + 0x100 * k, 10, 8⟩
abbrev F.PWM_PP_CFG_HB (k : Nat) : Fld := ⟨0x1C0000 + 0x100 * k, 16, 12⟩
abbrev F.PWM_PP_CFG_PULSE (k : Nat) : Fld := ⟨0x1C0000 + 0x100 * k, 20, 20⟩
abbrev F.PWM_PP_CFG_CARM (k : Nat) : Fld := ⟨0x1C0000 + 0x100 * k, 27, 24⟩
abbrev F.PWM_PP_PHASE (k : Nat) : Fld := ⟨0x1C0004 + 0x100 * k, 23, 0⟩
abbrev F.PWM_PP_CMPA (k : Nat) : Fld := ⟨0x1C0008 + 0x100 * k, 29, 0⟩
abbrev F.PWM_PP_CMPB (k : Nat) : Fld := ⟨0x1C000C + 0x100 * k, 29, 0⟩
abbrev F.PWM_PP_ACTA (k : Nat) : Fld := ⟨0x1C0010 + 0x100 * k, 29, 0⟩
abbrev F.PWM_PP_ACTB (k : Nat) : Fld := ⟨0x1C0014 + 0x100 * k, 29, 0⟩
abbrev F.PWM_PP_DTR (k : Nat) : Fld := ⟨0x1C0018 + 0x100 * k, 16, 0⟩
abbrev F.PWM_PP_DTF (k : Nat) : Fld := ⟨0x1C001C + 0x100 * k, 16, 0⟩
abbrev F.PWM_PP_MINP (k : Nat) : Fld := ⟨0x1C0020 + 0x100 * k, 15, 0⟩
abbrev F.PWM_PP_TRIP_MASK (k : Nat) : Fld := ⟨0x1C0024 + 0x100 * k, 3, 0⟩
abbrev F.PWM_PP_STAT_RUN (k : Nat) : Fld := ⟨0x1C0028 + 0x100 * k, 0, 0⟩
abbrev F.PWM_PP_STAT_HS (k : Nat) : Fld := ⟨0x1C0028 + 0x100 * k, 1, 1⟩
abbrev F.PWM_PP_STAT_LS (k : Nat) : Fld := ⟨0x1C0028 + 0x100 * k, 2, 2⟩
abbrev F.PWM_PP_STAT_TRIPPED (k : Nat) : Fld := ⟨0x1C0028 + 0x100 * k, 3, 3⟩
abbrev F.PWM_PP_STAT_MIRROR (k : Nat) : Fld := ⟨0x1C0028 + 0x100 * k, 4, 4⟩
abbrev F.PWM_PP_CNT (k : Nat) : Fld := ⟨0x1C002C + 0x100 * k, 23, 0⟩
abbrev F.PWM_PP_EVT_DROP (k : Nat) : Fld := ⟨0x1C0030 + 0x100 * k, 0, 0⟩
abbrev F.PWM_PP_EVT_STRETCH (k : Nat) : Fld := ⟨0x1C0030 + 0x100 * k, 1, 1⟩
abbrev F.PWM_PP_EVT_FSTRETCH (k : Nat) : Fld := ⟨0x1C0030 + 0x100 * k, 2, 2⟩
abbrev F.PWM_PP_EVT_OVLP (k : Nat) : Fld := ⟨0x1C0030 + 0x100 * k, 3, 3⟩
abbrev F.PWM_PP_EVT_TRIPHIT (k : Nat) : Fld := ⟨0x1C0030 + 0x100 * k, 4, 4⟩
abbrev F.PWM_PP_EVT_CFGERR (k : Nat) : Fld := ⟨0x1C0030 + 0x100 * k, 5, 5⟩
abbrev F.PWM_PP_EVT_WRREF (k : Nat) : Fld := ⟨0x1C0030 + 0x100 * k, 6, 6⟩
abbrev F.PWM_PP_IEN (k : Nat) : Fld := ⟨0x1C0034 + 0x100 * k, 6, 0⟩
abbrev F.PWM_PP_PCNT_DROPCNT (k : Nat) : Fld := ⟨0x1C0038 + 0x100 * k, 15, 0⟩
abbrev F.PWM_PP_PCNT_STRCNT (k : Nat) : Fld := ⟨0x1C0038 + 0x100 * k, 31, 16⟩
abbrev F.PWM_GCTRL_LOADALL : Fld := ⟨0x1C3000, 7, 0⟩
abbrev F.PWM_GEVT_CLR_REFUSED : Fld := ⟨0x1C3004, 0, 0⟩
abbrev F.PWM_GEVT_ENREF : Fld := ⟨0x1C3004, 1, 1⟩
abbrev F.PWM_GEVT_WRREF : Fld := ⟨0x1C3004, 2, 2⟩
abbrev F.PWM_GEVT_LOADWAIT : Fld := ⟨0x1C3004, 3, 3⟩
abbrev F.PWM_GIEN : Fld := ⟨0x1C3008, 3, 0⟩
abbrev F.PWM_AXEN_EN : Fld := ⟨0x1C3010, 5, 0⟩
abbrev F.PWM_ENST_CODE : Fld := ⟨0x1C3014, 3, 0⟩
abbrev F.PWM_ENST_AX : Fld := ⟨0x1C3014, 6, 4⟩
abbrev F.PWM_LG_CFG_EN (g : Nat) : Fld := ⟨0x1C3020 + 0x10 * g, 0, 0⟩
abbrev F.PWM_LG_CFG_SYNCEN (g : Nat) : Fld := ⟨0x1C3020 + 0x10 * g, 1, 1⟩
abbrev F.PWM_LG_CFG_ORG (g : Nat) : Fld := ⟨0x1C3020 + 0x10 * g, 31, 8⟩
abbrev F.PWM_LG_PER (g : Nat) : Fld := ⟨0x1C3024 + 0x10 * g, 23, 0⟩
abbrev F.PWM_LG_ACTPER (g : Nat) : Fld := ⟨0x1C3028 + 0x10 * g, 23, 0⟩
abbrev F.PWM_LG_CNT (g : Nat) : Fld := ⟨0x1C302C + 0x10 * g, 23, 0⟩
abbrev F.PWM_TRIP_CFG_FILT (n : Nat) : Fld := ⟨0x1C30A0 + 0x4 * n, 3, 0⟩
abbrev F.PWM_TRIP_CFG_POL (n : Nat) : Fld := ⟨0x1C30A0 + 0x4 * n, 4, 4⟩
abbrev F.PWM_TRIP_CFG_BLKEN (n : Nat) : Fld := ⟨0x1C30A0 + 0x4 * n, 8, 8⟩
abbrev F.PWM_TRIP_CFG_BLKCH (n : Nat) : Fld := ⟨0x1C30A0 + 0x4 * n, 21, 16⟩
abbrev F.PWM_TRIPST_ACTIVE : Fld := ⟨0x1C30B0, 3, 0⟩
abbrev F.PWM_TRIPST_LATCH : Fld := ⟨0x1C30B0, 11, 8⟩
abbrev F.PWM_TRIPCLR_CLR : Fld := ⟨0x1C30B4, 3, 0⟩
abbrev F.PWM_XMUX_CH (m : Nat) : Fld := ⟨0x1C30C0 + 0x4 * m, 5, 0⟩
abbrev F.PWM_XMUX_EN (m : Nat) : Fld := ⟨0x1C30C0 + 0x4 * m, 8, 8⟩
abbrev F.PWM_XMUX_INV (m : Nat) : Fld := ⟨0x1C30C0 + 0x4 * m, 9, 9⟩

def pwmRows0 : List RegRow := [
  ⟨0x1C0000, 1, 0x1000000, 18, 0x100, 0x1F701, 0x0, 0x0, 0x0, 0xF11F773, 0x0⟩, -- PWM_PPk_CFG
  ⟨0x1C0004, 1, 0x1000000, 18, 0x100, 0x0, 0x0, 0x0, 0x0, 0xFFFFFF, 0x0⟩, -- PWM_PPk_PHASE
  ⟨0x1C0008, 1, 0x1000000, 18, 0x100, 0x0, 0x3FFFFFFF, 0x0, 0x0, 0x0, 0x0⟩, -- PWM_PPk_CMPA
  ⟨0x1C000C, 1, 0x1000000, 18, 0x100, 0x0, 0x3FFFFFFF, 0x0, 0x0, 0x0, 0x0⟩, -- PWM_PPk_CMPB
  ⟨0x1C0010, 1, 0x1000000, 18, 0x100, 0x0, 0x0, 0x0, 0x0, 0x0, 0x0⟩, -- PWM_PPk_ACTA
  ⟨0x1C0014, 1, 0x1000000, 18, 0x100, 0x0, 0x0, 0x0, 0x0, 0x0, 0x0⟩, -- PWM_PPk_ACTB
  ⟨0x1C0018, 1, 0x1000000, 18, 0x100, 0x200, 0x0, 0x0, 0x0, 0x1FFFF, 0x0⟩, -- PWM_PPk_DTR
  ⟨0x1C001C, 1, 0x1000000, 18, 0x100, 0x200, 0x0, 0x0, 0x0, 0x1FFFF, 0x0⟩, -- PWM_PPk_DTF
  ⟨0x1C0020, 1, 0x1000000, 18, 0x100, 0x200, 0x0, 0x0, 0x0, 0xFFFF, 0x0⟩, -- PWM_PPk_MINP
  ⟨0x1C0024, 1, 0x1000000, 18, 0x100, 0xF, 0x0, 0x0, 0xF, 0x0, 0x0⟩, -- PWM_PPk_TRIP
  ⟨0x1C0028, 1, 0x1000000, 18, 0x100, 0x0, 0x0, 0x0, 0x0, 0x0, 0x0⟩, -- PWM_PPk_STAT
  ⟨0x1C002C, 1, 0x1000000, 18, 0x100, 0x0, 0x0, 0x0, 0x0, 0x0, 0x0⟩, -- PWM_PPk_CNT
  ⟨0x1C0030, 1, 0x1000000, 18, 0x100, 0x0, 0x0, 0x7F, 0x0, 0x0, 0x0⟩, -- PWM_PPk_EVT
  ⟨0x1C0034, 1, 0x1000000, 18, 0x100, 0x0, 0x7F, 0x0, 0x0, 0x0, 0x0⟩, -- PWM_PPk_IEN
  ⟨0x1C0038, 1, 0x1000000, 18, 0x100, 0x0, 0x0, 0x0, 0x0, 0x0, 0x0⟩, -- PWM_PPk_PCNT
  ⟨0x1C3000, 1, 0x1000000, 1, 0x4, 0x0, 0xFF, 0x0, 0x0, 0x0, 0x0⟩, -- PWM_GCTRL
  ⟨0x1C3004, 1, 0x1000000, 1, 0x4, 0x0, 0x0, 0xF, 0x0, 0x0, 0x0⟩, -- PWM_GEVT
  ⟨0x1C3008, 1, 0x1000000, 1, 0x4, 0x0, 0xF, 0x0, 0x0, 0x0, 0x0⟩, -- PWM_GIEN
  ⟨0x1C3010, 1, 0x1000000, 1, 0x4, 0x0, 0x3F, 0x0, 0x0, 0x0, 0x0⟩, -- PWM_AXEN
  ⟨0x1C3014, 1, 0x1000000, 1, 0x4, 0x0, 0x0, 0x0, 0x0, 0x0, 0x0⟩, -- PWM_ENST
  ⟨0x1C3020, 1, 0x1000000, 8, 0x10, 0x0, 0x1, 0x0, 0x0, 0xFFFFFF02, 0x0⟩, -- PWM_LGg_CFG
  ⟨0x1C3024, 1, 0x1000000, 8, 0x10, 0x190, 0xFFFFFF, 0x0, 0x0, 0x0, 0x0⟩, -- PWM_LGg_PER
  ⟨0x1C3028, 1, 0x1000000, 8, 0x10, 0x190, 0x0, 0x0, 0x0, 0x0, 0x0⟩, -- PWM_LGg_ACTPER
  ⟨0x1C302C, 1, 0x1000000, 8, 0x10, 0x0, 0x0, 0x0, 0x0, 0x0, 0x0⟩ -- PWM_LGg_CNT
  ]
def pwmRows1 : List RegRow := [
  ⟨0x1C30A0, 1, 0x1000000, 4, 0x4, 0x3, 0x0, 0x0, 0x3F011F, 0x0, 0x0⟩, -- PWM_TRIPn_CFG
  ⟨0x1C30B0, 1, 0x1000000, 1, 0x4, 0x0, 0x0, 0x0, 0x0, 0x0, 0x0⟩, -- PWM_TRIPST
  ⟨0x1C30B4, 1, 0x1000000, 1, 0x4, 0x0, 0x0, 0x0, 0x0, 0x0, 0xF⟩, -- PWM_TRIPCLR
  ⟨0x1C30C0, 1, 0x1000000, 12, 0x4, 0x0, 0x0, 0x0, 0x0, 0x33F, 0x0⟩ -- PWM_XMUXm
  ]
/-- The registers of the block, tables 11-7, 11-8 of spec/. -/
def pwmRows : List RegRow := pwmRows0 ++ pwmRows1

end Sys2Proof.Machine
end

