-- ==== Sys2Proof/Machine/MapSafe.lean ====
section
/-! DEFINITION. The register fields of Safe, one name per field of the register maps of spec/, and one row per register:
its reset value and which of its bits carry which access code (R7, Table 0-6). A name drops the lower-case instance
letters of the manual and takes the instance numbers as arguments. -/

namespace Sys2Proof.Machine

abbrev F.SAFE_CSTAT_AXCUR : Fld := ⟨0x18000, 5, 0⟩
abbrev F.SAFE_CSTAT_PKG : Fld := ⟨0x18000, 8, 8⟩
abbrev F.SAFE_CLR_AX : Fld := ⟨0x18004, 5, 0⟩
abbrev F.SAFE_CLR_PKG : Fld := ⟨0x18004, 8, 8⟩
abbrev F.SAFE_CLRST_CODE : Fld := ⟨0x18008, 3, 0⟩
abbrev F.SAFE_CLRST_AX : Fld := ⟨0x18008, 10, 8⟩
abbrev F.SAFE_REQ_AX : Fld := ⟨0x1800C, 5, 0⟩
abbrev F.SAFE_CEVT_ENTRY : Fld := ⟨0x18010, 0, 0⟩
abbrev F.SAFE_CEVT_RULESW : Fld := ⟨0x18010, 1, 1⟩
abbrev F.SAFE_CEVT_DEGR : Fld := ⟨0x18010, 2, 2⟩
abbrev F.SAFE_CEVT_CLRREF : Fld := ⟨0x18010, 3, 3⟩
abbrev F.SAFE_CEVT_WRREF : Fld := ⟨0x18010, 4, 4⟩
abbrev F.SAFE_CIEN : Fld := ⟨0x18014, 4, 0⟩
abbrev F.SAFE_AX_RULE_MODE (a : Nat) : Fld := ⟨0x18100 + 0x40 * a, 1, 0⟩
abbrev F.SAFE_AX_RULE_SIDE (a : Nat) : Fld := ⟨0x18100 + 0x40 * a, 2, 2⟩
abbrev F.SAFE_AX_RULE_ALTSIDE (a : Nat) : Fld := ⟨0x18100 + 0x40 * a, 3, 3⟩
abbrev F.SAFE_AX_RULE_FALLBACK (a : Nat) : Fld := ⟨0x18100 + 0x40 * a, 4, 4⟩
abbrev F.SAFE_AX_RULE_VTERM (a : Nat) : Fld := ⟨0x18100 + 0x40 * a, 5, 5⟩
abbrev F.SAFE_AX_RULE_SPDSRC (a : Nat) : Fld := ⟨0x18100 + 0x40 * a, 9, 8⟩
abbrev F.SAFE_AX_ASC_ASCSPD (a : Nat) : Fld := ⟨0x18104 + 0x40 * a, 15, 0⟩
abbrev F.SAFE_AX_ASC_ASCHYS (a : Nat) : Fld := ⟨0x18104 + 0x40 * a, 31, 16⟩
abbrev F.SAFE_AX_VMARG (a : Nat) : Fld := ⟨0x18108 + 0x40 * a, 15, 0⟩
abbrev F.SAFE_AX_STAT_STATE (a : Nat) : Fld := ⟨0x1810C + 0x40 * a, 2, 0⟩
abbrev F.SAFE_AX_STAT_RULE (a : Nat) : Fld := ⟨0x1810C + 0x40 * a, 5, 4⟩
abbrev F.SAFE_AX_STAT_DEGR (a : Nat) : Fld := ⟨0x1810C + 0x40 * a, 6, 6⟩
abbrev F.SAFE_AX_STAT_SPDV (a : Nat) : Fld := ⟨0x1810C + 0x40 * a, 7, 7⟩
abbrev F.SAFE_AX_STAT_SPEED (a : Nat) : Fld := ⟨0x1810C + 0x40 * a, 31, 16⟩
abbrev F.SAFE_AX_CAUSE_LATCHED (a : Nat) : Fld := ⟨0x18110 + 0x40 * a, 9, 0⟩
abbrev F.SAFE_AX_CAUSE_ACTIVE (a : Nat) : Fld := ⟨0x18110 + 0x40 * a, 25, 16⟩
abbrev F.SAFE_AX_TENTRY (a : Nat) : Fld := ⟨0x18114 + 0x40 * a, 31, 0⟩
abbrev F.SAFE_AX_ORPH_CMD (a : Nat) : Fld := ⟨0x18118 + 0x40 * a, 1, 0⟩
abbrev F.SAFE_FC_CFG_CLASS (g : Nat) : Fld := ⟨0x10000 + 0x20 * g, 2, 0⟩
abbrev F.SAFE_FC_CFG_DEFER (g : Nat) : Fld := ⟨0x10000 + 0x20 * g, 4, 4⟩
abbrev F.SAFE_FC_CFG_FAULTN (g : Nat) : Fld := ⟨0x10000 + 0x20 * g, 5, 5⟩
abbrev F.SAFE_FC_CFG_AXMASK (g : Nat) : Fld := ⟨0x10000 + 0x20 * g, 13, 8⟩
abbrev F.SAFE_FC_CFG_FTT (g : Nat) : Fld := ⟨0x10000 + 0x20 * g, 31, 16⟩
abbrev F.SAFE_FC_LATLO (g : Nat) : Fld := ⟨0x10004 + 0x20 * g, 31, 0⟩
abbrev F.SAFE_FC_LATHI (g : Nat) : Fld := ⟨0x10008 + 0x20 * g, 31, 0⟩
abbrev F.SAFE_FC_ACTLO (g : Nat) : Fld := ⟨0x1000C + 0x20 * g, 31, 0⟩
abbrev F.SAFE_FC_ACTHI (g : Nat) : Fld := ⟨0x10010 + 0x20 * g, 31, 0⟩
abbrev F.SAFE_FC_TFIRST (g : Nat) : Fld := ⟨0x10014 + 0x20 * g, 31, 0⟩
abbrev F.SAFE_FC_CNT (g : Nat) : Fld := ⟨0x10018 + 0x20 * g, 15, 0⟩
abbrev F.SAFE_FC_PENDLO : Fld := ⟨0x11000, 31, 0⟩
abbrev F.SAFE_FC_PENDHI : Fld := ⟨0x11004, 31, 0⟩
abbrev F.SAFE_FC_DEFLO : Fld := ⟨0x11008, 31, 0⟩
abbrev F.SAFE_FC_DEFHI : Fld := ⟨0x1100C, 31, 0⟩
abbrev F.SAFE_FC_STAT_TOP : Fld := ⟨0x11010, 2, 0⟩
abbrev F.SAFE_FC_STAT_FAULTN : Fld := ⟨0x11010, 3, 3⟩
abbrev F.SAFE_FC_CLR_GROUP : Fld := ⟨0x11014, 5, 0⟩
abbrev F.SAFE_FC_CLR_INST : Fld := ⟨0x11014, 13, 8⟩
abbrev F.SAFE_FC_CLR_ALL : Fld := ⟨0x11014, 16, 16⟩
abbrev F.SAFE_FC_INJ_GROUP : Fld := ⟨0x11018, 5, 0⟩
abbrev F.SAFE_FC_INJ_INST : Fld := ⟨0x11018, 13, 8⟩
abbrev F.SAFE_FC_INJ_GO : Fld := ⟨0x11018, 16, 16⟩
abbrev F.SAFE_FC_SWREP_INST : Fld := ⟨0x1101C, 4, 0⟩
abbrev F.SAFE_FC_SWREP_GO : Fld := ⟨0x1101C, 8, 8⟩
abbrev F.SAFE_FC_ERR_WRREF : Fld := ⟨0x11020, 0, 0⟩
abbrev F.SAFE_FC_ERR_CLRREF : Fld := ⟨0x11020, 1, 1⟩

def safeRows0 : List RegRow := [
  ⟨0x18000, 1, 0x1000000, 1, 0x4, 0x0, 0x0, 0x0, 0x0, 0x0, 0x0⟩, -- SAFE_CSTAT
  ⟨0x18004, 1, 0x1000000, 1, 0x4, 0x0, 0x0, 0x0, 0x13F, 0x0, 0x0⟩, -- SAFE_CLR
  ⟨0x18008, 1, 0x1000000, 1, 0x4, 0x0, 0x0, 0x0, 0x0, 0x0, 0x0⟩, -- SAFE_CLRST
  ⟨0x1800C, 1, 0x1000000, 1, 0x4, 0x0, 0x3F, 0x0, 0x0, 0x0, 0x0⟩, -- SAFE_REQ
  ⟨0x18010, 1, 0x1000000, 1, 0x4, 0x0, 0x0, 0x1F, 0x0, 0x0, 0x0⟩, -- SAFE_CEVT
  ⟨0x18014, 1, 0x1000000, 1, 0x4, 0x0, 0x1F, 0x0, 0x0, 0x0, 0x0⟩, -- SAFE_CIEN
  ⟨0x18100, 1, 0x1000000, 6, 0x40, 0x238, 0x0, 0x0, 0x33F, 0x0, 0x0⟩, -- SAFE_AXa_RULE
  ⟨0x18104, 1, 0x1000000, 6, 0x40, 0x2007FFF, 0x0, 0x0, 0xFFFFFFFF, 0x0, 0x0⟩, -- SAFE_AXa_ASC
  ⟨0x18108, 1, 0x1000000, 6, 0x40, 0x5D1, 0x0, 0x0, 0xFFFF, 0x0, 0x0⟩, -- SAFE_AXa_VMARG
  ⟨0x1810C, 1, 0x1000000, 6, 0x40, 0x0, 0x0, 0x0, 0x0, 0x0, 0x0⟩, -- SAFE_AXa_STAT
  ⟨0x18110, 1, 0x1000000, 6, 0x40, 0x0, 0x0, 0x0, 0x0, 0x0, 0x0⟩, -- SAFE_AXa_CAUSE
  ⟨0x18114, 1, 0x1000000, 6, 0x40, 0x0, 0x0, 0x0, 0x0, 0x0, 0x0⟩, -- SAFE_AXa_TENTRY
  ⟨0x18118, 1, 0x1000000, 6, 0x40, 0x1, 0x0, 0x0, 0x0, 0x0, 0x0⟩, -- SAFE_AXa_ORPH
  ⟨0x10000, 1, 0x1000000, 1, 0x4, 0x23, 0x0, 0x0, 0xFFFF3F37, 0x0, 0x0⟩, -- SAFE_FC_CFG0
  ⟨0x10020, 1, 0x1000000, 1, 0x4, 0x23, 0x0, 0x0, 0xFFFF3F37, 0x0, 0x0⟩, -- SAFE_FC_CFG1
  ⟨0x10040, 1, 0x1000000, 1, 0x4, 0x23, 0x0, 0x0, 0xFFFF3F37, 0x0, 0x0⟩, -- SAFE_FC_CFG2
  ⟨0x10060, 1, 0x1000000, 1, 0x4, 0x23, 0x0, 0x0, 0xFFFF3F37, 0x0, 0x0⟩, -- SAFE_FC_CFG3
  ⟨0x10080, 1, 0x1000000, 1, 0x4, 0x23, 0x0, 0x0, 0xFFFF3F37, 0x0, 0x0⟩, -- SAFE_FC_CFG4
  ⟨0x100A0, 1, 0x1000000, 1, 0x4, 0x1, 0x0, 0x0, 0xFFFF3F37, 0x0, 0x0⟩, -- SAFE_FC_CFG5
  ⟨0x100C0, 1, 0x1000000, 1, 0x4, 0x23, 0x0, 0x0, 0xFFFF3F37, 0x0, 0x0⟩, -- SAFE_FC_CFG6
  ⟨0x100E0, 1, 0x1000000, 1, 0x4, 0x23, 0x0, 0x0, 0xFFFF3F37, 0x0, 0x0⟩, -- SAFE_FC_CFG7
  ⟨0x10100, 1, 0x1000000, 1, 0x4, 0x0, 0x0, 0x0, 0xFFFF3F37, 0x0, 0x0⟩, -- SAFE_FC_CFG8
  ⟨0x10120, 1, 0x1000000, 1, 0x4, 0x1, 0x0, 0x0, 0xFFFF3F37, 0x0, 0x0⟩, -- SAFE_FC_CFG9
  ⟨0x10140, 1, 0x1000000, 1, 0x4, 0x23, 0x0, 0x0, 0xFFFF3F37, 0x0, 0x0⟩ -- SAFE_FC_CFG10
  ]
def safeRows1 : List RegRow := [
  ⟨0x10160, 1, 0x1000000, 1, 0x4, 0x22, 0x0, 0x0, 0xFFFF3F37, 0x0, 0x0⟩, -- SAFE_FC_CFG11
  ⟨0x10180, 1, 0x1000000, 1, 0x4, 0x22, 0x0, 0x0, 0xFFFF3F37, 0x0, 0x0⟩, -- SAFE_FC_CFG12
  ⟨0x101A0, 1, 0x1000000, 1, 0x4, 0x1, 0x0, 0x0, 0xFFFF3F37, 0x0, 0x0⟩, -- SAFE_FC_CFG13
  ⟨0x101C0, 1, 0x1000000, 1, 0x4, 0x22, 0x0, 0x0, 0xFFFF3F37, 0x0, 0x0⟩, -- SAFE_FC_CFG14
  ⟨0x101E0, 1, 0x1000000, 1, 0x4, 0x22, 0x0, 0x0, 0xFFFF3F37, 0x0, 0x0⟩, -- SAFE_FC_CFG15
  ⟨0x10200, 1, 0x1000000, 1, 0x4, 0x1, 0x0, 0x0, 0xFFFF3F37, 0x0, 0x0⟩, -- SAFE_FC_CFG16
  ⟨0x10220, 1, 0x1000000, 1, 0x4, 0x22, 0x0, 0x0, 0xFFFF3F37, 0x0, 0x0⟩, -- SAFE_FC_CFG17
  ⟨0x10240, 1, 0x1000000, 1, 0x4, 0x22, 0x0, 0x0, 0xFFFF3F37, 0x0, 0x0⟩, -- SAFE_FC_CFG18
  ⟨0x10260, 1, 0x1000000, 1, 0x4, 0x1, 0x0, 0x0, 0xFFFF3F37, 0x0, 0x0⟩, -- SAFE_FC_CFG19
  ⟨0x10280, 1, 0x1000000, 1, 0x4, 0x22, 0x0, 0x0, 0xFFFF3F37, 0x0, 0x0⟩, -- SAFE_FC_CFG20
  ⟨0x102A0, 1, 0x1000000, 1, 0x4, 0x22, 0x0, 0x0, 0xFFFF3F37, 0x0, 0x0⟩, -- SAFE_FC_CFG21
  ⟨0x102C0, 1, 0x1000000, 1, 0x4, 0x1, 0x0, 0x0, 0xFFFF3F37, 0x0, 0x0⟩, -- SAFE_FC_CFG22
  ⟨0x102E0, 1, 0x1000000, 1, 0x4, 0x1, 0x0, 0x0, 0xFFFF3F37, 0x0, 0x0⟩, -- SAFE_FC_CFG23
  ⟨0x10300, 1, 0x1000000, 1, 0x4, 0x1, 0x0, 0x0, 0xFFFF3F37, 0x0, 0x0⟩, -- SAFE_FC_CFG24
  ⟨0x10320, 1, 0x1000000, 1, 0x4, 0x1, 0x0, 0x0, 0xFFFF3F37, 0x0, 0x0⟩, -- SAFE_FC_CFG25
  ⟨0x10340, 1, 0x1000000, 1, 0x4, 0x1, 0x0, 0x0, 0xFFFF3F37, 0x0, 0x0⟩, -- SAFE_FC_CFG26
  ⟨0x10360, 1, 0x1000000, 1, 0x4, 0x1, 0x0, 0x0, 0xFFFF3F37, 0x0, 0x0⟩, -- SAFE_FC_CFG27
  ⟨0x10380, 1, 0x1000000, 1, 0x4, 0x1, 0x0, 0x0, 0xFFFF3F37, 0x0, 0x0⟩, -- SAFE_FC_CFG28
  ⟨0x103A0, 1, 0x1000000, 1, 0x4, 0x0, 0x0, 0x0, 0xFFFF3F37, 0x0, 0x0⟩, -- SAFE_FC_CFG29
  ⟨0x103C0, 1, 0x1000000, 1, 0x4, 0x0, 0x0, 0x0, 0xFFFF3F37, 0x0, 0x0⟩, -- SAFE_FC_CFG30
  ⟨0x103E0, 1, 0x1000000, 1, 0x4, 0x22, 0x0, 0x0, 0xFFFF3F37, 0x0, 0x0⟩, -- SAFE_FC_CFG31
  ⟨0x10004, 1, 0x1000000, 32, 0x20, 0x0, 0x0, 0x0, 0x0, 0x0, 0x0⟩, -- SAFE_FC_LATLOg
  ⟨0x10008, 1, 0x1000000, 32, 0x20, 0x0, 0x0, 0x0, 0x0, 0x0, 0x0⟩, -- SAFE_FC_LATHIg
  ⟨0x1000C, 1, 0x1000000, 32, 0x20, 0x0, 0x0, 0x0, 0x0, 0x0, 0x0⟩ -- SAFE_FC_ACTLOg
  ]
def safeRows2 : List RegRow := [
  ⟨0x10010, 1, 0x1000000, 32, 0x20, 0x0, 0x0, 0x0, 0x0, 0x0, 0x0⟩, -- SAFE_FC_ACTHIg
  ⟨0x10014, 1, 0x1000000, 32, 0x20, 0x0, 0x0, 0x0, 0x0, 0x0, 0x0⟩, -- SAFE_FC_TFIRSTg
  ⟨0x10018, 1, 0x1000000, 32, 0x20, 0x0, 0x0, 0x0, 0x0, 0x0, 0x0⟩, -- SAFE_FC_CNTg
  ⟨0x11000, 1, 0x1000000, 1, 0x4, 0x0, 0x0, 0xFFFFFFFF, 0x0, 0x0, 0x0⟩, -- SAFE_FC_PENDLO
  ⟨0x11004, 1, 0x1000000, 1, 0x4, 0x0, 0x0, 0xFFFFFFFF, 0x0, 0x0, 0x0⟩, -- SAFE_FC_PENDHI
  ⟨0x11008, 1, 0x1000000, 1, 0x4, 0x0, 0x0, 0x0, 0x0, 0x0, 0x0⟩, -- SAFE_FC_DEFLO
  ⟨0x1100C, 1, 0x1000000, 1, 0x4, 0x0, 0x0, 0x0, 0x0, 0x0, 0x0⟩, -- SAFE_FC_DEFHI
  ⟨0x11010, 1, 0x1000000, 1, 0x4, 0x0, 0x0, 0x0, 0x0, 0x0, 0x0⟩, -- SAFE_FC_STAT
  ⟨0x11014, 1, 0x1000000, 1, 0x4, 0x0, 0x0, 0x0, 0x13F3F, 0x0, 0x0⟩, -- SAFE_FC_CLR
  ⟨0x11018, 1, 0x1000000, 1, 0x4, 0x0, 0x0, 0x0, 0x13F3F, 0x0, 0x0⟩, -- SAFE_FC_INJ
  ⟨0x1101C, 1, 0x1000000, 1, 0x4, 0x0, 0x11F, 0x0, 0x0, 0x0, 0x0⟩, -- SAFE_FC_SWREP
  ⟨0x11020, 1, 0x1000000, 1, 0x4, 0x0, 0x0, 0x3, 0x0, 0x0, 0x0⟩ -- SAFE_FC_ERR
  ]
/-- The registers of the block, tables 13-8, 14-8 of spec/. -/
def safeRows : List RegRow := safeRows0 ++ safeRows1 ++ safeRows2

end Sys2Proof.Machine
end

