-- ==== Sys2Proof/Machine/MapSec.lean ====
section
/-! DEFINITION. The register fields of Sec, one name per field of the register maps of spec/, and one row per register:
its reset value and which of its bits carry which access code (R7, Table 0-6). A name drops the lower-case instance
letters of the manual and takes the instance numbers as arguments. -/

namespace Sys2Proof.Machine

abbrev F.SEC_LC_STATE : Fld := ⟨0x70000, 2, 0⟩
abbrev F.SEC_LC_PENDING : Fld := ⟨0x70000, 6, 4⟩
abbrev F.SEC_LCCMD_TARGET : Fld := ⟨0x70004, 2, 0⟩
abbrev F.SEC_LCCMD_GO : Fld := ⟨0x70004, 8, 8⟩
abbrev F.SEC_ST_CODE : Fld := ⟨0x70008, 3, 0⟩
abbrev F.SEC_HWTYPE : Fld := ⟨0x7000C, 15, 0⟩
abbrev F.SEC_SVN : Fld := ⟨0x70010, 7, 0⟩
abbrev F.SEC_UID (i : Nat) : Fld := ⟨0x70020 + 0x4 * i, 31, 0⟩
abbrev F.SEC_KEYST : Fld := ⟨0x70040, 15, 0⟩
abbrev F.SEC_REVOKE_SLOT : Fld := ⟨0x70044, 2, 0⟩
abbrev F.SEC_REVOKE_GO : Fld := ⟨0x70044, 8, 8⟩
abbrev F.SEC_KEYUSE (s : Nat) : Fld := ⟨0x70060 + 0x4 * s, 3, 0⟩
abbrev F.SEC_KEYDATA (i : Nat) : Fld := ⟨0x70080 + 0x4 * i, 31, 0⟩
abbrev F.SEC_KEYPROG_SLOT : Fld := ⟨0x700C0, 2, 0⟩
abbrev F.SEC_KEYPROG_USE : Fld := ⟨0x700C0, 7, 4⟩
abbrev F.SEC_KEYPROG_GO : Fld := ⟨0x700C0, 8, 8⟩
abbrev F.SEC_DBGCHAL (i : Nat) : Fld := ⟨0x70100 + 0x4 * i, 31, 0⟩
abbrev F.SEC_DBGREQ_PAIRA : Fld := ⟨0x70110, 0, 0⟩
abbrev F.SEC_DBGREQ_PAIRB : Fld := ⟨0x70110, 1, 1⟩
abbrev F.SEC_DBGREQ_RETURN : Fld := ⟨0x70110, 31, 31⟩
abbrev F.SEC_DBGRESP (i : Nat) : Fld := ⟨0x70120 + 0x4 * i, 31, 0⟩
abbrev F.SEC_DBGCMD_GO : Fld := ⟨0x70160, 0, 0⟩
abbrev F.SEC_DBGST_OPEN : Fld := ⟨0x70164, 1, 0⟩
abbrev F.SEC_DBGST_RETOK : Fld := ⟨0x70164, 2, 2⟩
abbrev F.SEC_DBGST_LOCKED : Fld := ⟨0x70164, 3, 3⟩
abbrev F.SEC_DBGST_FAILCNT : Fld := ⟨0x70164, 5, 4⟩
abbrev F.SEC_DBGST_SLOT : Fld := ⟨0x70164, 10, 8⟩
abbrev F.SEC_EVT_LCREQ : Fld := ⟨0x70170, 0, 0⟩
abbrev F.SEC_EVT_REFUSED : Fld := ⟨0x70170, 1, 1⟩
abbrev F.SEC_EVT_AUTHOK : Fld := ⟨0x70170, 2, 2⟩
abbrev F.SEC_EVT_AUTHFAIL : Fld := ⟨0x70170, 3, 3⟩
abbrev F.SEC_EVT_WRREF : Fld := ⟨0x70170, 4, 4⟩
abbrev F.SEC_IEN : Fld := ⟨0x70174, 4, 0⟩

def secRows0 : List RegRow := [
  ⟨0x70000, 1, 0x1000000, 1, 0x4, 0x0, 0x0, 0x0, 0x0, 0x0, 0x0⟩, -- SEC_LC
  ⟨0x70004, 1, 0x1000000, 1, 0x4, 0x0, 0x0, 0x0, 0x107, 0x0, 0x0⟩, -- SEC_LCCMD
  ⟨0x70008, 1, 0x1000000, 1, 0x4, 0x0, 0x0, 0x0, 0x0, 0x0, 0x0⟩, -- SEC_ST
  ⟨0x7000C, 1, 0x1000000, 1, 0x4, 0x0, 0x0, 0x0, 0x0, 0x0, 0x0⟩, -- SEC_HWTYPE
  ⟨0x70010, 1, 0x1000000, 1, 0x4, 0x0, 0x0, 0x0, 0x0, 0x0, 0x0⟩, -- SEC_SVN
  ⟨0x70020, 1, 0x1000000, 4, 0x4, 0x0, 0x0, 0x0, 0x0, 0x0, 0x0⟩, -- SEC_UIDi
  ⟨0x70040, 1, 0x1000000, 1, 0x4, 0x0, 0x0, 0x0, 0x0, 0x0, 0x0⟩, -- SEC_KEYST
  ⟨0x70044, 1, 0x1000000, 1, 0x4, 0x0, 0x0, 0x0, 0x107, 0x0, 0x0⟩, -- SEC_REVOKE
  ⟨0x70060, 1, 0x1000000, 8, 0x4, 0x0, 0x0, 0x0, 0x0, 0x0, 0x0⟩, -- SEC_KEYUSEs
  ⟨0x70080, 1, 0x1000000, 16, 0x4, 0x0, 0x0, 0x0, 0x0, 0x0, 0x0⟩, -- SEC_KEYDATAi
  ⟨0x700C0, 1, 0x1000000, 1, 0x4, 0x0, 0x0, 0x0, 0x0, 0x0, 0x0⟩, -- SEC_KEYPROG
  ⟨0x70100, 1, 0x1000000, 4, 0x4, 0x0, 0x0, 0x0, 0x0, 0x0, 0x0⟩, -- SEC_DBGCHALi
  ⟨0x70110, 1, 0x1000000, 1, 0x4, 0x0, 0x80000003, 0x0, 0x0, 0x0, 0x0⟩, -- SEC_DBGREQ
  ⟨0x70120, 1, 0x1000000, 16, 0x4, 0x0, 0x0, 0x0, 0x0, 0x0, 0xFFFFFFFF⟩, -- SEC_DBGRESPi
  ⟨0x70160, 1, 0x1000000, 1, 0x4, 0x0, 0x0, 0x0, 0x0, 0x0, 0x1⟩, -- SEC_DBGCMD
  ⟨0x70164, 1, 0x1000000, 1, 0x4, 0x0, 0x0, 0x0, 0x0, 0x0, 0x0⟩, -- SEC_DBGST
  ⟨0x70170, 1, 0x1000000, 1, 0x4, 0x0, 0x0, 0x1F, 0x0, 0x0, 0x0⟩, -- SEC_EVT
  ⟨0x70174, 1, 0x1000000, 1, 0x4, 0x0, 0x1F, 0x0, 0x0, 0x0, 0x0⟩ -- SEC_IEN
  ]
/-- The registers of the block, tables 19-13 of spec/. -/
def secRows : List RegRow := secRows0

end Sys2Proof.Machine
end

