-- ==== Sys2Proof/Machine/MapSys.lean ====
section
/-! DEFINITION. The register fields of Sys, one name per field of the register maps of spec/, and one row per register:
its reset value and which of its bits carry which access code (R7, Table 0-6). A name drops the lower-case instance
letters of the manual and takes the instance numbers as arguments. -/

namespace Sys2Proof.Machine

abbrev F.SYS_DSTATE_STATE : Fld := ⟨0x0, 3, 0⟩
abbrev F.SYS_DSTATE_PREV : Fld := ⟨0x0, 7, 4⟩
abbrev F.SYS_DSTATE_PWMLOCK : Fld := ⟨0x0, 8, 8⟩
abbrev F.SYS_RSTCAUSE_POR : Fld := ⟨0x4, 0, 0⟩
abbrev F.SYS_RSTCAUSE_PIN : Fld := ⟨0x4, 1, 1⟩
abbrev F.SYS_RSTCAUSE_VIOA : Fld := ⟨0x4, 2, 2⟩
abbrev F.SYS_RSTCAUSE_PKG_CMD : Fld := ⟨0x4, 3, 3⟩
abbrev F.SYS_RSTCAUSE_DIE_CMD : Fld := ⟨0x4, 4, 4⟩
abbrev F.SYS_RSTCAUSE_PEER_CMD : Fld := ⟨0x4, 5, 5⟩
abbrev F.SYS_RSTCTRL_PKG : Fld := ⟨0x8, 0, 0⟩
abbrev F.SYS_RSTCTRL_DIE : Fld := ⟨0x8, 1, 1⟩
abbrev F.SYS_BRST_CAN : Fld := ⟨0xC, 3, 0⟩
abbrev F.SYS_BRST_FB : Fld := ⟨0xC, 7, 4⟩
abbrev F.SYS_BRST_FLUME : Fld := ⟨0xC, 8, 8⟩
abbrev F.SYS_BRST_DBGUART : Fld := ⟨0xC, 9, 9⟩
abbrev F.SYS_BRST_DBGSPI : Fld := ⟨0xC, 10, 10⟩
abbrev F.SYS_CLKST_PLL_LOCK : Fld := ⟨0x10, 0, 0⟩
abbrev F.SYS_CLKST_REF_OK : Fld := ⟨0x10, 1, 1⟩
abbrev F.SYS_CLKST_ON_BACKUP : Fld := ⟨0x10, 2, 2⟩
abbrev F.SYS_CLKST_FWD_OK : Fld := ⟨0x10, 13, 8⟩
abbrev F.SYS_CLKEVT_REF_LOSS : Fld := ⟨0x14, 0, 0⟩
abbrev F.SYS_CLKEVT_PLL_UNLOCK : Fld := ⟨0x14, 1, 1⟩
abbrev F.SYS_CLKGATE_CAN : Fld := ⟨0x18, 3, 0⟩
abbrev F.SYS_CLKGATE_FB : Fld := ⟨0x18, 7, 4⟩
abbrev F.SYS_CLKGATE_DBG : Fld := ⟨0x18, 8, 8⟩
abbrev F.SYS_PLLCFG_MULT : Fld := ⟨0x1C, 7, 0⟩
abbrev F.SYS_PLLCFG_CORE_DIV : Fld := ⟨0x1C, 11, 8⟩
abbrev F.SYS_PLLCFG_FAB_DIV : Fld := ⟨0x1C, 15, 12⟩
abbrev F.SYS_PLLCFG_CAN_DIV : Fld := ⟨0x1C, 23, 16⟩
abbrev F.SYS_PLLCFG_PER_DIV : Fld := ⟨0x1C, 31, 24⟩
abbrev F.SYS_SUPST_VIOB_OK : Fld := ⟨0x20, 0, 0⟩
abbrev F.SYS_SUPST_VIOC_OK : Fld := ⟨0x20, 1, 1⟩
abbrev F.SYS_SUPST_VKEEP_OK : Fld := ⟨0x20, 2, 2⟩
abbrev F.SYS_SUPST_LOCKOUT : Fld := ⟨0x20, 13, 8⟩
abbrev F.SYS_SUPEVT_VIOB_DIP : Fld := ⟨0x24, 0, 0⟩
abbrev F.SYS_SUPEVT_VIOC_DIP : Fld := ⟨0x24, 1, 1⟩
abbrev F.SYS_SUPEVT_VKEEP_DIP : Fld := ⟨0x24, 2, 2⟩
abbrev F.SYS_PFCFG_REACT : Fld := ⟨0x28, 0, 0⟩
abbrev F.SYS_PFST_PFAIL : Fld := ⟨0x2C, 0, 0⟩
abbrev F.SYS_PFST_PF_SEEN : Fld := ⟨0x2C, 1, 1⟩
abbrev F.SYS_PFST_FLUSH_DONE : Fld := ⟨0x2C, 2, 2⟩
abbrev F.SYS_PFST_FLUSH_TIME : Fld := ⟨0x2C, 23, 8⟩
abbrev F.SYS_STLO : Fld := ⟨0x30, 31, 0⟩
abbrev F.SYS_STHI : Fld := ⟨0x34, 31, 0⟩
abbrev F.SYS_ERR_WRREF : Fld := ⟨0x38, 0, 0⟩

def sysRows0 : List RegRow := [
  ⟨0x0, 1, 0x1000000, 1, 0x4, 0x2, 0x0, 0x0, 0x0, 0x0, 0x0⟩, -- SYS_DSTATE
  ⟨0x4, 1, 0x1000000, 1, 0x4, 0x0, 0x0, 0x3F, 0x0, 0x0, 0x0⟩, -- SYS_RSTCAUSE
  ⟨0x8, 1, 0x1000000, 1, 0x4, 0x0, 0x0, 0x0, 0x3, 0x0, 0x0⟩, -- SYS_RSTCTRL
  ⟨0xC, 1, 0x1000000, 1, 0x4, 0x0, 0x7FF, 0x0, 0x0, 0x0, 0x0⟩, -- SYS_BRST
  ⟨0x10, 1, 0x1000000, 1, 0x4, 0x3, 0x0, 0x0, 0x0, 0x0, 0x0⟩, -- SYS_CLKST
  ⟨0x14, 1, 0x1000000, 1, 0x4, 0x0, 0x0, 0x3, 0x0, 0x0, 0x0⟩, -- SYS_CLKEVT
  ⟨0x18, 1, 0x1000000, 1, 0x4, 0x1FF, 0x1FF, 0x0, 0x0, 0x0, 0x0⟩, -- SYS_CLKGATE
  ⟨0x1C, 1, 0x1000000, 1, 0x4, 0x181E6360, 0x0, 0x0, 0x0, 0x0, 0x0⟩, -- SYS_PLLCFG
  ⟨0x20, 1, 0x1000000, 1, 0x4, 0x3, 0x0, 0x0, 0x0, 0x0, 0x0⟩, -- SYS_SUPST
  ⟨0x24, 1, 0x1000000, 1, 0x4, 0x0, 0x0, 0x7, 0x0, 0x0, 0x0⟩, -- SYS_SUPEVT
  ⟨0x28, 1, 0x1000000, 1, 0x4, 0x0, 0x0, 0x0, 0x1, 0x0, 0x0⟩, -- SYS_PFCFG
  ⟨0x2C, 1, 0x1000000, 1, 0x4, 0x0, 0x0, 0x2, 0x0, 0x0, 0x0⟩, -- SYS_PFST
  ⟨0x30, 1, 0x1000000, 1, 0x4, 0x0, 0x0, 0x0, 0x0, 0x0, 0x0⟩, -- SYS_STLO
  ⟨0x34, 1, 0x1000000, 1, 0x4, 0x0, 0x0, 0x0, 0x0, 0x0, 0x0⟩, -- SYS_STHI
  ⟨0x38, 1, 0x1000000, 1, 0x4, 0x0, 0x0, 0x1, 0x0, 0x0, 0x0⟩ -- SYS_ERR
  ]
/-- The registers of the block, tables 3-7 of spec/. -/
def sysRows : List RegRow := sysRows0

end Sys2Proof.Machine
end

