-- ==== Sys2Proof/Machine/MapTherm.lean ====
section
/-! DEFINITION. The register fields of Therm, one name per field of the register maps of spec/, and one row per register:
its reset value and which of its bits carry which access code (R7, Table 0-6). A name drops the lower-case instance
letters of the manual and takes the instance numbers as arguments. -/

namespace Sys2Proof.Machine

abbrev F.THERM_TS_TEMP (s : Nat) : Fld := ⟨0x40000 + 0x4 * s, 15, 0⟩
abbrev F.THERM_TS_FAULT (s : Nat) : Fld := ⟨0x40000 + 0x4 * s, 16, 16⟩
abbrev F.THERM_MAX_DIE : Fld := ⟨0x40020, 15, 0⟩
abbrev F.THERM_MAX_PKG : Fld := ⟨0x40020, 31, 16⟩
abbrev F.THERM_MAXLOC_DIE : Fld := ⟨0x40024, 2, 0⟩
abbrev F.THERM_MAXLOC_SENSOR : Fld := ⟨0x40024, 6, 4⟩
abbrev F.THERM_STAT_FAST : Fld := ⟨0x40028, 0, 0⟩
abbrev F.THERM_STAT_WARN : Fld := ⟨0x40028, 1, 1⟩
abbrev F.THERM_STAT_DERATE : Fld := ⟨0x40028, 2, 2⟩
abbrev F.THERM_STAT_SHUT : Fld := ⟨0x40028, 3, 3⟩
abbrev F.THERM_STAT_NVMOK : Fld := ⟨0x40028, 4, 4⟩
abbrev F.THERM_EVT_WARN : Fld := ⟨0x4002C, 0, 0⟩
abbrev F.THERM_EVT_DERATE : Fld := ⟨0x4002C, 1, 1⟩
abbrev F.THERM_EVT_SHUT : Fld := ⟨0x4002C, 2, 2⟩
abbrev F.THERM_EVT_HWSHUT : Fld := ⟨0x4002C, 3, 3⟩
abbrev F.THERM_EVT_SENSFAULT : Fld := ⟨0x4002C, 4, 4⟩
abbrev F.THERM_EVT_TMODFAULT : Fld := ⟨0x4002C, 5, 5⟩
abbrev F.THERM_EVT_MODHOT : Fld := ⟨0x4002C, 6, 6⟩
abbrev F.THERM_EVT_ACKDONE : Fld := ⟨0x4002C, 7, 7⟩
abbrev F.THERM_EVT_ACKREF : Fld := ⟨0x4002C, 8, 8⟩
abbrev F.THERM_EVT_WRREF : Fld := ⟨0x4002C, 9, 9⟩
abbrev F.THERM_IEN : Fld := ⟨0x40030, 9, 0⟩
abbrev F.THERM_TH0_WARN : Fld := ⟨0x40034, 15, 0⟩
abbrev F.THERM_TH0_DERATE : Fld := ⟨0x40034, 31, 16⟩
abbrev F.THERM_TH1_SHUT : Fld := ⟨0x40038, 15, 0⟩
abbrev F.THERM_TH1_HWSHUT : Fld := ⟨0x40038, 31, 16⟩
abbrev F.THERM_MODLIM_LIM : Fld := ⟨0x4003C, 15, 0⟩
abbrev F.THERM_FAB_SP (j : Nat) : Fld := ⟨0x40050 + 0x4 * j, 4, 0⟩
abbrev F.THERM_FAB_EN (j : Nat) : Fld := ⟨0x40050 + 0x4 * j, 8, 8⟩
abbrev F.THERM_FAB_DIES (j : Nat) : Fld := ⟨0x40050 + 0x4 * j, 23, 16⟩
abbrev F.THERM_LREC0 : Fld := ⟨0x40060, 31, 0⟩
abbrev F.THERM_LREC1 : Fld := ⟨0x40064, 31, 0⟩
abbrev F.THERM_LREC2 : Fld := ⟨0x40068, 31, 0⟩
abbrev F.THERM_LACK_GO : Fld := ⟨0x40070, 0, 0⟩
abbrev F.THERM_LACKST_CODE : Fld := ⟨0x40074, 3, 0⟩
abbrev F.THERM_D_TS_TEMP (d s : Nat) : Fld := ⟨0x40100 + 0x20 * d + 0x4 * s, 15, 0⟩
abbrev F.THERM_D_TS_FAULT (d s : Nat) : Fld := ⟨0x40100 + 0x20 * d + 0x4 * s, 16, 16⟩
abbrev F.THERM_D_TMOD_MV (d c : Nat) : Fld := ⟨0x40200 + 0x20 * d + 0x4 * c, 15, 0⟩
abbrev F.THERM_D_TMOD_FAULT (d c : Nat) : Fld := ⟨0x40200 + 0x20 * d + 0x4 * c, 16, 16⟩

def thermRows0 : List RegRow := [
  ⟨0x40000, 1, 0x1000000, 8, 0x4, 0x0, 0x0, 0x0, 0x0, 0x0, 0x0⟩, -- THERM_TSs
  ⟨0x40020, 1, 0x1000000, 1, 0x4, 0x0, 0x0, 0x0, 0x0, 0x0, 0x0⟩, -- THERM_MAX
  ⟨0x40024, 1, 0x1000000, 1, 0x4, 0x0, 0x0, 0x0, 0x0, 0x0, 0x0⟩, -- THERM_MAXLOC
  ⟨0x40028, 1, 0x1000000, 1, 0x4, 0x0, 0x0, 0x0, 0x0, 0x0, 0x0⟩, -- THERM_STAT
  ⟨0x4002C, 1, 0x1000000, 1, 0x4, 0x0, 0x0, 0x3FF, 0x0, 0x0, 0x0⟩, -- THERM_EVT
  ⟨0x40030, 1, 0x1000000, 1, 0x4, 0x0, 0x3FF, 0x0, 0x0, 0x0, 0x0⟩, -- THERM_IEN
  ⟨0x40034, 1, 0x1000000, 1, 0x4, 0x46004380, 0x0, 0x0, 0xFFFFFFFF, 0x0, 0x0⟩, -- THERM_TH0
  ⟨0x40038, 1, 0x1000000, 1, 0x4, 0x52804B00, 0x0, 0x0, 0xFFFF, 0x0, 0x0⟩, -- THERM_TH1
  ⟨0x4003C, 1, 0x1000000, 1, 0x4, 0x0, 0x0, 0x0, 0xFFFF, 0x0, 0x0⟩, -- THERM_MODLIM
  ⟨0x40050, 1, 0x1000000, 4, 0x4, 0x0, 0xFF011F, 0x0, 0x0, 0x0, 0x0⟩, -- THERM_FABj
  ⟨0x40060, 1, 0x1000000, 1, 0x4, 0x0, 0x0, 0x0, 0x0, 0x0, 0x0⟩, -- THERM_LREC0
  ⟨0x40064, 1, 0x1000000, 1, 0x4, 0x0, 0x0, 0x0, 0x0, 0x0, 0x0⟩, -- THERM_LREC1
  ⟨0x40068, 1, 0x1000000, 1, 0x4, 0x0, 0x0, 0x0, 0x0, 0x0, 0x0⟩, -- THERM_LREC2
  ⟨0x40070, 1, 0x1000000, 1, 0x4, 0x0, 0x0, 0x0, 0x1, 0x0, 0x0⟩, -- THERM_LACK
  ⟨0x40074, 1, 0x1000000, 1, 0x4, 0x0, 0x0, 0x0, 0x0, 0x0, 0x0⟩, -- THERM_LACKST
  ⟨0x40100, 6, 0x20, 6, 0x4, 0x0, 0x0, 0x0, 0x0, 0x0, 0x0⟩, -- THERM_Dd_TSs
  ⟨0x40200, 6, 0x20, 6, 0x4, 0x0, 0x0, 0x0, 0x0, 0x0, 0x0⟩ -- THERM_Dd_TMODc
  ]
/-- The registers of the block, tables 15-13 of spec/. -/
def thermRows : List RegRow := thermRows0

end Sys2Proof.Machine
end

