-- ==== Sys2Proof/Machine/MapTmon.lean ====
section
/-! DEFINITION. The register fields of Tmon, one name per field of the register maps of spec/, and one row per register:
its reset value and which of its bits carry which access code (R7, Table 0-6). A name drops the lower-case instance
letters of the manual and takes the instance numbers as arguments. -/

namespace Sys2Proof.Machine

abbrev F.TMON_AX_CFG_EN (a : Nat) : Fld := ⟨0x2C0000 + 0x100 * a, 0, 0⟩
abbrev F.TMON_AX_CFG_ANG (a : Nat) : Fld := ⟨0x2C0000 + 0x100 * a, 1, 1⟩
abbrev F.TMON_AX_CFG_FB (a : Nat) : Fld := ⟨0x2C0000 + 0x100 * a, 5, 4⟩
abbrev F.TMON_AX_CFG_AG (a : Nat) : Fld := ⟨0x2C0000 + 0x100 * a, 9, 8⟩
abbrev F.TMON_AX_CFG_ENT (a : Nat) : Fld := ⟨0x2C0000 + 0x100 * a, 15, 10⟩
abbrev F.TMON_AX_CFG_MAG (a : Nat) : Fld := ⟨0x2C0000 + 0x100 * a, 16, 16⟩
abbrev F.TMON_AX_K_KPSI (a : Nat) : Fld := ⟨0x2C0004 + 0x100 * a, 15, 0⟩
abbrev F.TMON_AX_K_KREL (a : Nat) : Fld := ⟨0x2C0004 + 0x100 * a, 31, 16⟩
abbrev F.TMON_AX_TOL_ABS (a : Nat) : Fld := ⟨0x2C0008 + 0x100 * a, 15, 0⟩
abbrev F.TMON_AX_TOL_REL (a : Nat) : Fld := ⟨0x2C0008 + 0x100 * a, 23, 16⟩
abbrev F.TMON_AX_ITOL_ITOL (a : Nat) : Fld := ⟨0x2C000C + 0x100 * a, 15, 0⟩
abbrev F.TMON_AX_ITOL_ZTOL (a : Nat) : Fld := ⟨0x2C000C + 0x100 * a, 31, 16⟩
abbrev F.TMON_AX_RT_TREACT (a : Nat) : Fld := ⟨0x2C0010 + 0x100 * a, 15, 0⟩
abbrev F.TMON_AX_EST_TEST (a : Nat) : Fld := ⟨0x2C0014 + 0x100 * a, 15, 0⟩
abbrev F.TMON_AX_EST_TREQ (a : Nat) : Fld := ⟨0x2C0014 + 0x100 * a, 31, 16⟩
abbrev F.TMON_AX_CUR_ID (a : Nat) : Fld := ⟨0x2C0018 + 0x100 * a, 15, 0⟩
abbrev F.TMON_AX_CUR_IQ (a : Nat) : Fld := ⟨0x2C0018 + 0x100 * a, 31, 16⟩
abbrev F.TMON_AX_SPD_SPEED (a : Nat) : Fld := ⟨0x2C001C + 0x100 * a, 15, 0⟩
abbrev F.TMON_AX_SPD_ANGLE (a : Nat) : Fld := ⟨0x2C001C + 0x100 * a, 31, 16⟩
abbrev F.TMON_AX_STAT_VALID (a : Nat) : Fld := ⟨0x2C0020 + 0x100 * a, 0, 0⟩
abbrev F.TMON_AX_STAT_MAGMODE (a : Nat) : Fld := ⟨0x2C0020 + 0x100 * a, 1, 1⟩
abbrev F.TMON_AX_STAT_OUT (a : Nat) : Fld := ⟨0x2C0020 + 0x100 * a, 2, 2⟩
abbrev F.TMON_AX_STAT_ACTIVE (a : Nat) : Fld := ⟨0x2C0020 + 0x100 * a, 3, 3⟩
abbrev F.TMON_AX_STAT_ELAPSED (a : Nat) : Fld := ⟨0x2C0020 + 0x100 * a, 31, 16⟩
abbrev F.TMON_AX_EVT_VIOL (a : Nat) : Fld := ⟨0x2C0024 + 0x100 * a, 0, 0⟩
abbrev F.TMON_AX_EVT_ANGLOSS (a : Nat) : Fld := ⟨0x2C0024 + 0x100 * a, 1, 1⟩
abbrev F.TMON_AX_EVT_ZFAIL (a : Nat) : Fld := ⟨0x2C0024 + 0x100 * a, 2, 2⟩
abbrev F.TMON_AX_EVT_CFGERR (a : Nat) : Fld := ⟨0x2C0024 + 0x100 * a, 3, 3⟩
abbrev F.TMON_AX_EVT_WRREF (a : Nat) : Fld := ⟨0x2C0024 + 0x100 * a, 4, 4⟩
abbrev F.TMON_AX_EVT_CLRREF (a : Nat) : Fld := ⟨0x2C0024 + 0x100 * a, 5, 5⟩
abbrev F.TMON_AX_IEN (a : Nat) : Fld := ⟨0x2C0028 + 0x100 * a, 5, 0⟩

def tmonRows0 : List RegRow := [
  ⟨0x2C0000, 1, 0x1000000, 6, 0x100, 0x10000, 0x1, 0x0, 0x0, 0x1FF32, 0x0⟩, -- TMON_AXa_CFG
  ⟨0x2C0004, 1, 0x1000000, 6, 0x100, 0x0, 0x0, 0x0, 0x0, 0xFFFFFFFF, 0x0⟩, -- TMON_AXa_K
  ⟨0x2C0008, 1, 0x1000000, 6, 0x100, 0x1A0666, 0x0, 0x0, 0xFFFFFF, 0x0, 0x0⟩, -- TMON_AXa_TOL
  ⟨0x2C000C, 1, 0x1000000, 6, 0x100, 0x1000666, 0x0, 0x0, 0xFFFFFFFF, 0x0, 0x0⟩, -- TMON_AXa_ITOL
  ⟨0x2C0010, 1, 0x1000000, 6, 0x100, 0x1388, 0x0, 0x0, 0xFFFF, 0x0, 0x0⟩, -- TMON_AXa_RT
  ⟨0x2C0014, 1, 0x1000000, 6, 0x100, 0x0, 0x0, 0x0, 0x0, 0x0, 0x0⟩, -- TMON_AXa_EST
  ⟨0x2C0018, 1, 0x1000000, 6, 0x100, 0x0, 0x0, 0x0, 0x0, 0x0, 0x0⟩, -- TMON_AXa_CUR
  ⟨0x2C001C, 1, 0x1000000, 6, 0x100, 0x0, 0x0, 0x0, 0x0, 0x0, 0x0⟩, -- TMON_AXa_SPD
  ⟨0x2C0020, 1, 0x1000000, 6, 0x100, 0x0, 0x0, 0x0, 0x0, 0x0, 0x0⟩, -- TMON_AXa_STAT
  ⟨0x2C0024, 1, 0x1000000, 6, 0x100, 0x0, 0x0, 0x3F, 0x0, 0x0, 0x0⟩, -- TMON_AXa_EVT
  ⟨0x2C0028, 1, 0x1000000, 6, 0x100, 0x0, 0x3F, 0x0, 0x0, 0x0, 0x0⟩ -- TMON_AXa_IEN
  ]
/-- The registers of the block, tables 13-10 of spec/. -/
def tmonRows : List RegRow := tmonRows0

end Sys2Proof.Machine
end

