-- ==== Sys2Proof/Machine/Regs.lean ====
section
/-! DEFINITION. The register table as a whole: which register lies at an offset of a die's map, its reset value (R7)
and the reading and writing of registers and of their fields. -/

namespace Sys2Proof.Machine

/-- Whether a register of the row lies at the offset. -/
def RegRow.hits (r : RegRow) (off : Nat) : Bool :=
  decide (r.off ≤ off) &&
    (let x := off - r.off
     decide (x / r.s1 < r.n1) && decide (x % r.s1 / r.s2 < r.n2) && decide (x % r.s1 % r.s2 = 0))

/-- The register rows of a C die by the block that holds the offset, Table 1-5. -/
def ctlRows (off : Nat) : List RegRow :=
  if off < 0x10000 then sysRows
  else if off < 0x20000 then safeRows
  else if off < 0x30000 then chkRows
  else if off < 0x40000 then bistRows
  else if off < 0x50000 then thermRows
  else if off < 0x60000 then promptRows
  else if off < 0x70000 then nvmRows
  else if off < 0x80000 then secRows
  else if off < 0x90000 then cueRows
  else if off < 0xA0000 then flumeRows
  else if off < 0xB0000 then hdrRows
  else if off < 0xC0000 then libRows
  else if off < 0x100000 then []
  else if off < 0x140000 then adcRows
  else if off < 0x180000 then loopRows
  else if off < 0x1C0000 then fieldRows
  else if off < 0x200000 then pwmRows
  else if off < 0x240000 then fbRows
  else if off < 0x280000 then canRows
  else if off < 0x2C0000 then []
  else if off < 0x2D0000 then tmonRows
  else if off < 0x2E0000 then dischRows
  else []

/-- The register at an offset of the map of die index i (R33), if the spec places one there. -/
def rowAt (i off : Nat) : Option RegRow :=
  (if i < 2 then ctlRows off else drvRows).find? (fun r => r.hits off)

/-- The reset values that depend on the instance: LOOP_LEn_STAT.PU is n, DRV_Dd_ID.POS is d. -/
def resetExtra (i off : Nat) : Nat :=
  if i < 2 then
    if 0x140000 ≤ off ∧ off < 0x150000 ∧ off % 0x400 = 0x00C then (off - 0x140000) / 0x400 * 2 ^ (F.LOOP_LE_STAT_PU 0).lo
    else 0
  else if off = 0 then (i - 2) * 0x100
  else 0

/-- The reset value of the register with a key (die index × 2^24 + offset), R7; a reserved offset reads 0, R6. -/
def resetWord (key : Nat) : Word :=
  let i := key / 0x1000000
  let off := key % 0x1000000
  match rowAt i off with
  | some r => BitVec.ofNat 32 (r.reset + resetExtra i off)
  | none => 0

/-- The key of a register. -/
def regKey (i off : Nat) : Nat := off + 0x1000000 * i

/-- The mask of a field in its register. -/
def Fld.mask (f : Fld) : Word := BitVec.ofNat 32 ((2 ^ (f.hi + 1 - f.lo) - 1) * 2 ^ f.lo)

/-- How many values a field has. -/
def Fld.size (f : Fld) : Nat := 2 ^ (f.hi + 1 - f.lo)

/-- A field of a register's word. -/
def Fld.ofWord (f : Fld) (w : Word) : Nat := w.toNat / 2 ^ f.lo % 2 ^ (f.hi + 1 - f.lo)

/-- A register's word with a field replaced. -/
def Fld.into (f : Fld) (w : Word) (v : Nat) : Word :=
  (w &&& ~~~ f.mask) ||| (BitVec.ofNat 32 (v % 2 ^ (f.hi + 1 - f.lo) * 2 ^ f.lo))

/-- The word of a register. -/
def State.reg (s : State) (i off : Nat) : Word := s.regs.read resetWord (regKey i off)

/-- The word of a register as a number. -/
def State.wd (s : State) (i off : Nat) : Nat := (s.reg i off).toNat

/-- The state with a register's word replaced. -/
def State.setReg (s : State) (i off : Nat) (w : Word) : State :=
  { s with regs := s.regs.write resetWord (regKey i off) w }

/-- The value of a field. -/
def State.get (s : State) (i : Nat) (f : Fld) : Nat := f.ofWord (s.reg i f.off)

/-- Whether a field is not 0. -/
def State.flag (s : State) (i : Nat) (f : Fld) : Bool := s.get i f != 0

/-- The state with a field replaced. -/
def State.put (s : State) (i : Nat) (f : Fld) (v : Nat) : State :=
  s.setReg i f.off (f.into (s.reg i f.off) v)

/-- The state with a flag set. -/
def State.on (s : State) (i : Nat) (f : Fld) : State := s.put i f 1

/-- The state with a flag or field cleared. -/
def State.off (s : State) (i : Nat) (f : Fld) : State := s.put i f 0

/-- The state with one bit of a field set or cleared. -/
def State.putBit (s : State) (i : Nat) (f : Fld) (b : Nat) (v : Bool) : State :=
  s.put i f (setBit (s.get i f) b v)

/-- Bit b of a field. -/
def State.bitOf (s : State) (i : Nat) (f : Fld) (b : Nat) : Bool := bit (s.get i f) b

/-- The state with a saturating counter field raised by n. -/
def State.count (s : State) (i : Nat) (f : Fld) (n : Nat) : State :=
  s.put i f (satAdd (f.hi + 1 - f.lo) (s.get i f) n)

/-- A field read as a signed number. -/
def State.geti (s : State) (i : Nat) (f : Fld) : Int := sxN (f.hi + 1 - f.lo) (s.get i f)

/-- The state with a field set from a signed number. -/
def State.puti (s : State) (i : Nat) (f : Fld) (z : Int) : State := s.put i f (uxN (f.hi + 1 - f.lo) z)

end Sys2Proof.Machine
end

