-- ==== Sys2Proof/Machine/Ops.lean ====
section
/-! DEFINITION. The shared operations: access to the dies' state and to memory, loops, free values, which units the
part contains, the device state and the ownership of the D dies. -/

namespace Sys2Proof

/-- The C dies of the part, Table 0-1. -/
def Part.ctl : Part → Nat
  | .tv21 => 1
  | _ => 2

/-- The D dies of the part, Table 0-1. -/
def Part.drv : Part → Nat
  | .tv21 => 1
  | .tv42 => 2
  | .tv64 => 4
  | .tv86 => 6

/-- HW_TYPE of the part, Table 5-1. -/
def Part.hwType : Part → Nat
  | .tv21 => 0x0021
  | .tv42 => 0x0042
  | .tv64 => 0x0064
  | .tv86 => 0x0086

/-- The axes the part can have: TV-21 has AX0 only, the others up to six (Table 0-1). -/
def Part.axes : Part → Nat
  | .tv21 => 1
  | _ => 6

/-- The safety master of a C die: machine mode on pair B, R20. -/
def Master.safety : Master → Bool
  | .core k mm => decide (2 ≤ k.val) && mm
  | _ => false

/-- A core of pair A. -/
def Master.pairA : Master → Bool
  | .core k _ => decide (k.val < 2)
  | _ => false

/-- A core of pair B. -/
def Master.pairB : Master → Bool
  | .core k _ => decide (2 ≤ k.val)
  | _ => false

/-- The core that issues an access, for registers read per core. -/
def Master.coreIx : Master → Nat
  | .core k _ => k.val
  | _ => 0

end Sys2Proof

namespace Sys2Proof.Machine

/-- What a command answers. -/
abbrev Out := Host.Outcome State Fault Refusal

/-! ### Dies -/

/-- A C die's state. -/
def State.c (s : State) (d : Nat) : CtlDie := s.cdie.at d

/-- A change of a C die's state. -/
def State.modC (s : State) (d : Nat) (f : CtlDie → CtlDie) : State := { s with cdie := s.cdie.mod d f }

/-- A change of its clocks, supplies and resets. -/
def State.modSys (s : State) (d : Nat) (f : SysC → SysC) : State := s.modC d (fun c => { c with sys := f c.sys })
/-- A change of its prompt book. -/
def State.modPrompt (s : State) (d : Nat) (f : PromptC → PromptC) : State :=
  s.modC d (fun c => { c with prompt := f c.prompt })
/-- A change of its headrace. -/
def State.modHdr (s : State) (d : Nat) (f : HdrC → HdrC) : State := s.modC d (fun c => { c with hdr := f c.hdr })
/-- A change of its loader. -/
def State.modLib (s : State) (d : Nat) (f : LibC → LibC) : State := s.modC d (fun c => { c with lib := f c.lib })
/-- A change of its PWM. -/
def State.modPwm (s : State) (d : Nat) (f : PwmC → PwmC) : State := s.modC d (fun c => { c with pwm := f c.pwm })
/-- A change of its curtain controller and fault collection. -/
def State.modSafe (s : State) (d : Nat) (f : SafeC → SafeC) : State := s.modC d (fun c => { c with safe := f c.safe })

/-- A change of its loop fabric. -/
def State.modLoop (s : State) (d : Nat) (f : LoopC → LoopC) : State := s.modC d (fun c => { c with loop := f c.loop })

/-- A change of its conversion subsystem. -/
def State.modAdc (s : State) (d : Nat) (f : AdcC → AdcC) : State := s.modC d (fun c => { c with adc := f c.adc })

/-- A fabric source of Table 9-5 that no register shows takes a value; its update count rises (R218). -/
def srcSet (d ix v : Nat) (s : State) : State :=
  s.modLoop d (fun l => { l with srcV := l.srcV.set ix (v % 65536), srcN := l.srcN.set ix (l.srcN.at ix + 1) })

/-- What a C die holds in MRAM beside its bytes. -/
def State.n (s : State) (d : Nat) : NvC := s.nv.at d

/-- A change of it. -/
def State.modN (s : State) (d : Nat) (f : NvC → NvC) : State := { s with nv := s.nv.mod d f }

/-- A D die's state. -/
def State.dd (s : State) (k : Nat) : DieD := s.ddie.at k

/-- A change of a D die's state. -/
def State.modD (s : State) (k : Nat) (f : DieD → DieD) : State := { s with ddie := s.ddie.mod k f }

/-- A keep-alive domain. -/
def State.ka (s : State) (k : Nat) : Keep := s.keep.at k

/-- A change of a keep-alive domain. -/
def State.modK (s : State) (k : Nat) (f : Keep → Keep) : State := { s with keep := s.keep.mod k f }

/-- The die index of D die k, R33. -/
def dix (k : Nat) : Nat := 2 + k

def State.hasC (s : State) (d : Nat) : Bool := decide (d < s.part.ctl)
def State.hasD (s : State) (k : Nat) : Bool := decide (k < s.part.drv)

/-- Whether a die index of R33 names a die of the part. -/
def State.hasDie (s : State) (i : Nat) : Bool := if i < 2 then s.hasC i else s.hasD (i - 2)

/-- The ROM keeps a C die from doing anything but count its stage time and answer its test access: anchor hold (R85), or a
ROM that failed its own check (R87). -/
def State.romHeld (s : State) (d : Nat) : Bool := s.pkg.anchorHold || (s.c d).sys.romHold

/-- A C die of the part that is out of reset and not held by its ROM. -/
def State.runs (s : State) (d : Nat) : Bool := s.hasC d && !(s.c d).sys.inReset && !s.romHeld d

/-- A D die of the part that is out of reset. -/
def State.runsD (s : State) (k : Nat) : Bool := s.hasD k && !(s.dd k).inReset

/-- A command at a C die: at a die that is held in reset (R74) or by its ROM (R85, R87), or that the part lacks, nothing
happens (log entry 4). -/
def onC (d : Nat) (f : State → State) (s : State) : Out := .next (if s.runs d then f s else s)

/-- A command at a C die whatever its reset. -/
def atC (d : Nat) (f : State → State) (s : State) : Out := .next (if s.hasC d then f s else s)

/-- A command at a D die. -/
def onD (k : Nat) (f : State → State) (s : State) : Out := .next (if s.runsD k then f s else s)

/-- A command at a D die whatever its reset. -/
def atD (k : Nat) (f : State → State) (s : State) : Out := .next (if s.hasD k then f s else s)

/-- A command of C die d about D die k. -/
def onCD (d k : Nat) (f : State → State) (s : State) : Out := .next (if s.runs d && s.hasD k then f s else s)

/-- A command that reaches D die k from C die d. -/
def onDC (d k : Nat) (f : State → State) (s : State) : Out := .next (if s.hasC d && s.runsD k then f s else s)

/-! ### Loops and choices -/

/-- f applied for every number of a list, in order. -/
def overL (xs : List Nat) (f : Nat → State → State) (s : State) : State := xs.foldl (fun s i => f i s) s

/-- f applied for 0, 1, …, n − 1. -/
def overN (n : Nat) (f : Nat → State → State) (s : State) : State := overL (List.range n) f s

/-- A change made only when a condition holds. -/
def onlyIf (b : Bool) (f : State → State) (s : State) : State := if b then f s else s

/-- The prompt ring, which only the record writer stores into (R476). -/
def inRing (addr : Nat) : Bool := decide (0x205C0000 ≤ addr) && decide (addr < 0x20600000)

/-! ### Free values -/

/-- The next free value, 32 bits. -/
def State.freeWord (s : State) : Nat := (Config.freeWord s.free).toNat

/-- The state with one free value drawn. -/
def State.drawn (s : State) : State := { s with free := s.free + 1 }

/-! ### Memory -/

/-- The key of a byte of a C die's memory. -/
def memKey (i addr : Nat) : Nat := addr + 0x100000000 * i

/-- The byte at a key of memory: an unlisted byte reads 0. -/
def Memory.read (m : List Host.Cell) (k : Nat) : Byte := Tab.read (α := Byte) (fun _ => 0) m k

/-- A byte written. -/
def Memory.write (m : List Host.Cell) (k : Nat) (b : Byte) : List Host.Cell :=
  Tab.write (α := Byte) (fun _ => 0) m k b

/-- The canonical form of memory: keys strictly rising, no byte listed as 0. -/
def Memory.wf (m : List Host.Cell) : Bool := Tab.wf (α := Byte) (fun _ => 0) m

/-- A byte of die i. -/
def State.rdB (s : State) (i addr : Nat) : Nat := (Memory.read s.mem (memKey i addr)).toNat

/-- A byte of die i written. -/
def State.wrB (s : State) (i addr b : Nat) : State :=
  { s with mem := Memory.write s.mem (memKey i addr) (BitVec.ofNat 8 b) }

/-- Bytes of die i from an address. -/
def State.rdBytes (s : State) (i addr n : Nat) : List Nat := (List.range n).map (fun j => s.rdB i (addr + j))

/-- Bytes written from an address upward. -/
def State.wrBytes (s : State) (i addr : Nat) : List Nat → State
  | [] => s
  | b :: bs => (s.wrB i addr b).wrBytes i (addr + 1) bs

/-- A little-endian number of n bytes. -/
def State.rdLE (s : State) (i addr n : Nat) : Nat :=
  (s.rdBytes i addr n).foldr (fun b acc => b + 256 * acc) 0

/-- A 32-bit word of memory, least significant byte first. -/
def State.rd32 (s : State) (i addr : Nat) : Nat := s.rdLE i addr 4

/-- A 32-bit word written. -/
def State.wr32 (s : State) (i addr w : Nat) : State := s.wrBytes i addr (wordBytes w)

/-- Bytes of memory copied within or between dies. -/
def State.copyMem (s : State) (i src j dst n : Nat) : State := s.wrBytes j dst (s.rdBytes i src n)

/-- The bytes of a range removed from memory (they read 0). -/
def State.eraseMem (s : State) (i lo hi : Nat) : State :=
  { s with mem := s.mem.filter (fun e => decide (e.1 < memKey i lo) || decide (memKey i hi < e.1)) }

/-! ### Time -/

/-- The stage time of a C die, R27. -/
def State.now (s : State) (d : Nat) : Nat := (s.c d).sys.stage.toNat

/-- Its bits 31:0. -/
def State.now32 (s : State) (d : Nat) : Nat := s.now d % 0x100000000

/-- The fabric clock of a C die runs: not on its backup oscillator, R72. -/
def State.fabric (s : State) (d : Nat) : Bool := !s.flag d F.SYS_CLKST_ON_BACKUP

/-- Bank A is low: VIO_A of some C die counts as low (R53; the C dies share the banks). -/
def State.bankALow (s : State) : Bool := (s.c 0).sys.vioALow || (s.c 1).sys.vioALow

/-- The time without a checkpoint counts from now on, for both core pairs (R391). -/
def noCheckpoints (d : Nat) (s : State) : State :=
  let now := s.now d
  s.modC d (fun c => { c with chk := [0, 1].foldl (fun m p => m.mod p (fun x => { x with cpAt := now })) c.chk })

/-! ### Device state -/

/-- The C die that carries the package state: C0, or C1 while C0 is in reset. -/
def State.lead (s : State) : Nat := if (s.c 0).sys.inReset && s.runs 1 then 1 else 0

/-- The device state, Table 1-7. -/
def State.dev (s : State) : Nat := s.get s.lead F.SYS_DSTATE_STATE

abbrev Dev.off := 0
abbrev Dev.reset := 1
abbrev Dev.rollCall := 2
abbrev Dev.bist := 3
abbrev Dev.config := 4
abbrev Dev.standby := 5
abbrev Dev.run := 6
abbrev Dev.curtain := 7
abbrev Dev.lockdown := 8
abbrev Dev.recovery := 9

/-- The device is in STANDBY or RUN. -/
def State.devActive (s : State) : Bool := s.dev == Dev.standby || s.dev == Dev.run

/-- The life-cycle state, Table 1-9: 0 BLANK, 1 MANUFACTURE, 2 DEPLOYED, 3 FIELD_RETURN, 4 RETIRED. -/
def State.lc (s : State) (d : Nat) : Nat := s.get d F.SEC_LC_STATE

/-- DISCH_BUSb_STAT.STATE, Table 13-12. -/
abbrev Ds.idle := 0
abbrev Ds.resistor := 1
abbrev Ds.winding := 2
abbrev Ds.done := 3
abbrev Ds.timeout := 4
abbrev Ds.fault := 5

/-- A winding discharge runs on the axis, R368. -/
def State.winding (s : State) (d a : Nat) : Bool :=
  (List.range 3).any (fun b => s.get d (F.DISCH_BUS_STAT_STATE b) == Ds.winding && (s.c d).safe.disAx.at b == a)

/-! ### Ownership -/

/-- The C die that owns a D die (R14), as the D die reports it. -/
def State.owner (s : State) (k : Nat) : Nat := s.get (dix k) F.DRV_D_ID_OWNER

/-- The D die has no owner: it is an orphan (R18), or has reset outside a package reset (R337). -/
def State.orphan (s : State) (k : Nat) : Bool := (s.dd k).noOwner

/-- A D die given to C die d, out of its orphan state. -/
def setOwner (k d : Nat) (s : State) : State :=
  let before := s.owner k
  ((s.put (dix k) F.DRV_D_ID_OWNER d).off (dix k) F.DRV_D_STAT_ORPHAN).modD k (fun x =>
    { x with noOwner := false, ownBefore := before, ownSince := x.stage.toNat + 1 })

/-- The C die that owned a D die at a stage time of the D die not before its last change of ownership but one, R159. -/
def State.ownerAt (s : State) (k t : Nat) : Nat := if t + 1 < (s.dd k).ownSince then (s.dd k).ownBefore else s.owner k

/-- C die d owns D die k. -/
def State.owns (s : State) (d k : Nat) : Bool := s.hasD k && s.owner k == d && !s.orphan k

/-- C die d has the wings role, R102: C1 in single-control degraded mode, or a die that rejoined under it. -/
def State.wings (s : State) (d : Nat) : Bool :=
  s.get d F.HDR_RC_STATUS_ROLE == 2 || (s.get d F.HDR_RC_STATUS_ROLE == 3 && s.flag d F.HDR_RC_STATUS_SINGLE)

/-- The C dies exchange service traffic alone, R102: one of them has the wings role. -/
def State.serviceOnly (s : State) : Bool := (s.runs 0 && s.wings 0) || (s.runs 1 && s.wings 1)

/-- SYS_SUPST.LOCKOUT of every running C die: the common lockout of each D die whose link is up (R84, R315). -/
def refreshLockout (s : State) : State :=
  overN 2 (fun d s => if s.runs d then
    s.put d F.SYS_SUPST_LOCKOUT (bitsOf 6 (fun k => s.hasD k && s.flag d (F.HDR_L_STAT_UP (k + 1)) &&
      s.flag (dix k) F.DRV_D_STAT_LOCKOUT)) else s) s

/-- The link of C die d to D die k is up. -/
def State.linkD (s : State) (d k : Nat) : Bool := s.flag d (F.HDR_L_STAT_UP (k + 1))

/-- The link between the C dies is up. -/
def State.linkC (s : State) (d : Nat) : Bool := s.flag d (F.HDR_L_STAT_UP 0)

/-- The axis of a leg of a D die, DRV_Dd_LEGAX; 7 is unused. -/
def State.legAx (s : State) (k leg : Nat) : Nat := s.get (dix k) F.DRV_D_LEGAX / 8 ^ leg % 8

/-- A D die serves an axis. -/
def State.serves (s : State) (k a : Nat) : Bool :=
  s.hasD k && ((List.range 3).any (fun leg => s.legAx k leg == a))

/-- The D dies that serve an axis. -/
def State.dOf (s : State) (a : Nat) : List Nat := (List.range 6).filter (fun k => s.serves k a)

/-- The axes that a D die serves. -/
def State.axOf (s : State) (k : Nat) : List Nat := (List.range 6).filter (fun a => s.serves k a)

/-- The channel of a leg: its HS channel is 2·leg, its LS channel 2·leg + 1 (Names, chapter 0). -/
def hsCh (leg : Nat) : Nat := 2 * leg
def lsCh (leg : Nat) : Nat := 2 * leg + 1

/-- HDR_OWN, SYS_CLKST.FWD_OK and ADC_SHd_STAT.OWNED of both C dies brought into agreement with the D dies. -/
def State.syncOwn (s : State) : State :=
  overN 2 (fun d s =>
    if s.hasC d then
      let s := s.put d F.HDR_OWN_OWNER (bitsOf 6 (fun k => s.hasD k && s.owner k == 1))
      let s := s.put d F.HDR_OWN_ORPHAN (bitsOf 6 (fun k =>
        s.hasD k && (s.orphan k || s.flag (dix k) F.DRV_D_STAT_ORPHAN)))
      let s := s.put d F.HDR_OWN_MINE (bitsOf 6 (fun k => s.owns d k))
      let h := (s.c d).hdr.ho
      let fwd := if h.active && h.taking then setBit (s.get d F.HDR_OWN_MINE) h.die true else s.get d F.HDR_OWN_MINE
      let s := s.put d F.SYS_CLKST_FWD_OK (if s.fabric d then fwd else 0)
      overN 6 (fun k s => s.put d (F.ADC_SH_STAT_OWNED k) (b2n (s.owns d k))) s
    else s) s

/-! ### Bus errors -/

/-- A bus error on a core of C die d: it is raised on the issuing core, and on no core for another master. -/
def busError (d : Nat) (m : Master) (addr : Nat) (write : Bool) (s : State) : State :=
  match m with
  | .core k _ => s.modSys d (fun y =>
    { y with busErr := y.busErr.mod k.val (fun b => BusErr.mk true addr write (b.count + 1)) })
  | _ => s

end Sys2Proof.Machine
end

