-- ==== Sys2Proof/Machine/Record.lean ====
section
/-! DEFINITION. Writing an event record (R471, R474 to R476) and starting a flush (R477, R478): the operations every
other block uses. -/

namespace Sys2Proof.Machine

/-- The block numbers of SOURCE, Table 18-1. -/
abbrev Blk.sys := 0
abbrev Blk.safe := 1
abbrev Blk.chk := 2
abbrev Blk.bist := 3
abbrev Blk.therm := 4
abbrev Blk.prompt := 5
abbrev Blk.nvm := 6
abbrev Blk.sec := 7
abbrev Blk.cue := 8
abbrev Blk.flume := 9
abbrev Blk.hdr := 10
abbrev Blk.lib := 11
abbrev Blk.adc := 12
abbrev Blk.loop := 13
abbrev Blk.field := 14
abbrev Blk.pwm := 15
abbrev Blk.fb := 16
abbrev Blk.can := 17
abbrev Blk.drv := 18
abbrev Blk.tmon := 19
abbrev Blk.disch := 20
abbrev Blk.rom := 21
abbrev Blk.software := 22

/-- An event before it is stored: code, source block, the die it happened on, instance, severity and payload. -/
structure Event where
  code : Nat
  blk : Nat
  die : Nat
  inst : Nat
  sev : Nat
  w0 : Nat
  w1 : Nat
  w2 : Nat
  w3 : Nat
  deriving DecidableEq, Repr, Inhabited

/-- The codes marked "yes" in the Merge column of Tables 18-3 and 19-11; software codes have no such mark. -/
def mergeable (code : Nat) : Bool :=
  [0x0020, 0x0030, 0x0032, 0x0052, 0x0061, 0x0080, 0x0105, 0x0113].contains code

/-- SOURCE of an event, Table 18-1. -/
def Event.source (e : Event) : Nat := e.blk * 8 + e.die % 8

/-- The operating time of a C die in ms, R472. -/
def State.opMs (s : State) (d : Nat) : Nat := (s.c d).sys.opCounts / 400000 % 2 ^ 40

/-- The address of a ring record, R476. -/
def ringAddr (ix : Nat) : Nat := 0x205C0000 + 32 * (ix % 8192)

/-- The address of a main-log record, R479. -/
def mlogAddr (slot : Nat) : Nat := 0x10A00000 + 32 * (slot % 30720)

/-- The address of a last-gasp record, R479. -/
def lgAddr (slot : Nat) : Nat := 0x10AF0000 + 32 * slot

/-- The bytes of a record, Table 18-1. -/
def recordBytes (optime pcycle : Nat) (e : Event) (flags repeats : Nat) : List Nat :=
  wordBytes (optime % 2 ^ 32) ++ [optime / 2 ^ 32 % 256] ++
  [pcycle % 256, pcycle / 256 % 256, pcycle / 65536 % 256] ++
  [e.code % 256, e.code / 256 % 256, e.source % 256, e.inst % 256, e.sev % 256, flags % 256] ++
  [repeats % 256, repeats / 256 % 256] ++
  wordBytes e.w0 ++ wordBytes e.w1 ++ wordBytes e.w2 ++ wordBytes e.w3

/-- Whether a new event merges into the most recent record of the ring, R475. -/
def mergesInto (s : State) (d : Nat) (e : Event) : Bool :=
  let a := ringAddr (s.get d F.PROMPT_RING_HEAD + 8191)
  mergeable e.code && decide (0 < s.get d F.PROMPT_STAT_UNFL) &&
    s.rdLE d (a + 8) 2 == e.code && s.rdB d (a + 10) == e.source % 256 && s.rdB d (a + 11) == e.inst % 256 &&
    s.rd32 d (a + 16) == e.w0 % 2 ^ 32

/-- A merge: REPEAT rises, and REPSAT sets at 65,535, R475. -/
def mergeRecord (d : Nat) (s : State) : State :=
  let a := ringAddr (s.get d F.PROMPT_RING_HEAD + 8191)
  let n := satAdd 16 (s.rdLE d (a + 14) 2) 1
  let s := s.wrBytes d (a + 14) [n % 256, n / 256]
  if n == 65535 then s.wrB d (a + 13) (setBit (s.rdB d (a + 13)) 2 true) else s

/-- The largest reading of the die's non-faulty sensors, R478; none when every sensor is faulty. -/
def State.hottest (s : State) (d : Nat) : Option Int :=
  ((List.range 8).filter (fun t => !s.flag d (F.THERM_TS_FAULT t))).foldl
    (fun acc t =>
      let v := s.geti d (F.THERM_TS_TEMP t)
      match acc with
      | none => some v
      | some m => some (if m < v then v else m)) none

/-- Degrees Celsius as Q15 of ±256 °C. -/
def celsius (t : Int) : Int := t * 128

/-- Where a flush started now would write, R478: 0 the main log, 1 the last-gasp area, 2 nowhere. -/
def State.flushDest (s : State) (d : Nat) : Nat :=
  match s.hottest d with
  | none => 2
  | some t =>
    if t < celsius (-40) then 2
    else if t ≤ celsius 125 then 0
    else if t ≤ celsius 150 then 1
    else 2

/-- A settings write or an update chunk that runs on C die d ends at the word in progress, with a code (R81, R432, R497). -/
def nvmCut (d code : Nat) (s : State) : State :=
  s.modC d (fun c => match c.nvm.busy with
    | some (op, ix, 0) =>
      if op == 1 || op == 4 then { c with nvm := { c.nvm with busy := some (op, ix, code) } } else c
    | _ => c)

/-- Whether the junction window of R432 is met on a C die. -/
def State.nvmWindow (s : State) (d : Nat) : Bool := s.flag d F.THERM_STAT_NVMOK

/-- One record copied into the next main-log slot; the log is circular, R479. -/
def toMainLog (d src : Nat) (s : State) : State :=
  let slot := s.get d F.PROMPT_MLOG_MHEAD
  let s := s.copyMem d src d (mlogAddr slot) 32
  let s := s.put d F.PROMPT_MLOG_MHEAD ((slot + 1) % 30720)
  s.put d F.PROMPT_MLOG_MCNT (min 30720 (s.get d F.PROMPT_MLOG_MCNT + 1))

/-- The records of the last-gasp area are copied to the main log, and the area empties, R478. -/
def drainLastGasp (d : Nat) (s : State) : State :=
  let n := s.get d F.PROMPT_LGFILL
  (overN n (fun j => toMainLog d (lgAddr j)) s).put d F.PROMPT_LGFILL 0

/-- C0 saves the operating time and the power-cycle count, R472; a save that the window of R432 blocks waits. -/
def optimeSave (d : Nat) (s : State) : State :=
  if d == 0 then
    if s.nvmWindow d then
      let t := s.opMs d
      let s := s.wrBytes d 0x10B80040
        (wordBytes (t % 2 ^ 32) ++ [t / 2 ^ 32 % 256, 0, 0, 0] ++ wordBytes (s.get d F.PROMPT_PCYCLE))
      s.modPrompt d (fun p => { p with saveWaits := false })
    else s.modPrompt d (fun p => { p with saveWaits := true })
  else s

/-- A flush trigger, R477, R478: a trigger during a flush, or while one waits, starts nothing further. -/
def flushStart (d : Nat) (s : State) : State :=
  if s.flag d F.PROMPT_STAT_FLUSHING || s.flag d F.PROMPT_STAT_BLOCKED then s
  else
    let dest := s.flushDest d
    if dest == 2 then
      let s := s.modPrompt d (fun p => { p with blockedAt := s.now d })
      (s.on d F.PROMPT_STAT_BLOCKED).on d F.PROMPT_EVT_BLOCKED
    else
      let s := (s.on d F.PROMPT_STAT_FLUSHING).off d F.PROMPT_STAT_BLOCKED
      let s := if dest == 0 then drainLastGasp d s else s
      let s := s.modPrompt d (fun p => { p with flushStart := s.now d, flushHot := dest == 1 })
      optimeSave d s

/-- A record stored in the ring, or dropped when 2,048 records are unflushed, R476; a full threshold flushes, R477. -/
def storeRecord (d : Nat) (e : Event) (rom : Bool) (s : State) : State :=
  let unfl := s.get d F.PROMPT_STAT_UNFL
  if 2048 ≤ unfl then
    let s := (s.count d F.PROMPT_LOSTCNT 1).on d F.PROMPT_EVT_LOST
    s.modPrompt d (fun p => { p with lostNext := true })
  else
    let head := s.get d F.PROMPT_RING_HEAD
    let flags := 2 * b2n rom + 8 * b2n (s.c d).prompt.lostNext
    let s := s.wrBytes d (ringAddr head) (recordBytes (s.opMs d) (s.get d F.PROMPT_PCYCLE) e flags 0)
    let s := s.modPrompt d (fun p => { p with lostNext := false })
    let s := s.put d F.PROMPT_RING_HEAD ((head + 1) % 8192)
    let s := s.put d F.PROMPT_STAT_UNFL (unfl + 1)
    if s.get d F.PROMPT_FLTH ≤ unfl + 1 then flushStart d s else s

/-- An event recorded by a C die: merged, stored or dropped, R474 to R476. -/
def recordEvent (d : Nat) (e : Event) (s : State) : State :=
  if s.runs d then if mergesInto s d e then mergeRecord d s else storeRecord d e false s else s

/-- An event of C die d's own block recorded, with the stage time as its last payload word (Table 18-3). -/
def note (d blk code sev inst w0 w1 w2 : Nat) (s : State) : State :=
  recordEvent d ⟨code, blk, d, inst, sev, w0, w1, w2, s.now32 d⟩ s

/-- A record written by the boot ROM (flag ROM). -/
def recordRom (d : Nat) (e : Event) (s : State) : State := storeRecord d e true s

/-- The device state changes: every running C die shows it and records it (R34, R35, R474). -/
def setDev (st : Nat) (s : State) : State :=
  let old := s.dev
  if old == st then s
  else
    overN 2 (fun d s =>
      if s.runs d then
        recordEvent d ⟨0x0002, Blk.sys, d, 0, 0, old, st, 0, s.now32 d⟩
          ((s.put d F.SYS_DSTATE_STATE st).put d F.SAFE_CSTAT_PKG (b2n (st == Dev.curtain || st == Dev.lockdown)))
      else s) s

end Sys2Proof.Machine
end

