-- ==== Sys2Proof/Machine/LinkOps.lean ====
section
/-! DEFINITION. The ends of the headrace links (R133 to R135): flits, their framing into slots, what a transmitter keeps for a
retry, and cue symbols. -/

namespace Sys2Proof.Machine

/-- One end of a link: link n of a C die (L0 the other C die, L(1 + d) D die d), or the link of a D die to C die n. -/
def State.link (s : State) (i n : Nat) : LinkC :=
  if i < 2 then (s.c i).hdr.links.at n else (s.dd (i - 2)).links.at n

/-- A change of a link end. -/
def State.modLink (s : State) (i n : Nat) (f : LinkC → LinkC) : State :=
  if i < 2 then s.modHdr i (fun h => { h with links := h.links.mod n f })
  else s.modD (i - 2) (fun x => { x with links := x.links.mod n f })

/-- The die at the far end of a link of a die, and the link's number there. -/
def farEnd (i n : Nat) : Nat := if i < 2 then (if n == 0 then 1 - i else n + 1) else n
def farNum (i n : Nat) : Nat := if i < 2 then (if n == 0 then 0 else i) else i - 1

/-- The part has this link end: both its dies exist and differ. -/
def State.hasLink (s : State) (i n : Nat) : Bool :=
  s.hasDie i && s.hasDie (farEnd i n) && i != farEnd i n && (decide (i < 2) || decide (n < 2))

/-- The die is out of reset. -/
def State.dieRuns (s : State) (i : Nat) : Bool := if i < 2 then s.runs i else s.runsD (i - 2)

/-- A command at a link end: at one that the part lacks, or of a die in reset, nothing happens (log entry 4). -/
def onLink (i n : Nat) (f : State → State) (s : State) : Out :=
  .next (if s.hasLink i n && s.dieRuns i then f s else s)

/-- The stage time of a die. -/
def State.stageOf (s : State) (i : Nat) : StageTime := if i < 2 then (s.c i).sys.stage else (s.dd (i - 2)).stage

/-- The last k entries of a list. -/
def lastN {α : Type} (k : Nat) (xs : List α) : List α := xs.drop (xs.length - k)

/-! ### Flits -/

/-- The fields of a flit, R134. -/
def flitType (w : Nat) : Nat := w / 2 ^ 60 % 16
def flitSeq (w : Nat) : Nat := w / 2 ^ 56 % 16
def flitPayload (w : Nat) : Nat := w / 2 ^ 12 % 2 ^ 44

/-- A flit framed: type, sequence number, payload and CRC-12, R134. -/
def flitWord (kind seq payload : Nat) : Nat :=
  let w := kind % 16 * 2 ^ 60 + seq % 16 * 2 ^ 56 + payload % 2 ^ 44 * 2 ^ 12
  w + crc12 w

/-- A flit passes its check: the CRC-12 agrees and the type is one of Table 6-1. -/
def flitOk (w : Nat) : Bool := crc12 w == w % 4096 && decide (flitType w < 12)

/-- The flit types of Table 6-1. -/
abbrev Fl.idle := 0
abbrev Fl.nak := 1
abbrev Fl.shunt := 2
abbrev Fl.wr := 3
abbrev Fl.rd := 4
abbrev Fl.rdrsp := 5
abbrev Fl.time := 6
abbrev Fl.own := 7
abbrev Fl.notice := 8
abbrev Fl.status := 9
abbrev Fl.ucode := 10
abbrev Fl.service := 11

/-- The messages of an OWN flit (Table 6-4); the spec gives their names, not their codes (log entry 17). -/
abbrev Own.offer := 0
abbrev Own.ready := 1
abbrev Own.commit := 2
abbrev Own.done := 3
abbrev Own.cancel := 4
abbrev Own.take := 5
abbrev Own.taken := 6
abbrev Own.notOrphan := 7

/-- The payload of an OWN flit: the message, the D die, and the low bits of B. -/
def ownPayload (msg k b : Nat) : Nat := msg * 2 ^ 40 + k * 2 ^ 36 + b % 2 ^ 36

/-- The 6-bit slots of a flit, R133, R134: kind bit 0 and five bits of the stream, most significant first; 13 slots on one
lane, the last bit padding; 4 slots on each of four lanes. -/
def flitSlots (lanes w : Nat) : List Nat :=
  let n := if lanes == 4 then 16 else 13
  let x := w * 2 ^ (5 * n - 64)
  (List.range n).map (fun j => x / 2 ^ (5 * (n - 1 - j)) % 32)

/-- The two slots of a cue symbol, R133, R146: kind bit 1; an 8-bit source index and 2 check bits. -/
def cueSlots (src check : Nat) : List Nat :=
  let x := src % 256 * 4 + check % 4
  [32 + x / 32, 32 + x % 32]

/-- Lanes of link n of a die: four between the C dies, one to a D die, R133. -/
def lanesOf (i n : Nat) : Nat := if i < 2 && n == 0 then 4 else 1

/-- A flit is sent: it takes the next sequence number, stays among the last 16 for a retry, R135, and its slots wait to go
out. IDLE and NAK flits take no number. -/
def sendFlit (i n kind payload : Nat) (s : State) : State :=
  s.modLink i n (fun l =>
    let out := l.slots ++ flitSlots (lanesOf i n) (flitWord kind l.txSeq payload)
    if kind == Fl.idle || kind == Fl.nak then { l with slots := out }
    else { l with txSeq := (l.txSeq + 1) % 16, replay := lastN 16 (l.replay ++ [⟨kind, payload % 2 ^ 44⟩]), slots := out })

/-- A flit of a command of the headrace: sent while the link is up. -/
def tellFlit (i n kind payload : Nat) (s : State) : State :=
  if s.flag (if i < 2 then i else n) (F.HDR_L_STAT_UP (if i < 2 then n else i - 1)) then sendFlit i n kind payload s else s

/-- A cue symbol is sent: its slots pre-empt those of the flits (R137). The spec does not give the check bits: a free value. -/
def sendCue (i n src : Nat) (s : State) : State :=
  (s.modLink i n (fun l => { l with slots := cueSlots src s.freeWord ++ l.slots })).drawn

/-- One fabric cycle of a link end: a slot leaves on each lane; with none waiting, IDLE flits go out (R134). -/
def slotsOut (i n : Nat) (l : LinkC) : LinkC := { l with slots := l.slots.drop (lanesOf i n) }

/-- The slots that wait at the link ends of a C die, or of a D die, go out. -/
def slotsOutC (d : Nat) (s : State) : State :=
  if (s.c d).hdr.links.all (fun e => e.2.slots.isEmpty) then s
  else overN 7 (fun n s => s.modLink d n (slotsOut d n)) s
def slotsOutD (k : Nat) (s : State) : State :=
  if (s.dd k).links.all (fun e => e.2.slots.isEmpty) then s
  else overN 2 (fun n s => s.modD k (fun x => { x with links := x.links.mod n (slotsOut (dix k) n) })) s

/-- The two flits that name a future stage time T, R139: H = 1 with bits 63:43, then H = 0 with bits 42:0. -/
def sendTime (i n t : Nat) (s : State) : State :=
  sendFlit i n Fl.time (t % 2 ^ 43) (sendFlit i n Fl.time (2 ^ 43 + t / 2 ^ 43 % 2 ^ 21) s)

/-- How far ahead of its own count a sender names T (log entry 18). -/
def timeAhead : Nat := 400

/-- C die d names a stage time to the die at the far end of its link n, if the link is up. -/
def nameTime (d n : Nat) (s : State) : State :=
  if s.flag d (F.HDR_L_STAT_UP n) then sendTime d n (s.now d + timeAhead) s else s

/-- A link end as training leaves it: sequence numbers from 0, nothing kept. -/
def linkFresh (i n : Nat) (s : State) : State :=
  let t := (s.stageOf i).toNat
  s.modLink i n (fun l => { (default : LinkC) with delivered := l.delivered, goodAt := t })

/-- A link of two dies is trained: HDR_Ln_STAT, with every lane of R133, and the one-way delay as training measures it
(R139; a free value). -/
def linkUp (d n : Nat) (s : State) : State :=
  let s := (s.on d (F.HDR_L_STAT_UP n)).put d (F.HDR_L_STAT_LANES n) (lanesOf d n)
  let s := (s.put d (F.HDR_L_DELAY n) s.freeWord).drawn
  linkFresh d n (onlyIf (n != 0) (linkFresh (n + 1) d) s)

end Sys2Proof.Machine
end

