-- ==== Sys2Proof/Machine/Stats.lean ====
section
/-! DEFINITION. The live bank of the frame statistics (R485, Table 18-4): the counts other blocks raise in it. -/

namespace Sys2Proof.Machine

/-- A count of the axis that placed engine n, if one did. -/
def statEng (d n : Nat) (f : Nat → Fld) (s : State) : State :=
  match (s.c d).loop.engAx.at n with
  | 0 => s
  | a + 1 => s.count d (f a) 1

/-- The largest run length of the axis that placed engine n. -/
def statRun (d n cyc : Nat) (s : State) : State :=
  match (s.c d).loop.engAx.at n with
  | 0 => s
  | a + 1 => s.put d (F.PROMPT_LIVE_SA_RUN_RUNMAX a) (max cyc (s.get d (F.PROMPT_LIVE_SA_RUN_RUNMAX a)))

/-- A winner change of a weir of an axis. -/
def statWeir (d w : Nat) (s : State) : State :=
  match (s.c d).loop.weirAx.at w with
  | 0 => s
  | a + 1 => s.count d (F.PROMPT_LIVE_SA_RUN_SELCHG a) 1

/-- A count of an axis; 6 and 7 are none. -/
def statAx (d a : Nat) (f : Nat → Fld) (s : State) : State := if a < 6 then s.count d (f a) 1 else s

end Sys2Proof.Machine
end

