-- ==== Sys2Proof/Machine/CueOps.lean ====
section
/-! DEFINITION. Routing a cue source to its destinations (R146, R147). -/

namespace Sys2Proof.Machine

/-- The D die whose cue points an index names as a source (0xE0 + 4d + k), Table 6-6. -/
def cueSrcDie (src : Nat) : Option Nat :=
  if 0xE0 ≤ src ∧ src < 0xE0 + 4 * 6 then some ((src - 0xE0) / 4) else none

/-- The source is a cue terminal, GPC0 to GPC7, Table 6-6. -/
def cueSrcGpc (src : Nat) : Bool := decide (0xC0 ≤ src) && decide (src ≤ 0xC7)

/-- The D die whose cue point an index names as a destination (0xA0 + 8d + k), Table 6-7. -/
def cueDstDie (dst : Nat) : Option Nat :=
  if 0xA0 ≤ dst ∧ dst < 0xA0 + 8 * 6 then some ((dst - 0xA0) / 8) else none

/-- The enabled routes of C die d that select a source, of this die or of the peer (CUE_DSTn, R149), ascending. -/
def cueRoutes (s : State) (d src : Nat) (peer : Bool) : List Nat :=
  s.regs.filterMap (fun e =>
    let k := regKey d 0x80000
    if k ≤ e.1 ∧ e.1 < k + 0x400 then
      let w := e.2
      if (F.CUE_DST_EN 0).ofWord w == 1 && (F.CUE_DST_SRC 0).ofWord w == src &&
          (F.CUE_DST_PEER 0).ofWord w == b2n peer then some ((e.1 - k) / 4) else none
    else none)

/-- A route is inactive: it names a cue point of a D die that is not its die's to serve, R147: as a destination one that
this die does not own, as a source one that the die on which the source lies does not own. -/
def cueInactive (s : State) (d dst : Nat) : Bool :=
  s.bitOf d (F.CUE_INACT (dst / 32)) (dst % 32)

/-- The bits of CUE_INACTm brought into agreement with the routes and the ownership, R147. -/
def refreshInact (d : Nat) (s : State) : State :=
  overN 8 (fun m s =>
    s.put d (F.CUE_INACT m) (bitsOf 32 (fun j =>
      let n := 32 * m + j
      let named := s.flag d (F.CUE_DST_EN n)
      let src := s.get d (F.CUE_DST_SRC n)
      let foreign := fun o => match o with
        | none => false
        | some k => !s.owns d k
      let away := match cueSrcDie src with
        | none => false
        | some k => !s.owns (if s.flag d (F.CUE_DST_PEER n) then 1 - d else d) k
      named && (foreign (cueDstDie n) || away)))) s

/-- More than two cue symbols on a link in one direction within 8 fabric cycles: this one waits for free slots, R137. -/
def State.cueCrowded (s : State) (d way : Nat) : Bool :=
  let l := (s.c d).hdr.cueAt.at way
  decide (0 < l.2) && decide (s.now d + 1 < l.2 + 8)

/-- A cue symbol taken note of. -/
def cueNote (d way : Nat) (s : State) : State :=
  let now := s.now d + 1
  s.modHdr d (fun h => { h with cueAt := h.cueAt.mod way (fun l => (now, l.1)) })

/-- The arrivals of a source event on C die d are put on their way; `peer`: the event is one of the other C die. Within the die
a cue arrives one fabric cycle after its event, across dies 8 (R146). -/
def queueCues (d src : Nat) (peer : Bool) (s : State) : State :=
  let from_ := if peer then some 0 else (cueSrcDie src).map (· + 1)
  let jam := match from_ with
    | some w => s.cueCrowded d w
    | none => false
  let s := match from_ with
    | some w => cueNote d w s
    | none => s
  overL (cueRoutes s d src peer) (fun n s =>
    if cueInactive s d n then s
    else
      let cross := from_.isSome || (cueDstDie n).isSome
      let jam := jam || (match cueDstDie n with
        | some k => s.cueCrowded d (8 + k)
        | none => false)
      let s := match cueDstDie n with
        | some k => sendCue d (k + 1) src (cueNote d (8 + k) s)
        | none => s
      let due := s.now d + (if cross then 8 else 1)
      s.modHdr d (fun h => { h with cues := h.cues ++ [⟨n, cross, src, due, jam⟩] })) s

/-- A cue source event of C die d, R146: it goes to every enabled destination that selects it, on this die and, unless the dies
exchange service traffic alone (R102), on the peer. A source of a D die is served by its owner, R147. -/
def fireCue (d src : Nat) (s : State) : State :=
  let s := if s.runs d then queueCues d src false s else s
  let p := 1 - d
  if s.runs p && s.linkC p && !s.serviceOnly && !(cueRoutes s p src true).isEmpty then
    queueCues p src true (if s.runs d then sendCue d 0 src s else s)
  else s

/-- A cue source of D die k, Table 6-6, served by its owner. -/
def fireDrvCue (k j : Nat) (s : State) : State :=
  if s.orphan k then s else fireCue (s.owner k) (0xE0 + 4 * k + j) s

end Sys2Proof.Machine
end

