-- ==== Sys2Proof/Machine/Gate.lean ====
section
/-! DEFINITION. The gate channels of a D die: which mechanism holds a channel (R306, Table 13-4), what a channel does
after a change, and the commands of its curtain and orphan registers. -/

namespace Sys2Proof.Machine

/-- The channel states of Table 12-1, as DRV_Dd_CHc_FSTAT.STATE. -/
abbrev Ch.off := 0
abbrev Ch.on := 1
abbrev Ch.softOff := 2
abbrev Ch.forcedOff := 3

/-- The leg commands of Table 12-10. -/
abbrev Leg.follow := 0
abbrev Leg.open_ := 1
abbrev Leg.shortLs := 2
abbrev Leg.shortHs := 3

/-- The state of a channel. -/
def State.ch (s : State) (k c : Nat) : Nat := s.get (dix k) (F.DRV_D_CH_FSTAT_STATE c)

/-- A channel's state set. -/
def State.setCh (s : State) (k c st : Nat) : State := s.put (dix k) (F.DRV_D_CH_FSTAT_STATE c) st

/-- A channel's hidden record changed. -/
def State.modCh (s : State) (k c : Nat) (f : ChanD → ChanD) : State :=
  s.modD k (fun x => { x with chans := x.chans.mod c f })

/-- A leg's hidden record changed. -/
def State.modLeg (s : State) (k leg : Nat) (f : LegD → LegD) : State :=
  s.modD k (fun x => { x with legs := x.legs.mod leg f })

/-- The line of a channel is high. -/
def State.line (s : State) (k c : Nat) : Bool := ((s.dd k).chans.at c).line

/-- The leg is unused (R313). -/
def State.legUnused (s : State) (k leg : Nat) : Bool := s.legAx k leg == 7

/-- An STO input reads torque off (R338). -/
def State.stoOff (s : State) (k : Nat) : Bool :=
  !s.flag (dix k) F.DRV_D_SLST_STO_A || !s.flag (dix k) F.DRV_D_SLST_STO_B

/-- A sluice latch holds the leg (R341). -/
def State.sluiceHeld (s : State) (k leg : Nat) : Bool := (s.dd k).sluice / 256 ^ leg % 256 != 0

/-- What forces a channel to FORCED_OFF: the common lockout or an STO path (Table 12-1). -/
def State.forced (s : State) (k : Nat) : Bool := s.flag (dix k) F.DRV_D_STAT_LOCKOUT || s.stoOff k

/-- The holds of rank 1 to 3 of Table 13-4, and those of R88, R313 and R417, on a channel: they end a soft turn-off too
(R364). -/
def State.chHard (s : State) (k c : Nat) : Bool :=
  let leg := c / 2
  s.forced k || (c % 2 == 0 && !((s.dd k).legs.at leg).measured) || (s.dd k).stoDisc ||
    s.flag (dix k) (F.DRV_D_LEG_STAT_SHOOT leg) || s.flag (dix k) (F.DRV_D_LEG_STAT_GSTUCK leg) ||
    s.legUnused k leg || !s.flag (dix k) F.DRV_D_STAT_UCODE || (s.dd k).inReset || (s.dd k).marked

/-- The holds of rank 1 to 5 of Table 13-4, and those of R88 and R313, on a channel. -/
def State.chHeld (s : State) (k c : Nat) : Bool :=
  s.chHard k c || s.flag (dix k) (F.DRV_D_CH_FSTAT_SCLATCH c) || s.flag (dix k) (F.DRV_D_LEG_STAT_SHLATCH (c / 2)) ||
    s.sluiceHeld k (c / 2)

/-- Some channel of the axis on the die is in SOFT_OFF, R324. -/
def State.softOnAxis (s : State) (k a : Nat) : Bool :=
  (List.range 6).any (fun c => s.legAx k (c / 2) == a && s.ch k c == Ch.softOff)

/-- The die is in its orphan state, R18. -/
def State.inOrphan (s : State) (k : Nat) : Bool := s.flag (dix k) F.DRV_D_STAT_ORPHAN

/-- The command in force on a leg (rank 6): the orphan command while orphaned, once no channel of the axis is in SOFT_OFF
(R324, R336), otherwise the curtain command. -/
def State.legCmd (s : State) (k leg : Nat) : Nat :=
  (if s.inOrphan k && !s.softOnAxis k (s.legAx k leg) then s.get (dix k) F.DRV_D_ORPHAN
    else s.get (dix k) F.DRV_D_CURTAIN) / 4 ^ leg % 4

/-- An entry of Table 12-6 is to run for the channels named (a mask); one that already waits takes them too. Without microcode
there is nothing to run (R88). -/
def seqRuns (k e named : Nat) (s : State) : State :=
  if !s.flag (dix k) F.DRV_D_STAT_UCODE then s
  else
    let l := (s.dd k).seqDue
    let l := if l.any (fun x => x.1 == e) then l.map (fun x => if x.1 == e then (e, Nat.lor x.2 named) else x)
      else l ++ [(e, named)]
    s.modD k (fun x => { x with seqDue := l })

/-- The stage time plus one of a D die, so that 0 can stand for none. -/
def State.mark (s : State) (k : Nat) : Nat := (s.dd k).stage.toNat + 1

/-- The gate-off comparator of a channel reads above VGOFF, R328. -/
def State.gateHigh (s : State) (k c : Nat) : Bool :=
  let h := (s.dd k).chans.at c
  h.gateUp && (h.gateAt == 0 || decide (s.mark k < h.gateAt))

/-- The other channel of a channel's leg. -/
def otherCh (c : Nat) : Nat := if c % 2 = 0 then c + 1 else c - 1

/-- A channel turns on, R306: TURN_ON runs. -/
def chOn (k c : Nat) (s : State) : State :=
  let now := (s.dd k).stage.toNat
  seqRuns k 0 (2 ^ c) ((s.setCh k c Ch.on).modCh k c (fun h =>
    { h with held := false, gateUp := true, gateAt := 0, onAt := now }))

/-- A channel goes to a state in which it is off; TURN_OFF runs where it was on. -/
def chDown (k c st : Nat) (s : State) : State :=
  let was := s.ch k c
  let s := s.setCh k c st
  if was == Ch.on then seqRuns k 1 (2 ^ c) s else s

/-- A turn-on is held because the other gate of the leg is above VGOFF, R328. -/
def gateHold (k c : Nat) (s : State) : State :=
  if ((s.dd k).chans.at c).held then s
  else
    let now := (s.dd k).stage.toNat
    (s.modCh k c (fun h => { h with held := true, heldAt := now })).count (dix k) (F.DRV_D_LEG_ADTST_HOLDCNT (c / 2)) 1

/-- A command names a channel on. -/
def namesOn (cmd c : Nat) : Bool := (cmd == Leg.shortLs && c % 2 == 1) || (cmd == Leg.shortHs && c % 2 == 0)

/-- A channel that a hold keeps off: nothing of its turn-on stays pending. -/
def chStop (k c st : Nat) (s : State) : State :=
  (chDown k c st s).modCh k c (fun h => { h with early := false, held := false })

/-- What a channel does after a change, without a new line edge: a hold or a command takes it off or on; under
FOLLOW it falls with its line and is released only by a rising edge (R306). A command that names it on waits for the other gate
of its leg (R328). -/
def settleCh (k c : Nat) (s : State) : State :=
  let st := s.ch k c
  let cmd := s.legCmd k (c / 2)
  if s.forced k then chStop k c Ch.forcedOff s
  else if st == Ch.softOff && !s.chHard k c then s
  else if s.chHeld k c then chStop k c Ch.off s
  else if cmd == Leg.follow then
    if st == Ch.on && (s.line k c || ((s.dd k).chans.at c).early) then s else chDown k c Ch.off s
  else if namesOn cmd c && !((s.dd k).legs.at (c / 2)).waitCmd then
    if st == Ch.on then s else if s.gateHigh k (otherCh c) then gateHold k c (s.setCh k c Ch.off) else chOn k c s
  else chStop k c Ch.off s

/-- Every channel of a D die brought to rest after a change; STAT.SLUICE, STAT.STO_OFF and SLST follow. -/
def settle (k : Nat) (s : State) : State :=
  let i := dix k
  let s := s.put i F.DRV_D_STAT_SLUICE (b2n ((s.dd k).sluice != 0))
  let s := s.put i F.DRV_D_SLST_LATCH (bitsOf 3 (fun leg => s.sluiceHeld k leg))
  let s := s.put i F.DRV_D_STAT_STO_OFF (b2n (s.stoOff k))
  let s := s.put i F.DRV_D_SLST_PATHA (b2n (!s.flag i F.DRV_D_SLST_STO_A))
  let s := s.put i F.DRV_D_SLST_PATHB (b2n (!s.flag i F.DRV_D_SLST_STO_B))
  let s := s.put i F.DRV_D_STAT_INHIBIT (b2n ((s.dd k).inhibit != 0))
  overN 6 (settleCh k) s

/-- A STATUS flit is sent to the owner, R343. -/
def sendStatus (k : Nat) (s : State) : State := s.modD k (fun x => { x with statusDue := true })

/-- A two-bit command of a leg in a register of six bits. -/
def putLeg (reg leg cmd : Nat) : Nat := reg - reg / 4 ^ leg % 4 * 4 ^ leg + cmd * 4 ^ leg

/-- A curtain command reaches a leg: held while a channel of the axis is in SOFT_OFF (R324), applied otherwise; it
ends the inhibit of the axis (R320). -/
def curtainLeg (k leg cmd : Nat) (s : State) : State :=
  let a := s.legAx k leg
  if s.softOnAxis k a then s.modLeg k leg (fun x => { x with curtainHeld := some cmd })
  else
    let was := s.get (dix k) F.DRV_D_CURTAIN
    let s := s.put (dix k) F.DRV_D_CURTAIN (putLeg was leg cmd)
    let s := if was / 4 ^ leg % 4 == cmd then s
      else
        let s := overL [hsCh leg, lsCh leg] (fun c s => s.modCh k c (fun h => { h with held := false })) s
        seqRuns k 3 (2 ^ hsCh leg + 2 ^ lsCh leg) s
    let s := s.modLeg k leg (fun x => { x with curtainHeld := none, waitCmd := false })
    s.modD k (fun x => { x with inhibit := setBit x.inhibit a false })

/-- An orphan command is loaded for a leg; in the orphan state it waits for SOFT_OFF as a curtain command does. -/
def orphanLeg (k leg cmd : Nat) (s : State) : State :=
  if s.inOrphan k && s.softOnAxis k (s.legAx k leg) then
    s.modLeg k leg (fun x => { x with orphanHeld := some cmd })
  else
    let s := s.put (dix k) F.DRV_D_ORPHAN (putLeg (s.get (dix k) F.DRV_D_ORPHAN) leg cmd)
    s.modLeg k leg (fun x => { x with orphanHeld := none, waitCmd := x.waitCmd && !s.inOrphan k })

/-- The held commands of an axis are applied once none of its channels on the die is in SOFT_OFF, R324. -/
def applyHeld (k : Nat) (s : State) : State :=
  settle k (overN 3 (fun leg s =>
    if s.softOnAxis k (s.legAx k leg) then s
    else
      let h := (s.dd k).legs.at leg
      let s := match h.curtainHeld with
        | some cmd => curtainLeg k leg cmd s
        | none => s
      match h.orphanHeld with
      | some cmd => orphanLeg k leg cmd s
      | none => s) s)

/-- A D die after a change of rank 1 to 3 of Table 13-4, which can end soft turn-offs: held commands then apply. -/
def settleHeld (k : Nat) (s : State) : State := applyHeld k (settle k s)

/-- A D die that loses the link to its owner enters its orphan state (R18): it follows its orphan commands, runs
from its internal oscillator, and its shunt converter stops (R159). -/
def orphanEntry (k : Nat) (s : State) : State :=
  if s.runsD k && !s.orphan k then
    let i := dix k
    let s := (s.on i F.DRV_D_STAT_ORPHAN).modD k (fun x => { x with noOwner := true })
    let s := (s.off i F.DRV_D_SHCCTRL_EN).off i F.DRV_D_SHCSTAT_BURST
    let s := s.modD k (fun x => { x with
      commit := none
      shunt := { (default : ShuntD) with iAt := x.shunt.iAt, burstTag := x.shunt.burstTag } })
    (settle k (seqRuns k 4 0x3F s)).syncOwn
  else s

/-- After a write of LEGAX that took the state from `s` to `t`: a leg whose axis changed to or from unused loses its measured
rail, R313, R314. -/
def legaxAfter (k : Nat) (s t : State) : State :=
  settle k (overN 3 (fun leg t =>
    if s.legUnused k leg == t.legUnused k leg then t
    else (t.modLeg k leg (fun x => { x with measured := false })).putBit (dix k) F.DRV_D_LOCKST_FLT leg true) t)

end Sys2Proof.Machine
end

