-- ==== Sys2Proof/Machine/ThermOps.lean ====
section
/-! DEFINITION. The thermal shutdown record (R429, R430, Table 15-10): its registers and where it is written. -/

namespace Sys2Proof.Machine

/-- A change of THERM's hidden record. -/
def modTherm (d : Nat) (f : ThermC → ThermC) (s : State) : State := s.modC d (fun c => { c with therm := f c.therm })

/-- The reserved record of the settings partition. -/
def thermRecAddr : Nat := 0x10B80000

/-- THERM_LREC0 to LREC2 set. -/
def putLrec (d : Nat) (r : Nat × Nat × Nat) (s : State) : State :=
  ((s.put d F.THERM_LREC0 r.1).put d F.THERM_LREC1 r.2.1).put d F.THERM_LREC2 r.2.2

/-- The record as the registers hold it. -/
def State.lrec (s : State) (d : Nat) : Nat × Nat × Nat :=
  (s.get d F.THERM_LREC0, s.get d F.THERM_LREC1, s.get d F.THERM_LREC2)

/-- Every sensor of the die reads 150 °C or less. -/
def State.under150 (s : State) (d : Nat) : Bool :=
  (List.range 8).all (fun t => decide (s.geti d (F.THERM_TS_TEMP t) ≤ celsius 150))

/-- The record written to MRAM: within the window of R432, unless R81 refuses it. -/
def thermStore (d : Nat) (r : Nat × Nat × Nat) (s : State) : State :=
  let s := ((s.wr32 d thermRecAddr r.1).wr32 d (thermRecAddr + 4) r.2.1).wr32 d (thermRecAddr + 8) r.2.2
  (modTherm d (fun t => { t with pend := none }) s).modN d (fun v => { v with hotRec := none })

/-- The record written to the last-gasp area with the flag HOT, while the area has room. -/
def thermHot (d : Nat) (r : Nat × Nat × Nat) (s : State) : State :=
  let n := s.get d F.PROMPT_LGFILL
  if n < 2048 then
    let r := (setBit r.1 2 true, r.2.1, r.2.2)
    let e : Event := ⟨0x0070, Blk.therm, d, 0, 4, r.1, r.2.1, s.wd d F.THERM_MAXLOC_DIE.off, s.now32 d⟩
    let s := s.wrBytes d (lgAddr n) (recordBytes (s.opMs d) (s.get d F.PROMPT_PCYCLE) e 1 0)
    let s := (putLrec d r s).put d F.PROMPT_LGFILL (n + 1)
    (modTherm d (fun t => { t with pend := none }) s).modN d (fun v => { v with hotRec := some r })
  else s

/-- A waiting record is written as R429 says: to its reserved place within the window, else to the last-gasp area once the
die is at 150 °C or less. -/
def thermTry (d : Nat) (s : State) : State :=
  match (s.c d).therm.pend with
  | none => s
  | some r =>
    if (s.c d).sys.mramRefuse then s
    else if s.nvmWindow d then thermStore d r s
    else if s.under150 d then thermHot d r s
    else s

/-- A LOCKDOWN entry updates the record, R429: cause, reading and time; COUNT rises while it is unacknowledged. -/
def thermEvent (d die sensor temp : Nat) (hw : Bool) (s : State) : State :=
  let old := s.get d F.THERM_LREC0
  let n := if bit old 0 && !bit old 1 then min 255 (old / 65536 % 256 + 1) else 1
  let r := (1 + 8 * b2n hw + 16 * die + 256 * sensor + 65536 * n, temp, s.opMs d % 2 ^ 32)
  thermTry d (modTherm d (fun t => { t with pend := some r }) (putLrec d r s))

/-- At CONFIG entry THERM loads the record, R430; a record whose write still waits is written now, R429. -/
def thermLoad (d : Nat) (s : State) : State :=
  match (s.c d).therm.pend with
  | some r => thermTry d (putLrec d r s)
  | none =>
    match (s.n d).hotRec with
    | some r => putLrec d r s
    | none => putLrec d (s.rd32 d thermRecAddr, s.rd32 d (thermRecAddr + 4), s.rd32 d (thermRecAddr + 8)) s

/-- SYS_DSTATE.PWMLOCK as the record orders it, R37, R100: set while it is valid and unacknowledged. -/
def thermLock (d : Nat) (s : State) : State :=
  let r := s.get d F.THERM_LREC0
  s.put d F.SYS_DSTATE_PWMLOCK (b2n (bit r 0 && !bit r 1))

end Sys2Proof.Machine
end

