-- ==== Sys2Proof/Machine/PwmOps.lean ====
section
/-! DEFINITION. The PWM operations other blocks use: which pairs an axis has, turning lines off (R295, R297), and the
device-state changes with what they do to the lines. -/

namespace Sys2Proof.Machine

/-- A change of a pair's hidden record. -/
def State.modPair (s : State) (d k : Nat) (f : PairC → PairC) : State :=
  s.modPwm d (fun p => { p with pairs := p.pairs.mod k f })

/-- A change of a load group's hidden record. -/
def State.modLg (s : State) (d g : Nat) (f : LgC → LgC) : State :=
  s.modPwm d (fun p => { p with groups := p.groups.mod g f })

/-- A pair's hidden record. -/
def State.pair (s : State) (d k : Nat) : PairC := (s.c d).pwm.pairs.at k

/-- A load group's hidden record. -/
def State.lg (s : State) (d g : Nat) : LgC := (s.c d).pwm.groups.at g

/-- The axis of a pair; 7 is a timer pair. -/
def State.pairAx (s : State) (d k : Nat) : Nat := s.get d (F.PWM_PP_CFG_AX k)

/-- The load group of a pair. -/
def State.pairLg (s : State) (d k : Nat) : Nat := s.get d (F.PWM_PP_CFG_LGRP k)

/-- The pairs of an axis on a C die. -/
def State.pairsOf (s : State) (d a : Nat) : List Nat := (List.range 18).filter (fun k => s.pairAx d k == a)

/-- The pairs of a load group. -/
def State.pairsIn (s : State) (d g : Nat) : List Nat := (List.range 18).filter (fun k => s.pairLg d k == g)

/-- The axis is enabled: PWM_AXEN bit a. -/
def State.enabled (s : State) (d a : Nat) : Bool := s.bitOf d F.PWM_AXEN_EN a

/-- Some axis of the part is enabled on a C die. -/
def State.anyEnabled (s : State) : Bool :=
  (List.range 2).any (fun d => s.runs d && s.flag d F.PWM_AXEN_EN)

/-- The pair of C die e that drives a half-bridge, and the line it shows for a channel (0 HS, 1 LS). -/
def State.lineOf (s : State) (e hb side : Nat) : Bool :=
  (List.range 18).any (fun p => s.pairAx e p != 7 && s.get e (F.PWM_PP_CFG_HB p) == hb &&
    (if side == 0 then s.flag e (F.PWM_PP_STAT_HS p) else s.flag e (F.PWM_PP_STAT_LS p)))

/-- The line of channel c of D die k as C die e drives it: half-bridge 3k + c/2 (R14). -/
def State.lineAt (s : State) (e k c : Nat) : Bool := s.lineOf e (3 * k + c / 2) (c % 2)

/-- A latched trip acts on a pair, R297. -/
def State.tripHeld (s : State) (d k : Nat) : Bool :=
  Nat.land (s.get d (F.PWM_PP_TRIP_MASK k)) (s.get d F.PWM_TRIPST_LATCH) != 0

/-- Both lines of a pair off. -/
def pairDark (d k : Nat) (s : State) : State :=
  ((s.off d (F.PWM_PP_STAT_HS k)).off d (F.PWM_PP_STAT_LS k)).off d (F.PWM_PP_STAT_RUN k)

/-- A pair stopped: its enable no longer acts on it. -/
def pairStop (d k : Nat) (s : State) : State :=
  (pairDark d k s).modPair d k (fun p => { p with live := false })

/-- Every line of an axis off within one cycle and its enable bit 0, R295. -/
def axisOff (d a : Nat) (s : State) : State :=
  let s := s.putBit d F.PWM_AXEN_EN a false
  let s := s.modPwm d (fun p => { p with enPend := p.enPend.set a false })
  overL (s.pairsOf d a) (pairStop d) s

/-- A gate of an axis is on at a D die that C die d owns. -/
def State.axisGatesOn (s : State) (d a : Nat) : Bool :=
  (List.range 6).any (fun k => s.owns d k && (List.range 6).any (fun c =>
    s.legAx k (c / 2) == a && (s.ch k c == Ch.on || s.ch k c == Ch.softOff)))

/-- The axes with a gate on, one bit each. -/
def State.gatesOn (s : State) (d : Nat) : Nat := bitsOf 6 (s.axisGatesOn d)

/-- The axis (plus one) of a channel that a capture covers: an entry's, by the section that placed it; a shunt channel's, by its
leg; 0: none. -/
def State.zAxis (s : State) (d u c : Nat) : Nat :=
  if u < 4 then (s.c d).adc.entAx.at (64 * u + c)
  else if s.legAx (u - 4) c < 6 then s.legAx (u - 4) c + 1 else 0

/-- An axis (plus one; 0: none) is in a set of zRound. -/
def inRound (mask ax : Nat) : Bool := bit mask (if ax == 0 then 6 else ax - 1)

/-- The capture takes the slices of the groups concerned, R167 step 2; the channels of `mask` are captured now. -/
def zRoundBegin (d mask : Nat) (s : State) : State :=
  let s := s.modAdc d (fun x => { x with zRound := mask })
  overN 4 (fun g s =>
    if (List.range 64).any (fun e => s.flag d (F.ADC_AG_ENT_ZCAP g e) && inRound mask (s.zAxis d g e)) then
      s.on d (F.ADC_AG_STAT_CALBUSY g) else s) s

/-- A zero-current capture begins on C die d (R167): RDY_OFFS clears, and with it START_RDY, until it completes; the
channels of an axis with a gate on wait, with CODE GATES_ON. -/
def zcapBegin (d : Nat) (s : State) : State :=
  let s := (s.off d F.HDR_RC_STATUS_RDY_OFFS).off d F.HDR_RC_STATUS_START_RDY
  let s := (s.on d F.ADC_GSTAT_ZCAPBUSY).off d F.ADC_GSTAT_ZCAPDONE
  let s := (s.put d F.ADC_GSTAT_ZFAIL 0).put d F.ADC_GSTAT_DZFAIL 0
  let s := s.modSafe d (fun x => { x with tmonZero := 0 })
  let w := s.gatesOn d
  let s := s.modAdc d (fun x => { x with zWait := w, zBad := false, zOk := false })
  zRoundBegin d (bitsOf 7 (fun a => !bit w a)) (s.put d F.ADC_GSTAT_CODE (if w != 0 then 3 else 0))

/-- What a STANDBY entry brings on C die d: its time (HDR_RC_TSTBY, once), the thermal lock of R37 and R430, and the
automatic zero-current capture of R167. -/
def standbyEntry (d : Nat) (s : State) : State :=
  let s := if s.get d F.HDR_RC_TSTBY == 0 then s.put d F.HDR_RC_TSTBY (min (2 ^ 24 - 1) (s.now d / 400)) else s
  zcapBegin d (thermLock d s)

/-- A change of the device state: outside STANDBY and RUN every line is off, and the lines of running timer pairs and
of enabled axes resume at a group boundary once the device is back (R295). -/
def setDevice (st : Nat) (s : State) : State :=
  let fresh := st == Dev.standby && s.dev != Dev.standby
  let enter := st == Dev.config && s.dev != Dev.config
  let s := setDev st s
  let s := if enter then overN 2 (fun d s => if s.runs d then thermLoad d s else s) s else s
  let s := if fresh then overN 2 (fun d s => if s.runs d then standbyEntry d s else s) s else s
  if st == Dev.standby || st == Dev.run then s
  else overN 2 (fun d s =>
    if s.runs d then overN 18 (fun k s => pairStop d k s) s else s) s

/-- RUN ends when the last running axis is disabled, Table 1-8. -/
def standbyIfIdle (s : State) : State :=
  if s.dev == Dev.run && !s.anyEnabled then setDevice Dev.standby s else s

/-- A pair at rest: no lines, no waveform; its settings stay. -/
def pairRest (d k : Nat) (s : State) : State :=
  (pairStop d k s).modPair d k (fun p =>
    { p with pat := default, rawH := false, rawL := false, eff := false, effAt := s.now d, effSub := 0, hAt := s.now d,
             lAt := s.now d, endAt := 0, drop := false })

/-- A group stops: it does not count, and both lines of its pairs are off, R279. -/
def groupStop (d g : Nat) (s : State) : State :=
  let s := (s.put d (F.PWM_LG_CNT g) 0).modLg d g (fun x => { x with waiting := false, running := false, restart := false })
  overL (s.pairsIn d g) (fun k s => (pairRest d k s).put d (F.PWM_PP_CNT k) 0) s

end Sys2Proof.Machine
end

