-- ==== Sys2Proof/Machine/HoOps.lean ====
section
/-! DEFINITION. Ownership handover (R140 to R144): finding the boundary B, starting, cancelling, and the static
handovers the configuration loader issues (R143). -/

namespace Sys2Proof.Machine

/-- HDR_HO_STAT.CODE, Table 6-5. -/
abbrev Ho.ok := 0
abbrev Ho.notOwner := 1
abbrev Ho.noDual := 2
abbrev Ho.notOrphan := 3
abbrev Ho.busy := 4
abbrev Ho.axisCurtain := 5
abbrev Ho.noBoundary := 6
abbrev Ho.readyLate := 7
abbrev Ho.linkFault := 8
abbrev Ho.dFault := 9
abbrev Ho.trip := 10
abbrev Ho.ucodeMismatch := 11
abbrev Ho.axisEnabled := 12
abbrev Ho.noDie := 13

/-- The axis is in its curtain state at C die d. -/
def State.inCurtain (s : State) (d a : Nat) : Bool := s.get d (F.SAFE_AX_STAT_STATE a) != 0

/-- The D dies that share an axis with one of a set. -/
def State.growMates (s : State) (ks : List Nat) : List Nat :=
  (List.range 6).filter (fun k => ks.contains k ||
    (s.axOf k).any (fun a => ks.any (fun j => s.serves j a)))

/-- The D dies that move with D die k, R244: those joined to it by shared axes. -/
def State.mates (s : State) (k : Nat) : List Nat :=
  s.growMates (s.growMates (s.growMates (s.growMates (s.growMates [k]))))

/-- The axes served by the D dies that move with k. -/
def State.mateAxes (s : State) (k : Nat) : List Nat :=
  (List.range 6).filter (fun a => (s.mates k).any (fun j => s.serves j a))

/-- The load groups of C die d that drive a used half-bridge of the D dies that move with k. -/
def State.mateGroups (s : State) (d k : Nat) : List Nat :=
  (List.range 8).filter (fun g => (s.pairsIn d g).any (fun p =>
    s.pairAx d p != 7 && (s.mates k).contains (s.get d (F.PWM_PP_CFG_HB p) / 3)))

/-- The period and the carrier in force of a load group. -/
def State.lgPer (s : State) (d g : Nat) : Nat := s.get d (F.PWM_LG_ACTPER g)
def State.lgCarrier (s : State) (d g : Nat) : Nat := ((s.lg d g).carm + 1) * s.lgPer d g

/-- Counts from now to the next group boundary, and to the next carrier start, at least one ahead. -/
def State.toBoundary (s : State) (d g : Nat) : Nat := s.lgPer d g - s.get d (F.PWM_LG_CNT g) % s.lgPer d g
def State.toCarrier (s : State) (d g : Nat) : Nat := s.lgCarrier d g - s.get d (F.PWM_LG_CNT g) % s.lgCarrier d g

/-- A load with another PER is armed: it applies at the next carrier start, Table 11-2. -/
def State.perArmed (s : State) (d g : Nat) : Bool :=
  s.bitOf d F.PWM_GCTRL_LOADALL g && s.get d (F.PWM_LG_PER g) != s.lgPer d g

/-- Whether the instant t counts from now is a period boundary of a running group, R141. -/
def State.isBoundary (s : State) (d g t : Nat) : Bool :=
  (s.lg d g).running && decide (0 < s.lgPer d g) &&
    (if s.perArmed d g && decide (s.toCarrier d g ≤ t) then
      (t - s.toCarrier d g) % s.get d (F.PWM_LG_PER g) == 0
    else (s.get d (F.PWM_LG_CNT g) + t) % s.lgPer d g == 0)

/-- The first boundary of a group at or after t counts from now. -/
def State.boundaryFrom (s : State) (d g t : Nat) : Nat :=
  let up := fun (x per : Nat) => (x + per - 1) / per * per
  if s.perArmed d g && decide (s.toCarrier d g ≤ t) then
    s.toCarrier d g + up (t - s.toCarrier d g) (s.get d (F.PWM_LG_PER g))
  else
    let b := up (s.get d (F.PWM_LG_CNT g) + t) (s.lgPer d g) - s.get d (F.PWM_LG_CNT g)
    if s.perArmed d g && decide (s.toCarrier d g ≤ b) then s.toCarrier d g else b

/-- The search for B over the boundaries of the first group, up to 1 ms (400,000 counts) from now. -/
def State.findBoundary (s : State) (d g : Nat) (gs : List Nat) : Nat → Nat → Option Nat
  | 0, _ => none
  | fuel + 1, t =>
    let b := s.boundaryFrom d g t
    if 400000 < b then none
    else if gs.all (fun h => s.isBoundary d h b) then some b
    else s.findBoundary d g gs fuel (b + 1)

/-- The boundary B of a handover in counts from now, R141; with no running group to wait for, 10 µs. -/
def State.boundaryB (s : State) (d k : Nat) : Option Nat :=
  match s.mateGroups d k with
  | [] => some 4000
  | g :: gs =>
    if (s.lg d g).running then s.findBoundary d g gs 10001 4000 else none

/-- The boundary B of a static handover: the first multiple of 4,000 counts at or after 10 µs, R143. -/
def State.staticB (s : State) (d : Nat) : Nat := (s.now d + 4000 + 3999) / 4000 * 4000

/-- A handover of the D dies of k is static, R143. -/
def State.hoStatic (s : State) (d k : Nat) : Bool :=
  (s.mateAxes k).all (fun a => s.get d (F.FIELD_AX_STAT_PHASE a) == 0 && !s.enabled d a && !s.inCurtain d a)

/-- A handover or takeover is in progress on some C die. -/
def State.hoBusy (s : State) : Bool :=
  (List.range 2).any (fun d => s.runs d && s.get d F.HDR_HO_STAT_STATE != 0)

/-- The package runs dual control, R101: no running C die shows single control. -/
def State.dual (s : State) : Bool :=
  s.part.ctl == 2 && (List.range 2).all (fun d => !s.runs d || !s.flag d F.HDR_RC_STATUS_SINGLE)

/-- The code that refuses a handover of D die k by C die d, R140; 0 when accepted. The order of the codes is a DESIGN
CHOICE (log entry 49). -/
def State.hoRefusal (s : State) (d k : Nat) : Nat :=
  if s.part.ctl == 1 then Ho.noDual
  else if !s.hasD k then Ho.noDie
  else if !s.dual then Ho.noDual
  else if !s.owns d k then Ho.notOwner
  else if s.hoBusy then Ho.busy
  else if (s.mateAxes k).any (fun a => s.inCurtain d a) then Ho.axisCurtain
  else if s.hoStatic d k then Ho.ok
  else if (s.boundaryB d k).isNone then Ho.noBoundary
  else Ho.ok

/-- A handover accepted: HO_OFFER is sent with B. -/
def hoStart (d k : Nat) (byLoader retry : Bool) (s : State) : State :=
  let st := s.hoStatic d k
  let b := if st then s.staticB d else s.now d + (s.boundaryB d k).getD 4000
  let s := s.put d F.HDR_HO_STAT_STATE 1
  let s := s.put d F.HDR_HO_STAT_CODE Ho.ok
  let s := s.put d F.HDR_HO_STAT_DIE k
  let s := s.put d F.HDR_HO_TB (b % 0x100000000)
  let s := s.modHdr d (fun h => { h with ho := ⟨true, k, st, false, false, b, byLoader, retry⟩ })
  tellFlit d 0 Fl.own (ownPayload Own.offer k b) s

/-- A handover command of C die d, accepted or refused (R140). -/
def hoTry (d k : Nat) (byLoader retry : Bool) (s : State) : State :=
  let code := s.hoRefusal d k
  if code == Ho.ok then hoStart d k byLoader retry s
  else (s.put d F.HDR_HO_STAT_CODE code).put d F.HDR_HO_STAT_DIE k

/-- Every axis a D die serves reads OFF_OWNER, R143. -/
def offOwner (k : Nat) (s : State) : State :=
  overL (s.axOf k) (fun a s =>
    overN 2 (fun d s =>
      if s.runs d then
        let x := s.get d F.LIB_AXST
        s.put d F.LIB_AXST (x - x / 16 ^ a % 16 * 16 ^ a + 5 * 16 ^ a)
      else s) s) s

/-- The static handovers of the loader's list, R143, one after the other, each issued by the present owner: an entry of 8
or more is a retry. A refused one is retried once after the others, then given up. -/
def hoLoaderGo : Nat → State → State
  | 0, s => s
  | n + 1, s =>
    if s.hoBusy then s
    else match (s.c s.lead).hdr.hoQueue with
      | [] => s
      | x :: xs =>
        let k := x % 8
        let d := s.owner k
        let code := s.hoRefusal d k
        let retry := decide (8 ≤ x)
        let again := if code != Ho.ok && !retry then [k + 8] else []
        let s := s.modHdr s.lead (fun h => { h with hoQueue := xs ++ again })
        if code == Ho.ok then hoStart d k true retry s
        else
          let s := (s.put d F.HDR_HO_STAT_CODE code).put d F.HDR_HO_STAT_DIE k
          hoLoaderGo n (if retry then offOwner k s else s)

/-- A takeover of D die k by C die d begins, R145, R337: it forwards its clock to the D die, sends TAKE and names it a
stage time (R139). A restoring one pushes the baseline microcode. -/
def takeMark (d k : Nat) (restoring : Bool) (s : State) : State :=
  let s := (s.put d F.HDR_HO_STAT_STATE 4).put d F.HDR_HO_STAT_CODE Ho.ok
  let s := s.put d F.HDR_HO_STAT_DIE k
  let s := s.modHdr d (fun h =>
    { h with ho := { (default : HoC) with active := true, die := k, taking := true, restoring := restoring },
             restoreDue := setBit h.restoreDue k false, ucAgain := setBit h.ucAgain k (bit h.ucAgain k && !restoring) })
  let s := if restoring then s.modD k (fun x => { x with takenBy := some d }) else s
  nameTime d (k + 1) (tellFlit d (k + 1) Fl.own (ownPayload Own.take k 0) s.syncOwn)

/-- D die k can be restored by C die d, R337: it has come back without microcode, and its link is up. -/
def State.restorable (s : State) (d k : Nat) : Bool :=
  s.runsD k && s.orphan k && !s.flag (dix k) F.DRV_D_STAT_UCODE && s.linkD d k && !bit (s.c d).hdr.ucDead k

/-- The handover of C die d ends: a restoring takeover that waits begins, or the loader's list goes on. -/
def hoEnd (d : Nat) (s : State) : State :=
  let s := s.put d F.HDR_HO_STAT_STATE 0
  let s := s.modHdr d (fun h => { h with ho := default })
  match (List.range 6).find? (fun k => bit (s.c d).hdr.restoreDue k && s.restorable d k) with
  | some k => takeMark d k true s
  | none => hoLoaderGo 16 s

/-- The mirroring of C die d ends, R236: its twins stay STANDBY, and a pair that only mirrored turns its lines off. -/
def mirrorEnd (d : Nat) (s : State) : State :=
  let s := overN 64 (fun n s => s.off d (F.LOOP_LE_STAT_MIRROR n)) s
  overN 18 (fun p s =>
    if s.flag d (F.PWM_PP_STAT_MIRROR p) then
      let s := s.off d (F.PWM_PP_STAT_MIRROR p)
      if s.enabled d (s.pairAx d p) then s else pairStop d p s
    else s) s

/-- A handover is cancelled by the owner (R144): HO_CANCEL goes to the D dies, the offer ends, the owner keeps them.
A static handover of the loader is retried once (R143). At or after B the D die has switched, and nothing is cancelled. -/
def hoCancel (d code : Nat) (s : State) : State :=
  let h := (s.c d).hdr.ho
  if h.active && !h.taking && s.owner h.die == d then
    let s := s.put d F.HDR_HO_STAT_CODE code
    let ks := s.mates h.die
    let s := s.modHdr d (fun x => { x with cancelDue := bitsOf 6 (fun j => bit x.cancelDue j || ks.contains j) })
    let s := overL ks (fun j s => tellFlit d (j + 1) Fl.own (ownPayload Own.cancel j h.b) s) s
    let s := mirrorEnd (1 - d) (s.modHdr (1 - d) (fun x => { x with offer := default }))
    if h.byLoader && !h.retry then
      hoEnd d (s.modHdr s.lead (fun x => { x with hoQueue := (h.die + 8) :: x.hoQueue }))
    else if h.byLoader then hoEnd d (offOwner h.die s)
    else hoEnd d s
  else s

/-- A takeover of C die d is cancelled: CODE keeps the reason, cause TAKEOVER stays (R363), and the D die may be taken
again. -/
def takeCancel (d code : Nat) (s : State) : State :=
  let h := (s.c d).hdr.ho
  if h.active && h.taking then
    let s := s.put d F.HDR_HO_STAT_CODE code
    let s := s.modD h.die (fun x => { x with takenBy := if x.takenBy == some d then none else x.takenBy })
    (hoEnd d s).syncOwn
  else s

/-- A cause of R144 on D die k cancels the handover that moves it. -/
def hoCancelFor (k code : Nat) (s : State) : State :=
  overN 2 (fun d s =>
    let h := (s.c d).hdr.ho
    if s.runs d && h.active && !h.taking && (s.mates h.die).contains k then hoCancel d code s else s) s

end Sys2Proof.Machine
end

