-- ==== Sys2Proof/Machine/Access.lean ====
section
/-! DEFINITION. Register access rules (Table 0-6, R8): the WRREF bit of each block, plain writes by access code, the
loader's direct writes (R109) and the two-key sequence (R128 to R130). -/

namespace Sys2Proof.Machine

/-- The WRREF bit of the block that holds an offset of die index i (R8); a bus register of FIELD uses that of axis 0
(chapter 10). The CUE block and the free space between blocks have none. -/
def wrrefOf (i off : Nat) : Option Fld :=
  if 2 ≤ i then some F.DRV_D_EVT_WRREF
  else if off < 0x10000 then some F.SYS_ERR_WRREF
  else if off < 0x18000 then some F.SAFE_FC_ERR_WRREF
  else if off < 0x20000 then some F.SAFE_CEVT_WRREF
  else if off < 0x30000 then some F.CHK_ERR_WRREF
  else if off < 0x40000 then some F.BIST_EVT_WRREF
  else if off < 0x50000 then some F.THERM_EVT_WRREF
  else if off < 0x60000 then some F.PROMPT_EVT_WRREF
  else if off < 0x70000 then some F.NVM_EVT_WRREF
  else if off < 0x80000 then some F.SEC_EVT_WRREF
  else if off < 0x90000 then none
  else if off < 0xA0000 then some (F.FLUME_FL_EVT_WRREF ((off - 0x90000) / 0x40 % 16))
  else if off < 0xB0000 then some F.HDR_ERR_WRREF
  else if off < 0xC0000 then some F.LIB_STAT_WRREF
  else if off < 0x100000 then none
  else if off < 0x110000 then some (F.ADC_AG_EVT_WRREF ((off - 0x100000) / 0x4000))
  else if off < 0x111000 then none
  else if off < 0x140000 then some (F.ADC_SH_EVT_WRREF ((off - 0x111000) / 0x100 % 6))
  else if off < 0x150000 then some (F.LOOP_LE_EVT_WRREF ((off - 0x140000) / 0x400))
  else if off < 0x158000 then some (F.LOOP_WR_EVT_WRREF ((off - 0x150000) / 0x100 % 64))
  else if off < 0x160000 then some F.LOOP_GEVT_WRREF
  else if off < 0x170000 then some (F.LOOP_LE_EVT_WRREF ((off - 0x160000) / 0x400))
  else if off < 0x180000 then none
  else if off < 0x186000 then some (F.FIELD_AX_EVT_WRREF ((off - 0x180000) / 0x1000))
  else if off < 0x1C0000 then some (F.FIELD_AX_EVT_WRREF 0)
  else if off < 0x1C1200 then some (F.PWM_PP_EVT_WRREF ((off - 0x1C0000) / 0x100))
  else if off < 0x200000 then some F.PWM_GEVT_WRREF
  else if off < 0x208000 then some (F.FB_FB_EVT_WRREF ((off - 0x200000) / 0x1000 % 4))
  else if off < 0x240000 then some (F.FB_EMU_EVT_WRREF ((off - 0x208000) / 0x100 % 2))
  else if off < 0x280000 then
    let f := F.CAN_CAN_EVT ((off - 0x240000) / 0x10000)
    some ⟨f.off, 17, 17⟩
  else if off < 0x2C0000 then none
  else if off < 0x2D0000 then some (F.TMON_AX_EVT_WRREF ((off - 0x2C0000) / 0x100 % 6))
  else if off < 0x2E0000 then some (F.DISCH_BUS_EVT_WRREF ((off - 0x2D0000) / 0x40 % 3))
  else none

/-- A refused write is reported by the WRREF bit of its block, R8. -/
def refuseAt (i off : Nat) (s : State) : State :=
  match wrrefOf i off with
  | some f => s.on i f
  | none => s

/-- A mask as a word. -/
def maskW (n : Nat) : Word := BitVec.ofNat 32 n

/-- The word after a write v that takes the bits of a mask. -/
def mergeW (old : Word) (mask : Nat) (v : Word) : Word := (old &&& ~~~ maskW mask) ||| (v &&& maskW mask)

/-- The word after a write of 1s to W1C bits. -/
def clearW (old : Word) (w1c : Nat) (v : Word) : Word := old &&& ~~~ (v &&& maskW w1c)

/-- The loader of some C die executes records: their writes reach RWP and RWL fields (R109). -/
def State.loading (s : State) : Bool := s.ld.isSome

/-- A plain write field by field, R8: RW fields take the value (RWL fields too while their block is stopped), W1C
fields clear where a 1 is written; a write that would change an RWP field, or an RWL field of a running block, is
refused for that field and sets WRREF. The loader writes RWP and RWL fields too (R109). -/
def plainWrite (i off : Nat) (v : Word) (stopped : Bool) (s : State) : State :=
  match rowAt i off with
  | none => s
  | some r =>
    let old := s.reg i off
    let ld := s.loading
    let open_ := r.rw + (if stopped || ld then r.rwl else 0) + (if ld then r.rwp else 0)
    let shut := if ld then 0 else r.rwp + (if stopped then 0 else r.rwl)
    let new := clearW (mergeW old open_ v) r.w1c v
    let s := s.setReg i off new
    if (v ^^^ old) &&& maskW shut != 0 then refuseAt i off s else s

/-- A write that the safety master's two-key sequence releases: RWP fields take the value as RW fields do, R128. -/
def protWrite (i off : Nat) (v : Word) (stopped : Bool) (s : State) : State :=
  match rowAt i off with
  | none => s
  | some r =>
    let old := s.reg i off
    let free := stopped || s.loading
    let open_ := r.rw + r.rwp + (if free then r.rwl else 0)
    let shut := if free then 0 else r.rwl
    let new := clearW (mergeW old open_ v) r.w1c v
    let s := s.setReg i off new
    if (v ^^^ old) &&& maskW shut != 0 then refuseAt i off s else s

/-- The loader's direct write, R109, R410: RW, RWP and RWL fields take the value. -/
def loaderWrite (i off : Nat) (v : Word) (s : State) : State :=
  match rowAt i off with
  | none => s
  | some r => s.setReg i off (mergeW (s.reg i off) (r.rw + r.rwp + r.rwl) v)

/-- The die index and the offset that an address of C die d names in its own map, a DRV window or a peer window
(Table 1-5, R33); none for memory and for addresses outside the peripherals. -/
def target (d addr : Nat) : Option (Nat × Nat) :=
  if 0x40280000 ≤ addr ∧ addr < 0x40298000 then
    some (dix ((addr - 0x40280000) / 0x4000), (addr - 0x40280000) % 0x4000)
  else if 0x40000000 ≤ addr ∧ addr < 0x41000000 then some (d, addr - 0x40000000)
  else if 0x60000000 ≤ addr ∧ addr < 0x68000000 then
    some ((addr - 0x60000000) / 0x1000000, addr % 0x1000000)
  else none

/-- Where RAM offset r of controller n lies in the die's memory: the model keeps the message RAMs from 0x5000_0000 on,
where the memory map of the die has nothing. -/
def canRam (n r : Nat) : Nat := 0x50000000 + 0x10000 * n + r

/-- RAM offset 0xFE90 and above is reserved, R454. -/
def canRamEnd : Nat := 0xFE90

/-- A word of CAN message RAM: reserved RAM reads 0 and ignores writes, R454. -/
def State.canRamRead (s : State) (d n r : Nat) : Nat := if r < canRamEnd then s.rd32 d (canRam n r) else 0
def canRamWrite (d n r w : Nat) (s : State) : State := if r < canRamEnd then s.wr32 d (canRam n r) w else s

/-- The controller and the window offset of an address in a CAN message RAM page of the own die, R454. -/
def canPageAt (addr : Nat) : Option (Nat × Nat) :=
  if 0x40240000 ≤ addr ∧ addr < 0x40280000 ∧ 0x8000 ≤ addr % 0x10000 then
    some ((addr - 0x40240000) / 0x10000, addr % 0x10000 - 0x8000)
  else none

/-- Load codes, Table 5-11. -/
abbrev Lc.ok := 0x00
abbrev Lc.tooLarge := 0x01
abbrev Lc.format := 0x02
abbrev Lc.sigFail := 0x03
abbrev Lc.hwType := 0x04
abbrev Lc.stepping := 0x05
abbrev Lc.unitId := 0x06
abbrev Lc.fwVersion := 0x07
abbrev Lc.sectCrc := 0x08
abbrev Lc.sectInvalid := 0x09
abbrev Lc.resource := 0x0A
abbrev Lc.unusable := 0x0B
abbrev Lc.notStandby := 0x0C
abbrev Lc.busy := 0x0D
abbrev Lc.badCmd := 0x0E
abbrev Lc.noPrevious := 0x0F
abbrev Lc.nvmTemp := 0x10
abbrev Lc.pfailBlock := 0x11
abbrev Lc.notAnchor := 0x12
abbrev Lc.axisCurtain := 0x13
abbrev Lc.tkConflict := 0x14
abbrev Lc.aborted := 0x15
abbrev Lc.rolledBack := 0x16
abbrev Lc.reloadScope := 0x17

/-- A staged reload of an axis is cancelled with a code, R127: the directory is unchanged. -/
def reloadCancel (a code : Nat) (s : State) : State :=
  overN 2 (fun d s =>
    if s.flag d F.LIB_RELST_STAGED && s.get d F.LIB_RELST_AX == a then
      let s := (s.off d F.LIB_RELST_STAGED).put d F.LIB_RELST_CODE code
      let s := s.put d F.LIB_STAT_STATE 0
      let x := s.get d F.LIB_AXST
      let s := s.put d F.LIB_AXST (if x / 16 ^ a % 16 == 4 then x - 3 * 16 ^ a else x)
      s.modLib d (fun l => { l with staged := false, cmd := 0 })
    else s) s

/-- The register at an offset of die index i belongs to axis a of C die d: its FIELD, curtain and monitor registers, its PWM
pairs, the engines its section placed, and the D dies that serve it. -/
def State.axisReg (s : State) (d i off a : Nat) : Bool :=
  if 2 ≤ i then s.serves (i - 2) a
  else if 0x18100 ≤ off ∧ off < 0x18280 then (off - 0x18100) / 0x40 == a
  else if 0x140000 ≤ off ∧ off < 0x150000 then (s.c d).loop.engAx.at ((off - 0x140000) / 0x400) == a + 1
  else if 0x180000 ≤ off ∧ off < 0x186000 then (off - 0x180000) / 0x1000 == a
  else if 0x1C0000 ≤ off ∧ off < 0x1C1200 then s.pairAx d ((off - 0x1C0000) / 0x100) == a
  else if 0x2C0000 ≤ off ∧ off < 0x2C0600 then (off - 0x2C0000) / 0x100 == a
  else false

/-! ### The two-key sequence -/

/-- LIB_TK_STAT.CODE, Table 5-8. -/
abbrev Tk.ok := 0
abbrev Tk.notMaster := 1
abbrev Tk.badKey := 2
abbrev Tk.timeout := 3
abbrev Tk.otherWrite := 4
abbrev Tk.trap := 5
abbrev Tk.notRwp := 6
abbrev Tk.notOwner := 7

/-- A change of the two-key record. -/
def State.modTk (s : State) (d : Nat) (f : TkC → TkC) : State := s.modLib d (fun l => { l with tk := f l.tk })

/-- A two-key sequence fails, R129: nothing is written, ARMED clears, SEQ is unchanged, and the refusal bit of the
target's block sets. -/
def tkFail (d code : Nat) (s : State) : State :=
  let addr := (s.c d).lib.tk.addr
  let s := (s.off d F.LIB_TK_STAT_ARMED).put d F.LIB_TK_STAT_CODE code
  let s := s.modTk d (fun t => { t with keys := 0 })
  match target d addr with
  | some (i, off) => refuseAt i off s
  | none => s

/-- A trap taken by a core of pair B while ARMED fails the sequence, R129. -/
def tkTrap (d : Nat) (m : Master) (s : State) : State :=
  if m.pairB && s.flag d F.LIB_TK_STAT_ARMED then tkFail d Tk.trap s else s

/-- A bus error as an exception of the issuing core: it is raised, and it is a trap for the two-key sequence. -/
def busTrap (d : Nat) (m : Master) (addr : Nat) (write : Bool) (s : State) : State :=
  tkTrap d m (busError d m addr write s)

/-- A two-key sequence completes: SEQ rises, CODE reads OK, a reload staged for the axis of the register is cancelled (R127),
and a PROT_WRITE record is written (R129, R130). -/
def tkDone (d addr : Nat) (old new : Word) (s : State) : State :=
  let s := s.put d F.LIB_TK_STAT_SEQ ((s.get d F.LIB_TK_STAT_SEQ + 1) % 65536)
  let s := (s.off d F.LIB_TK_STAT_ARMED).put d F.LIB_TK_STAT_CODE Tk.ok
  let s := s.modTk d (fun t => { t with keys := 0 })
  let ax := s.get d F.LIB_RELST_AX
  let s := match target d addr with
    | some (i, off) =>
      if s.flag d F.LIB_RELST_STAGED && s.axisReg d i off ax then reloadCancel ax Lc.tkConflict s else s
    | none => s
  recordEvent d ⟨0x0040, Blk.lib, d, 0, 1, addr, old.toNat, new.toNat, s.now32 d⟩ s

/-- The new value that a record of a protected write names: the written bits where the register has fields. -/
def newWord (i off : Nat) (old v : Word) : Word :=
  match rowAt i off with
  | some r => mergeW old (r.rw + r.rwp + r.rwl + r.wo) v
  | none => v

/-- The sequence of C die d is armed for an address, and no more than 1 µs (400 counts) has passed. -/
def State.tkReady (s : State) (d addr : Nat) : Bool :=
  s.flag d F.LIB_TK_STAT_ARMED && (s.c d).lib.tk.addr == addr &&
    decide (s.now d ≤ (s.c d).lib.tk.armedAt + 400)

/-- A write outside SRAM ends an armed sequence that it does not complete: OTHER_WRITE, or TIMEOUT when the safety
master's comes to the target too late (R128, R129). The rule names no writer: any master's counts. -/
def tkDisturb (d addr : Nat) (m : Master) (s : State) : State :=
  if s.flag d F.LIB_TK_STAT_ARMED then
    if (s.c d).lib.tk.addr == addr then onlyIf m.safety (tkFail d Tk.timeout) s else tkFail d Tk.otherWrite s
  else s

/-- The address of an offset in the own map of a C die. -/
def own (off : Nat) : Nat := 0x40000000 + off

/-- The address of an offset in the DRV window of D die k. -/
def drvAddr (k off : Nat) : Nat := 0x40280000 + 0x4000 * k + off

/-- A command that is a write to an address of C die d by a master that it does not name, R129. -/
def onCW (d addr : Nat) (f : State → State) (s : State) : Out := onC d (fun s => f (tkDisturb d addr .debug s)) s

/-- A command of C die d that is a write to an offset of the DRV window of D die k, R129. -/
def onDW (d k off : Nat) (f : State → State) (s : State) : Out := onCD d k (fun s => f (tkDisturb d (drvAddr k off) .debug s)) s

/-- A write to a register with RWP fields by master m: with the sequence ready for it the effect is taken and
recorded; otherwise it is a plain write, whose RWP fields are refused (R8, R128 to R130, R410). `i`, `off` name the
register, `addr` is the address on C die d, `stopped` says that its block is stopped for RWL. A loader's write has the
effect with no keys (R109). -/
def tkWrite (d : Nat) (m : Master) (addr i off : Nat) (v : Word) (stopped : Bool) (eff : State → State) (s : State) :
    State :=
  if s.loading then eff s
  else if m.safety && s.tkReady d addr then
    let old := s.reg i off
    let s := eff s
    tkDone d addr old (newWord i off old v) s
  else plainWrite i off v stopped (tkDisturb d addr m s)

/-- A two-key write whose value the block checks: a value it refuses (`ok` false) leaves the register as it is and is
reported (`no`); the sequence itself is complete, and its record shows the value kept. -/
def tkWriteIf (ok : Bool) (no : State → State) (d : Nat) (m : Master) (addr i off : Nat) (v : Word)
    (eff : State → State) (s : State) : State :=
  if s.loading && !ok then no s
  else if m.safety && s.tkReady d addr && !ok then no (tkDone d addr (s.reg i off) (s.reg i off) s)
  else tkWrite d m addr i off v false eff s

/-- A two-key write whose effect ends the die's own sequence record, such as a reset: completed first, then taken. -/
def tkWriteThen (d : Nat) (m : Master) (addr i off : Nat) (v : Word) (eff : State → State) (s : State) : State :=
  if s.loading then eff s
  else if m.safety && s.tkReady d addr then eff (tkDone d addr (s.reg i off) (newWord i off (s.reg i off) v) s)
  else plainWrite i off v false (tkDisturb d addr m s)

end Sys2Proof.Machine
end

