-- ==== Sys2Proof/Machine/LoopOps.lean ====
section
/-! DEFINITION. The programs and settings of the loop engines and the weir tree, as the checks of R214 and R228 read them
(chapter 9), and the state slots. -/

namespace Sys2Proof.Machine

/-! ### Ports and weirs -/

/-- A fabric source of Table 9-5 that is not reserved. -/
def sourceOk (ix : Nat) : Bool :=
  decide (ix < 0x200) || (decide (0x200 ≤ ix) && decide (ix < 0x230) && ix % 8 != 7) ||
    (decide (0x240 ≤ ix) && decide (ix < 0x260) && decide (ix % 8 ≤ 4)) || (decide (0x260 ≤ ix) && decide (ix < 0x2C2)) ||
    (decide (0x2D0 ≤ ix) && decide (ix < 0x300))

/-- A fabric destination of Table 9-6 that is not reserved. -/
def destOk (ix : Nat) : Bool :=
  decide (ix < 0x124) || (decide (0x128 ≤ ix) && decide (ix < 0x160)) || (decide (0x200 ≤ ix) && decide (ix < 0x400))

/-- How many enabled weirs the path down from weir w runs through, w among them, up to 5 (R228). -/
def State.weirDepth (s : State) (d : Nat) : Nat → Nat → Nat
  | 0, _ => 5
  | fuel + 1, w =>
    let v := s.get d (F.LOOP_WR_CFG_DWEIR w)
    if s.flag d (F.LOOP_WR_CFG_DOWNEN w) && s.flag d (F.LOOP_WR_CFG_EN v) then 1 + s.weirDepth d fuel v else 1

/-- No enabled weirs form a loop or a tree deeper than four levels, R228. -/
def State.treeOk (s : State) (d : Nat) : Bool :=
  (List.range 64).all (fun w => !s.flag d (F.LOOP_WR_CFG_EN w) || decide (s.weirDepth d 5 w ≤ 4))

/-! ### Engines -/

/-- An engine's hidden record, and a change of it. -/
def State.eng (s : State) (d n : Nat) : EngC := (s.c d).eng.at n
def State.modEng (s : State) (d n : Nat) (f : EngC → EngC) : State := s.modC d (fun c => { c with eng := c.eng.mod n f })

/-- The limits of a state slot, × 2^15 (R225). -/
def State.slotLo (s : State) (d n sl : Nat) : Int := s.geti d (F.LOOP_LE_ILIM_LO n sl) * 32768
def State.slotHi (s : State) (d n sl : Nat) : Int := s.geti d (F.LOOP_LE_ILIM_HI n sl) * 32768

/-- A value clamped with the limits of a state slot. -/
def State.clampSlot (s : State) (d n sl : Nat) (z : Int) : Int := clampI (s.slotLo d n sl) (s.slotHi d n sl) z

/-- LOOP_LEn_CFG.MODE. -/
abbrev Lm.off := 0
abbrev Lm.active := 1
abbrev Lm.standby := 2

/-! ### Programs -/

/-- A step word, Table 9-2. -/
structure StepW where
  op : Nat
  s : Bool
  n : Bool
  c : Bool
  a : Nat
  b : Nat
  dd : Nat
  x : Nat
  deriving DecidableEq, Repr, Inhabited

/-- The fields of a step word. -/
def stepOf (w : Nat) : StepW :=
  ⟨w / 2 ^ 27 % 32, bit w 26, bit w 25, bit w 24, w / 2 ^ 17 % 128, w / 2 ^ 10 % 128, w / 8 % 128, w % 8⟩

/-- Step k (from 0) of a bank of engine n. -/
def State.stepAt (s : State) (d n bank k : Nat) : StepW := stepOf (s.wd d (0x160000 + 0x400 * n + 0x200 * bank + 4 * k))

/-- An operand is an output port. -/
def isOut (x : Nat) : Bool := decide (8 ≤ x) && decide (x < 16)

/-- A step passes the checks of R214. -/
def StepW.ok (w : StepW) : Bool :=
  let inW := decide (0x20 ≤ w.dd) && decide (w.dd ≤ 0x3F)
  match w.op with
  | 0x00 | 0x08 | 0x09 | 0x10 => true
  | 0x01 | 0x02 | 0x03 => !isOut w.a && !isOut w.b
  | 0x04 | 0x05 | 0x06 | 0x07 | 0x0E => !isOut w.a
  | 0x0A => inW
  | 0x0B => decide (0x10 ≤ w.dd) && decide (w.dd ≤ 0x1F)
  | 0x0C => inW && !isOut w.a
  | 0x0D => decide (0x20 ≤ w.dd) && decide (w.dd ≤ 0x3E) && !isOut w.a
  | 0x0F => decide (w.b ≤ 3) && (w.b != 3 || !isOut w.a)
  | 0x11 => isOut w.dd
  | _ => false

/-- An engine's settings and a bank pass the checks of R214. -/
def State.engineOk (s : State) (d n bank : Nat) : Bool :=
  let len := s.get d (F.LOOP_LE_CFG_LEN n)
  decide (1 ≤ len) && decide (len ≤ 128) && (List.range 128).all (fun k => (s.stepAt d n bank k).ok) &&
    (List.range 8).all (fun p =>
      (!s.flag d (F.LOOP_LE_IN_EN n p) || sourceOk (s.get d (F.LOOP_LE_IN_SRC n p))) &&
      (!s.flag d (F.LOOP_LE_OUT_EN n p) || destOk (s.get d (F.LOOP_LE_OUT_DST n p))))

/-- The engine runs or stalls. -/
def State.engRun (s : State) (d n : Nat) : Bool := s.flag d (F.LOOP_LE_STAT_RUN n)

/-- The engine is idle: not running, and this is not the fabric cycle of its last step (R220). -/
def State.engIdle (s : State) (d n : Nat) : Bool := !s.engRun d n && (s.eng d n).lastAt != s.now d + 1

/-- A run of the engine is cut short. -/
def engStop (d n : Nat) (s : State) : State :=
  ((s.off d (F.LOOP_LE_STAT_RUN n)).off d (F.LOOP_LE_STAT_WAIT n)).modEng d n (fun x => { x with ended := false, skip := 0, stall := 0 })

/-! ### State slots -/

/-- A 40-bit state slot, and its store. -/
def State.slot (s : State) (d n k : Nat) : Int := sxN 40 (s.get d (F.LOOP_LE_SLO n k) + 2 ^ 32 * s.get d (F.LOOP_LE_SHI n k))
def putSlot (d n k : Nat) (z : Int) (s : State) : State :=
  let v := uxN 40 z
  (s.put d (F.LOOP_LE_SLO n k) (v % 2 ^ 32)).put d (F.LOOP_LE_SHI n k) (v / 2 ^ 32)

end Sys2Proof.Machine
end

