-- ==== Sys2Proof/Machine/Ucode.lean ====
section
/-! DEFINITION. The gate sequencer's microcode (R332 to R335): its words, the check of bank 1, and the commit. -/

namespace Sys2Proof.Machine

/-- Word w of a bank, R347. -/
def State.ucWord (s : State) (k bank w : Nat) : Nat := s.wd (dix k) ((if bank = 0 then 0x2800 else 0x2000) + 4 * w)

/-- The CRC-32 of a bank of D die k, R332. -/
def bankCrc (s : State) (k bank : Nat) : Nat :=
  crc32 (((List.range 512).map (fun j => wordBytes (s.ucWord k bank j))).flatten)

/-- The fields of a microcode word, Table 12-7. -/
def ucOp (w : Nat) : Nat := w / 2 ^ 28 % 16
def ucMask (w : Nat) : Nat := w / 2 ^ 22 % 64
def ucStr (w : Nat) : Nat := w / 2 ^ 18 % 16
def ucArg (w : Nat) : Nat := w % 2 ^ 18

/-- A SRC word names both channels of a leg; 0x3F stands for the channels the event names. -/
def ucBothOn (w : Nat) : Bool :=
  ucOp w == 1 && ucMask w != 0x3F && (List.range 3).any (fun leg => bit (ucMask w) (hsCh leg) && bit (ucMask w) (lsCh leg))

/-- The check of bank 1, R335, Table 12-8. -/
def State.ucCheck (s : State) (k : Nat) : Nat :=
  let words := (List.range 496).map (fun j => s.ucWord k 1 (16 + j))
  if (List.range 16).any (fun j => 511 < s.ucWord k 1 j) then 1
  else if words.any (fun w => 6 < ucOp w) then 2
  else if words.any ucBothOn then 3
  else 0

/-- Every channel of a D die is OFF or forced off. -/
def State.allOff (s : State) (k : Nat) : Bool :=
  (List.range 6).all (fun c => s.ch k c == Ch.off || s.ch k c == Ch.forcedOff)

/-- The D die counts as stopped for RWL, R343. -/
def State.drvStopped (s : State) (k : Nat) : Bool :=
  s.allOff k && (s.axOf k).all (fun a => (List.range 2).all (fun d => !(s.runs d && s.enabled d a))) &&
    (List.range 6).all (fun c => !namesOn (s.legCmd k (c / 2)) c)

/-- A write of UC_CTRL, R335: COMMIT checks bank 1. -/
def ucCommit (k : Nat) (v : Word) (s : State) : State :=
  let i := dix k
  if v.toNat % 2 == 0 then s
  else if !s.drvStopped k then s.on i F.DRV_D_EVT_WRREF
  else
    let code := s.ucCheck k
    let s := s.put i F.DRV_D_UC_STAT_ERR code
    if code == 0 then s.modD k (fun x => { x with ucCommit := true }) else s.on i F.DRV_D_EVT_UC_ERR

end Sys2Proof.Machine
end

