-- ==== Sys2Proof/Machine/LibOps.lean ====
section
/-! DEFINITION. The configuration loader: reading an image (R106 to R111), the load checks of Table 5-6, the slots and roles of
the libretto store (R114), the layers (R112, R113), the settings (R121), and the acceptance window (R123, R124). -/

namespace Sys2Proof.Machine

/-! ### Images -/

/-- A section of an image: its header (Table 5-3), the die in whose memory it lies, and where its payload begins. -/
structure Sect where
  kind : Nat
  target : Nat
  die : Nat
  len : Nat
  crc : Nat
  reserved : Nat
  mem : Nat
  at_ : Nat
  deriving DecidableEq, Repr, Inhabited

/-- The sections of an image in die i's memory from an address, at most n of them, up to the end of the payloads. -/
def readSects (s : State) (i : Nat) : Nat → Nat → Nat → List Sect
  | 0, _, _ => []
  | n + 1, a, stop =>
    if stop < a + 16 then []
    else
      let x : Sect := ⟨s.rdLE i a 2, s.rdB i (a + 2), s.rdB i (a + 3), s.rd32 i (a + 4), s.rd32 i (a + 12),
        s.rdLE i (a + 10) 2, i, a + 16⟩
      x :: readSects s i n (a + 16 + x.len) stop

/-- A header field of an image at an address, Table 5-1. -/
def imgMagic (s : State) (i a : Nat) : Nat := s.rd32 i a
def imgVersion (s : State) (i a : Nat) : Nat := s.rd32 i (a + 8)
def imgHwType (s : State) (i a : Nat) : Nat := s.rdLE i (a + 0xC) 2
def imgSchema (s : State) (i a : Nat) : Nat := s.rdLE i (a + 0x10) 2
def imgFwMin (s : State) (i a : Nat) : Nat := s.rdLE i (a + 0x12) 2
def imgFlags (s : State) (i a : Nat) : Nat := s.rd32 i (a + 0x14)
def imgLen (s : State) (i a : Nat) : Nat := s.rd32 i (a + 0x18)
def imgCount (s : State) (i a : Nat) : Nat := s.rdLE i (a + 0x1C) 2
def imgWin (s : State) (i a : Nat) : Nat := s.rdLE i (a + 0x1E) 2

/-- The sections of an image at an address. -/
def imgSects (s : State) (i a : Nat) : List Sect :=
  readSects s i (imgCount s i a) (a + 0x100) (a + imgLen s i a - 64)

/-- The bytes of a section's payload. -/
def Sect.bytes (s : State) (x : Sect) : List Nat := s.rdBytes x.mem x.at_ x.len

/-- The targets a section type admits, Table 5-4: an axis, the package, or both. -/
def targetOk (kind target : Nat) : Bool :=
  let axis := decide (target < 6)
  let pkg := target == 0xFF
  if kind == 0x01 || kind == 0x0A then axis
  else if kind == 0x02 || kind == 0x0B || kind == 0x0C || kind == 0x0D || kind == 0x0E || kind == 0x0F || kind == 0x10 ||
    kind == 0x11 then pkg
  else if 0x03 ≤ kind && kind ≤ 0x09 then axis || pkg
  else false

/-- The window a record of a section may write, Table 5-4. -/
def windowOk (kind tgt addr : Nat) : Bool :=
  let o := addr - 0x40000000
  let inside := fun lo hi => decide (0x40000000 ≤ addr) && decide (lo ≤ o) && decide (o < hi)
  let drv := inside 0x280000 0x298000
  if kind == 0x01 then inside (0x180000 + 0x1000 * tgt) (0x181000 + 0x1000 * tgt) || inside 0x200000 0x240000
  else if kind == 0x02 then o == F.HDR_OWNCFG_C1.off
  else if kind == 0x03 then inside 0x140000 0x150000 || inside 0x160000 0x170000
  else if kind == 0x04 then inside 0x158000 0x158800
  else if kind == 0x05 then inside 0x150000 0x154000
  else if kind == 0x06 then inside 0x100000 0x140000 || drv
  else if kind == 0x07 then inside 0x1C0000 0x200000
  else if kind == 0x08 then inside 0x080000 0x090000
  else if kind == 0x09 then drv || inside 0x1C0000 0x200000 || inside 0x010000 0x020000 || inside 0x040000 0x050000
  else if kind == 0x0A then inside 0x010000 0x020000 || inside 0x2D0000 0x2E0000 || inside 0x2C0000 0x2D0000
  else if kind == 0x0B || kind == 0x0C then inside 0x240000 0x280000
  else if kind == 0x0D then inside 0x050000 0x060000
  else if kind == 0x0E then drv
  else if kind == 0x11 then inside 0 0x010000 || inside 0x030000 0x040000 || inside 0x020000 0x030000
  else false

/-- Whether the records of a payload are well formed and stay in the windows of their section, R109, R110. -/
def recordsOk (s : State) (i kind tgt : Nat) : Nat → Nat → Nat → Bool
  | 0, a, stop => a == stop
  | n + 1, a, stop =>
    if stop ≤ a then a == stop
    else
      let w := s.rd32 i a
      let addr := w - w % 4
      match w % 4 with
      | 0 => windowOk kind tgt addr && recordsOk s i kind tgt n (a + 8) stop
      | 1 =>
        let c := s.rd32 i (a + 4)
        decide (1 ≤ c) && decide (c ≤ 4096) && windowOk kind tgt addr && windowOk kind tgt (addr + 4 * (c - 1)) &&
          recordsOk s i kind tgt n (a + 8 + 4 * c) stop
      | 2 => windowOk kind tgt addr && recordsOk s i kind tgt n (a + 12) stop
      | _ => false

/-- The place of a section in the required order, R108. -/
def Sect.rank (x : Sect) : Nat := x.kind * 65536 + x.target * 256 + x.die

/-- Sections in ascending order, no two alike, R108. -/
def orderOk : List Sect → Bool
  | [] => true
  | [_] => true
  | x :: y :: t => decide (x.rank < y.rank) && orderOk (y :: t)

/-- The nested sections of a SINGLE section, R111. -/
def nested (s : State) (x : Sect) : List Sect := readSects s x.mem (x.len / 16) x.at_ (x.at_ + x.len)

/-- Sections with those nested in them. -/
def withNested (s : State) (xs : List Sect) : List Sect :=
  xs.flatMap (fun x => if x.kind == 0x0F then x :: nested s x else [x])

/-- Sections fill the bytes from `a` to `stop` with no gap, R108. -/
def fills (a stop : Nat) (xs : List Sect) : Bool :=
  match xs.getLast? with
  | some x => x.at_ + x.len == stop
  | none => a == stop

/-- A section is well formed, R108 to R111. -/
def sectOk (s : State) (x : Sect) : Bool :=
  targetOk x.kind x.target && decide (x.die < s.part.ctl) && x.len % 4 == 0 &&
    (if x.kind == 0x0F then
      let ys := nested s x
      orderOk ys && fills x.at_ (x.at_ + x.len) ys && ys.all (fun y =>
        decide (3 ≤ y.kind) && decide (y.kind ≤ 9) && targetOk y.kind y.target && y.die == 0 && y.len % 4 == 0 &&
          recordsOk s y.mem y.kind y.target (y.len / 4) y.at_ (y.at_ + y.len))
    else if x.kind == 0x10 then true
    else recordsOk s x.mem x.kind x.target (x.len / 4) x.at_ (x.at_ + x.len))

/-! ### What records write -/

/-- The unit (engine for a LOOPPROG section, weir for a WEIR section) that an address belongs to. -/
def unitAt (kind addr : Nat) : Option Nat :=
  if kind == 0x03 then
    if 0x40140000 ≤ addr ∧ addr < 0x40150000 then some ((addr - 0x40140000) / 0x400)
    else if 0x40160000 ≤ addr ∧ addr < 0x40170000 then some ((addr - 0x40160000) / 0x400)
    else none
  else if kind == 0x05 ∧ 0x40150000 ≤ addr ∧ addr < 0x40154000 then some ((addr - 0x40150000) / 0x100)
  else none

/-- The words that the records of a payload write: each record's address and how many words it writes from there. -/
def recordSpans (s : State) (i : Nat) : Nat → Nat → Nat → List (Nat × Nat)
  | 0, _, _ => []
  | n + 1, a, stop =>
    if stop ≤ a then []
    else
      let w := s.rd32 i a
      let c := s.rd32 i (a + 4)
      let e := match w % 4 with
        | 0 => (1, 8)
        | 1 => (c, 8 + 4 * c)
        | _ => (1, 12)
      (w - w % 4, e.1) :: recordSpans s i n (a + e.2) stop

/-- The words that a section's records write; SINGLE and SETDEF hold no records of their own. -/
def Sect.spans (s : State) (x : Sect) : List (Nat × Nat) :=
  if x.kind == 0x0F || x.kind == 0x10 then [] else recordSpans s x.mem (x.len / 4) x.at_ (x.at_ + x.len)

/-- The addresses that a section's records write. -/
def Sect.addrs (s : State) (x : Sect) : List Nat :=
  (x.spans s).flatMap (fun e => (List.range e.2).map (fun k => e.1 + 4 * k))

/-- Some word that a section's records write satisfies a test of its address. -/
def Sect.writes (s : State) (p : Nat → Bool) (x : Sect) : Bool := (x.addrs s).any p

/-- The entry 64g + e of a converter group that an address belongs to. -/
def entAt (addr : Nat) : Option Nat :=
  let off := addr - 0x40100000
  if 0x40100000 ≤ addr ∧ addr < 0x40110000 ∧ 0x100 ≤ off % 0x4000 ∧ off % 0x4000 < 0x200 then
    some (64 * (off / 0x4000) + (off % 0x4000 - 0x100) / 4)
  else none

/-- The axis whose section placed an engine or a weir is noted for fault collection (Table 14-3), and the axis of a
converter entry for the capture (R167). -/
def placeUnits (d : Nat) (x : Sect) (s : State) : State :=
  let v := if x.target < 6 then x.target + 1 else 0
  if x.kind == 0x06 then
    overL ((x.addrs s).filterMap entAt) (fun e s => s.modAdc d (fun y => { y with entAx := y.entAx.set e v })) s
  else if x.kind == 0x03 || x.kind == 0x05 then
    overL ((x.spans s).filterMap (fun e => unitAt x.kind e.1)) (fun u s =>
      s.modLoop d (fun l => if x.kind == 0x03 then { l with engAx := l.engAx.set u v }
        else { l with weirAx := l.weirAx.set u v })) s
  else s

/-! ### The store -/

/-- The address of slot 1, 2 or 3 of the libretto store (the place inside the partition is the model's, log entry 19). -/
def slotAddr (slot : Nat) : Nat := 0x10B08000 + 0x28000 * (slot - 1)

/-- The images of a slot's contents from an address, in order: the full image and the bundles after it (R114). -/
def imagesAt (s : State) (d : Nat) : Nat → Nat → Nat → List Nat
  | 0, _, _ => []
  | n + 1, a, stop =>
    if stop ≤ a then []
    else a :: (if imgLen s d a == 0 then [] else imagesAt s d n (a + imgLen s d a) stop)

/-- The images of a slot of die d, none for slot 0. -/
def State.imagesOf (s : State) (d slot : Nat) : List Nat :=
  if slot == 0 then [] else imagesAt s d 64 (slotAddr slot) (slotAddr slot + (s.n d).slotLen.at slot)

/-- The sections of a slot, in order: the image's and those of the bundles. -/
def State.sectsOf (s : State) (d slot : Nat) : List Sect := (s.imagesOf d slot).flatMap (fun a => imgSects s d a)

/-- The last section with a type, a target and a die: a bundle's section replaces the image's. -/
def pick (xs : List Sect) (kind tgt die : Nat) : Option Sect :=
  xs.foldl (fun acc x => if x.kind == kind && x.target == tgt && x.die == die then some x else acc) none

/-- Whether MRAM may be written now on every running C die, R116: NVM_TEMP, PFAIL_BLOCK, or 0. -/
def State.mramCode (s : State) : Nat :=
  if (List.range 2).any (fun d => s.runs d && !s.nvmWindow d) then Lc.nvmTemp
  else if (List.range 2).any (fun d => s.runs d && (s.c d).sys.mramRefuse) then Lc.pfailBlock
  else Lc.ok

/-- The slot a command stores into, Table 5-14: neither of two roles, the empty one where two qualify. -/
def targetSlot (v : NvC) (a b : Nat) : Nat :=
  let free := [1, 2, 3].filter (fun x => x != a && x != b)
  match free.find? (fun x => x != v.active && x != v.prev && x != v.userdef) with
  | some x => x
  | none => free.headD 1

/-- The versions of the roles shown in LIB. -/
def refreshVersions (d : Nat) (s : State) : State :=
  let ver := fun slot => if slot == 0 then 0 else imgVersion s d (slotAddr slot)
  let v := s.n d
  ((s.put d F.LIB_ACTVER (ver v.active)).put d F.LIB_PREVVER (ver v.prev)).put d F.LIB_UDVER (ver v.userdef)

/-- ACTIVE and PREVIOUS exchanged by one directory write on a die. -/
def exchangeRoles (d : Nat) (s : State) : State :=
  refreshVersions d (s.modN d (fun v => { v with active := v.prev, prev := v.active }))

/-- The roles after a load, Table 5-14: PREVIOUS ← former ACTIVE, ACTIVE ← the slot. -/
def rolesOfLoad (d slot : Nat) (s : State) : State :=
  refreshVersions d (s.modN d (fun v => { v with active := slot, prev := v.active }))

/-- The directory write that waits on a die, if any, is made (R124, R126). -/
def dirWrite (d : Nat) (s : State) : State :=
  let l := (s.c d).lib
  let s := if l.dirDue % 2 == 1 then rolesOfLoad d l.slot s else s
  let s := if 2 ≤ l.dirDue then exchangeRoles d s else s
  s.modLib d (fun x => { x with dirDue := 0 })

/-- A directory write is made, or waits for a frame at which MRAM may be written: 1 the roles of a load, 2 the exchange. One
that comes while another waits is made with it. -/
def dirTry (d kind : Nat) (s : State) : State :=
  let s := s.modLib d (fun x => { x with dirDue := x.dirDue + kind })
  if s.mramCode == Lc.ok then dirWrite d s else s

/-! ### Load checks -/

/-- The stepping of the running C dies and of the D dies is at least what an image needs. -/
def State.stepsOk (s : State) (d cstep dstep : Nat) : Bool :=
  (List.range 8).all (fun i =>
    !s.bitOf d F.HDR_RC_DIEMAP_PRESENT i ||
      decide ((if i < 2 then cstep else dstep) ≤ s.get d (F.HDR_RC_STEP_STEP i)))

/-- The key of a slot is VALID and has a usage bit (0 FW, 1 LIB, 2 DEBUG, 3 RETURN), R493. -/
def State.keyOk (s : State) (d slot use : Nat) : Bool :=
  decide (slot < 8) && s.get d F.SEC_KEYST / 4 ^ slot % 4 == 1 && s.bitOf d (F.SEC_KEYUSE slot) use

/-- An ECDSA P-256 signature of 64 bytes at an address over a byte string, with the key of a slot. -/
def State.sigOk (s : State) (d slot : Nat) (msg : List Nat) (i sigAt : Nat) : Bool :=
  let k := (s.n d).keys.at slot
  Config.ecdsaOk k.x k.y (Config.sha256 msg) (s.rdBytes i sigAt 64)

/-- The unit's unique ID as 16 bytes, least significant word first. -/
def State.uid (s : State) (d : Nat) : List Nat :=
  (List.range 4).flatMap (fun j => wordBytes (s.get d (F.SEC_UID j)))

/-- A unit binding: zero, or the unit's own ID. -/
def State.unitOk (s : State) (d : Nat) (bytes : List Nat) : Bool := bytes.all (· == 0) || bytes == s.uid d

/-- The half-bridge in a phase slot of an axis; 0x1F unused. -/
def State.hbOf (s : State) (d a slot : Nat) : Nat := s.get d (F.FIELD_AX_HB a) / 32 ^ slot % 32

/-- How many phase slots an axis uses, Table 10-1; none: the type is refused. -/
def State.slotsUsed (s : State) (d a : Nat) : Option Nat :=
  match s.get d (F.FIELD_AX_CFG_TYPE a) with
  | 0 => some 0
  | 1 => some 3
  | 2 => some 6
  | 3 => some 3
  | 4 => if s.get d (F.FIELD_AX_CFG_NLEG a) = 0 then none else some (s.get d (F.FIELD_AX_CFG_NLEG a))
  | 5 => some 1
  | _ => none

/-- The half-bridges an axis uses. -/
def State.hbsOf (s : State) (d a : Nat) : List Nat :=
  (List.range ((s.slotsUsed d a).getD 0)).map (fun j => s.hbOf d a j)

/-- An axis is within R243: used slots hold a half-bridge of the part, unused ones 0x1F. -/
def axisOk (s : State) (d a : Nat) : Bool :=
  match s.slotsUsed d a with
  | none => false
  | some u => (decide (a < s.part.axes) || u == 0) && (List.range 6).all (fun j =>
      if j < u then decide (s.hbOf d a j < 3 * s.part.drv) else s.hbOf d a j == 0x1F)

/-- L of a pair in steps for a period and a carrier (R281), and whether a pair is within R288. -/
def pairL (per carm : Nat) : Nat := 64 * (carm + 1) * per

def State.pairFits (s : State) (d k : Nat) : Bool :=
  let g := s.pairLg d k
  decide (s.get d (F.PWM_PP_DTR k) + s.get d (F.PWM_PP_DTF k) + 2 * s.get d (F.PWM_PP_MINP k) ≤
    pairL (s.get d (F.PWM_LG_PER g)) (s.get d (F.PWM_PP_CFG_CARM k)))

/-- A load group has one CARM in all its pairs, every pair is within R288, and the carrier within 24 bits (R277). -/
def State.groupOk (s : State) (d g : Nat) : Bool :=
  let ks := s.pairsIn d g
  let c := s.get d (F.PWM_PP_CFG_CARM (ks.headD 0))
  ks.all (fun k => s.get d (F.PWM_PP_CFG_CARM k) == c && s.pairFits d k) &&
    (ks.isEmpty || decide ((c + 1) * s.get d (F.PWM_LG_PER g) ≤ 16777215))

/-- A cue source of Table 6-6 that is not reserved and whose die is present. -/
def State.cueSrcOk (s : State) (src : Nat) : Bool :=
  src != 0x3E && src != 0x3F && (decide (src ≤ 0xD0) ||
    (match cueSrcDie src with
      | some k => s.hasD k
      | none => false))

/-- A cue destination of Table 6-7 that is not reserved and whose unit is present: LE63 is not assignable (R210). -/
def State.cueDstOk (s : State) (dst : Nat) : Bool :=
  (decide (dst < 0x62) && dst != 0x4F) || (decide (0x62 ≤ dst) && decide (dst < 0x6A)) ||
    (decide (0x70 ≤ dst) && decide (dst < 0x90)) ||
    (match cueDstDie dst with
      | some k => s.hasD k && decide ((dst - 0xA0) % 8 < 3)
      | none => false)

/-- The inputs a group reaches, R151. -/
def ainReach (g ain : Nat) : Bool := if g < 2 then decide (ain < 24) else decide (24 ≤ ain) && decide (ain < 48)

/-- Entry e of a group is in use: its sequence uses that many (R152). -/
def State.entUsed (s : State) (d g e : Nat) : Bool := decide (e % 16 < s.get d (F.ADC_AG_SEQ_CFG_LEN g (e / 16)))

/-- An entry names the input and the step of another entry in use of its sequence, R151. -/
def State.entTwice (s : State) (d g e : Nat) : Bool :=
  (List.range 16).any (fun j =>
    let x := e / 16 * 16 + j
    x != e && s.entUsed d g x && s.get d (F.ADC_AG_ENT_AIN g x) == s.get d (F.ADC_AG_ENT_AIN g e) &&
      s.get d (F.ADC_AG_ENT_STEP g x) == s.get d (F.ADC_AG_ENT_STEP g e))

/-- The sequences of a group name inputs within its reach, each once in a step, and at most seven entries in a step (R151,
R153). -/
def State.groupFits (s : State) (d g : Nat) : Bool :=
  (List.range 4).all (fun q =>
    let es := ((List.range 16).map (fun j => 16 * q + j)).filter (fun e => s.entUsed d g e)
    s.flag d (F.ADC_AG_SEQ_CFG_MODE g q) && es.all (fun e => e % 16 != 0 || ainReach g (s.get d (F.ADC_AG_ENT_AIN g e))) ||
      (es.all (fun e => ainReach g (s.get d (F.ADC_AG_ENT_AIN g e)) && !s.entTwice d g e) &&
        (List.range 16).all (fun st =>
          decide ((es.filter (fun e => s.get d (F.ADC_AG_ENT_STEP g e) == st)).length ≤ 7))))

/-- The torque monitor of an axis is independent, R371. -/
def State.tmonOk (s : State) (d a : Nat) : Bool :=
  let g := s.get d (F.TMON_AX_CFG_AG a)
  let e := s.get d (F.TMON_AX_CFG_ENT a)
  let n := s.get d (F.TMON_AX_CFG_FB a)
  let len := if s.get d (F.FIELD_AX_CFG_TYPE a) == 2 then 6 else 3
  decide (e + len ≤ 64) && (List.range len).all (fun j => s.flag d (F.ADC_AG_ENT_TMON g (e + j))) &&
    (s.flag d (F.TMON_AX_CFG_ANG a) || (n != s.get d (F.FIELD_AX_CFG_FB a) && s.flag d (F.FB_FB_CFG_TMON n)))

/-- The type, bus, angle source and curtain rule of an axis agree: R243, R252, R259, R348, R355. -/
def State.axisFits (s : State) (d a : Nat) : Bool :=
  let ty := s.get d (F.FIELD_AX_CFG_TYPE a)
  let bus := s.get d (F.FIELD_AX_CFG_BUS a)
  let src := s.get d (F.FIELD_AX_ANG_SRC a)
  axisOk s d a && (ty == 0 || (decide (bus < 3) && s.flag d (F.DISCH_BUS_CFG_EN bus) && decide (src ≤ 4))) &&
    (ty != 4 || bus != s.get d (F.FIELD_AX_CFG_PORT a)) && (!(ty == 4 || ty == 5) || src == 4) &&
    !(s.get d (F.SAFE_AX_RULE_MODE a) == 2 && decide (3 ≤ ty))

/-- A physical engine unit is retired. -/
def State.unitRetired (s : State) (d u : Nat) : Bool :=
  if u < 32 then s.bitOf d F.LOOP_RETIRED0 u else s.bitOf d F.LOOP_RETIRED1 (u - 32)

/-- An engine has no unit that works: its own is retired, and nothing took its place (R417). -/
def State.engRetired (s : State) (d n : Nat) : Bool := s.unitRetired d (s.get d (F.LOOP_LE_STAT_PU n))

/-- Check 10 of Table 5-6 as the configuration of die d stands: axes, sequences, pairs, terminals, cue routes and engines
within what the part has and what is not retired (R151, R210, R234, R305), load groups (R277, R288), torque monitors (R371),
and the weir tree (R228). -/
def State.configOk (s : State) (d : Nat) : Bool :=
  let axes := List.range 6
  let ty := fun a => s.get d (F.FIELD_AX_CFG_TYPE a)
  axes.all (fun a => s.axisFits d a) && (axes.flatMap (fun a => s.hbsOf d a)).Nodup && s.treeOk d &&
  (List.range 8).all (fun g => s.groupOk d g) && (List.range 4).all (fun g => s.groupFits d g) &&
  (List.range 3).all (fun b => decide ((axes.filter (fun a => ty a == 5 && s.get d (F.FIELD_AX_CFG_BUS a) == b)).length ≤ 1)) &&
  axes.all (fun a => !s.flag d (F.TMON_AX_CFG_EN a) || s.tmonOk d a) &&
  (List.range 18).all (fun k => s.pairAx d k != 6 && (s.pairAx d k == 7 || decide (s.pairAx d k < s.part.axes)) &&
    (s.get d (F.PWM_PP_CFG_HB k) == 0x1F || s.pairAx d k == 7 || decide (s.get d (F.PWM_PP_CFG_HB k) < 3 * s.part.drv))) &&
  (List.range 12).all (fun m => !s.flag d (F.PWM_XMUX_EN m) || decide (s.get d (F.PWM_XMUX_CH m) < 36)) &&
  (List.range 256).all (fun n => !s.flag d (F.CUE_DST_EN n) || (s.cueDstOk n && s.cueSrcOk (s.get d (F.CUE_DST_SRC n)) &&
    (!s.flag d (F.CUE_DST_PEER n) || s.part.ctl == 2))) &&
  (List.range 63).all (fun n => s.get d (F.LOOP_LE_CFG_MODE n) == Lm.off || !s.engRetired d n)

/-- The D dies of an axis's half-bridges. -/
def State.axisDies (s : State) (d a : Nat) : List Nat := (s.hbsOf d a).map (fun h => h / 3)

/-- Check 10 across the C dies `ds`: no half-bridge in two axes, one owner for the D dies of an axis (R244), and owners that
the part has. -/
def State.packageOk (s : State) (ds : List Nat) : Bool :=
  let own := fun k => s.bitOf 0 F.HDR_OWNCFG_C1 k
  let six := List.range 6
  ds.all (fun d => ds.all (fun e => six.all (fun a => six.all (fun b =>
    a == b || (s.hbsOf d a).all (fun h => !(s.hbsOf e b).contains h))))) &&
  ds.all (fun d => six.all (fun a => (s.axisDies d a).all (fun k => (s.axisDies d a).all (fun j => own k == own j)))) &&
  six.all (fun k => !own k || (s.part.ctl == 2 && s.hasD k))

/-- The device is in K4 compatibility mode, R417. -/
def State.k4 (s : State) (d : Nat) : Bool := s.flag d F.BIST_STAT_MODE

/-- Blocks marked unusable in K4 compatibility mode (check 11 of Table 5-6, R164, R417): an address on die d is of one. -/
def State.marked (s : State) (d addr : Nat) : Bool :=
  let o := addr - 0x40000000
  if 0x1C0000 ≤ o ∧ o < 0x1C1200 then s.bitOf d F.BIST_MARK0_PP ((o - 0x1C0000) / 0x100)
  else if 0x200000 ≤ o ∧ o < 0x204000 then s.bitOf d F.BIST_MARK0_FB ((o - 0x200000) / 0x1000)
  else if 0x240000 ≤ o ∧ o < 0x280000 then s.bitOf d F.BIST_MARK0_CAN ((o - 0x240000) / 0x10000)
  else if 0x280000 ≤ o ∧ o < 0x298000 then
    let k := (o - 0x280000) / 0x4000
    s.bitOf d F.BIST_MARK1_D k || (decide (0x3000 ≤ o % 0x4000) && s.bitOf d F.ADC_GSTAT_DCALFAIL k)
  else if 0x140000 ≤ o ∧ o < 0x150000 then s.engRetired d ((o - 0x140000) / 0x400)
  else if 0x160000 ≤ o ∧ o < 0x170000 then s.engRetired d ((o - 0x160000) / 0x400)
  else if 0x100000 ≤ o ∧ o < 0x110000 then s.bitOf d F.ADC_GSTAT_CALFAIL ((o - 0x100000) / 0x4000)
  else if 0x111000 ≤ o ∧ o < 0x111600 then s.bitOf d F.ADC_GSTAT_DCALFAIL ((o - 0x111000) / 0x100)
  else false

/-- A section writes a marked block; a section of a marked C1 does so with any record (R417). -/
def Sect.onMark (s : State) (x : Sect) : Bool :=
  s.k4 0 && ((x.die == 1 && s.flag 0 F.BIST_MARK0_C1) || x.writes s (s.marked x.die))

/-- An address of the window of LE63, which is not assignable (R210). -/
def le63 (addr : Nat) : Bool :=
  (decide (0x4014FC00 ≤ addr) && decide (addr < 0x40150000)) || (decide (0x4016FC00 ≤ addr) && decide (addr < 0x40170000))

/-- The bits of a register that have a reload shadow, as the chapters name them (R125): cue routes (R149), converter settings
(R170), interfaces (R205), engines, weirs and channels (R237, R239), FIELD settings (R251, R273), pairs and terminals (R302),
gate settings (R343), the monitor and the curtain rule (R375). -/
def shadowMask (i off : Nat) : Nat :=
  let all := 0xFFFFFFFF
  if 2 ≤ i then
    if 0x100 ≤ off ∧ off < 0x280 ∧ (off - 0x100) % 0x40 == 4 then all
    else if 0x400 ≤ off ∧ off < 0x4C0 ∧ (off - 0x400) % 0x40 == 4 then all else 0
  else if off < 0x20000 then if 0x18100 ≤ off ∧ off < 0x18280 ∧ [0x00, 0x04, 0x08].contains ((off - 0x18100) % 0x40) then all else 0
  else if 0x80000 ≤ off ∧ off < 0x80400 then all
  else if 0x100000 ≤ off ∧ off < 0x110000 then
    let o := off % 0x4000
    if (0x10 ≤ o ∧ o < 0x20) ∨ (0x100 ≤ o ∧ o < 0x300) ∨ (0x500 ≤ o ∧ o < 0x600) then all else 0
  else if 0x111000 ≤ off ∧ off < 0x111600 then if 0x10 ≤ off % 0x100 ∧ off % 0x100 < 0x30 then all else 0
  else if 0x140000 ≤ off ∧ off < 0x150000 then
    let o := off % 0x400
    if o == 4 then 0xFF000000
    else if o == 0x24 ∨ o == 0x28 ∨ (0x40 ≤ o ∧ o < 0x80) ∨ (0x100 ≤ o ∧ o < 0x200) ∨ (0x300 ≤ o ∧ o < 0x340) then all else 0
  else if 0x150000 ≤ off ∧ off < 0x154000 then
    let o := off % 0x100
    if o == 0 ∨ (0x20 ≤ o ∧ o < 0x50 ∧ (0x40 ≤ o ∨ o % 8 == 0)) then all else 0
  else if 0x158000 ≤ off ∧ off < 0x158800 then if off % 8 == 0 then all else 0
  else if 0x160000 ≤ off ∧ off < 0x170000 then all
  else if 0x180000 ≤ off ∧ off < 0x186000 then
    if [0x24, 0x30, 0x34, 0x38, 0x3C, 0x44, 0x6C].contains (off % 0x1000) ∨ (0x100 ≤ off % 0x1000 ∧ off % 0x1000 < 0x300) then all
    else 0
  else if 0x1C0000 ≤ off ∧ off < 0x1C1200 then
    if off % 0x100 == 0 then 0x0F100003 else if [0x04, 0x18, 0x1C, 0x20, 0x24].contains (off % 0x100) then all else 0
  else if 0x1C30C0 ≤ off ∧ off < 0x1C30F0 then all
  else if 0x200000 ≤ off ∧ off < 0x204000 then
    if off % 0x1000 == 0x18 ∨ off % 0x1000 == 0x20 ∨ (0x80 ≤ off % 0x1000 ∧ off % 0x1000 < 0x94) then all else 0
  else if 0x2C0000 ≤ off ∧ off < 0x2C0600 then if [0x08, 0x0C, 0x10].contains (off % 0x100) then all else 0
  else 0

/-- The converter sequence or entry that an address of a group configures (R170): 64·group + 4·… by kind. -/
def adcUnit (addr : Nat) : Option Nat :=
  let off := addr - 0x40100000
  let o := off % 0x4000
  let g := off / 0x4000
  if addr < 0x40100000 ∨ 0x40110000 ≤ addr then none
  else if 0x10 ≤ o ∧ o < 0x20 then some (1000 * g + (o - 0x10) / 4)
  else if 0x100 ≤ o ∧ o < 0x200 then some (1000 * g + 100 + (o - 0x100) / 4)
  else if 0x200 ≤ o ∧ o < 0x300 then some (1000 * g + 100 + (o - 0x200) / 4)
  else none

/-- The loader commands whose image is checked. -/
abbrev Cmd.load := 1
abbrev Cmd.reload := 2
abbrev Cmd.rollback := 3
abbrev Cmd.accept := 4
abbrev Cmd.abort := 5
abbrev Cmd.storeUd := 6
abbrev Cmd.clearUd := 7

/-- Check 1 of Table 5-6. -/
def checkLen (s : State) (cmd a len : Nat) : Bool :=
  len == imgLen s 0 a && decide (len ≤ 163840) && decide (0x140 ≤ len) && decide (0x20000000 ≤ a) &&
    decide (a + len ≤ 0x20600000) && a % 4 == 0 &&
    (cmd != Cmd.reload || decide ((s.n 0).slotLen.at (s.n 0).active + len ≤ 163840))

/-- Check 2 of Table 5-6 on an image in die i's memory: MAGIC, FORMAT, HDR_LEN, reserved bytes, those of the section headers
among them (R107). The FLAGS are judged with it: what each command needs (R113, R125), and SINGLE_PLACE (Table 5-2). -/
def checkFormat (s : State) (i cmd a : Nat) : Bool :=
  let fl := imgFlags s i a
  let xs := imgSects s i a
  imgMagic s i a == 0x4C425431 && s.rdLE i (a + 4) 2 == 1 && s.rdLE i (a + 6) 2 == 0x100 && decide (fl < 32) &&
    (s.rdBytes i (a + 0x31) 207).all (· == 0) && (withNested s xs).all (fun x => x.reserved == 0) &&
    bit fl 3 == (cmd == Cmd.storeUd) && bit fl 4 == (cmd == Cmd.reload) && bit fl 2 == xs.any (fun x => x.kind == 0x0F)

/-- Checks 2 to 9 of Table 5-6 that die d makes on an image in die i's memory: the first failure's code, or 0. -/
def imgCheck (s : State) (d i cmd a : Nat) : Nat :=
  let xs := imgSects s i a
  let key := s.rdB i (a + 0x30)
  let stop := a + imgLen s i a - 64
  if !checkFormat s i cmd a then Lc.format
  else if !(s.keyOk d key 1 && s.sigOk d key (s.rdBytes i a (imgLen s i a - 64)) i stop) then Lc.sigFail
  else if imgHwType s i a != s.part.hwType then Lc.hwType
  else if !s.stepsOk d (s.rdB i (a + 0xE)) (s.rdB i (a + 0xF)) then Lc.stepping
  else if !s.unitOk d (s.rdBytes i (a + 0x20) 16) then Lc.unitId
  else if (List.range 2).any (fun e => s.runs e && decide (s.get e F.NVM_ACTVER / 65536 < imgFwMin s i a)) then Lc.fwVersion
  else if (withNested s xs).any (fun x => crc32 (x.bytes s) != x.crc) then Lc.sectCrc
  else if !(decide (1 ≤ xs.length) && decide (xs.length = imgCount s i a) && fills (a + 0x100) stop xs && orderOk xs &&
      xs.all (fun x => sectOk s x)) then Lc.sectInvalid
  else Lc.ok

/-- The first of some codes that is a failure. -/
def firstCode (cs : List Nat) : Nat := (cs.find? (fun c => c != Lc.ok)).getD Lc.ok

/-- A full image carries an OWNER section, and an AXIS section for every axis it uses, R113. -/
def fullOk (xs : List Sect) : Bool :=
  xs.any (fun x => x.kind == 2) && xs.all (fun x => 6 ≤ x.target || xs.any (fun y => y.kind == 1 && y.target == x.target))

/-- The section that a section check failed on: its index from 0 and its TYPE (LIB_ERRSEC). -/
def errSect (s : State) (i a code : Nat) : Nat × Nat :=
  let xs := imgSects s i a
  let bad := fun (x : Sect) =>
    if code == Lc.sectCrc then (withNested s [x]).any (fun y => crc32 (y.bytes s) != y.crc) else !sectOk s x
  let ix := (xs.takeWhile (fun x => !bad x)).length
  (ix % 65536, ((xs.drop ix).head?.map (fun x => x.kind)).getD 0)

/-- LIB_ERRSEC after a failed section check of an image in C0's memory. -/
def noteErrSect (a code : Nat) (s : State) : State :=
  if code == Lc.sectCrc || code == Lc.sectInvalid then
    let e := errSect s 0 a code
    (s.put 0 F.LIB_ERRSEC_INDEX e.1).put 0 F.LIB_ERRSEC_TYPE e.2
  else s

/-! ### Layers -/

/-- The layers over the factory libretto, R112: the active libretto's sections and the user default's. -/
structure Layers where
  lib : List Sect
  user : List Sect
  deriving DecidableEq, Repr

/-- The layers of C die d with a slot's libretto. -/
def State.layersOf (s : State) (d slot : Nat) : Layers := ⟨s.sectsOf d slot, s.sectsOf d (s.n d).userdef⟩

/-- The section the layers give for a type, target and die, R112: the libretto's, else the user default's; none: the factory
libretto's. -/
def layered (l : Layers) (kind tgt die : Nat) : Option Sect :=
  match pick l.lib kind tgt die with
  | some x => some x
  | none => pick l.user kind tgt die

/-- The targets in ascending order: the axes, then the package. -/
def targets : List Nat := [0, 1, 2, 3, 4, 5, 0xFF]

/-- The replacements of the SINGLE section, which single control applies (R102, R111). -/
def State.replacements (s : State) (l : Layers) : List Sect :=
  if s.dual then []
  else match layered l 0x0F 0xFF 0 with
    | some x => nested s x
    | none => []

/-- The section to execute on die d for a type and target (R111, R119): a replacement takes the place of both dies' sections,
and runs on C0 alone. -/
def chosen (l : Layers) (ys : List Sect) (d kind tgt : Nat) : Option Sect :=
  if (ys.any (fun y => y.kind == kind && y.target == tgt)) then (if d == 0 then pick ys kind tgt 0 else none)
  else layered l kind tgt d

/-- The sections to execute on die d, in the order of R119. -/
def chosenAll (l : Layers) (ys : List Sect) (d : Nat) : List Sect :=
  (List.range 0x12).flatMap (fun kind => targets.filterMap (fun tgt => chosen l ys d kind tgt))

/-- The registers that a section of the factory libretto sets (R112, log entry 20), as die index and offset: what the section's
windows hold of protection defaults, under PROTECT, CURTAIN, SYSCFG, FRAME and LOOPPROG, and the axis under AXIS. -/
def factoryHolds (d kind tgt i off : Nat) : Bool :=
  let curt := decide (0x18100 ≤ off) && decide (off < 0x18280)
  let inOwn := fun lo hi => i == d && decide (lo ≤ off) && decide (off < hi)
  match kind with
  | 0x01 => inOwn (0x180000 + 0x1000 * tgt) (0x181000 + 0x1000 * tgt)
  | 0x03 => tgt == 0xFF && inOwn 0x140000 0x150000
  | 0x09 => tgt == 0xFF && ((2 ≤ i && i - 2 < 6) || inOwn 0x1C0000 0x200000 || (inOwn 0x10000 0x20000 && !curt) ||
      inOwn 0x40000 0x50000)
  | 0x0A => curt && inOwn (0x18100 + 0x40 * tgt) (0x18140 + 0x40 * tgt) || inOwn (0x2C0000 + 0x100 * tgt) (0x2C0100 + 0x100 * tgt) ||
      (tgt == 0 && inOwn 0x2D0000 0x2E0000)
  | 0x0D => inOwn 0x50000 0x60000
  | 0x11 => inOwn 0x10 0x10000 || inOwn 0x20000 0x40000
  | _ => false

/-- A section of the factory libretto on die d (log entry 20): RWP fields at their reset values, the supervisory frame among
them (1 ms); no half-bridge in an axis; CAN0 with the recovery service's filter (Table 19-7). -/
def factorySect (d kind tgt : Nat) (s : State) : State :=
  let s := if kind == 0x01 then
      let h := F.FIELD_AX_HB tgt
      (s.setReg d h.off (resetWord (regKey d h.off))).put d (F.FIELD_AX_CFG_TYPE tgt) 0
    else s
  if kind == 0x0B then
    let id := 0x6F0 + 2 * d
    let s := (s.wr32 d (canRam 0 0) id).wr32 d (canRam 0 4) 0
    let s := (s.put d (F.CAN_CAN_FLT_ACTION 0 0) 2).put d (F.CAN_CAN_FLTCFG_USED 0) 1
    s.modLib d (fun x => { x with starts := x.starts ++ [(0x240000, 0)] })
  else s.regs.foldl (fun (t : State) e =>
    let i := e.1 / 0x1000000
    let off := e.1 % 0x1000000
    if factoryHolds d kind tgt i off then
      match rowAt i off with
      | some r => t.setReg i off (mergeW e.2 r.rwp (resetWord e.1))
      | none => t
    else t) s

/-! ### Settings -/

/-- The address and the range of a settings bank, Table 19-8. -/
def bankAddr (b : Nat) : Nat := if b == 0 then 0x10B81000 else 0x10BA0000
def bankEnd (b : Nat) : Nat := if b == 0 then 0x10B9FFFF else 0x10BBEFFF

/-- A settings bank has a valid header and CRC, R503, R504. -/
def State.bankOk (s : State) (d b : Nat) : Bool :=
  let a := bankAddr b
  let len := s.rd32 d (a + 12)
  s.rd32 d a == 0x53544731 && s.rdLE d (a + 6) 2 == 0 && (s.rdBytes d (a + 20) 12).all (· == 0) &&
    decide (a + 32 + len ≤ bankEnd b + 1) && crc32 (s.rdBytes d (a + 32) len) == s.rd32 d (a + 16)

/-- The current bank: of two valid ones the one with the higher SEQ modulo 2^32 (R503). -/
def State.curBank (s : State) (d : Nat) : Option Nat :=
  let q := fun b => s.rd32 d (bankAddr b + 8)
  match s.bankOk d 0, s.bankOk d 1 with
  | true, true => if (q 1 + 2 ^ 32 - q 0) % 2 ^ 32 < 2 ^ 31 && q 1 != q 0 then some 1 else some 0
  | true, false => some 0
  | false, true => some 1
  | false, false => none

/-- NVM_SETST and NVM_SETSEQ follow the banks. -/
def refreshSettings (d : Nat) (s : State) : State :=
  let s := s.put d F.NVM_SETST_VALID (b2n (s.bankOk d 0) + 2 * b2n (s.bankOk d 1))
  match s.curBank d with
  | some b =>
    let s := s.put d F.NVM_SETST_BANK b
    let s := s.put d F.NVM_SETST_SCHEMA (s.rdLE d (bankAddr b + 4) 2)
    s.put d F.NVM_SETSEQ (s.rd32 d (bankAddr b + 8))
  | none => s


/-- A reset of the settings to defaults (R121, R112): the chosen SETDEF entries, or the factory libretto's, go into the
non-current bank with a new SEQ. -/
def settingsReset (d schema : Nat) (setdef : Option Sect) (s : State) : State :=
  let cur := s.curBank d
  let b := match cur with
    | some 0 => 1
    | _ => 0
  let seq := match cur with
    | some c => (s.rd32 d (bankAddr c + 8) + 1) % 2 ^ 32
    | none => 1
  let entries := match setdef with
    | some x => x.bytes s
    | none => Config.factorySettings
  let s := s.wrBytes d (bankAddr b + 32) entries
  let s := s.wrBytes d (bankAddr b) (wordBytes 0x53544731 ++ [schema % 256, schema / 256 % 256, 0, 0] ++ wordBytes seq ++
    wordBytes entries.length ++ wordBytes (crc32 entries) ++ List.replicate 12 0)
  refreshSettings d s

/-- The settings schema is resolved at an apply, R121: an older one resets the settings, unless MRAM takes no write (R116); a
newer one, like one that could not be reset, is set aside. -/
def settingsResolve (d schema : Nat) (setdef : Option Sect) (s : State) : State :=
  match s.curBank d with
  | none => (s.put d F.LIB_SCHEMA_SET 0).off d F.LIB_STAT_SET_ASIDE
  | some _ =>
    let s := if s.get d F.NVM_SETST_SCHEMA < schema && s.mramCode == Lc.ok then settingsReset d schema setdef s else s
    let s := s.put d F.LIB_SCHEMA_SET (s.get d F.NVM_SETST_SCHEMA)
    s.put d F.LIB_STAT_SET_ASIDE (b2n (s.get d F.NVM_SETST_SCHEMA != schema))

/-- A store that runs on a die ends with PFAIL (R81): only the word in progress completes, and the target slot stays empty. -/
def storeCut (d : Nat) (s : State) : State :=
  if s.get d F.LIB_STAT_STATE == 2 then
    let s := onlyIf ((s.c d).lib.cmd == Cmd.reload) (fun s => s.put d F.LIB_RELST_CODE Lc.pfailBlock) s
    let s := (s.put d F.LIB_STAT_CODE Lc.pfailBlock).put d F.LIB_STAT_STATE (if (s.c d).lib.held then 5 else 0)
    s.modLib d (fun l => { l with cmd := 0 })
  else s

/-! ### The end of an apply -/

/-- The readiness bits clear at the start of an apply, and the items run again (R119). -/
def clearReady (d : Nat) (s : State) : State :=
  let s := s.off d F.HDR_RC_STATUS_RDY_OFFS
  let s := s.off d F.HDR_RC_STATUS_RDY_PUMP
  let s := s.off d F.HDR_RC_STATUS_RDY_ORPHAN
  let s := s.off d F.HDR_RC_STATUS_RDY_CHK
  let s := s.off d F.HDR_RC_STATUS_RDY_TMON
  let s := s.off d F.HDR_RC_STATUS_START_RDY
  s.modSafe d (fun x => { x with orphLoads := 0, tmonZero := 0 })

/-- A K4-mode marked block serves axis a on die d, and only through a retired unit (Table 5-12). -/
def State.axisUnusable (s : State) (d a : Nat) : Bool :=
  s.k4 0 && s.get d (F.FIELD_AX_CFG_TYPE a) != 0 &&
    ((List.range 63).any (fun n => (s.c d).loop.engAx.at n == a + 1 && s.engRetired d n) ||
      (List.range 18).any (fun k => s.pairAx d k == a && s.bitOf d F.BIST_MARK0_PP k) ||
      s.bitOf d F.BIST_MARK0_FB (s.get d (F.FIELD_AX_CFG_FB a)) || (s.axisDies d a).any (fun k => s.bitOf d F.BIST_MARK1_D k))

/-- LIB_AXST after an apply, Table 5-12; `ys` are the replacements of single control. -/
def axisState (s : State) (d a : Nat) (l : Layers) (ys : List Sect) : Nat :=
  let single := !s.dual && s.part.ctl == 2
  if (List.range 2).all (fun e => (layered l 0x01 a e).isNone) then 0
  else if single && (List.range 0x0C).any (fun kind => (layered l kind a 1).isSome) && (pick ys 0x03 a 0).isNone then 2
  else if s.axisUnusable d a then 3
  else 1

/-- An axis's state put into LIB_AXST. -/
def putAxst (d a v : Nat) (s : State) : State :=
  let x := s.get d F.LIB_AXST
  s.put d F.LIB_AXST (x - x / 16 ^ a % 16 * 16 ^ a + v * 16 ^ a)

/-- The OFFSET registers as an apply leaves them, noted for the limit of a zero-current capture (R167). -/
def noteOffsets (d : Nat) (s : State) : State :=
  s.modAdc d (fun x => { x with zBase := s.regs.filter (fun e =>
    let off := e.1 % 0x1000000
    e.1 / 0x1000000 == d && ((decide (0x100000 ≤ off) && decide (off < 0x110000) && off % 0x4000 / 0x100 == 3) ||
      (decide (0x111000 ≤ off) && decide (off < 0x111600) && decide (0x30 ≤ off % 0x100) && decide (off % 0x100 < 0x50)))) })

/-- The static handovers the loader issues at the end of a full apply, in ascending order over both C dies, R143: none in
single control (R102). -/
def staticHandovers (s : State) : State :=
  if s.dual then
    let want := fun k => if s.bitOf (s.owner k) F.HDR_OWNCFG_C1 k then 1 else 0
    let ks := (List.range 6).filter (fun k => s.hasD k && !s.orphan k && want k != s.owner k)
    hoLoaderGo 16 (s.modHdr s.lead (fun h => { h with hoQueue := ks }))
  else s

/-- What LIB shows of the image that an apply of a slot took (R119, R132): the schema, the window, K4, and the layer. The user
default is the image applied where no slot is. -/
def noteApplied (d slot source : Nat) (s : State) : State :=
  let img := if slot == 0 then (s.n d).userdef else slot
  let a := slotAddr img
  let some_ := img != 0
  let s := s.put d F.LIB_STAT_SINGLE_PLACE (b2n (!s.dual && (layered (s.layersOf d slot) 0x0F 0xFF 0).isSome))
  let s := s.put d F.LIB_STAT_SOURCE source
  let s := s.put d F.LIB_STAT_K4 (b2n (some_ && bit (imgFlags s d a) 0))
  let s := s.put d F.LIB_SCHEMA_LIB (if some_ then imgSchema s d a else 0)
  s.put d F.LIB_WATCH_WIN (if some_ then imgWin s d a else 0)

/-! ### Acceptance window -/

/-- The acceptance window closes. -/
def watchClose (d : Nat) (s : State) : State :=
  let s := (s.off d F.LIB_STAT_WATCH).off d F.LIB_WATCH_REMAIN
  s.modLib d (fun l => { l with watchArmed := false, watchOfRollback := false, watchAx := 6 })

/-- The window opens, with ACCEPT_WIN seconds left; 0 turns the watch off. -/
def watchOpen (d : Nat) (s : State) : State :=
  if s.flag d F.LIB_WATCH_WIN then
    let s := (s.on d F.LIB_STAT_WATCH).put d F.LIB_WATCH_REMAIN (s.get d F.LIB_WATCH_WIN)
    s.modLib d (fun l => { l with watchArmed := false, watchFrom := s.now d })
  else s.modLib d (fun l => { l with watchArmed := false })

/-- A reset of any scope ends an open window without a verdict; it opens again at the next RUN entry (R123). -/
def watchCut (s : State) : State :=
  overN 2 (fun d s =>
    if s.flag d F.LIB_STAT_WATCH then
      ((s.off d F.LIB_STAT_WATCH).off d F.LIB_WATCH_REMAIN).modLib d (fun l => { l with watchArmed := true })
    else s) s

/-- A rejection on C die d, R124: ACTIVE and PREVIOUS are exchanged by one directory write (retried at each frame when
it is refused), the rollback is recorded, and the former PREVIOUS waits to be applied. A window opened by the rollback
itself does not roll back again. With no PREVIOUS the exchange leaves ACTIVE empty (DESIGN CHOICE, log entry 21). -/
def rejectOn (d : Nat) (s : State) : State :=
  if s.flag d F.LIB_STAT_WATCH then
    let l := (s.c d).lib
    if l.watchOfRollback then watchClose d s
    else
      let bad := s.get d F.LIB_ACTVER
      let back := s.get d F.LIB_PREVVER
      let ax := if l.watchAx < 6 then l.watchAx else 0xFF
      let s := watchClose d s
      let s := if ax == 0xFF then s.put d F.LIB_STAT_CODE Lc.rolledBack else s.put d F.LIB_RELST_CODE Lc.rolledBack
      let s := dirTry d 2 s
      let s := s.modLib d (fun x => { x with revertDue := true, watchAx := ax % 256 })
      recordEvent d ⟨0x0042, Blk.lib, d, ax, 2, bad, back, ax, s.now32 d⟩ s
  else s

/-- A rejection: both C dies keep the same store (R115). -/
def rejectWindow (s : State) : State := overN 2 (fun d s => if s.runs d then rejectOn d s else s) s

end Sys2Proof.Machine
end

