-- ==== Sys2Proof/Machine/Curtain.lean ====
section
/-! DEFINITION. The curtain controller (R354 to R363): causes, the curtain rule, writing the state to the D dies,
entering and leaving, and the package curtain. -/

namespace Sys2Proof.Machine

/-- The causes of Table 13-1, by bit. -/
abbrev Cause.fault := 0
abbrev Cause.ov := 1
abbrev Cause.tmon := 2
abbrev Cause.sc := 3
abbrev Cause.lockout := 4
abbrev Cause.sto := 5
abbrev Cause.trip := 6
abbrev Cause.swreq := 7
abbrev Cause.pkg := 8
abbrev Cause.takeover := 9

/-- SAFE_AXa_STAT.STATE, Table 13-9. -/
abbrev Cs.none := 0
abbrev Cs.open_ := 1
abbrev Cs.shortLs := 2
abbrev Cs.shortHs := 3
abbrev Cs.pending := 4

/-- FIELD phases, Table 10-8. -/
abbrev Ph.idle := 0
abbrev Ph.catch_ := 1
abbrev Ph.align := 2
abbrev Ph.engage := 3
abbrev Ph.run := 4
abbrev Ph.reversing := 5
abbrev Ph.stopping := 6
abbrev Ph.curtain := 7

/-- The phase of an axis. -/
def State.phase (s : State) (d a : Nat) : Nat := s.get d (F.FIELD_AX_STAT_PHASE a)

/-- The type of an axis, Table 10-1. -/
def State.axType (s : State) (d a : Nat) : Nat := s.get d (F.FIELD_AX_CFG_TYPE a)

/-- The curtain controller of C die d acts on the axis: a D die serving it has d as its owner. -/
def State.home (s : State) (d a : Nat) : Bool := (s.dOf a).any (fun k => s.owner k == d)

/-- FIELD's hidden record of an axis, and a change of it. -/
def State.axr (s : State) (d a : Nat) : AxisC := (s.c d).axis.at a
def State.modAxr (s : State) (d a : Nat) (f : AxisC → AxisC) : State :=
  s.modC d (fun c => { c with axis := c.axis.mod a f })

/-- The value of FIELD destination k of an axis, Table 10-2: 0 where nothing was stored, 0x7FFF for the two limits. -/
def State.fieldDst (s : State) (d a k : Nat) : Int :=
  match (s.c d).loop.dstV.at (0x130 + 8 * a + k) with
  | 0 => if k == 2 || k == 3 then 32767 else 0
  | v + 1 => sx16 v

/-- The speed of the interface of an axis in Q15 of the axis's own full scale. -/
def State.fbAxisSpeed (s : State) (d a : Nat) : Int :=
  let n := s.get d (F.FIELD_AX_CFG_FB a)
  satQ15 (rndDiv (s.geti d (F.FB_FB_SPD_SPEED n) * Int.ofNat (s.get d (F.FB_FB_SCALE_SPDFS n)))
    (Int.ofNat (max 1 (s.get d (F.FIELD_AX_SCALE_SPDFS a)))))

/-- FIELD source 1 of an axis, Table 10-2: the measured speed of the selected source; the grid frequency for LINE3, as the
electrical frequency it is, in rpm of one pole pair; 0 for the other types. -/
def State.speed (s : State) (d a : Nat) : Int :=
  let ty := s.axType d a
  if ty == 3 then
    satQ15 (rndDiv (Int.ofNat (s.get d (F.FIELD_AX_GRIDST_FREQ a) * 60 * 32768))
      (Int.ofNat (100 * max 1 (s.get d (F.FIELD_AX_SCALE_SPDFS a)))))
  else if ty == 1 || ty == 2 then
    if (s.axr d a).onCatch then s.geti d (F.FIELD_AX_CATCHST_SPEED a)
    else match s.get d (F.FIELD_AX_ANG_SRC a) with
      | 0 => if (s.axr d a).riding then s.fieldDst d a 6 else s.fbAxisSpeed d a
      | 1 => s.fieldDst d a 6
      | 2 => s.fieldDst d a 6
      | _ => 0
  else 0

/-- The curtain record of an axis. -/
def State.axCurt (s : State) (d a : Nat) : AxCurt := (s.c d).safe.ax.at a

/-- A change of it. -/
def State.modAx (s : State) (d a : Nat) (f : AxCurt → AxCurt) : State :=
  s.modSafe d (fun x => { x with ax := x.ax.mod a f })

/-- |z| in Q15, 0x7FFF at full scale (R9). -/
def absQ15 (z : Int) : Nat := min 32767 (absI z).toNat

/-- 100 ms in fabric counts. -/
def counts100ms : Nat := 40000000

/-- The FIELD speed while it is valid, R355: the interface is VALID for SRC = FB; for observer sources, after an entry
only the speed held at the entry, for 100 ms. -/
def State.fieldSpeed (s : State) (d a : Nat) : Option Nat :=
  let src := s.get d (F.FIELD_AX_ANG_SRC a)
  if src == 0 then
    if s.flag d (F.FB_FB_STAT_VALID (s.get d (F.FIELD_AX_CFG_FB a))) then some (absQ15 (s.speed d a)) else none
  else if src == 1 || src == 2 then
    if s.inCurtain d a then
      let x := s.axCurt d a
      if x.spdHeldOk && decide (s.now d ≤ x.entered + counts100ms) then some x.spdHeld else none
    else some (absQ15 (s.speed d a))
  else none

/-- The torque monitor's speed while it is valid. -/
def State.tmonSpeed (s : State) (d a : Nat) : Option Nat :=
  if s.flag d (F.TMON_AX_STAT_VALID a) then some (absQ15 (s.geti d (F.TMON_AX_SPD_SPEED a))) else none

/-- The speed the rule uses, as SPDSRC selects, R355. -/
def State.ruleSpeed (s : State) (d a : Nat) : Option Nat :=
  match s.get d (F.SAFE_AX_RULE_SPDSRC a) with
  | 0 => s.tmonSpeed d a
  | 1 => s.fieldSpeed d a
  | _ => match s.tmonSpeed d a with
    | some v => some v
    | none => s.fieldSpeed d a

/-- The speed term of R355, with its hysteresis while the axis is in SHORT. -/
def State.speedTerm (s : State) (d a spd : Nat) : Bool :=
  let st := s.get d (F.SAFE_AX_STAT_STATE a)
  let asc := s.geti d (F.SAFE_AX_ASC_ASCSPD a)
  let v := Int.ofNat spd
  decide (asc ≤ v) ||
    ((st == Cs.shortLs || st == Cs.shortHs) && decide (asc ≤ v + s.geti d (F.SAFE_AX_ASC_ASCHYS a)))

/-- The voltage term of R355: √3 × KE × s / 32,768 ≥ VDC − VMARG, compared exactly by squares. -/
def State.voltTerm (s : State) (d a spd : Nat) : Bool :=
  let b := s.get d (F.FIELD_AX_CFG_BUS a)
  s.flag d (F.SAFE_AX_RULE_VTERM a) && s.flag d (F.DISCH_BUS_STAT_VDCOK b) &&
    (let rhs := s.geti d (F.DISCH_BUS_STAT_VDC b) - s.geti d (F.SAFE_AX_VMARG a)
     let x := s.geti d (F.FIELD_AX_MOT_KE a) * Int.ofNat spd
     let beyond := decide (3 * x * x ≤ (32768 * rhs) * (32768 * rhs))
     let within := decide ((32768 * rhs) * (32768 * rhs) ≤ 3 * x * x)
     if rhs ≤ 0 then decide (0 ≤ x) || beyond else decide (0 ≤ x) && within)

/-- The curtain rule gives SHORT, R355; LINE3, DCDC and CHOP axes give OPEN always. -/
def State.ruleShort (s : State) (d a : Nat) : Bool :=
  if 3 ≤ s.axType d a then false
  else match s.get d (F.SAFE_AX_RULE_MODE a) with
    | 1 => false
    | 2 => true
    | _ => match s.ruleSpeed d a with
      | some v => s.speedTerm d a v || s.voltTerm d a v
      | none => s.flag d (F.SAFE_AX_RULE_FALLBACK a)

/-- The rule gives SHORT by its speed term or by FALLBACK (Table 13-2, ASC_SPEED). -/
def State.shortBySpeed (s : State) (d a : Nat) : Bool :=
  !decide (3 ≤ s.axType d a) && s.get d (F.SAFE_AX_RULE_MODE a) == 0 &&
    (match s.ruleSpeed d a with
     | some v => s.speedTerm d a v
     | none => s.flag d (F.SAFE_AX_RULE_FALLBACK a))

/-- The legs of an axis, as (D die, leg). -/
def State.legsOf (s : State) (a : Nat) : List (Nat × Nat) :=
  (s.dOf a).flatMap (fun k => ((List.range 3).filter (fun leg => s.legAx k leg == a)).map (fun leg => (k, leg)))

/-- A leg can take SHORT on a side (0 LS, 1 HS), R356. -/
def State.legCan (s : State) (k leg side : Nat) : Bool :=
  let i := dix k
  !s.flag i (F.DRV_D_CH_FSTAT_SCLATCH (2 * leg + 1 - side)) && !s.flag i (F.DRV_D_LEG_STAT_SHLATCH leg) &&
    !s.flag i (F.DRV_D_LEG_STAT_SHOOT leg) && !s.flag i (F.DRV_D_LEG_STAT_GSTUCK leg) && !s.sluiceHeld k leg

/-- Every leg of an axis can take a side. -/
def State.axisCan (s : State) (a side : Nat) : Bool := (s.legsOf a).all (fun x => s.legCan x.1 x.2 side)

/-- The state of a side. -/
def sideState (side : Nat) : Nat := if side == 0 then Cs.shortLs else Cs.shortHs

/-- The state the rule gives, resolved under R356: the state, and whether a substitution was made. While cause TRIP is
active the state is OPEN (Table 13-1). -/
def State.resolve (s : State) (d a : Nat) : Nat × Bool :=
  if s.bitOf d (F.SAFE_AX_CAUSE_ACTIVE a) Cause.trip && s.inCurtain d a then (Cs.open_, false)
  else if !s.ruleShort d a then (Cs.open_, false)
  else
    let side := s.get d (F.SAFE_AX_RULE_SIDE a)
    if s.axisCan a side then (sideState side, false)
    else if s.flag d (F.SAFE_AX_RULE_ALTSIDE a) && s.axisCan a (1 - side) then (sideState (1 - side), true)
    else (Cs.open_, true)

/-- STAT.RULE, SPDV and SPEED of an evaluation. -/
def noteRule (d a : Nat) (s : State) : State :=
  let v := s.ruleSpeed d a
  let s := s.put d (F.SAFE_AX_STAT_SPDV a) (b2n v.isSome)
  let s := match v with
    | some x => s.put d (F.SAFE_AX_STAT_SPEED a) x
    | none => s
  s.put d (F.SAFE_AX_STAT_RULE a)
    (if s.ruleShort d a then sideState (s.get d (F.SAFE_AX_RULE_SIDE a)) else Cs.open_)

/-- A command of C die d reaches a D die: the die is its own, out of reset, and the link is up. -/
def State.reaches (s : State) (d k : Nat) : Bool := s.owns d k && s.linkD d k && s.runsD k

/-- The orphan command of every leg of an axis, R357, R362. -/
def writeOrphan (d a cmd : Nat) (s : State) : State :=
  let s := s.put d (F.SAFE_AX_ORPH_CMD a) cmd
  (s.legsOf a).foldl (fun s x => if s.reaches d x.1 then orphanLeg x.1 x.2 cmd s else s) s

/-- The curtain command of every leg of an axis, R357: 0 FOLLOW, 1 OPEN, 2 SHORT_LS, 3 SHORT_HS. -/
def writeCurtain (d a cmd : Nat) (s : State) : State :=
  let s := (s.legsOf a).foldl (fun s x => if s.reaches d x.1 then curtainLeg x.1 x.2 cmd s else s) s
  overL (s.dOf a) (fun k s => if s.reaches d k then settle k s else s) s

/-- Some channel of the axis is in SOFT_OFF on a D die that serves it, R324. -/
def State.softAny (s : State) (a : Nat) : Bool := (s.dOf a).any (fun k => s.softOnAxis k a)

/-- The state of an axis written to its D dies and shown; a substitution sets DEGR, R356, R357. -/
def issueState (d a st : Nat) (degr : Bool) (s : State) : State :=
  let s := s.put d (F.SAFE_AX_STAT_STATE a) st
  let s := s.put d (F.SAFE_AX_STAT_DEGR a) (b2n degr)
  let s := onlyIf degr (fun s => s.on d F.SAFE_CEVT_DEGR) s
  writeOrphan d a st (writeCurtain d a st s)

/-- The record of a rule change, R358. -/
def ruleSwitched (d a old new : Nat) (s : State) : State :=
  recordEvent d ⟨0x0032, Blk.safe, d, a, 1, a, old, new, s.now32 d⟩ (s.on d F.SAFE_CEVT_RULESW)

/-- The rule of an axis in its curtain state is evaluated, and a change is written (R324, R358): a change from one SHORT
side to the other writes OPEN first and the new side 5 µs later. -/
def evalCurtain (d a : Nat) (s : State) : State :=
  if s.inCurtain d a then
    let s := noteRule d a s
    let old := s.get d (F.SAFE_AX_STAT_STATE a)
    if old == Cs.pending && s.softAny a then s
    else
      let r := s.resolve d a
      let short := fun x => x == Cs.shortLs || x == Cs.shortHs
      let waits := (s.axCurt d a).newSide
      if old == Cs.pending then issueState d a r.1 r.2 s
      else if old == r.1 then s.modAx d a (fun x => { x with newSide := none })
      else if short old && short r.1 then
        (issueState d a Cs.open_ false s).modAx d a (fun x => { x with newSide := some r.1, newSideAt := s.now d })
      else if waits.isSome && short r.1 then s.modAx d a (fun x => { x with newSide := some r.1 })
      else
        ruleSwitched d a old r.1
          ((issueState d a r.1 r.2 s).modAx d a (fun x => { x with newSide := none }))
  else s

/-- A cause is recorded, latched and active (Table 13-1). -/
def raiseCause (d a j : Nat) (s : State) : State :=
  (s.putBit d (F.SAFE_AX_CAUSE_LATCHED a) j true).putBit d (F.SAFE_AX_CAUSE_ACTIVE a) j true

/-- A cause is no longer active. -/
def dropCause (d a j : Nat) (s : State) : State := s.putBit d (F.SAFE_AX_CAUSE_ACTIVE a) j false

/-- A D die whose handover or held commit concerns the axis: the owner cancels the handover at once, R361. -/
def curtainHandover (a : Nat) (s : State) : State :=
  overL (s.dOf a) (fun k s => hoCancelFor k Ho.axisCurtain s) s

/-- The curtain state is entered with a first state to issue; `st` none leaves it to the rule. -/
def curtainBegin (d a j : Nat) (s : State) : State :=
  let held := s.fieldSpeed d a
  let s := raiseCause d a j s
  let s := axisOff d a s
  let s := s.put d (F.FIELD_AX_STAT_PHASE a) Ph.curtain
  let s := s.modAxr d a (fun x => { x with stopT := none, requested := false, effHeld := false, revNext := false, stillAt := 0, alignAt := 0 })
  let s := s.put d (F.SAFE_AX_STAT_STATE a) Cs.pending
  let s := s.modAx d a (fun x =>
    { x with spdHeld := held.getD 0, spdHeldOk := held.isSome, entered := s.now d, newSide := none })
  let s := s.put d (F.SAFE_AX_TENTRY a) (s.now32 d)
  let s := s.putBit d F.SAFE_CSTAT_AXCUR a true
  s.on d F.SAFE_CEVT_ENTRY

/-- What follows an entry: a staged reload and a handover are cancelled, the acceptance window is rejected when the cause
is a fault (not STO, a software request, the device state or a takeover; R123, R127, R361), the entry is recorded, and a
flush starts (R477). -/
def curtainAfter (d a j : Nat) (s : State) : State :=
  let s := reloadCancel a Lc.axisCurtain s
  let s := curtainHandover a s
  let s := if j == Cause.sto || j == Cause.swreq || j == Cause.pkg || j == Cause.takeover then s else rejectWindow s
  let s := recordEvent d ⟨0x0030, Blk.safe, d, a, 3, a, (s.reg d (F.SAFE_AX_CAUSE_LATCHED a).off).toNat,
    (s.reg d (F.SAFE_AX_STAT_STATE a).off).toNat, s.now32 d⟩ s
  standbyIfIdle (flushStart d s)

/-- An axis enters its curtain state on a cause, R354; a further cause is recorded, and TRIP brings OPEN at once. -/
def enterCurtain (d a j : Nat) (s : State) : State :=
  if s.runs d && s.home d a then
    if s.inCurtain d a then evalCurtain d a (raiseCause d a j s)
    else curtainAfter d a j (evalCurtain d a (curtainBegin d a j s))
  else s

/-- An axis enters its curtain state on the C die whose controller acts on it. -/
def enterAxis (a j : Nat) (s : State) : State := overN 2 (fun d s => enterCurtain d a j s) s

/-- The orphan command of every leg of the D dies that die d owns, Table 13-3. -/
def loadOrphans (d : Nat) (s : State) : State :=
  overN 6 (fun k s =>
    if s.reaches d k then
      settle k (overN 3 (fun leg s =>
        let a := s.legAx k leg
        if a == 7 then orphanLeg k leg Cs.open_ s
        else if s.inCurtain d a then
          let st := s.get d (F.SAFE_AX_STAT_STATE a)
          let cmd := if st == Cs.pending then (s.resolve d a).1 else st
          orphanLeg k leg cmd (s.put d (F.SAFE_AX_ORPH_CMD a) cmd)
        else
          let p := s.phase d a
          let cmd := if 2 ≤ p ∧ p ≤ 6 then (s.resolve d a).1 else Cs.open_
          orphanLeg k leg cmd (s.put d (F.SAFE_AX_ORPH_CMD a) cmd)) s)
    else s) s

/-- The curtain state of an axis is cleared, R359: FOLLOW, no cause, phase IDLE; the axis stays disabled. -/
def clearCurtain (d a : Nat) (s : State) : State :=
  let s := s.off d (F.SAFE_AX_CAUSE_LATCHED a)
  let s := s.off d (F.SAFE_AX_CAUSE_ACTIVE a)
  let s := s.put d (F.SAFE_AX_STAT_STATE a) Cs.none
  let s := s.off d (F.SAFE_AX_STAT_DEGR a)
  let s := s.putBit d F.SAFE_CSTAT_AXCUR a false
  let s := s.put d (F.FIELD_AX_STAT_PHASE a) Ph.idle
  let s := s.modAx d a (fun x => { x with newSide := none })
  let s := writeOrphan d a Cs.open_ (writeCurtain d a 0 s)
  recordEvent d ⟨0x0031, Blk.safe, d, a, 1, a, 0, 0, s.now32 d⟩ s

/-- Every axis of a C die enters its curtain state with cause PKG, R360. -/
def curtainAll (d : Nat) (s : State) : State := overN 6 (fun a s => enterCurtain d a Cause.pkg s) s

/-- A package-wide fault seen by C die d, R360: its axes enter at once, the other C die is told, and a device in
STANDBY or RUN enters CURTAIN (Table 1-8), with a flush on both dies and a rejection of an open window. -/
def packageCurtain (d : Nat) (s : State) : State :=
  let was := s.devActive
  let s := if was then rejectWindow (setDevice Dev.curtain s) else s
  let s := curtainAll d s
  let s := if s.runs (1 - d) then s.modSafe (1 - d) (fun x => { x with peerDue := true }) else s
  if was then overN 2 (fun e s => if s.runs e then flushStart e s else s) s else s

end Sys2Proof.Machine
end

