-- ==== Sys2Proof/Machine/Faults.lean ====
section
/-! DEFINITION. Fault collection (R401 to R407): latching a fault, its class reaction, the deferral, clearing. -/

namespace Sys2Proof.Machine

/-- The fault groups of Table 14-3. -/
abbrev Fg.ckptA := 0
abbrev Fg.ckptB := 1
abbrev Fg.dormant := 2
abbrev Fg.checker := 3
abbrev Fg.chkEcc := 4
abbrev Fg.redundancy := 5
abbrev Fg.benchVdc := 6
abbrev Fg.memEcc := 7
abbrev Fg.eccCor := 8
abbrev Fg.supply := 9
abbrev Fg.clock := 10
abbrev Fg.link := 11
abbrev Fg.adcGroup := 12
abbrev Fg.adcTag := 13
abbrev Fg.fb := 14
abbrev Fg.loopEcc := 15
abbrev Fg.loopOverrun := 16
abbrev Fg.loopWaittmo := 17
abbrev Fg.loopFerr := 18
abbrev Fg.weirStale := 19
abbrev Fg.grid := 20
abbrev Fg.pwmOvlp := 21
abbrev Fg.trip := 22
abbrev Fg.drv := 23
abbrev Fg.tmon := 24
abbrev Fg.bus := 25
abbrev Fg.bistSvc := 26
abbrev Fg.therm := 27
abbrev Fg.nvm := 28
abbrev Fg.can := 29
abbrev Fg.cueLate := 30
abbrev Fg.sw := 31

/-- Classes of Table 14-4. -/
abbrev Cl.log := 0
abbrev Cl.irq := 1
abbrev Cl.axis := 2
abbrev Cl.pkg := 3

/-- The class of a group. -/
def State.fcClass (s : State) (d g : Nat) : Nat := s.get d (F.SAFE_FC_CFG_CLASS g)

/-- The latches and the ACT bits of a group, 64 bits. -/
def State.fcLat (s : State) (d g : Nat) : Nat := s.get d (F.SAFE_FC_LATLO g) + 2 ^ 32 * s.get d (F.SAFE_FC_LATHI g)
def State.fcAct (s : State) (d g : Nat) : Nat := s.get d (F.SAFE_FC_ACTLO g) + 2 ^ 32 * s.get d (F.SAFE_FC_ACTHI g)

/-- A latch or an ACT bit set or cleared. -/
def putLat (d g i : Nat) (b : Bool) (s : State) : State :=
  if i < 32 then s.putBit d (F.SAFE_FC_LATLO g) i b else s.putBit d (F.SAFE_FC_LATHI g) (i - 32) b
def putAct (d g i : Nat) (b : Bool) (s : State) : State :=
  if i < 32 then s.putBit d (F.SAFE_FC_ACTLO g) i b else s.putBit d (F.SAFE_FC_ACTHI g) (i - 32) b

/-- The groups with a latch set. -/
def State.fcSet (s : State) (d : Nat) : List Nat := (List.range 32).filter (fun g => s.fcLat d g != 0)

/-- The latched instances of a group. -/
def State.fcInst (s : State) (d g : Nat) : List Nat := (List.range 64).filter (fun i => bit (s.fcLat d g) i)

/-- A fault group's hidden record, and a change of it. -/
def State.fc (s : State) (d g : Nat) : FcC := (s.c d).safe.fc.at g
def State.modFc (s : State) (d g : Nat) (f : FcC → FcC) : State :=
  s.modSafe d (fun x => { x with fc := x.fc.mod g f })

/-- A bit of a pair of registers of 32 groups each. -/
def putGroup (d : Nat) (lo hi : Fld) (g : Nat) (b : Bool) (s : State) : State :=
  if g < 32 then s.putBit d lo g b else s.putBit d hi (g - 32) b

/-- The axes named by the mask of a group. -/
def State.fcMask (s : State) (d g : Nat) : List Nat :=
  (List.range 6).filter (fun a => s.bitOf d (F.SAFE_FC_CFG_AXMASK g) a)

/-- The axis that placed a unit, or the mask for a package section. -/
def State.placed (s : State) (d g axp1 : Nat) : List Nat := if axp1 == 0 then s.fcMask d g else [axp1 - 1]

/-- An axis whose angle source is interface n and that does not ride through (R255). -/
def State.angleFrom (s : State) (d a n : Nat) : Bool :=
  s.get d (F.FIELD_AX_ANG_SRC a) == 0 && s.get d (F.FIELD_AX_CFG_FB a) == n && s.axType d a != 0 &&
    !(s.flag d (F.FIELD_AX_CFG_FBLOSS a) && s.get d (F.FIELD_AX_STAT_ANGSRC a) == 1)

/-- The axes of an AXIS reaction, Table 14-3. -/
def State.fcAxes (s : State) (d g i : Nat) : List Nat :=
  let all := List.range 6
  if g ≤ 4 || g == 6 || g == 10 then all
  else if g == 11 then if i == 0 then all else s.axOf (i - 1)
  else if g == 14 then all.filter (fun a => s.angleFrom d a i)
  else if 15 ≤ g && g ≤ 18 then s.placed d g ((s.c d).loop.engAx.at i)
  else if g == 19 then s.placed d g ((s.c d).loop.weirAx.at i)
  else if g == 20 || g == 24 then if i < 6 then [i] else []
  else if g == 21 then if s.pairAx d i < 6 then [s.pairAx d i] else []
  else if g == 22 then all.filter (fun a => (s.pairsOf d a).any (fun k => s.bitOf d (F.PWM_PP_TRIP_MASK k) i))
  else if g == 23 then s.axOf (i / 8)
  else if g == 25 then all.filter (fun a => s.axType d a != 0 && s.get d (F.FIELD_AX_CFG_BUS a) == i / 4)
  else s.fcMask d g

/-- A LINK instance of a D die that serves no axis takes no curtain reaction, R401. -/
def State.fcQuiet (s : State) (g i : Nat) : Bool := g == 11 && i != 0 && (s.axOf (i - 1)).isEmpty

/-- The class reaction of a latched instance as it is in force: AXIS with no axis is PKG, R401. -/
def State.fcForce (s : State) (d g i : Nat) : Nat :=
  let c := s.fcClass d g
  if c == Cl.axis then
    if s.fcQuiet g i then Cl.irq else if (s.fcAxes d g i).isEmpty then Cl.pkg else Cl.axis
  else if c == Cl.pkg && s.fcQuiet g i then Cl.irq
  else c

/-- An instance whose reaction has been taken and whose latch is still set. -/
def State.fcHolds (s : State) (d g i : Nat) : Bool := bit (s.fcLat d g) i && bit (s.fc d g).taken i

/-- SAFE_FC_STAT: the highest class in force, and FAULT_N (R407). -/
def refreshFault (d : Nat) (s : State) : State :=
  let top := (s.fcSet d).foldl (fun m g => (s.fcInst d g).foldl (fun m i =>
    if s.fcHolds d g i then max m (s.fcForce d g i) else m) m) 0
  let pull := (s.fcSet d).any (fun g =>
    s.flag d (F.SAFE_FC_CFG_FAULTN g) && Nat.land (s.fcLat d g) (s.fc d g).taken != 0)
  let s := s.put d F.SAFE_FC_STAT_TOP top
  s.put d F.SAFE_FC_STAT_FAULTN (b2n (pull || s.flag d F.SAFE_CSTAT_PKG || (s.c d).sys.romHold))

/-- The reaction of an instance is taken, Table 14-4. -/
def takeReaction (d g i : Nat) (s : State) : State :=
  let s := s.modFc d g (fun x => { x with taken := setBit x.taken i true })
  let c := s.fcForce d g i
  let s :=
    if c == Cl.pkg then packageCurtain d s
    else if c == Cl.axis then overL (s.fcAxes d g i) (fun a s => enterAxis a Cause.fault s) s
    else s
  refreshFault d s

/-- The record of a fault, Table 18-3. -/
def faultEvent (d g i cls t : Nat) : Event :=
  ⟨0x0020, Blk.safe, d, g, cls + 1, g, i, cls, t⟩

/-- A fault arrives at the collection of C die d (R401 to R403); `act`: the instance has an active condition. A dormant
divergence of pair B always reacts at once (R392). -/
def latchFault (d g i : Nat) (act : Bool) (s : State) : State :=
  if s.runs d then
    let cls := s.fcClass d g
    let first := s.fcLat d g == 0
    let s := putLat d g i true s
    let s := if act then putAct d g i true s else s
    let s := onlyIf first (fun s => s.put d (F.SAFE_FC_TFIRST g) (s.now32 d)) s
    let s := s.count d (F.SAFE_FC_CNT g) 1
    let s := if g == Fg.eccCor then s.count d F.PROMPT_LIVE_SD_MISC_ECCCOR 1 else s
    let s := recordEvent d (faultEvent d g i cls (s.now32 d)) s
    let s := if 1 ≤ cls then putGroup d F.SAFE_FC_PENDLO F.SAFE_FC_PENDHI g true s else s
    if 2 ≤ cls && s.flag d (F.SAFE_FC_CFG_DEFER g) && !(g == Fg.dormant && i == 1) then
      let running := if g < 32 then s.bitOf d F.SAFE_FC_DEFLO g else s.bitOf d F.SAFE_FC_DEFHI (g - 32)
      let s := putGroup d F.SAFE_FC_DEFLO F.SAFE_FC_DEFHI g true s
      let now := s.now d
      s.modFc d g (fun x =>
        { x with defLo := setBit (if running then x.defLo else 0) i true, noAct := (running && x.noAct) || !act,
                 defAt := if running then x.defAt else now })
    else takeReaction d g i s
  else s

/-- A deferral of a group is running. -/
def State.deferring (s : State) (d g : Nat) : Bool := s.bitOf d F.SAFE_FC_DEFLO g

/-- A deferral ends without its reaction. -/
def dropDeferral (d g : Nat) (s : State) : State :=
  (putGroup d F.SAFE_FC_DEFLO F.SAFE_FC_DEFHI g false s).modFc d g (fun x => { x with defLo := 0, noAct := false })

/-- The condition of an instance ends: its ACT bit clears, and a deferral whose instances all have active conditions is
dropped once none is active (R403). Groups 0 to 4 keep ACT until the next reset (R401). -/
def endActive (d g i : Nat) (s : State) : State :=
  if g ≤ 4 then s
  else
    let s := putAct d g i false s
    if s.deferring d g && s.fcAct d g == 0 && !(s.fc d g).noAct then dropDeferral d g s else s

/-- A fault of curtain class for the axis stands in fault collection of die d, or R349 or R353 holds it (Table 13-1). -/
def State.faultHolds (s : State) (d a : Nat) : Bool :=
  (s.axCurt d a).vdcLoss || (s.axCurt d a).chopFault ||
    (List.range 2).any (fun e => s.runs e && (s.fcSet e).any (fun g => (s.fcInst e g).any (fun i =>
      s.fcHolds e g i && s.fcForce e g i == Cl.axis && (s.fcAxes e g i).contains a)))

/-- Cause FAULT of every axis follows its faults. -/
def refreshCauses (s : State) : State :=
  overN 2 (fun d s => overN 6 (fun a s =>
    if s.bitOf d (F.SAFE_AX_CAUSE_ACTIVE a) Cause.fault && !s.faultHolds d a then dropCause d a Cause.fault s else s) s) s

/-- A package cause persists, R360, R402: a latch of class PKG whose reaction was taken, PFAIL, a clock loss, or a
device still in LOCKDOWN. -/
def State.pkgPersists (s : State) : Bool :=
  s.dev == Dev.lockdown || (List.range 2).any (fun d => s.runs d &&
    ((s.c d).safe.pkgCause != 0 || (s.fcSet d).any (fun g => (s.fcInst d g).any (fun i =>
      s.fcHolds d g i && s.fcForce d g i == Cl.pkg))))

/-- A latch is cleared unless its instance is active, R405. -/
def clearLatch (d g i : Nat) (s : State) : State :=
  if bit (s.fcLat d g) i then
    if bit (s.fcAct d g) i then s.on d F.SAFE_FC_ERR_CLRREF
    else (putLat d g i false s).modFc d g (fun x => { x with taken := setBit x.taken i false })
  else s

end Sys2Proof.Machine
end

