-- ==== Sys2Proof/Machine/TripOps.lean ====
section
/-! DEFINITION. Trip inputs (R296 to R299) and the resistor discharge (R366): operations that supply and pin events share
with their own commands. -/

namespace Sys2Proof.Machine

/-- A trip input's hidden record changed. -/
def State.modTrip (s : State) (d n : Nat) (f : TripC → TripC) : State :=
  s.modPwm d (fun p => { p with trips := p.trips.mod n f })

/-- The pairs that trip n of C die d acts on. -/
def State.trippedPairs (s : State) (d n : Nat) : List Nat :=
  (List.range 18).filter (fun k => s.bitOf d (F.PWM_PP_TRIP_MASK k) n)

/-- The blanking channel of trip n is high, R299: the channel's level before trips and enables. -/
def State.blanking (s : State) (d n : Nat) : Bool :=
  let c := s.get d (F.PWM_TRIP_CFG_BLKCH n)
  s.flag d (F.PWM_TRIP_CFG_BLKEN n) && (if c % 2 == 0 then (s.pair d (c / 2)).rawH else (s.pair d (c / 2)).rawL)

/-- A trip latches, R297: its cue fires, the masked pairs go off at once, the trip is reported, the axes of the pairs
enter their curtain states (Table 13-1), and a handover of their D dies is cancelled (R144). -/
def tripLatch (d n : Nat) (s : State) : State :=
  let ks := s.trippedPairs d n
  let axes := (List.range 6).filter (fun a => ks.any (fun k => s.pairAx d k == a))
  let s := s.putBit d F.PWM_TRIPST_LATCH n true
  let s := fireCue d (0xC8 + n) s
  let s := overL ks (fun k s =>
    ((pairStop d k s).on d (F.PWM_PP_STAT_TRIPPED k)).on d (F.PWM_PP_EVT_TRIPHIT k)) s
  let s := latchFault d Fg.trip n true s
  let s := overL axes (fun a s => overL (s.dOf a) (fun k s => hoCancelFor k Ho.trip s) s) s
  overL axes (fun a s => enterCurtain d a Cause.trip s) s

/-- An active level of a trip input is accepted, R296: it latches unless it is blanked. -/
def tripActive (d n : Nat) (s : State) : State :=
  let s := s.putBit d F.PWM_TRIPST_ACTIVE n true
  let s := s.modTrip d n (fun t => { t with active := true, blanked := s.blanking d n })
  if s.blanking d n then s else tripLatch d n s

/-- The inactive level of a trip input is accepted; its sluice line falls at every D die. -/
def tripInactive (d n : Nat) (s : State) : State :=
  let s := overN 6 (fun k s => if s.hasD k then s.putBit (dix k) F.DRV_D_SLST_LINES (4 * d + n) false else s) s
  let s := s.putBit d F.PWM_TRIPST_ACTIVE n false
  let s := s.modTrip d n (fun t => { t with active := false, blanked := false })
  endActive d Fg.trip n s

/-- A change of the discharge start times. -/
def State.modDisT (s : State) (d b t : Nat) : State := s.modSafe d (fun x => { x with disFrom := x.disFrom.set b t })

/-- A resistor discharge of bus b starts in the keep-alive domain of its D die, R366. -/
def resistorStart (d b : Nat) (s : State) : State :=
  let k := s.get d (F.DISCH_BUS_CFG_DDIE b)
  let s := s.put d (F.DISCH_BUS_STAT_STATE b) Ds.resistor
  let s := s.modDisT d b (s.now d)
  s.modK k (fun x => { x with running := true })

/-- A running discharge ends with a state; DST.TIME records its duration in ms. -/
def dischargeEnd (d b st : Nat) (s : State) : State :=
  let ms := (s.now d - (s.c d).safe.disFrom.at b) / 400000
  let s := s.put d (F.DISCH_BUS_STAT_STATE b) st
  let s := s.put d (F.DISCH_BUS_DST_TIME b) (min 65535 ms)
  s.modK (s.get d (F.DISCH_BUS_CFG_DDIE b)) (fun x => { x with running := false })

/-- The keep-alive domains and the bus registers that name them agree (R366, R367): AUTO arms, KEEPARM shows it, a resistor
discharge that runs is shown, and one that ran by itself sets EVT.KEEPDIS once its die is powered again. -/
def keepSync (s : State) : State :=
  let s := overN 2 (fun d s => if s.runs d then overN 3 (fun b s =>
    let k := s.get d (F.DISCH_BUS_CFG_DDIE b)
    if !s.hasD k then s.off d (F.DISCH_BUS_STAT_KEEPARM b)
    else
      let s := s.modK k (fun x => { x with armed := s.flag d (F.DISCH_BUS_CFG_AUTO b) && !x.vkeepLow })
      let s := s.put d (F.DISCH_BUS_STAT_KEEPARM b) (b2n (s.ka k).armed)
      let s := if (s.ka k).running && s.get d (F.DISCH_BUS_STAT_STATE b) != Ds.resistor then
          (s.put d (F.DISCH_BUS_STAT_STATE b) Ds.resistor).modDisT d b (s.now d) else s
      if (s.ka k).keepDis && s.runsD k then s.on d (F.DISCH_BUS_EVT_KEEPDIS b) else s) s else s) s
  overN 6 (fun k s =>
    if (s.ka k).keepDis && s.runsD k && (List.range 2).any (fun d => s.runs d && (List.range 3).any (fun b =>
        s.get d (F.DISCH_BUS_CFG_DDIE b) == k)) then s.modK k (fun x => { x with keepDis := false }) else s) s

end Sys2Proof.Machine
end

