-- ==== Sys2Proof/Machine/AdcOps.lean ====
section
/-! DEFINITION. The converter groups' records, and running and stopping a group (R151 to R155, Table 7-8). -/

namespace Sys2Proof.Machine

/-! ### Groups -/

/-- A group's hidden record, and a change of it. -/
def State.ag (s : State) (d g : Nat) : AgC := (s.c d).adc.groups.at g
def State.modAg (s : State) (d g : Nat) (f : AgC → AgC) : State :=
  s.modAdc d (fun x => { x with groups := x.groups.mod g f })

/-- A sequence's hidden record, and a change of it. -/
def State.seq (s : State) (d g q : Nat) : SeqC := (s.ag d g).seqs.at q
def State.modSeq (s : State) (d g q : Nat) (f : SeqC → SeqC) : State :=
  s.modAg d g (fun x => { x with seqs := x.seqs.mod q f })

/-- Sequence q of a group runs. -/
def State.seqBusy (s : State) (d g q : Nat) : Bool := s.bitOf d (F.ADC_AG_STAT_SEQBUSY g) q

/-- Sequence q is in BURST mode. -/
def State.isBurst (s : State) (d g q : Nat) : Bool := s.flag d (F.ADC_AG_SEQ_CFG_MODE g q)

/-- The sequence of a running burst of the group. -/
def State.burstSeq (s : State) (d g : Nat) : Option Nat :=
  firstBelow 4 (fun q => s.seqBusy d g q && s.isBurst d g q)

/-- A setting of sequence q as its present run takes it: the one in force, or the one that a reload's transfer met (R170). -/
def State.seqGet (s : State) (d g q : Nat) (f : Fld) : Nat := f.ofWord ((Tab.find f.off (s.seq d g q).kept).getD (s.reg d f.off))

/-- Before a reload's transfer, every running sequence keeps its settings for the run, R170. -/
def keepSeqs (d : Nat) (s : State) : State :=
  overN 4 (fun g s => overN 4 (fun q s =>
    if s.seqBusy d g q || !(s.seq d g q).flight.isEmpty then
      let offs := (F.ADC_AG_SEQ_CFG_LEN g q).off ::
        (List.range 16).flatMap (fun j => [(F.ADC_AG_ENT_AIN g (16 * q + j)).off, (F.ADC_AG_SCL_GAIN g (16 * q + j)).off])
      s.modSeq d g q (fun x => { x with kept := offs.foldl (fun m o => Tab.ins o (s.reg d o) m) [] })
    else s) s) s

/-- ADC_AGg_STAT.RUN: the group is enabled without a group fault, or a conversion is still in flight (Table 7-8). -/
def agRefresh (d g : Nat) (s : State) : State :=
  let fly := (List.range 4).any (fun q => !(s.seq d g q).flight.isEmpty)
  s.put d (F.ADC_AG_STAT_RUN g) (b2n ((s.flag d (F.ADC_AG_CTRL_EN g) && !s.flag d (F.ADC_AG_STAT_GFAULT g)) || fly))

/-- A write of ADC_AGg_CTRL: with EN = 0 nothing further is sampled, and the group stops once the conversions in flight
complete. -/
def agCtrlWrite (d g : Nat) (v : Word) (s : State) : State :=
  let en := (F.ADC_AG_CTRL_EN g).ofWord v
  let s := s.put d (F.ADC_AG_CTRL_EN g) en
  agRefresh d g (if en == 1 then s
    else overN 4 (fun q s => s.modSeq d g q (fun x => { x with todo := [] })) (s.put d (F.ADC_AG_STAT_SEQBUSY g) 0))

end Sys2Proof.Machine
end

