-- ==== Sys2Proof/Machine/FbOps.lean ====
section
/-! DEFINITION. Feedback interfaces and encoder emulators (chapter 8): their records, outputs, start and stop, latches, and
the writes of their control registers. -/

namespace Sys2Proof.Machine

/-- An interface's hidden record, and a change of it. -/
def State.fb (s : State) (d n : Nat) : FbC := (s.c d).fb.at n
def State.modFb (s : State) (d n : Nat) (f : FbC → FbC) : State := s.modC d (fun c => { c with fb := c.fb.mod n f })

/-- An emulator's hidden record, and a change of it. -/
def State.emu (s : State) (d m : Nat) : EmuC := (s.c d).emu.at m
def State.modEmu (s : State) (d m : Nat) (f : EmuC → EmuC) : State :=
  s.modC d (fun c => { c with emu := c.emu.mod m f })

/-- FB_FBn_CFG.MODE, Table 8-1. -/
abbrev Fbm.off := 0
abbrev Fbm.incr := 1
abbrev Fbm.hall := 2
abbrev Fbm.resolver := 3
abbrev Fbm.serial := 4

def State.fbMode (s : State) (d n : Nat) : Nat := s.get d (F.FB_FB_CFG_MODE n)
def State.fbRun (s : State) (d n : Nat) : Bool := s.flag d (F.FB_FB_STAT_RUN n)
def State.cpr (s : State) (d n : Nat) : Nat := s.get d (F.FB_FB_CPR n)

/-! ### Outputs -/

/-- π × 2^48, for the observer's gains. -/
def pi48 : Int := 884279719003555

/-- The observer's position extrapolated to the fabric cycle, in 2^-16 counts, R191: the speed over the time since the last
update (2.5 ns a count). -/
def State.fbPos (s : State) (d n : Nat) : Int :=
  let x := s.fb d n
  x.pos + rndDiv (x.omega * Int.ofNat (s.now d - x.at_)) (65536 * 400000000)

/-- The mechanical and the electrical angle of a position, R179. -/
def angleMech (cpr : Nat) (p : Int) : Nat := if cpr = 0 then 0 else ((p % Int.ofNat (cpr * 65536)).toNat / cpr) % 65536
def angleElec (cpr poles elofs : Nat) (p : Int) : Nat :=
  if cpr = 0 then 0 else ((p % Int.ofNat (cpr * 65536)).toNat * poles / cpr + elofs) % 65536

/-- The angles of an interface in this fabric cycle. -/
def State.fbElec (s : State) (d n : Nat) : Nat :=
  angleElec (s.cpr d n) (s.get d (F.FB_FB_CFG_POLEPAIRS n)) (s.get d (F.FB_FB_ELOFS n)) (s.fbPos d n)
def State.fbMech (s : State) (d n : Nat) : Nat := angleMech (s.cpr d n) (s.fbPos d n)

/-- Speed in Q15 of SPDFS rpm and acceleration in Q15 of ACCFS × 100 rpm/s, R191. -/
def State.fbSpeed (s : State) (d n : Nat) : Int :=
  let k := s.cpr d n * s.get d (F.FB_FB_SCALE_SPDFS n)
  if k = 0 then 0 else satQ15 (rndDiv ((s.fb d n).omega * 60 * 32768) (Int.ofNat k * 4294967296))
def State.fbAccel (s : State) (d n : Nat) : Int :=
  let k := s.cpr d n * s.get d (F.FB_FB_SCALE_ACCFS n) * 100
  if k = 0 then 0 else satQ15 (rndDiv ((s.fb d n).alpha * 60 * 32768) (Int.ofNat k * 4294967296))

/-- A soft limit of an interface, 48 bits signed. -/
def State.slimLo (s : State) (d n : Nat) : Int :=
  sxN 48 (s.get d (F.FB_FB_SLIMLOLO n) + 2 ^ 32 * s.get d (F.FB_FB_SLIMLOHI n))
def State.slimHi (s : State) (d n : Nat) : Int :=
  sxN 48 (s.get d (F.FB_FB_SLIMHILO n) + 2 ^ 32 * s.get d (F.FB_FB_SLIMHIHI n))

/-- The reported position, as integer part and fraction: saturated at 48 bits (R178) and at the soft limits (R196). -/
def State.fbReport (s : State) (d n : Nat) : Int × Nat :=
  let p := s.fbPos d n
  let i := floorDiv p 65536
  let x := s.fb d n
  if x.stuck == 1 then (2 ^ 47 - 1, 0)
  else if x.stuck == 2 then (-(2 ^ 47), 0)
  else if s.flag d (F.FB_FB_SLIMCFG_EN n) && decide (s.slimHi d n < i) then (s.slimHi d n, 0)
  else if s.flag d (F.FB_FB_SLIMCFG_EN n) && decide (i < s.slimLo d n) then (s.slimLo d n, 0)
  else if (2 ^ 47 - 1 : Int) < i then (2 ^ 47 - 1, 0)
  else if i < -(2 ^ 47 : Int) then (-(2 ^ 47), 0)
  else (i, (p % 65536).toNat)

/-- The position, angle and speed registers take the outputs of this fabric cycle. -/
def fbShow (d n : Nat) (s : State) : State :=
  let r := s.fbReport d n
  let w := uxN 48 r.1
  let s := (s.put d (F.FB_FB_POSLO n) (w % 2 ^ 32)).put d (F.FB_FB_POSHI n) (w / 2 ^ 32)
  let s := s.put d (F.FB_FB_FRAC n) r.2
  let s := (s.put d (F.FB_FB_ANGLE_ELEC n) (s.fbElec d n)).put d (F.FB_FB_ANGLE_MECH n) (s.fbMech d n)
  (s.puti d (F.FB_FB_SPD_SPEED n) (s.fbSpeed d n)).puti d (F.FB_FB_SPD_ACCEL n) (s.fbAccel d n)

/-- The value of fabric source 0x240 + 8n + k, Table 9-5, in this fabric cycle. -/
def State.fbSource (s : State) (d n k : Nat) : Nat :=
  match k with
  | 0 => s.fbElec d n
  | 1 => s.fbMech d n
  | 2 => ux16 (s.fbSpeed d n)
  | 3 => ux16 (s.fbAccel d n)
  | 4 => if s.flag d (F.FB_FB_STAT_VALID n) then 0x7FFF else 0
  | _ => 0

/-! ### Running an interface -/

/-- The frame length and the field widths of R187 are in range. -/
def State.serialOk (s : State) (d n : Nat) : Bool :=
  let stb := s.get d (F.FB_FB_SERFMT_STB n)
  let mtb := s.get d (F.FB_FB_SERFMT_MTB n)
  let eb := s.get d (F.FB_FB_SERFMT_EB n)
  let crcw := s.get d (F.FB_FB_SERFMT_CRCW n)
  decide (1 ≤ stb) && decide (stb ≤ 24) && decide (mtb ≤ 24) && decide (eb ≤ 2) && decide (crcw ≤ 8) &&
    decide (stb + mtb + eb + crcw ≤ 64)

/-- CPR agrees with Table 8-3. -/
def State.cprOk (s : State) (d n : Nat) : Bool :=
  let c := s.cpr d n
  let mode := s.fbMode d n
  if mode == Fbm.incr then decide (0 < c) && c % 4 == 0
  else if mode == Fbm.hall then c == 6 * s.get d (F.FB_FB_CFG_POLEPAIRS n)
  else if mode == Fbm.resolver then c % 65536 == 0 && decide (1 ≤ c / 65536) && decide (c / 65536 ≤ 8)
  else c == 2 ^ s.get d (F.FB_FB_SERFMT_STB n)

/-- BW is within 50 to 5,000 Hz. -/
def bwOk (bw : Nat) : Bool := decide (50 ≤ bw) && decide (bw ≤ 5000)

/-- A start of the interface passes the checks of R206. -/
def State.fbStartOk (s : State) (d n : Nat) : Bool :=
  let mode := s.fbMode d n
  decide (1 ≤ mode) && decide (mode ≤ 4) && s.get d (F.FB_FB_CFG_POLEPAIRS n) != 0 && s.cprOk d n &&
    bwOk (s.get d (F.FB_FB_OBS_BW n)) &&
    (mode != Fbm.resolver || (decide (50 ≤ s.get d (F.FB_FB_EXC_N n)) && decide (s.get d (F.FB_FB_EXC_N n) ≤ 500))) &&
    (mode != Fbm.serial || (decide (19 ≤ s.get d (F.FB_FB_SERCLK_CLKDIV n)) &&
      decide (s.get d (F.FB_FB_SERCLK_CLKDIV n) ≤ 399) && s.serialOk d n))

/-- The index of a Hall state in the forward order, or in the reverse with DIRINV, Table 8-4; none for an invalid one. -/
def hallIndex (inv : Bool) (st : Nat) : Option Nat :=
  let ix := match st with
    | 1 => some 0
    | 3 => some 1
    | 2 => some 2
    | 6 => some 3
    | 4 => some 4
    | 5 => some 5
    | _ => none
  ix.map (fun k => if inv then 5 - k else k)

/-- The interface starts, R178, R182, R194: the observer waits for the first measurement; in INCR REF reads 1 only
without index action. -/
def fbStart (d n : Nat) (s : State) : State :=
  let mode := s.fbMode d n
  let s := ((s.on d (F.FB_FB_CTRL_EN n)).on d (F.FB_FB_STAT_RUN n)).off d (F.FB_FB_STAT_VALID n)
  let s := (s.off d (F.FB_FB_STAT_COAST n)).put d (F.FB_FB_STAT_REF n)
    (b2n (mode == Fbm.incr && s.get d (F.FB_FB_CFG_ZMODE n) == 0))
  let s := (s.off d (F.FB_FB_STAT_SLIM_LO n)).off d (F.FB_FB_STAT_SLIM_HI n)
  let s := s.put d (F.FB_FB_ERRCNT_CONSEC n) 0
  let h := if mode == Fbm.hall then hallIndex (s.flag d (F.FB_FB_CFG_DIRINV n)) (s.get d (F.FB_FB_STAT_HALL n)) else none
  s.modFb d n (fun x =>
    { (default : FbC) with
      excN := x.excN, excAmp := x.excAmp, seen := x.seen, latchAt := x.latchAt,
      count := (h.map Int.ofNat).getD 0, hall := (h.map (· + 1)).getD 0, edgeAt := s.now d, edgeBefore := s.now d,
      at_ := s.now d })

/-- The interface stops: a frame in progress is discarded (R188). -/
def fbStop (d n : Nat) (s : State) : State :=
  let s := ((s.off d (F.FB_FB_CTRL_EN n)).off d (F.FB_FB_STAT_RUN n)).off d (F.FB_FB_STAT_VALID n)
  (s.off d (F.FB_FB_STAT_COAST n)).modFb d n (fun x => { x with frameAt := none, frame := none })

/-! ### Latch and serial requests -/

/-- A position latch of this fabric cycle, R199; `src`: 1 cue or software, 2 index. A further trigger of the same cycle makes
no second latch. -/
def posLatch (d n src : Nat) (s : State) : State :=
  if !s.fbRun d n then s
  else if (s.fb d n).latchAt == s.now d + 1 then s.put d (F.FB_FB_LSTAT_SRC n) (s.get d (F.FB_FB_LSTAT_SRC n) ||| src)
  else
    let r := s.fbReport d n
    let w := uxN 48 r.1
    let t := s.now d
    let s := s.modFb d n (fun x => { x with latchAt := t + 1 })
    let s := if s.flag d (F.FB_FB_LSTAT_NEW n) then s.on d (F.FB_FB_EVT_LOVR n) else s
    let s := (s.put d (F.FB_FB_LPOSLO n) (w % 2 ^ 32)).put d (F.FB_FB_LPOSHI n) (w / 2 ^ 32)
    let s := s.put d (F.FB_FB_LANGLE n) (s.fbElec d n + 2 ^ 16 * s.fbMech d n)
    let s := s.put d (F.FB_FB_LSPD n) (ux16 (s.fbSpeed d n) + 2 ^ 16 * ux16 (s.fbAccel d n))
    let s := (s.put d (F.FB_FB_LSTLO n) (t % 2 ^ 32)).put d (F.FB_FB_LSTHI n) (t / 2 ^ 32)
    let s := s.put d (F.FB_FB_LSTAT_SEQ n) ((s.get d (F.FB_FB_LSTAT_SEQ n) + 1) % 256)
    let s := s.put d (F.FB_FB_LSTAT_SRC n) src
    let s := s.put d (F.FB_FB_LSTAT_SLIM n) (b2n (s.flag d (F.FB_FB_STAT_SLIM_LO n) || s.flag d (F.FB_FB_STAT_SLIM_HI n)))
    let s := s.put d (F.FB_FB_LSTAT_VALID n) (s.get d (F.FB_FB_STAT_VALID n))
    s.on d (F.FB_FB_LSTAT_NEW n)

/-- The level of the data line FBn_B of a serial sensor (R188), as STAT.HALL shows it. -/
def State.dataLine (s : State) (d n : Nat) : Bool := bit (s.get d (F.FB_FB_STAT_HALL n)) 1

/-- A serial frame request, R188: dropped with SERBUSY during a frame, TIMEOUT while the data line is low. -/
def serialRequest (d n : Nat) (s : State) : State :=
  if !s.fbRun d n || s.fbMode d n != Fbm.serial then s
  else if (s.fb d n).frameAt.isSome then s.on d (F.FB_FB_EVT_SERBUSY n)
  else if !s.dataLine d n then (s.on d (F.FB_FB_EVT_TIMEOUT n)).modFb d n (fun x => { x with bad := true })
  else s.modFb d n (fun x => { x with frameAt := some (s.now d + 1) })

/-- The position-latch cue, or a write of CTRL.LATCH: a latch and, in SERIAL, a frame request. -/
def latchCue (d n : Nat) (s : State) : State := serialRequest d n (posLatch d n 1 s)

/-! ### Excitation -/

/-- The samples of an excitation period: N in force, or the register's before the first period (R184). -/
def State.excSamples (s : State) (d n : Nat) : Nat :=
  if (s.fb d n).excN == 0 then s.get d (F.FB_FB_EXC_N n) else (s.fb d n).excN

/-- The phase of the excitation in 1/65,536 period: each period of N µs starts where (stage time / 400) mod N is 0 (R184). -/
def State.excPhase (s : State) (d n : Nat) : Nat :=
  let p := 400 * s.excSamples d n
  if p == 0 then 0 else s.now d % p * 65536 / p

/-- The excitation driven between FBn_EXCP and FBn_EXCN: the phase of its sine and its peak in mV; none: off, both terminals at
the common mode of 0.9 V (R184, R79). -/
def State.excitation (s : State) (d n : Nat) : Option (Nat × Nat) :=
  if s.runs d && s.flag d (F.FB_FB_CTRL_EXCEN n) && (s.fb d n).excN != 0 then
    some (s.excPhase d n, 8 * (s.fb d n).excAmp)
  else none

/-- An excitation period starts, R184: a new N or AMP takes effect. -/
def excPeriod (d n : Nat) (s : State) : State :=
  if s.flag d (F.FB_FB_CTRL_EXCEN n) && s.excSamples d n != 0 && s.now d % (400 * s.excSamples d n) == 0 then
    s.modFb d n (fun x => { x with excN := s.get d (F.FB_FB_EXC_N n), excAmp := s.get d (F.FB_FB_EXC_AMP n) })
  else s

/-! ### Counting -/

/-- The measured count moves by k counts, k ≠ 0, at an accepted edge. -/
def countMove (d n : Nat) (k : Int) (s : State) : State :=
  s.modFb d n (fun x => { x with count := x.count + k, edgeBefore := x.edgeAt, edgeAt := s.now d, down := decide (k < 0) })

/-- The A·B state of a quadrature pair as a phase, with A leading B counted up: 00, 10, 11, 01. -/
def quadPhase (a b : Bool) : Nat := if a then (if b then 2 else 1) else (if b then 3 else 0)

/-- A and B change from the levels of `old` to those of `st`, R181, R180. -/
def quadMove (d n old st : Nat) (s : State) : State :=
  let step := (quadPhase (bit st 0) (bit st 1) + 4 - quadPhase (bit old 0) (bit old 1)) % 4
  let dir : Int := if s.flag d (F.FB_FB_CFG_DIRINV n) then -1 else 1
  if step == 1 then countMove d n dir s
  else if step == 3 then countMove d n (-dir) s
  else if step == 2 then (s.on d (F.FB_FB_EVT_QERR n)).off d (F.FB_FB_STAT_REF n)
  else s

/-- The count within the turn is set to ZPOS, the turn count kept; the observer's position moves with it. -/
def loadIndex (d n : Nat) (s : State) : State :=
  let cpr := Int.ofNat (s.cpr d n)
  let z := Int.ofNat (s.get d (F.FB_FB_INDEX_ZPOS n))
  let s := s.modFb d n (fun x =>
    let new := x.count - x.count % cpr + z
    let by_ := (new - x.count) * 65536
    { x with count := new, pos := x.pos + by_, hist := x.hist.map (fun h => (h.1 + by_, h.2)) })
  s.on d (F.FB_FB_STAT_REF n)

/-- The count within the turn lies beyond ZTOL of ZPOS, by the shorter way round. -/
def State.indexOff (s : State) (d n : Nat) : Bool :=
  let cpr := Int.ofNat (s.cpr d n)
  let diff := ((s.fb d n).count - Int.ofNat (s.get d (F.FB_FB_INDEX_ZPOS n))) % cpr
  let diff := if cpr < 2 * diff then cpr - diff else diff
  decide (Int.ofNat (s.get d (F.FB_FB_INDEX_ZTOL n)) < diff)

/-- An index is accepted, R182, R204: ZIDX, the cue, the action of ZMODE and, with ZLATCH, a latch. -/
def indexAccept (d n : Nat) (s : State) : State :=
  let s := fireCue d (0x91 + 4 * n) (s.on d (F.FB_FB_EVT_ZIDX n))
  let z := s.get d (F.FB_FB_CFG_ZMODE n)
  let ref := s.flag d (F.FB_FB_STAT_REF n)
  let s := if z == 2 || (z != 0 && !ref) then loadIndex d n s
    else if z == 3 && s.indexOff d n then s.on d (F.FB_FB_EVT_ZERR n)
    else s
  if s.flag d (F.FB_FB_CFG_ZLATCH n) then posLatch d n 2 s else s

/-- A new Hall state is accepted, R183. -/
def hallChange (d n st : Nat) (s : State) : State :=
  match hallIndex (s.flag d (F.FB_FB_CFG_DIRINV n)) st with
  | none => s.on d (F.FB_FB_EVT_HALLERR n)
  | some ix =>
    let old := (s.fb d n).hall
    let t := s.modFb d n (fun x => { x with hall := ix + 1 })
    if old == 0 then t.modFb d n (fun x => { x with count := Int.ofNat ix })
    else
      let k := (ix + 6 - (old - 1)) % 6
      if k == 0 then s
      else if k == 1 then countMove d n 1 t
      else if k == 5 then countMove d n (-1) t
      else if k == 2 then countMove d n 2 (t.on d (F.FB_FB_EVT_HALLERR n))
      else if k == 4 then countMove d n (-2) (t.on d (F.FB_FB_EVT_HALLERR n))
      else t.on d (F.FB_FB_EVT_HALLERR n)

/-- Levels Z·B·A are accepted at the inputs of interface n: STAT.HALL shows them, and the mode counts (R181 to R183). -/
def fbLevels (d n st : Nat) (s : State) : State :=
  let old := s.get d (F.FB_FB_STAT_HALL n)
  let s := s.put d (F.FB_FB_STAT_HALL n) st
  if !s.fbRun d n then s
  else if s.fbMode d n == Fbm.incr then
    let s := quadMove d n old st s
    if bit st 2 && !bit old 2 then indexAccept d n s else s
  else if s.fbMode d n == Fbm.hall && st != old then hallChange d n st s
  else s

/-- The digital inputs of bank B read 0 while VIO_B is low, R53, R177. -/
def fbInputsLow (d : Nat) (s : State) : State :=
  overN 4 (fun n s => if s.bitOf d F.SYS_BRST_FB n || !s.bitOf d F.SYS_CLKGATE_FB n then s else fbLevels d n 0 s) s

/-- A write of FB_FBn_CTRL. -/
def fbCtrlWrite (d n : Nat) (v : Word) (s : State) : State :=
  let s := s.put d (F.FB_FB_CTRL_EXCEN n) ((F.FB_FB_CTRL_EXCEN n).ofWord v)
  let s := onlyIf ((F.FB_FB_CTRL_EXCEN n).ofWord v == 0) (fun s => s.modFb d n (fun x => { x with excN := 0, excAmp := 0 })) s
  let s := if (F.FB_FB_CTRL_EN n).ofWord v == 1 then
      if s.fbRun d n then s
      else if s.fbStartOk d n then fbStart d n s
      else s.on d (F.FB_FB_EVT_CFGERR n)
    else if s.fbRun d n then fbStop d n s else s
  if (F.FB_FB_CTRL_LATCH n).ofWord v == 1 then latchCue d n s else s

/-- Soft limits (R196) and the 48-bit end (R178) in this fabric cycle. -/
def fbLimits (d n : Nat) (s : State) : State :=
  let i := floorDiv (s.fbPos d n) 65536
  let en := s.flag d (F.FB_FB_SLIMCFG_EN n)
  let hi := en && decide (s.slimHi d n < i)
  let lo := en && decide (i < s.slimLo d n)
  let fresh := (hi && !s.flag d (F.FB_FB_STAT_SLIM_HI n)) || (lo && !s.flag d (F.FB_FB_STAT_SLIM_LO n))
  let s := (s.put d (F.FB_FB_STAT_SLIM_HI n) (b2n hi)).put d (F.FB_FB_STAT_SLIM_LO n) (b2n lo)
  let s := if fresh then fireCue d (0x93 + 4 * n) (s.on d (F.FB_FB_EVT_SLIM n)) else s
  if (s.fb d n).stuck != 0 then s
  else if (2 ^ 47 - 1 : Int) < i then (s.on d (F.FB_FB_EVT_OVF n)).modFb d n (fun x => { x with stuck := 1 })
  else if i < -(2 ^ 47 : Int) then (s.on d (F.FB_FB_EVT_OVF n)).modFb d n (fun x => { x with stuck := 2 })
  else s

/-- A fabric cycle of a running interface: the limits of the extrapolated position (R178, R196), and a serial request every REQ
µs of stage time (R188). -/
def fbCycle (d n : Nat) (s : State) : State :=
  if !s.fbRun d n || !s.bitOf d F.SYS_CLKGATE_FB n then s
  else
    let s := fbLimits d n s
    let req := s.get d (F.FB_FB_SERTIM_REQ n)
    if req != 0 && s.now d % (400 * req) == 0 then serialRequest d n s else s

/-! ### Emulators -/

/-- The target count of an emulator, R201. -/
def State.emuTarget (s : State) (d m : Nat) : Int :=
  let n := s.get d (F.FB_EMU_CTRL_SRC m)
  floorDiv (s.fbPos d n * 4 * Int.ofNat (s.get d (F.FB_EMU_LINES m))) (Int.ofNat (max 1 (s.cpr d n)) * 65536)

/-- The terminals of an emulator follow its output count. -/
def emuPins (d m : Nat) (s : State) : State :=
  let c := (s.emu d m).count
  let q := (c % 4).toNat
  let a := q == 1 || q == 2
  let b := q == 2 || q == 3
  let inv := s.flag d (F.FB_EMU_CTRL_INV m)
  let z := s.flag d (F.FB_EMU_CTRL_ZEN m) && c % Int.ofNat (4 * max 1 (s.get d (F.FB_EMU_LINES m))) == 0
  s.modEmu d m (fun x => { x with a := if inv then b else a, b := if inv then a else b, z := z })

/-- A write of FB_EMUm_CTRL, R201, R206. -/
def emuCtrlWrite (d m : Nat) (v : Word) (s : State) : State :=
  let en := F.FB_EMU_CTRL_EN m
  let was := s.flag d en
  let s := plainWrite d en.off (en.into v (b2n was)) (!was) s
  let lines := s.get d (F.FB_EMU_LINES m)
  if en.ofWord v == 1 then
    if was then s
    else if lines == 0 || 16384 < lines || !s.fbRun d (s.get d (F.FB_EMU_CTRL_SRC m)) then s.on d (F.FB_EMU_EVT_CFGERR m)
    else
      let s := (s.on d en).on d (F.FB_EMU_STAT_RUN m)
      let t := s.emuTarget d m
      emuPins d m ((s.put d (F.FB_EMU_STAT_BACKLOG m) 0).modEmu d m (fun x => { x with count := t, off := 0 }))
  else (s.off d en).off d (F.FB_EMU_STAT_RUN m)

end Sys2Proof.Machine
end

