-- ==== Sys2Proof/Machine/Reset.lean ====
section
/-! DEFINITION. Resets (R74 to R79): what each scope clears and what survives, the life-cycle change that a package reset
brings (R506), and the boot ROM's first steps at a release (R85, R87). -/

namespace Sys2Proof.Machine

/-- Registers of a C die that keep their contents through a reset: the bank of R77, the clock status, and what MRAM or
fuses hold (PROMPT, NVM and SEC rows marked "retained"). -/
def keepOff (off : Nat) : Bool :=
  [0x0, 0x4, 0x10, 0x5000C, 0x50010, 0x50020, 0x60020, 0x60024, 0x60108, 0x6010C, 0x60110, 0x60118, 0x6011C, 0x60120,
    0x60124, 0x70000, 0x7000C, 0x70010, 0x70040].contains off ||
    (decide (0x60200 ≤ off) && decide (off < 0x602A0)) || (decide (0x70020 ≤ off) && decide (off < 0x70030)) ||
    (decide (0x70060 ≤ off) && decide (off < 0x70080))

/-- Every register of a die index but those kept goes to its reset value, R7. -/
def wipeRegs (i : Nat) (keep : Nat → Bool) (s : State) : State :=
  { s with regs := s.regs.filter (fun e => decide (e.1 / 0x1000000 ≠ i) || keep (e.1 % 0x1000000)) }

/-- A free stage time, for a die that has not been given one since its reset. -/
def State.freeStage (s : State) : StageTime :=
  Config.freeWord s.free ++ Config.freeWord (s.free + 1)

/-- The device state written to a C die's register, without a record. -/
def putDev (d st : Nat) (s : State) : State := s.put d F.SYS_DSTATE_STATE st

/-- The retained bank of R77 at a reset: the state before it, and its cause bits. -/
def retain (d cause dev : Nat) (por : Bool) (s : State) : State :=
  if por then
    let s := s.setReg d 0 (BitVec.ofNat 32 0)
    let s := s.setReg d 0x4 (BitVec.ofNat 32 1)
    (s.off d F.SYS_CLKST_REF_OK).off d F.SYS_CLKST_PLL_LOCK
  else
    let s := s.setReg d 0 (BitVec.ofNat 32 0)
    let s := s.put d F.SYS_DSTATE_PREV dev
    let s := s.setReg d 0x4 (s.reg d 0x4 ||| BitVec.ofNat 32 cause)
    if s.flag d F.SYS_CLKST_ON_BACKUP then (s.off d F.SYS_CLKST_REF_OK).off d F.SYS_CLKST_PLL_LOCK else s

/-- A session that is OPEN or COMPLETE becomes HELD at a reset, R496; RESUMED is no retained field (Table 19-12). -/
def holdSession (d : Nat) (s : State) : State :=
  let st := s.get d F.NVM_UPST_STATE
  (if st == 1 || st == 2 then s.put d F.NVM_UPST_STATE 4 else s).off d F.NVM_UPST_RESUMED

/-- A new nonce in SEC_DBGCHAL, R509 (random: a free value). -/
def newNonce (d : Nat) (s : State) : State :=
  overN 4 (fun i s => (s.put d (F.SEC_DBGCHAL i) s.freeWord).drawn) s

/-- A C die goes into reset (R74): its blocks stop and their registers and SRAM clear; MRAM, the retained bank, the
supplies as monitored and the acceptance window's pending opening (R123) stay. -/
def resetC (d cause : Nat) (por : Bool) (s : State) : State :=
  let dev := s.dev
  let s := watchCut (holdSession d s)
  let s := wipeRegs d keepOff s
  let s := retain d cause dev por s
  let s := s.off d F.SYS_CLKST_ON_BACKUP
  let s := s.put d F.SYS_CLKST_FWD_OK 0
  let s := onlyIf (por && d == 0) (fun s => s.put d F.PROMPT_PCYCLE ((s.get d F.PROMPT_PCYCLE + 1) % 2 ^ 24)) s
  let s := s.eraseMem d 0x20000000 0x205FFFFF
  let t := s.freeStage
  let s := { s with free := s.free + 2, ld := if s.ld == some d then none else s.ld }
  let s := s.put d F.SYS_SUPST_VIOB_OK (b2n (!(s.c d).sys.vioBLow))
  let s := newNonce d (s.put d F.SYS_SUPST_VIOC_OK (b2n (!(s.c d).sys.vioCLow)))
  s.modC d (fun c =>
    { (default : CtlDie) with
      therm := { (default : ThermC) with pend := if por then none else c.therm.pend },
      sys := { (default : SysC) with
        stage := t, opCounts := c.sys.opCounts, inReset := true, vcoreLow := c.sys.vcoreLow, vanaLow := c.sys.vanaLow,
        vioALow := c.sys.vioALow, vioBLow := c.sys.vioBLow, vioCLow := c.sys.vioCLow },
      lib := { (default : LibC) with
        watchArmed := c.lib.watchArmed, watchOfRollback := c.lib.watchOfRollback, watchAx := c.lib.watchAx } })

/-- The sensor faults of a D die clear at its reset, R423. -/
def clearSensors (k : Nat) (s : State) : State :=
  overN 2 (fun d s => if s.runs d then
    overN 6 (fun j s => s.off d (F.THERM_D_TS_FAULT k j))
      (s.modC d (fun c => { c with therm := { c.therm with off := c.therm.off.filter (fun e => e.1 / 8 != dix k) } }))
    else s) s

/-- A D die goes into reset: gates off, registers cleared; its lines, its STO inputs and its supplies as they are. `lone`: the
reset is outside a package reset, and leaves the die without an owner (R337). -/
def resetD (k : Nat) (lone : Bool) (s : State) : State :=
  let i := dix k
  let s := watchCut s
  let a := s.get i F.DRV_D_SLST_STO_A
  let b := s.get i F.DRV_D_SLST_STO_B
  let s := wipeRegs i (fun _ => false) s
  let s := (s.put i F.DRV_D_SLST_STO_A a).put i F.DRV_D_SLST_STO_B b
  let t := s.freeStage
  let s := { s with free := s.free + 2 }
  let s := s.modD k (fun x =>
    { (default : DieD) with
      stage := t, inReset := true, noOwner := lone, vdrvLow := x.vdrvLow, vkeepLow := x.vkeepLow,
      lastVdrv := x.lastVdrv, lastVneg := x.lastVneg, marked := lone && x.marked,
      chans := [0, 1, 2, 3, 4, 5].foldl (fun m c =>
        m.mod c (fun h => { h with line := (x.chans.at c).line })) [] })
  overN 2 (fun d s => if s.runs d then refreshInact d s else s) (clearSensors k (settle k s)).syncOwn

/-- A link of a C die is lost, R136: shown, recorded and reported to fault collection; a handover over it is cancelled. -/
def linkLostAt (d n : Nat) (s : State) : State :=
  let s := ((s.off d (F.HDR_L_STAT_UP n)).on d (F.HDR_L_STAT_LOST n)).put d (F.HDR_L_STAT_LANES n) 0
  let s := s.modLink d n (fun l => { (default : LinkC) with delivered := l.delivered })
  let s := recordEvent d ⟨0x0052, Blk.hdr, d, n, 3, n, s.wd d (F.HDR_L_RETRY n).off, s.wd d (F.HDR_L_CRCERR n).off,
    s.now32 d⟩ s
  let s := if n == 0 then hoCancel d Ho.linkFault s else hoCancelFor (n - 1) Ho.linkFault s
  let h := (s.c d).hdr.ho
  let s := if h.active && n == h.die + 1 then (if h.taking then takeCancel d Ho.linkFault s else hoEnd d s) else s
  latchFault d Fg.link n true s

/-- A D die resets outside a package reset, R337 step 1: every C die that has a link to it loses the link. -/
def loneReset (k : Nat) (s : State) : State :=
  overN 2 (fun d s => if s.runs d && s.linkD d k then linkLostAt d (k + 1) s else s) (resetD k true s)

/-- The package is in reset, OFF or in a roll call that has not completed: a D die that resets then comes back to C0 (R16,
R75), not by a restoring takeover. -/
def State.pkgDown (s : State) : Bool :=
  s.pkg.inReset || s.pkg.off || decide (s.dev ≤ Dev.rollCall)

/-- A D die resets by itself, Table 3-4. -/
def dReset (k : Nat) (s : State) : State := if s.pkgDown then resetD k false s else loneReset k s

/-- The D dies that C die d owns lose their owner and enter their orphan states, R76. -/
def orphanOwned (d : Nat) (s : State) : State :=
  overN 6 (fun k s => if s.owns d k then orphanEntry k s else s) s

/-- The partitions that a life-cycle change erases (Table 19-9): settings and libretto store, and at RETIRED the active
firmware and staging too; event records never. The reserved words of the settings partition (operating time, thermal
record; its first 4 KB here) stay. -/
def lcErase (d : Nat) (s : State) : State :=
  let s := (s.eraseMem d 0x10B00000 0x10B7FFFF).eraseMem d 0x10B81000 0x10BBFFFF
  let s := s.modN d (fun v => { v with active := 0, prev := 0, userdef := 0, slotLen := [], eraseDue := false })
  if s.lc d == 4 then s.eraseMem d 0x10000000 0x109FFFFF else s

/-- The pending life cycle takes effect at a package reset, R506: its erasures are made within the window of R432, and
wait for it otherwise (R98). -/
def lcApply (d : Nat) (s : State) : State :=
  let new := s.get d F.SEC_LC_PENDING
  if new == s.lc d then s
  else
    let s := s.put d F.SEC_LC_STATE new
    if new == 3 || new == 4 then
      if s.nvmWindow d then lcErase d s else s.modN d (fun v => { v with eraseDue := true })
    else s

/-- A package reset (R74, R75): reset notices go to the owned D dies, the life cycle is applied, and every C die goes into
reset; the device is in RESET until the release. -/
def packageReset (cause : Nat) (s : State) : State :=
  let s := overN 6 (fun k s =>
    if s.hasD k && !s.orphan k && s.runs (s.owner k) && s.linkD (s.owner k) k then
      s.modD k (fun x => { x with noticeDue := true }) else s) s
  let s := overN 2 (fun d s => if s.hasC d then lcApply d s else s) s
  let s := overN 2 (fun d s => if s.hasC d then putDev d Dev.reset (resetC d cause false s) else s) s
  { s with pkg := { s.pkg with inReset := true, anchorHold := false } }

/-- A reset of one C die that leaves the other running (R74, R76): on TV-21 it is a package reset (R75). -/
def dieReset (d cause : Nat) (por : Bool) (s : State) : State :=
  if s.part.ctl == 1 then
    let s := packageReset cause s
    if por then putDev d Dev.reset (resetC d cause true s) else s
  else if s.pkg.inReset then resetC d cause por s
  else
    let s := orphanOwned d s
    let s := resetC d cause por s
    standbyIfIdle s.syncOwn

/-- The supplies, the reference and the PLL of a C die allow its release, R65, R66, R514. -/
def State.mayRun (s : State) (d : Nat) : Bool :=
  s.flag d F.SYS_CLKST_REF_OK && s.flag d F.SYS_CLKST_PLL_LOCK && !(s.c d).sys.vcoreLow && !(s.c d).sys.vanaLow

/-- The package may leave reset: RESET_N high, every VCORE, VANA and VIO_A recovered (R65, R66), supplies present. -/
def State.pkgMayRun (s : State) : Bool :=
  !s.pkg.resetNLow && !s.pkg.off && (List.range s.part.ctl).all (fun d =>
    let y := (s.c d).sys
    !y.vcoreLow && !y.vanaLow && !y.vioALow)

/-- Entry into RECOVERY with a cause (R502): the gates stay off, and the entry is recorded. -/
def enterRecovery (d rcause : Nat) (s : State) : State :=
  let s := s.put d F.NVM_JRNL_RCAUSE rcause
  let s := s.put d F.HDR_RC_STATUS_PHASE 6
  let s := if d == s.lead then setDevice Dev.recovery s else s.put d F.SYS_DSTATE_STATE Dev.recovery
  recordRom d ⟨0x0106, Blk.nvm, d, 0, 4, rcause, s.wd d F.NVM_JRNL_RCAUSE.off, s.wd d F.SEC_LC_STATE.off, 0⟩ s

/-- The operating time resumes at roll call from the saved value plus 60,000 ms, R472. -/
def resumeOptime (d : Nat) (s : State) : State :=
  let t := s.rdLE d 0x10B80040 5 + 60000
  s.modSys d (fun y => { y with opCounts := t % 2 ^ 40 * 400000 })

/-- The record of a power-up, Table 18-3. -/
def powerUpRecord (d : Nat) (s : State) : State :=
  recordRom d ⟨0x0001, Blk.sys, d, 0, 0, s.wd d 4, s.wd d 0, s.get d F.PROMPT_PCYCLE, 0⟩ s

/-- The links of C die d to which the part has no die, HDR_Ln_STAT.ABSENT. -/
def markAbsent (d : Nat) (s : State) : State :=
  overN 7 (fun n s => s.put d (F.HDR_L_STAT_ABSENT n) (b2n (if n == 0 then !s.hasC (1 - d) else !s.hasD (n - 1)))) s

/-- Roll call starts (R89 step 1): the fabric clock goes to every D die, training to C1, whose window opens; on TV-21 step 3
follows. -/
def rollCallStart (s : State) : State :=
  let s := s.put 0 F.SYS_CLKST_FWD_OK (2 ^ s.part.drv - 1)
  let s := s.put 0 F.HDR_RC_DIEMAP_EXPECTED (bitsOf 8 (fun i => s.hasDie i))
  let s := s.putBit 0 F.HDR_RC_DIEMAP_PRESENT 0 true
  let s := s.put 0 (F.HDR_RC_STEP_STEP 0) 0xB0
  let s := onlyIf (s.n 0).eraseDue (fun s => s.put 0 F.HDR_RC_STATUS_HOLD 2) s
  let now := s.now 0
  let s := s.modHdr 0 (fun h => { h with winC1 := now })
  if s.part.ctl == 1 then (s.put 0 F.HDR_RC_STATUS_PHASE 2).on 0 F.HDR_RC_STATUS_SINGLE
  else s.put 0 F.HDR_RC_STATUS_PHASE 1

/-- The straps as both C dies hold them, R85. -/
def putStraps (d : Nat) (s : State) : State :=
  (s.put d F.HDR_RC_STRAP_ANCHOR (b2n s.pkg.anchor)).put d F.HDR_RC_STRAP_RCVY_N (b2n s.pkg.rcvyN)

/-- The boot ROM of C0 (R87): its own check, then anchor hold, recovery, or roll call. `anchor` and `rcvyN` are the
levels of the straps at the release (R85), `romOk` says that the ROM matches its CRC. A RETIRED part reaches no RECOVERY
(Table 1-9). -/
def bootRom (anchor rcvyN romOk : Bool) (s : State) : State :=
  let s := { s with pkg := { s.pkg with anchor := anchor, rcvyN := rcvyN } }
  if !romOk then
    (((s.modSys 0 (fun y => { y with romHold := true })).put 0 F.SYS_DSTATE_STATE Dev.reset).on 0 F.SAFE_FC_STAT_FAULTN)
  else
    let s := powerUpRecord 0 (resumeOptime 0 (markAbsent 0 (putStraps 0 s)))
    if !anchor then
      let s := (s.put 0 F.SYS_DSTATE_STATE Dev.reset).put 0 F.HDR_RC_STATUS_PHASE 6
      let s := s.put 0 F.HDR_RC_STATUS_HOLD 3
      { s with pkg := { s.pkg with anchorHold := true } }
    else if s.lc 0 == 0 then enterRecovery 0 2 s
    else if !rcvyN && s.lc 0 != 4 then enterRecovery 0 1 s
    else rollCallStart s

end Sys2Proof.Machine
end

