-- ==== Sys2Proof/Machine/Sys.lean ====
section
/-! DEFINITION. Bus accesses, the stage time and the machine timer, supplies, clocks, resets and power-fail (chapters 1
and 3). -/

namespace Sys2Proof.Machine

/-! ### Bus accesses -/

/-- The regions of Table 1-5, as (base, end). -/
def busRegions : List (Nat × Nat) :=
  [(0x00000000, 0x0003FFFF), (0x02000000, 0x0200FFFF), (0x0C000000, 0x0FFFFFFF), (0x10000000, 0x10BFFFFF),
   (0x20000000, 0x205FFFFF), (0x40000000, 0x400BFFFF), (0x40100000, 0x402BFFFF), (0x402C0000, 0x402DFFFF),
   (0x40300000, 0x4030FFFF), (0x60000000, 0x67FFFFFF)]

/-- An address lies in a region of Table 1-5. -/
def inRegion (addr : Nat) : Bool := busRegions.any (fun r => decide (r.1 ≤ addr) && decide (addr ≤ r.2))

/-- The die that a DRV window or a peer-die window belongs to; a DRV window beyond D5 belongs to no die of any part. -/
def windowDie (addr : Nat) : Option Nat :=
  if 0x40280000 ≤ addr ∧ addr < 0x402C0000 then some (dix ((addr - 0x40280000) / 0x4000))
  else if 0x60000000 ≤ addr ∧ addr < 0x68000000 then some ((addr - 0x60000000) / 0x1000000)
  else none

/-- An access raises a bus error for its address, R32: outside every region, or a window of a die the part lacks. -/
def State.unmapped (s : State) (addr : Nat) : Bool :=
  !inRegion addr || (match windowDie addr with
    | some i => decide (8 ≤ i) || !s.hasDie i
    | none => false)

/-- The register windows that take aligned 32-bit accesses only, R5: the machine timer, the PLIC, the peripherals and the
windows. -/
def regWindow (addr : Nat) : Bool :=
  (decide (0x02000000 ≤ addr) && decide (addr < 0x02010000)) || (decide (0x0C000000 ≤ addr) && decide (addr < 0x10000000)) ||
  (decide (0x40000000 ≤ addr) && decide (addr < 0x41000000)) || (decide (0x60000000 ≤ addr) && decide (addr < 0x68000000))

/-- R5. A register access of `size` bytes that is narrower than 32 bits or misaligned raises a bus error on the issuing
core and has no effect on the register. -/
def execNarrowOrMisalignedAccess (d : CDie) (m : Master) (addr : Word) (size : Nat) (write : Bool) (s : State) : Out :=
  onC d.val (fun s =>
    if regWindow addr.toNat && (decide (size ≠ 4) || decide (addr.toNat % 4 ≠ 0)) then
      busTrap d.val m addr.toNat write s
    else s) s

/-- R32. An access to an address outside every region of Table 1-5, or to a window of a die that the part does not
contain, raises a bus error on the issuing core. -/
def execUnmappedAccess (d : CDie) (m : Master) (addr : Word) (write : Bool) (s : State) : Out :=
  onC d.val (fun s => if s.unmapped addr.toNat then busTrap d.val m addr.toNat write s else s) s

/-! ### Stage time -/

/-- R28. A read of SYS_STLO returns stage-time bits 31:0 and latches bits 63:32 into SYS_STHI for the reading core. -/
def execStageTimeRead (d : CDie) (m : Master) (s : State) : Out :=
  onC d.val (fun s =>
    let t := (s.c d.val).sys.stage
    s.modSys d.val (fun y =>
      { y with rdata := t.extractLsb' 0 32, sthi := y.sthi.set m.coreIx (t.extractLsb' 32 32) })) s

/-- R29. A write of msip k: bit 0 is held and raises the machine software interrupt of core k, bits 31:1 read 0. -/
def execMsipWrite (d : CDie) (k : Fin 4) (v : Word) (s : State) : Out :=
  onCW d.val (0x2008000 + 4 * k.val) (fun s => s.modSys d.val (fun y => { y with msip := y.msip.set k.val (bit v.toNat 0) })) s

/-- R29. mtime, which is the stage time, has reached mtimecmp of core k: the timer interrupt is presented to the core's
pair (R382). Before that moment nothing happens. -/
def execMachineTimerInterrupt (d : CDie) (k : Fin 4) (s : State) : Out :=
  onC d.val (fun s => s.modSys d.val (fun y =>
    if (y.mtimecmp.at k.val).toNat ≤ y.stage.toNat then { y with mtip := y.mtip.set k.val true } else y)) s

/-! ### Supplies -/

/-- A C die moves to its backup oscillator, R72, R73: the fabric clock and its forwarding stop, the D dies it owns enter
their orphan states, the loss is recorded and reported as a package-wide fault. -/
def clockLossOn (d : Nat) (ref : Bool) (s : State) : State :=
  let s := if ref then (s.on d F.SYS_CLKEVT_REF_LOSS).off d F.SYS_CLKST_REF_OK else s.on d F.SYS_CLKEVT_PLL_UNLOCK
  let s := (s.off d F.SYS_CLKST_PLL_LOCK).on d F.SYS_CLKST_ON_BACKUP
  let s := s.put d F.SYS_CLKST_FWD_OK 0
  let s := orphanOwned d s
  let s := note d Blk.sys 0x0060 4 0 (s.wd d 0x14) (s.wd d 0x10) 0 s
  let s := s.modSafe d (fun x => { x with pkgCause := setBit x.pkgCause 1 true })
  packageCurtain d (latchFault d Fg.clock (if ref then 0 else 1) true s)

/-- The reference of a C die is lost (`ref`) or its PLL unlocks: a die out of reset reacts under R72; one in reset loses REF_OK
and the lock, and is not released without them (R514). -/
def clockLost (d : Nat) (ref : Bool) (s : State) : State :=
  if !s.hasC d then s
  else if !(s.c d).sys.inReset then clockLossOn d ref s
  else (if ref then s.off d F.SYS_CLKST_REF_OK else s).off d F.SYS_CLKST_PLL_LOCK

/-- Every supply of a C die counted as recovered. -/
def railsUp (d : Nat) (s : State) : State :=
  s.modSys d (fun y =>
    { y with vcoreLow := false, vanaLow := false, vioALow := false, vioBLow := false, vioCLow := false })

/-- R35. All supplies come within range: a device that is OFF passes to RESET, with a power-on reset of its dies. -/
def execSuppliesInRange (s : State) : Out :=
  .next (if s.pkg.off then
    let s := { s with pkg := { s.pkg with off := false, inReset := true } }
    overN 2 (fun d s => if s.hasC d then putDev d Dev.reset (railsUp d (resetC d 0 true s)) else s)
      (overN 6 (fun k s => if s.hasD k then
        (resetD k false s).modD k (fun x => { x with vdrvLow := false, vkeepLow := false })
        else s) s)
  else s)

/-- Whether no C-die rail named in R66 is up any more: the device is OFF (Table 1-7). -/
def noteOff (s : State) : State :=
  if (List.range s.part.ctl).all (fun d =>
      let y := (s.c d).sys
      y.vcoreLow && y.vanaLow && y.vioALow) then
    { s with pkg := { s.pkg with off := true } }
  else s

/-- The record of a supply event, Table 18-3. -/
def supplyRecord (d : Nat) (s : State) : State :=
  note d Blk.sys 0x0061 2 0 (s.wd d 0x24) (s.wd d 0x20) 0 s

/-- SYS_SUPST.VKEEP_OK: VKEEP recovered at every D die of the part. -/
def refreshVkeep (s : State) : State :=
  overN 2 (fun d s => if s.runs d then
    s.put d F.SYS_SUPST_VKEEP_OK (b2n ((List.range s.part.drv).all (fun k => !(s.dd k).vkeepLow))) else s) s


/-- VCORE or VANA low: a power-on reset of the C die; the D dies of a running package become orphans (R76), and a power-on
reset of C0 stops the reference of C1 (chapter 3). -/
def coreRailLow (d : Nat) (s : State) : State :=
  let s := dieReset d 0 true s
  noteOff (if d == 0 then clockLost 1 true s else s)

/-- VIO_A low: bank A reads its safe levels (RESET_N 0, STO torque off, PFAIL 0) and the package is held in reset. -/
def vioALow (s : State) : State :=
  let s := overN 6 (fun k s => if s.hasD k then
    settle k (seqRuns k 6 0x3F ((s.off (dix k) F.DRV_D_SLST_STO_A).off (dix k) F.DRV_D_SLST_STO_B)) else s) s
  noteOff (packageReset 6 s)

/-- VIO_B low: the inputs of bank B read 0 (R53), the dip is noted and fault collection informed. -/
def vioBLow (d : Nat) (s : State) : State :=
  let s := fbInputsLow d s
  let s := (s.off d F.SYS_SUPST_VIOB_OK).on d F.SYS_SUPEVT_VIOB_DIP
  latchFault d Fg.supply 0 true (supplyRecord d s)

/-- VIO_C low: the dip is noted and every TRIPn reads active and latches. -/
def vioCLow (d : Nat) (s : State) : State :=
  let s := (s.off d F.SYS_SUPST_VIOC_OK).on d F.SYS_SUPEVT_VIOC_DIP
  let s := latchFault d Fg.supply 1 true (supplyRecord d s)
  overN 4 (fun n s =>
    let s := s.putBit d F.PWM_TRIPST_ACTIVE n true
    tripLatch d n (s.modTrip d n (fun t => { t with active := true, blanked := false }))) s

/-- VKEEP low at D die k: the keep-alive domain resets (R70), and every C die reports it. -/
def vkeepLowAt (k : Nat) (s : State) : State :=
  let s := s.modK k (fun _ => { armed := false, vkeepLow := true, running := false, keepDis := false })
  let s := s.modD k (fun x => { x with vkeepLow := true })
  let s := refreshVkeep s
  overN 2 (fun d s =>
    if s.runs d then
      let s := s.on d F.SYS_SUPEVT_VKEEP_DIP
      let s := overN 3 (fun b s =>
        if s.get d (F.DISCH_BUS_CFG_DDIE b) == k then s.off d (F.DISCH_BUS_STAT_KEEPARM b) else s) s
      latchFault d Fg.supply 2 true (supplyRecord d s)
    else s) s

/-- R65. A monitored rail counts as low and takes the reaction of its row of Table 3-1. -/
def execSupplyLow (r : Rail) (s : State) : Out :=
  match r with
  | .vcore d => atC d.val (fun s =>
      coreRailLow d.val (s.modSys d.val (fun y => { y with vcoreLow := true }))) s
  | .vana d => atC d.val (fun s =>
      coreRailLow d.val (s.modSys d.val (fun y => { y with vanaLow := true }))) s
  | .vioA d => atC d.val (fun s => vioALow (s.modSys d.val (fun y => { y with vioALow := true }))) s
  | .vioB d => atC d.val (fun s =>
      let s := s.modSys d.val (fun y => { y with vioBLow := true })
      if s.runs d.val then vioBLow d.val s else s) s
  | .vioC d => atC d.val (fun s =>
      let s := s.modSys d.val (fun y => { y with vioCLow := true })
      if s.runs d.val then vioCLow d.val s else s) s
  | .vdrv k => atD k.val (fun s => dReset k.val (s.modD k.val (fun x => { x with vdrvLow := true }))) s
  | .vkeep k => atD k.val (vkeepLowAt k.val) s

/-- VIO_B recovered on C die d. -/
def vioBUp (d : Nat) (s : State) : State := endActive d Fg.supply 0 (s.on d F.SYS_SUPST_VIOB_OK)

/-- VIO_C recovered on C die d: the trip inputs read their own levels again. -/
def vioCUp (d : Nat) (s : State) : State :=
  let s := endActive d Fg.supply 1 (s.on d F.SYS_SUPST_VIOC_OK)
  overN 4 (fun n s => tripInactive d n s) s

/-- VKEEP recovered at D die k. -/
def vkeepUpAt (k : Nat) (s : State) : State :=
  let s := s.modK k (fun x => { x with vkeepLow := false })
  let s := refreshVkeep (s.modD k (fun x => { x with vkeepLow := false }))
  overN 2 (fun d s => if s.runs d && s.flag d F.SYS_SUPST_VKEEP_OK then endActive d Fg.supply 2 s else s) s

/-- R65. A monitored rail counts as recovered. A reset it caused ends by RESET_RELEASE. -/
def execSupplyRecovered (r : Rail) (s : State) : Out :=
  match r with
  | .vcore d => atC d.val (fun s => s.modSys d.val (fun y => { y with vcoreLow := false })) s
  | .vana d => atC d.val (fun s => s.modSys d.val (fun y => { y with vanaLow := false })) s
  | .vioA d => atC d.val (fun s => s.modSys d.val (fun y => { y with vioALow := false })) s
  | .vioB d => atC d.val (fun s =>
      let s := s.modSys d.val (fun y => { y with vioBLow := false })
      if s.runs d.val then vioBUp d.val s else s) s
  | .vioC d => atC d.val (fun s =>
      let s := s.modSys d.val (fun y => { y with vioCLow := false })
      if s.runs d.val then vioCUp d.val s else s) s
  | .vdrv k => atD k.val (fun s => s.modD k.val (fun x => { x with vdrvLow := false })) s
  | .vkeep k => atD k.val (vkeepUpAt k.val) s

/-! ### Clocks -/

/-- R72. The reference of C die d is lost (`ref`), or its PLL unlocks; a loss of C0's reference takes C1's with it (R73). A
die already on its backup oscillator only notes the event; one held in reset waits for its reference (R514). -/
def execClockLoss (d : CDie) (ref : Bool) (s : State) : Out :=
  atC d.val (fun s =>
    let s := clockLost d.val ref s
    if d.val == 0 && ref then clockLost 1 true s else s) s

/-- R71. The reference of C die d is present and within ±2 %: SYS_CLKST.REF_OK sets. A running die stays on its backup
oscillator (R73). -/
def execCrystalReferenceOk (d : CDie) (s : State) : Out := atC d.val (fun s => s.on d.val F.SYS_CLKST_REF_OK) s

/-- R71. The PLL of C die d locks on a valid reference. -/
def execPllLock (d : CDie) (s : State) : Out :=
  atC d.val (fun s =>
    if s.flag d.val F.SYS_CLKST_REF_OK && !s.flag d.val F.SYS_CLKST_ON_BACKUP then s.on d.val F.SYS_CLKST_PLL_LOCK
    else s) s

/-! ### Resets -/

/-- R74. RESET_N has been low for 1 µs (`low`): a package reset that lasts while it stays low; or it has gone high. -/
def execResetNAssert (low : Bool) (s : State) : Out :=
  .next (if low then packageReset 2 { s with pkg := { s.pkg with resetNLow := true } }
    else { s with pkg := { s.pkg with resetNLow := false } })

/-- R74, Table 3-7. A write of 1 to SYS_RSTCTRL.PKG on C die d: a package reset when a two-key sequence releases it. -/
def execSysRstctrlPkg (d : CDie) (m : Master) (s : State) : Out :=
  onC d.val (tkWriteThen d.val m (own 8) d.val 8 1#32 (packageReset 8)) s

/-- R74, Table 3-7. A write of 1 to SYS_RSTCTRL.DIE: a reset of this C die when a two-key sequence releases it. -/
def execSysRstctrlDie (d : CDie) (m : Master) (s : State) : Out :=
  onC d.val (tkWriteThen d.val m (own 8) d.val 8 2#32 (dieReset d.val 16 false)) s

/-- R74. The safety master of the other C die orders a reset of C die d over the headrace. -/
def execPeerOrderedReset (d : CDie) (s : State) : Out :=
  onC d.val (fun s => if s.runs (1 - d.val) && s.linkC (1 - d.val) then dieReset d.val 32 false s else s) s

/-- R74, R79, R88. A reset command from the owning C die to a D die: gates off, registers at reset; the keep-alive domain
goes on. The D die comes back at RESET_RELEASE. -/
def execDDieReset (k : DDie) (s : State) : Out :=
  onD k.val (fun s => if s.reaches (s.owner k.val) k.val then dReset k.val s else s) s

/-- The supplies that are low when a C die leaves reset act on it at once (R53, R65); VKEEP_OK and LOCKOUT are shown. -/
def suppliesAtRelease (d : Nat) (s : State) : State :=
  let s := onlyIf (s.c d).sys.vioBLow (vioBLow d) s
  let s := onlyIf (s.c d).sys.vioCLow (vioCLow d) s
  refreshLockout (refreshVkeep s)

/-- The link of a C die that rejoins is trained, and the running die names it a stage time (R104 steps 1 and 2). -/
def rejoinLink (d : Nat) (s : State) : State :=
  let o := 1 - d
  if s.runs o && s.fabric o && s.get o F.SYS_DSTATE_STATE != Dev.recovery then
    nameTime o 0 (endActive o Fg.link 0 (linkUp o 0 (linkUp d 0 s)))
  else s

/-- C1 leaves reset at its own PLL lock while C0 trains it (R89 step 2), or in a package that has entered RECOVERY before roll
call, where it serves the recovery service too (R502); or any C die rejoins a running one (R104). -/
def releaseC (d : Nat) (s : State) : State :=
  let o := 1 - d
  let roll := d == 1 && s.runs 0 && s.get 0 F.HDR_RC_STATUS_PHASE == 1
  let cause := s.get 0 F.NVM_JRNL_RCAUSE
  let recov := d == 1 && s.runs 0 && s.get 0 F.SYS_DSTATE_STATE == Dev.recovery && s.get 0 F.HDR_RC_STATUS_PHASE == 6 &&
    decide (cause ≤ 2)
  let s := noCheckpoints d (s.modSys d (fun y => { y with inReset := false }))
  let s := s.put d F.SYS_DSTATE_STATE (if s.runs o then s.get o F.SYS_DSTATE_STATE else Dev.rollCall)
  let s := s.put d F.HDR_RC_STATUS_ROLE (if roll || recov then 1 else 3)
  let s := s.put d F.HDR_RC_STATUS_PHASE 1
  let s := powerUpRecord d (suppliesAtRelease d (markAbsent d (putStraps d s.syncOwn)))
  if recov then enterRecovery d cause s
  else if roll then s
  else rejoinLink d s

/-- The release of C0 after a package reset (R16, R27, R85, R87, R514): stage time starts at 0, C0 owns every D die, and the
boot ROM runs. -/
def releaseAnchor (anchor rcvyN romOk : Bool) (s : State) : State :=
  let s := s.modSys 0 (fun y => { y with inReset := false, stage := 0 })
  let s := { s with pkg := { s.pkg with inReset := false } }
  let s := overN 6 (fun k s => if s.hasD k then
    (s.put (dix k) F.DRV_D_ID_OWNER 0).modD k (fun x => { x with noOwner := false }) else s) s
  bootRom anchor rcvyN romOk (suppliesAtRelease 0 (s.syncOwn.put 0 F.SYS_DSTATE_STATE Dev.rollCall))

/-- R514, R85, R87, R104. The reset of a die ends. C0 after a package reset samples the straps (`anchor`, `rcvyN`) and
runs its boot ROM (`romOk`: its own check passes); after State.reset, where C0 has just left reset, this is the ROM's part
alone. C1 of a package in roll call is released for its training; any other C die rejoins (a C1 that BIST marked stays in
reset, R417); a D die returns once its VDRV is up. A die whose clocks or supplies are not ready stays in reset. -/
def execResetRelease (i : DieIx) (anchor rcvyN romOk : Bool) (s : State) : Out :=
  if i.val < 2 then
    atC i.val (fun s =>
      if (s.c i.val).sys.inReset then
        if !s.mayRun i.val || s.pkg.resetNLow || s.pkg.off then s
        else if s.pkg.inReset then
          if i.val == 0 && s.pkgMayRun then releaseAnchor anchor rcvyN romOk s else s
        else if s.romHeld 0 || (i.val == 1 && s.flag 0 F.BIST_MARK0_C1) then s
        else releaseC i.val s
      else if i.val == 0 && s.dev == Dev.rollCall && s.get 0 F.HDR_RC_STATUS_PHASE == 0 && !(s.c 0).sys.romHold then
        bootRom anchor rcvyN romOk s
      else s) s
  else
    atD (i.val - 2) (fun s =>
      if (s.dd (i.val - 2)).vdrvLow then s else keepSync (s.modD (i.val - 2) (fun x => { x with inReset := false }))) s

/-! ### Power-fail -/

/-- PFAIL recognised on C die d, R81: recorded, flushed, MRAM writes refused, a PFDIS discharge, and REACT taken. -/
def pfailOn (d : Nat) (s : State) : State :=
  let s := (s.on d F.SYS_PFST_PFAIL).on d F.SYS_PFST_PF_SEEN
  let s := s.off d F.SYS_PFST_FLUSH_DONE
  let s := s.modSys d (fun y => { y with mramRefuse := true, pfFlush := true, pfRise := y.stage.toNat - 400 })
  let s := note d Blk.sys 0x0003 2 0 (s.wd d 0x28) (s.get d F.PROMPT_STAT_UNFL) 0 s
  let s := flushStart d (nvmCut d 3 (storeCut d s))
  let s := overN 3 (fun b s =>
    if s.flag d (F.DISCH_BUS_CFG_PFDIS b) && s.flag d (F.DISCH_BUS_CFG_EN b) &&
        s.get d (F.DISCH_BUS_CFG_DDIE b) != 7 && s.get d (F.DISCH_BUS_STAT_STATE b) != Ds.resistor then
      resistorStart d b s else s) s
  if s.flag d F.SYS_PFCFG_REACT then s
  else packageCurtain d (s.modSafe d (fun x => { x with pkgCause := setBit x.pkgCause 0 true }))

/-- R81. PFAIL has been high for 1 µs; both C dies recognise it. -/
def execPfailRecognised (s : State) : Out :=
  .next (overN 2 (fun d s => if s.runs d then pfailOn d s else s) s)

/-- R83. PFAIL falls: a running flush completes, and the MRAM refusal ends with it or now. -/
def execPfailFall (s : State) : Out :=
  .next (overN 2 (fun d s =>
    if s.runs d then
      let s := s.off d F.SYS_PFST_PFAIL
      let s := s.modSafe d (fun x => { x with pkgCause := setBit x.pkgCause 0 false })
      s.modSys d (fun y => { y with mramRefuse := y.pfFlush })
    else s) s)

end Sys2Proof.Machine
end

