-- ==== Sys2Proof/Machine/RollCall.lean ====
section
/-! DEFINITION. Roll call and readiness (chapter 4): the C1 answer, the D-link training and answers, the answer windows,
the microcode readback, the stage-time alignment, the version windows and the readiness items. -/

namespace Sys2Proof.Machine

/-- HDR_RC_STATUS.CODE, Table 4-5. -/
abbrev Rc.dieMissing := 1
abbrev Rc.dieMismatch := 2
abbrev Rc.ucodeFail := 3
abbrev Rc.timeAlignFail := 4
abbrev Rc.versionSplit := 5
abbrev Rc.peerImageFail := 6

/-- The roll-call phase that C0 shows, Table 4-7. -/
def State.rcPhase (s : State) : Nat := s.get 0 F.HDR_RC_STATUS_PHASE

/-- Roll call runs on C0. -/
def State.rolling (s : State) : Bool := s.runs 0 && s.dev == Dev.rollCall

/-- A change of the roll-call registers of every running C die: C1 fills its own along with C0's (R105). -/
def rcBoth (f : Nat → State → State) (s : State) : State := overN 2 (fun d s => if s.runs d then f d s else s) s

/-- The outcome code of roll call, the first one found. -/
def rcCode (code : Nat) (s : State) : State :=
  if s.get 0 F.HDR_RC_STATUS_CODE == 0 then rcBoth (fun d s => s.put d F.HDR_RC_STATUS_CODE code) s else s

/-- A roll-call phase, shown by every running C die. -/
def rcPhaseTo (p : Nat) (s : State) : State := rcBoth (fun d s => s.put d F.HDR_RC_STATUS_PHASE p) s

/-- Die index i failed R91. -/
def rcMismatch (i : Nat) (s : State) : State :=
  rcCode Rc.dieMismatch (rcBoth (fun d s => s.putBit d F.HDR_RC_DIEMAP_MISMATCH i true) s)

/-- The baseline microcode in the ROM of C die d is pushed to D die k: bank 0 word i is ROM word i, DRV_Dd_UC_CRC the
CRC-32 of its 2,048 bytes (R332). -/
def pushUcode (d k : Nat) (s : State) : State :=
  let i := dix k
  let s := overN 512 (fun j s => s.setReg i (0x2800 + 4 * j) (BitVec.ofNat 32 (s.rd32 d (0x3F800 + 4 * j)))) s
  let s := s.put i F.DRV_D_UC_CRC (crc32 (s.rdBytes d 0x3F800 2048))
  (s.off i F.DRV_D_UC_STAT_BANK).on i F.DRV_D_STAT_UCODE

/-- Bank 0 of a D die that holds the baseline locks, R332. -/
def lockUcode (k : Nat) (s : State) : State :=
  if s.flag (dix k) F.DRV_D_STAT_UCODE then s.on (dix k) F.DRV_D_UC_STAT_LOCK else s

/-- The trained D dies hold their baseline microcode. -/
def baselineUcode (k : Nat) (s : State) : State := settle k (pushUcode 0 k s)

/-- R96. A held CONFIG: the device enters CONFIG, one record carries the code and the die map, and it is flushed; the
trained D dies stay in their baseline microcode with every gate off. -/
def rcHeld (s : State) : State :=
  let s := setDevice Dev.config s
  let s := overN 6 (fun k s =>
    if s.bitOf 0 F.HDR_RC_DIEMAP_PRESENT (dix k) && !s.flag (dix k) F.DRV_D_STAT_UCODE then baselineUcode k s else s) s
  let s := overN 6 lockUcode s
  let s := recordRom 0 ⟨0x0010, Blk.rom, 0, 0, 4, s.wd 0 F.HDR_RC_STATUS_PHASE.off,
    s.wd 0 F.HDR_RC_DIEMAP_PRESENT.off, 0, 0⟩ s
  flushStart 0 s

/-- The start is held by a roll-call code, R96. -/
def State.rcIsHeld (s : State) : Bool :=
  (List.range 2).any (fun d => s.runs d &&
    (let c := s.get d F.HDR_RC_STATUS_CODE
     decide (1 ≤ c) && decide (c ≤ 4)))

/-- The protocol version and the peer window that a die declares: of its staged manifest while a copy is pending, of its
active firmware otherwise (R89, R499). -/
def State.protoOf (s : State) (d : Nat) : Nat × Nat × Nat :=
  let j := s.get d F.NVM_JRNL_STATE
  if j == 1 || j == 2 then (s.rdB d 0x10500010, s.rdB d 0x10500011, s.rdB d 0x10500012)
  else (s.get d F.NVM_ACTINFO_PROTO, s.get d F.NVM_ACTINFO_PEER_MIN, s.get d F.NVM_ACTINFO_PEER_MAX)

/-- The C dies read different life-cycle states: the lower is programmed to the higher, R507. -/
def lcReconcile (s : State) : State :=
  let a := s.lc 0
  let b := s.lc 1
  if a == b then s
  else
    let lo := if a < b then 0 else 1
    let s := (s.put lo F.SEC_LC_STATE (max a b)).put lo F.SEC_LC_PENDING (max a b)
    recordRom lo ⟨0x0110, Blk.sec, lo, 0, 1, min a b, max a b, 0, s.now32 lo⟩ s

/-- C1 takes the operating time and the power-cycle count from C0, R472. -/
def takeOptime (s : State) : State :=
  let t := (s.c 0).sys.opCounts
  (s.modSys 1 (fun y => { y with opCounts := t })).put 1 F.PROMPT_PCYCLE (s.get 0 F.PROMPT_PCYCLE)

/-- An answer window of R90 in fabric counts: 5 ms. -/
def rcWindow : Nat := 2000000

/-- R89 step 2, R91, R507. C1 answers the training pattern: the C dies exchange identity (`ctl`: it is a C die; `pos`,
its position index), stepping and protocol versions, and C0 checks the answer. -/
def execRollCallC1Answer (ctl : Bool) (pos : DieIx) (step : Byte) (s : State) : Out :=
  atC 1 (fun s =>
    if s.rolling && s.rcPhase == 1 && s.runs 1 && !s.bitOf 0 F.HDR_RC_DIEMAP_PRESENT 1 && !(s.c 0).hdr.c1Missing &&
        decide (s.now 0 ≤ (s.c 0).hdr.winC1 + rcWindow) then
      let s := s.putBit 0 F.HDR_RC_DIEMAP_PRESENT 1 true
      let s := s.put 0 (F.HDR_RC_STEP_STEP 1) step.toNat
      if !ctl || pos.val ≠ 1 || step.toNat ≠ 0xB0 then
        rcMismatch 1 s
      else
        let s := linkUp 1 0 (linkUp 0 0 s)
        let s := s.put 1 F.HDR_RC_DIEMAP_EXPECTED (s.get 0 F.HDR_RC_DIEMAP_EXPECTED)
        let s := s.put 1 F.HDR_RC_DIEMAP_PRESENT 3
        let s := (s.put 1 (F.HDR_RC_STEP_STEP 0) 0xB0).put 1 (F.HDR_RC_STEP_STEP 1) step.toNat
        let a := (s.protoOf 0).1
        let b := (s.protoOf 1).1
        let s := (s.put 0 F.HDR_RC_PROTO_OWN a).put 0 F.HDR_RC_PROTO_PEER b
        let s := (s.put 1 F.HDR_RC_PROTO_OWN b).put 1 F.HDR_RC_PROTO_PEER a
        lcReconcile (takeOptime s)
    else s) s

/-- C1 is settled for roll call: it has answered, or its window has closed. A mismatch of C1 does not end roll call at once
(DESIGN CHOICE, log entry 34). -/
def State.c1Settled (s : State) : Bool :=
  s.part.ctl == 1 || s.bitOf 0 F.HDR_RC_DIEMAP_PRESENT 1 || (s.c 0).hdr.c1Missing

/-- R89 step 3, R75. The D links are trained with the reset mark: a D die that has not been reset since the package
reset (an orphan, or one whose notice is still on its way) resets now; C0 owns every D die (R16). -/
def execDLinkTrainingStart (s : State) : Out :=
  .next (if s.rolling && (s.rcPhase == 1 || (s.part.ctl == 1 && s.rcPhase == 2)) && s.c1Settled then
    let s := rcPhaseTo 2 s
    let now := s.now 0
    let s := s.modHdr 0 (fun h => { h with winD := now })
    let s := overN 6 (fun k s =>
      if s.hasD k then
        setOwner k 0 (if s.inOrphan k || s.orphan k || (s.dd k).noticeDue then resetD k false s else s)
      else s) s
    overN 2 (fun d s => if s.runs d then refreshInact d s else s) s.syncOwn
  else s)

/-- Step 4 of R89 ends: a RETIRED part stops here in ROLL_CALL (R87, Table 1-9), a fault holds CONFIG, otherwise the microcode
is pushed. -/
def identityEnd (s : State) : State :=
  if s.lc 0 == 4 then rcPhaseTo 6 s
  else if s.get 0 F.HDR_RC_STATUS_CODE != 0 then rcHeld s
  else rcPhaseTo 3 s

/-- Every D die of the part has answered. -/
def State.allAnswered (s : State) : Bool :=
  (List.range s.part.drv).all (fun k => s.bitOf 0 F.HDR_RC_DIEMAP_PRESENT (dix k))

/-- An answer of D die k fails a check of R91: its position is outside the part's range or another die's, its type or its
stepping is wrong. -/
def State.answerBad (s : State) (k pos step : Nat) (drv : Bool) : Bool :=
  !drv || decide (s.part.drv ≤ pos) || decide (step ≠ 0xB0) ||
    (List.range 6).any (fun j => j != k && s.bitOf 0 F.HDR_RC_DIEMAP_PRESENT (dix j) &&
      s.get (dix j) F.DRV_D_ID_POS == pos)

/-- R89 step 4, R91. D die k answers with its position index and stepping (`drv`: it is a D die). A mismatch waits for the other
answers, or the end of the window, before CONFIG is held (DESIGN CHOICE, log entry 34). -/
def execDDieAnswer (k : DDie) (pos : DieIx) (step : Byte) (drv : Bool) (s : State) : Out :=
  atD k.val (fun s =>
    if s.rolling && s.rcPhase == 2 && s.runsD k.val && !s.bitOf 0 F.HDR_RC_DIEMAP_PRESENT (dix k.val) &&
        decide (s.now 0 ≤ (s.c 0).hdr.winD + rcWindow) then
      let bad := s.answerBad k.val pos.val step.toNat drv
      let s := overN 2 (fun d s =>
        if s.runs d then
          linkUp d (k.val + 1) ((s.putBit d F.HDR_RC_DIEMAP_PRESENT (dix k.val) true).put d
            (F.HDR_RC_STEP_STEP (dix k.val)) step.toNat)
        else s) s
      let s := s.put (dix k.val) F.DRV_D_ID_POS pos.val
      let s := refreshLockout (refreshVkeep s)
      let s := if bad then rcMismatch (dix k.val) s else s
      if s.allAnswered then identityEnd s else s
    else s) s

/-- R90. The answer window of C1, or of a D die (they all open together), closes 5 ms after it opened: a die that has not
answered is missing. Without C1 the D links are still trained (R96). -/
def execAnswerWindowExpiry (i : DieIx) (s : State) : Out :=
  .next (if s.rolling && s.hasDie i.val && !s.bitOf 0 F.HDR_RC_DIEMAP_PRESENT i.val then
    if i.val == 1 && s.rcPhase == 1 && decide ((s.c 0).hdr.winC1 + rcWindow ≤ s.now 0) then
      rcCode Rc.dieMissing (s.modHdr 0 (fun h => { h with c1Missing := true }))
    else if 2 ≤ i.val && s.rcPhase == 2 && decide ((s.c 0).hdr.winD + rcWindow ≤ s.now 0) then
      identityEnd (rcCode Rc.dieMissing s)
    else s
  else s)

/-- Step 6 of R89 begins: C0 names a stage time to every die (R139). -/
def timeAlignBegin (s : State) : State :=
  let now := s.now 0
  let s := (rcPhaseTo 4 s).modHdr 0 (fun h => { h with alignAt := now })
  overN 7 (fun n s => if s.hasLink 0 n then nameTime 0 n s else s) s

/-- R89 step 5. The CRC-32 of the microcode pushed to D die k is read back (`ok`: it matches). A failed readback is
pushed once more; a second failure holds CONFIG. When every D die holds its microcode, the alignment begins. -/
def execMicrocodeReadback (k : DDie) (ok : Bool) (s : State) : Out :=
  atD k.val (fun s =>
    if s.rolling && s.rcPhase == 3 then
      if ok then
        let s := baselineUcode k.val s
        if (List.range s.part.drv).all (fun j => s.flag (dix j) F.DRV_D_STAT_UCODE) then timeAlignBegin s else s
      else if bit (s.c 0).hdr.ucAgain k.val then rcHeld (rcCode Rc.ucodeFail s)
      else s.modHdr 0 (fun h => { h with ucAgain := setBit h.ucAgain k.val true })
    else s) s

/-- Two stage times agree within one count. -/
def within1 (a b : Nat) : Bool := decide (a ≤ b + 1) && decide (b ≤ a + 1)

/-- Every die of the part is within one count of C0, R27, R95. -/
def State.aligned (s : State) : Bool :=
  (s.part.ctl == 1 || !s.runs 1 || within1 (s.now 0) (s.now 1)) &&
    (List.range s.part.drv).all (fun k => within1 (s.now 0) (s.dd k).stage.toNat)

/-- R95. 1 ms after the alignment began, a die outside one count ends roll call with TIME_ALIGN_FAIL. -/
def execTimeAlignCheck (s : State) : Out :=
  .next (if s.rolling && s.rcPhase == 4 && !s.aligned && decide ((s.c 0).hdr.alignAt + 400000 ≤ s.now 0) then
    rcHeld (rcCode Rc.timeAlignFail s)
  else s)

/-- The version windows of the C dies accept each other, R101. -/
def State.versionsMeet (s : State) : Bool :=
  let a := s.protoOf 0
  let b := s.protoOf 1
  decide (a.2.1 ≤ b.1) && decide (b.1 ≤ a.2.2) && decide (b.2.1 ≤ a.1) && decide (a.1 ≤ b.2.2)

/-- Dual control at the lower version, or single-control degraded mode with a code, in the registers of die d. -/
def versionOn (d code : Nat) (s : State) : State :=
  let s := s.put d F.HDR_RC_STATUS_PHASE 5
  let s := s.put d F.HDR_RC_PROTO_OWN (s.protoOf d).1
  let s := s.put d F.HDR_RC_PROTO_PEER (s.protoOf (1 - d)).1
  if code == 0 then s.put d F.HDR_RC_PROTO_AGREED (min (s.protoOf 0).1 (s.protoOf 1).1)
  else
    let s := (s.on d F.HDR_RC_STATUS_SINGLE).on d F.HDR_RC_STATUS_DEGRADED
    let s := (s.put d F.HDR_RC_STATUS_CODE code).put d F.HDR_RC_PROTO_AGREED 0
    if d == 1 then s.put d F.HDR_RC_STATUS_ROLE 2 else s

/-- The time in µs that the HDR_RC time fields hold: at most 2^24 − 1 (DESIGN CHOICE, log entry 35). -/
def State.rcMicros (s : State) (d : Nat) : Nat := min (2 ^ 24 - 1) (s.now d / 400)

/-- R89 step 7, R101 to R103. C0 resolves the version windows (`peerOk`: the firmware of C1 verified, R499), and the
device enters BIST. -/
def execVersionWindowResolve (peerOk : Bool) (s : State) : Out :=
  .next (if s.rolling && s.rcPhase == 4 && s.aligned then
    let s :=
      if s.part.ctl == 1 then (s.put 0 F.HDR_RC_STATUS_PHASE 5).put 0 F.HDR_RC_PROTO_OWN (s.protoOf 0).1
      else
        let code := if !peerOk then Rc.peerImageFail else if s.versionsMeet then 0 else Rc.versionSplit
        let s := versionOn 0 code s
        if !s.runs 1 then s
        else
          let s := versionOn 1 code s
          if code == Rc.peerImageFail then enterRecovery 1 6 s else s
    let s := overN 2 (fun d s => if s.runs d then s.put d F.HDR_RC_TRC (s.rcMicros d) else s) s
    setDevice Dev.bist (overN 6 lockUcode s)
  else s)

/-- The field of a readiness item of Table 4-4: 0 RDY_OFFS, 1 RDY_PUMP, 2 RDY_ORPHAN, 3 RDY_CHK, 4 RDY_TMON. -/
def rdyField (item : Nat) : Fld :=
  match item with
  | 0 => F.HDR_RC_STATUS_RDY_OFFS
  | 1 => F.HDR_RC_STATUS_RDY_PUMP
  | 2 => F.HDR_RC_STATUS_RDY_ORPHAN
  | 3 => F.HDR_RC_STATUS_RDY_CHK
  | _ => F.HDR_RC_STATUS_RDY_TMON

/-- A readiness bit sets, and START_RDY with the last of them, R94; a die in the wings role sets none (the example of
R103). -/
def readyItem (d item : Nat) (s : State) : State :=
  if s.get d F.HDR_RC_STATUS_ROLE == 2 then s else
  let s := s.on d (rdyField item)
  let s := if item == 0 then s.modSafe d (fun x => { x with tmonPk := [], tmonZAt := s.now d + 1 }) else s
  if (List.range 5).all (fun j => s.flag d (rdyField j)) && !s.flag d F.HDR_RC_STATUS_START_RDY then
    let s := s.on d F.HDR_RC_STATUS_START_RDY
    if s.get d F.HDR_RC_TRDY == 0 then s.put d F.HDR_RC_TRDY (s.rcMicros d) else s
  else s

/-- The condition of a readiness item of Table 4-4 on C die d: RDY_OFFS a capture that completed within its limits and none
running; RDY_PUMP every floating rail of a used leg of its D dies recovered; RDY_ORPHAN two frame loads of the orphan
commands; RDY_CHK a passed full-context checkpoint on both pairs; RDY_TMON, after RDY_OFFS, the zero checks of R374. -/
def State.readyIf (s : State) (d item : Nat) : Bool :=
  match item with
  | 0 => (s.c d).adc.zOk && !s.flag d F.ADC_GSTAT_ZCAPBUSY
  | 1 => (List.range 6).all (fun k => !s.owns d k || (List.range 3).all (fun leg =>
      s.legUnused k leg || ((s.dd k).legs.at leg).measured))
  | 2 => decide (2 ≤ (s.c d).safe.orphLoads)
  | 3 => (List.range 2).all (fun p => ((s.c d).chk.at p).fullOk)
  | _ => s.flag d F.HDR_RC_STATUS_RDY_OFFS && (List.range 6).all (fun a =>
      !s.flag d (F.TMON_AX_CFG_EN a) || bit (s.c d).safe.tmonZero a)

/-- R94. A readiness item of Table 4-4 is met on C die d once the device has reached STANDBY. -/
def execReadinessItemMet (d : CDie) (item : Fin 5) (s : State) : Out :=
  onC d.val (fun s =>
    if decide (Dev.standby ≤ s.dev) && s.dev != Dev.recovery && s.readyIf d.val item.val then readyItem d.val item.val s
    else s) s

end Sys2Proof.Machine
end

