-- ==== Sys2Proof/Machine/LibHold.lean ====
section
/-! DEFINITION. The end of CONFIG: the loader at rest, a start held under R122, and the conditions of Table 1-8 for STANDBY. -/

namespace Sys2Proof.Machine

/-- LIB_STAT.STATE, Table 5-10. -/
abbrev Ls.idle := 0
abbrev Ls.verify := 1
abbrev Ls.store := 2
abbrev Ls.staged := 3
abbrev Ls.apply := 4
abbrev Ls.held := 5

/-- The loader's state between commands: HELD while a start is held under R122, IDLE otherwise. -/
def libRest (s : State) : State :=
  overN 2 (fun d s =>
    if s.runs d then
      (s.put d F.LIB_STAT_STATE (if (s.c d).lib.held then Ls.held else Ls.idle)).modLib d (fun l => { l with cmd := 0 })
    else s) s

/-- The converters of every running C die have passed their calibration (Table 1-8). -/
def State.calibrated (s : State) : Bool :=
  (List.range 2).all (fun d => !s.runs d || s.flag d F.ADC_GSTAT_CALDONE)

/-- CONFIG ends once the libretto is applied and the converters are calibrated, Table 1-8; a start held by roll call or
under R122 stays. -/
def configEnds (s : State) : State :=
  if s.dev == Dev.config && s.calibrated && !s.rcIsHeld && !(s.c 0).lib.held && (s.c 0).lib.done then
    setDevice Dev.standby s
  else s

/-- A start held under R122 ends with a libretto applied: the device enters STANDBY as from any CONFIG (Table 1-8). -/
def heldEnds (s : State) : State :=
  if (s.c 0).lib.held then
    configEnds (libRest (overN 2 (fun d s => s.modLib d (fun l => { l with held := false, done := true })) s))
  else s

/-- BIST marked a unit at this start, R417: marks, or more than one failed engine unit on a die. -/
def State.anyMark (s : State) : Bool :=
  (List.range 2).any (fun d => s.runs d &&
    (s.wd d F.BIST_MARK0_PP.off != 0 || s.wd d F.BIST_MARK1_D.off != 0 ||
      decide (1 < countBelow 32 (fun j => s.bitOf d F.LOOP_RETIRED0 j) + countBelow 32 (fun j => s.bitOf d F.LOOP_RETIRED1 j))))

end Sys2Proof.Machine
end

