-- ==== Sys2Proof/Machine/Headrace.lean ====
section
/-! DEFINITION. The headrace link (chapter 6): flits and their retry, loss of a link, reset notices, the stage-time flits,
remote reads that time out, and cue sources. -/

namespace Sys2Proof.Machine

/-! ### Flits -/

/-- A TIME flit delivered, R139: one with H = 1 waits for its second; one with H = 0 after it names the time T. -/
def timeFlit (i n payload : Nat) (s : State) : State :=
  s.modLink i n (fun l =>
    if bit payload 43 then { l with timeHi := some (payload % 2 ^ 21) }
    else match l.timeHi with
      | some hi => { l with timeHi := none, timeT := some (hi * 2 ^ 43 + payload % 2 ^ 43) }
      | none => l)

/-- The flits to resend from a sequence number on, out of the last 16, with their numbers. -/
def resendFrom (l : LinkC) (seq : Nat) : List (Nat × Flit) :=
  let first := (l.txSeq + 16 - l.replay.length % 16) % 16
  let all := l.replay.zipIdx.map (fun p => ((first + p.2) % 16, p.1))
  all.dropWhile (fun p => p.1 != seq)

/-- A flit of a handover among those to resend: its retry (80 ns) would end after B − 1 µs, R144. -/
def retryTooLate (now b : Nat) (fs : List (Nat × Flit)) : Bool :=
  fs.any (fun f => f.2.kind == Fl.own) && decide (b < now + 32 + 400)

/-- A NAK received on link end n of die i, R135: the flits from the named one on go out again; R144: one of a handover that
would come too late cancels it, on the owner's side or on the new owner's. -/
def nakGot (i n seq : Nat) (s : State) : State :=
  let fs := resendFrom (s.link i n) seq
  let again := fs.foldl (fun a f => a ++ flitSlots (lanesOf i n) (flitWord f.2.kind f.1 f.2.payload)) []
  let s := s.modLink i n (fun l => { l with resend := fs, slots := l.slots ++ again })
  if i < 2 then
    let s := (s.count i (F.HDR_L_RETRY n) 1).count i F.PROMPT_LIVE_SD_HDR_RETRY 1
    let h := (s.c i).hdr.ho
    let o := (s.c i).hdr.offer
    if h.active && !h.taking && (n == 0 || (s.mates h.die).contains (n - 1)) && retryTooLate (s.now i) h.b fs then
      hoCancel i Ho.linkFault s
    else if o.active && n == 0 && retryTooLate (s.now i) o.b fs then hoCancel (1 - i) Ho.linkFault s
    else s
  else s

/-- The reset notice of its owner reaches D die k, R75: every gate goes off, and the die resets. -/
def noticeGot (k : Nat) (s : State) : State := if (s.dd k).noticeDue then resetD k false s else s

/-- The count that bits 42:0 of a time name, nearest to a die's own count. -/
def nearest43 (now t : Nat) : Nat :=
  let diff := sxN 43 ((t + 2 ^ 43 - now % 2 ^ 43) % 2 ^ 43)
  uxN 64 (Int.ofNat now + diff)

/-- A die's stage time set. -/
def setStage (i : Nat) (t : StageTime) (s : State) : State :=
  let s := if i < 2 then s.modSys i (fun y => { y with stage := t }) else s.modD (i - 2) (fun x => { x with stage := t })
  let s := overN 7 (fun n s => if s.hasLink i n then s.modLink i n (fun l => { l with goodAt := t.toNat }) else s) s
  if i < 2 then noCheckpoints i s else s

/-- A periodic TIME flit, R139: bits 42:0 of the sender's count. -/
def timeSync (i n t : Nat) (s : State) : State :=
  let now := (s.stageOf i).toNat
  let new := nearest43 now t
  if within1 now new then s
  else
    let s := setStage i (BitVec.ofNat 64 new) s
    let d := farEnd i n
    let s := if d < 2 && s.runs d then s.putBit d F.HDR_TSYNC_SLIP i true else s
    if i < 2 then s.putBit i F.HDR_TSYNC_SLIP i true else s

/-- A flit delivered in order. TIME and NOTICE flits act here; the flits whose arrival has a row of its own (SHUNT, OWN,
STATUS, WR, RD, RDRSP, UCODE) act there (log entry 17). -/
def deliver (i n w : Nat) (s : State) : State :=
  let far := farEnd i n
  let seq := flitSeq w
  let s := s.modLink i n (fun l =>
    { l with rxSeq := (l.rxSeq + 1) % 16, discarding := false, nakDue := none,
             delivered := (⟨flitType w, flitPayload w⟩ :: l.delivered).take 16 })
  let s := s.modLink far (farNum i n) (fun l => { l with resend := l.resend.filter (fun f => f.1 != seq) })
  if flitType w == Fl.time then
    if bit (flitPayload w) 43 || (s.link i n).timeHi.isSome then timeFlit i n (flitPayload w) s
    else timeSync i n (flitPayload w % 2 ^ 43) s
  else
    let s := s.modLink i n (fun l => { l with timeHi := none })
    if flitType w == Fl.notice then
      if i < 2 then linkLostAt i n s else if s.owner (i - 2) == n then noticeGot (i - 2) s else s
    else s

/-- A flit that fails its check, R135: it is counted and answered by NAK with its sequence number, and every flit up to the
resent one is discarded. -/
def flitBad (i n : Nat) (s : State) : State :=
  let s := if i < 2 then (s.count i (F.HDR_L_CRCERR n) 1).count i F.PROMPT_LIVE_SD_HDR_CRCERR 1 else s
  let seq := (s.link i n).rxSeq
  (sendFlit i n Fl.nak seq s).modLink i n (fun l => { l with discarding := true, nakDue := some seq })

/-- R134, R135. A flit arrives on link end n of die i. One that fails its check is answered by NAK; IDLE and NAK flits take no
place in the sequence; any other is delivered in its order, once. Every flit that passes its CRC restarts the count of
R136. -/
def execFlitReceive (i : DieIx) (n : Fin 7) (w : BitVec 64) (s : State) : Out :=
  onLink i.val n.val (fun s =>
    let f := w.toNat
    if !flitOk f then flitBad i.val n.val s
    else
      let t := (s.stageOf i.val).toNat
      let s := s.modLink i.val n.val (fun l => { l with goodAt := t })
      if flitType f == Fl.idle then s
      else if flitType f == Fl.nak then nakGot i.val n.val (flitPayload f % 16) s
      else if flitSeq f == (s.link i.val n.val).rxSeq then deliver i.val n.val f s
      else s) s

/-- R135, R144. A NAK arrives on link end n of die i: the transmitter resends from the named flit, out of its last 16; a
retry that is too late for a handover cancels it. -/
def execNakReceive (i : DieIx) (n : Fin 7) (seq : Fin 16) (s : State) : Out :=
  onLink i.val n.val (nakGot i.val n.val seq.val) s

/-- A cause of R136 holds at link end n of die i: no flit has passed its CRC for 64 fabric cycles, the far die sends none, or a
D die sees no clock of its owner. -/
def State.lossHolds (s : State) (i n : Nat) : Bool :=
  let far := farEnd i n
  decide ((s.link i n).goodAt + 64 ≤ (s.stageOf i).toNat) || !s.dieRuns far || (decide (far < 2) && !s.fabric far) ||
    (decide (i < 2) && !s.fabric i) || (decide (2 ≤ i) && s.owner (i - 2) == n && !s.bitOf n F.SYS_CLKST_FWD_OK (i - 2))

/-- R136, R18. Link end n of die i is lost. A C die reports it; a D die that loses the link to its owner enters its orphan
state. Without a cause of R136 nothing is lost. -/
def execLinkLost (i : DieIx) (n : Fin 7) (s : State) : Out :=
  onLink i.val n.val (fun s =>
    if !s.lossHolds i.val n.val then s
    else if i.val < 2 then linkLostAt i.val n.val s
    else if s.owner (i.val - 2) == n.val then orphanEntry (i.val - 2) s
    else s) s

/-- R75. D die k receives the reset notice of its owner: every gate goes off, and the die resets. -/
def execResetNoticeReceive (k : DDie) (s : State) : Out := onD k.val (noticeGot k.val) s

/-! ### Remote reads -/

/-- HDR_ACCERR.CODE, Table 6-3. -/
abbrev Acc.notOwner := 1
abbrev Acc.linkDown := 2
abbrev Acc.timeout := 3
abbrev Acc.remoteErr := 4

/-- A refused or failed remote access is reported, R138. -/
def accErr (d code die rstat addr : Nat) (write : Bool) (s : State) : State :=
  let s := (s.put d F.HDR_ACCERR_CODE code).put d F.HDR_ACCERR_DIE die
  let s := (s.put d F.HDR_ACCERR_WRITE (b2n write)).put d F.HDR_ACCERR_RSTAT rstat
  s.put d F.HDR_ACCADDR addr

/-- A store of C die d to offset `off` of D die k, at an address (R15, R138): of an owner whose link is up, a WR flit goes
out and takes effect; otherwise it is ignored and reported, NOT_OWNER before LINK_DOWN (DESIGN CHOICE, log entry 48). -/
def drvStoreAt (d k off addr : Nat) (v : Word) (eff : State → State) (s : State) : State :=
  if !s.hasD k then s
  else if !s.owns d k then accErr d Acc.notOwner (dix k) 0 addr true s
  else if !s.linkD d k then accErr d Acc.linkDown (dix k) 0 addr true s
  else
    let s := sendFlit d (k + 1) Fl.wr (off / 4 % 4096 * 2 ^ 32 + v.toNat) s
    if s.runsD k then eff s else s

/-- A store of C die d to the DRV window of D die k. -/
def drvStore (d k off : Nat) (v : Word) (eff : State → State) (s : State) : State :=
  drvStoreAt d k off (drvAddr k off) v eff s

/-- The two WR flits of a store to the peer C die, which carry a full address (Table 6-1, log entry 17). -/
def peerFlits (d addr : Nat) (v : Word) (s : State) : State :=
  sendFlit d 0 Fl.wr (addr / 4 % 4096 * 2 ^ 32 + v.toNat) (sendFlit d 0 Fl.wr (addr / 2 ^ 14) s)

/-- C die d reaches the registers of the other C die: their link is up and carries more than service traffic (R102). -/
def State.peerOpen (s : State) (d : Nat) : Bool := s.linkC d && !s.serviceOnly

/-- The remote read of a core ends. -/
def readEnd (d k : Nat) (s : State) : State :=
  s.modHdr d (fun h => { h with reads := h.reads.set k default })

/-- R138. No RDRSP has come within 1 µs: TIMEOUT is reported, and a bus error raised on the issuing core. -/
def execRemoteReadTimeout (d : CDie) (k : Fin 4) (machine : Bool) (s : State) : Out :=
  onC d.val (fun s =>
    let r := (s.c d.val).hdr.reads.at k.val
    if r.active then
      busTrap d.val (.core k machine) r.addr false
        (readEnd d.val k.val (accErr d.val Acc.timeout r.die 0 r.addr false s))
    else s) s

/-! ### Stage time -/

/-- The rejoin of a C die goes on once it has the stage time, R104: the version windows, its own D links without a reset
mark and without microcode; it is never the anchor. Its own roll-call registers fill, those of the running die hold; the
package state stays (R104). Its start-up BIST, on itself alone, is due. -/
def rejoin (d : Nat) (s : State) : State :=
  let o := 1 - d
  let s := s.setReg d F.HDR_RC_DIEMAP_EXPECTED.off (s.reg o F.HDR_RC_DIEMAP_EXPECTED.off)
  let s := overN 8 (fun i s => s.put d (F.HDR_RC_STEP_STEP i) (s.get o (F.HDR_RC_STEP_STEP i))) s
  let s := overN 6 (fun k s => if s.hasD k && s.runsD k then linkUp d (k + 1) s else s) s
  let code := if s.versionsMeet then 0 else Rc.versionSplit
  let s := versionOn d code s
  let s := if s.flag o F.HDR_RC_STATUS_SINGLE then (s.on d F.HDR_RC_STATUS_SINGLE).put d F.HDR_RC_PROTO_AGREED 0 else s
  let s := s.put d F.HDR_RC_STATUS_ROLE 3
  let s := s.put d F.PROMPT_PCYCLE (s.get o F.PROMPT_PCYCLE)
  let t := (s.c o).sys.opCounts
  let s := s.modSys d (fun y => { y with opCounts := t })
  let s := s.put d F.HDR_RC_TRC (s.rcMicros d)
  let s := thermLock d (thermLoad d s)
  let now := s.now d
  let s := refreshLockout (refreshVkeep s)
  let a := (s.n d).active
  let s := s.put d F.BIST_STAT_MODE (b2n (a != 0 && bit (imgFlags s d (slotAddr a)) 0))
  (s.put d F.BIST_STAT_PHASE 1).modC d (fun c =>
    { c with bist := { c.bist with alone := true, ran := [], began := now, at_ := c.bist.at_.set d now } })

/-- A die's count, corrected by the delay of the link (1/64 cycle units), has reached the time T named on it, R139. -/
def State.timeReached (s : State) (i n t : Nat) : Bool :=
  let delay := if i < 2 then s.get i (F.HDR_L_DELAY n) else s.get n (F.HDR_L_DELAY (i - 1))
  decide (64 * t ≤ 64 * (s.stageOf i).toNat + delay)

/-- R139, R104. The count of die i, corrected by the link's delay, reaches the time T that a pair of TIME flits on link
end n named: it loads all 64 bits. A C die that rejoins goes on with its rejoin. -/
def execTimeLoad (i : DieIx) (n : Fin 7) (s : State) : Out :=
  onLink i.val n.val (fun s =>
    match (s.link i.val n.val).timeT with
    | none => s
    | some t =>
      if !s.timeReached i.val n.val t then s
      else
        let s := setStage i.val (BitVec.ofNat 64 t) s
        let s := s.modLink i.val n.val (fun l => { l with timeT := none })
        if i.val < 2 && n.val == 0 && s.get i.val F.HDR_RC_STATUS_ROLE == 3 && s.get i.val F.HDR_RC_STATUS_PHASE == 1 &&
            s.runs (1 - i.val) then rejoin i.val s
        else s) s

/-- R139. Every 1 µs an owner sends a TIME flit with H = 0 to each D die it owns, and C0 to C1. -/
def execTimeSyncSend (d : CDie) (s : State) : Out :=
  onC d.val (fun s =>
    if s.fabric d.val && decide ((s.c d.val).hdr.syncAt + 400 ≤ s.now d.val) then
      let t := s.now d.val % 2 ^ 43
      let now := s.now d.val
      let s := s.modHdr d.val (fun h => { h with syncAt := now })
      let s := overN 6 (fun k s =>
        if s.owns d.val k && s.linkD d.val k then sendFlit d.val (k + 1) Fl.time t s else s) s
      if d.val == 0 && s.hasC 1 && s.linkC 0 then sendFlit 0 0 Fl.time t s else s
    else s) s

/-- R139. A periodic TIME flit with bits 42:0 = t reaches die i on link end n: a difference of more than one count, modulo
2^43, reloads bits 42:0 with the carry into the upper bits and sets the die's bit in HDR_TSYNC.SLIP. -/
def execTimeSyncReceive (i : DieIx) (n : Fin 7) (t : BitVec 43) (s : State) : Out :=
  onLink i.val n.val (timeSync i.val n.val t.toNat) s

/-! ### Cues -/

/-- R146, R147. A source event of the cue matrix of C die d, routed to every enabled destination that selects it, on this
die and on the peer. A source of a D die acts through its owner alone; a cue terminal reads 0 while bank C is low (R53). -/
def execCueSourceEvent (d : CDie) (src : Byte) (s : State) : Out :=
  onC d.val (fun s =>
    match cueSrcDie src.toNat with
    | none => if cueSrcGpc src.toNat && (s.c d.val).sys.vioCLow then s else fireCue d.val src.toNat s
    | some k => if s.owns d.val k then fireCue d.val src.toNat s else s) s

/-- R149. A write of CUE_SWTRIG fires the software cue 0xCC + value. -/
def execSoftwareCue (d : CDie) (v : Fin 4) (s : State) : Out :=
  onCW d.val (own F.CUE_SWTRIG.off) (fireCue d.val (0xCC + v.val)) s

end Sys2Proof.Machine
end

