-- ==== Sys2Proof/Machine/Adc.lean ====
section
/-! DEFINITION. The conversion subsystem (chapter 7): sequences, results, bursts, the shunt converter of a D die,
self-calibration and the zero-current capture. -/

namespace Sys2Proof.Machine

/-- The entries that sequence q uses, R152. -/
def State.seqEntries (s : State) (d g q : Nat) : List Nat :=
  (List.range (min 16 (s.get d (F.ADC_AG_SEQ_CFG_LEN g q)))).map (fun j => 16 * q + j)

/-- The working slices of a group, ascending: not retired and not the understudy. -/
def State.workingSlices (s : State) (d g : Nat) : List Nat :=
  (List.range 8).filter (fun j => !s.bitOf d (F.ADC_AG_STAT_RETIRED g) j &&
    (s.flag d (F.ADC_AG_STAT_NO_US g) || s.get d (F.ADC_AG_STAT_US g) != j))

/-- The working slices of a group that are free: none of their conversions was sampled within the last 40 ns (16 counts), Table
7-2. Which free slice takes which entry is the model's choice (ascending, log entry 22). -/
def State.freeSlices (s : State) (d g : Nat) : List Nat :=
  (s.workingSlices d g).filter (fun j =>
    !(List.range 4).any (fun q => (s.seq d g q).flight.any (fun x => x.slice == j && decide (s.now d < x.at_ + 16))))

/-- A sequence completes: DONE, and its cue (R152). -/
def seqDone (d g q : Nat) (s : State) : State :=
  let s := s.putBit d (F.ADC_AG_STAT_SEQBUSY g) q false
  let s := s.putBit d (F.ADC_AG_EVT_DONE g) q true
  fireCue d (0x40 + 4 * g + q) (s.modSeq d g q (fun x => { x with kept := [] }))

/-- R153. Step n of sequence q samples its entries together, each on its own working slice, n × GAP cycles after the start; with
too few of them free, at the first edge at which enough are, with LATE. A step takes at most seven entries. -/
def stepSample (d g q n : Nat) (s : State) : State :=
  let x := s.seq d g q
  let es := (x.todo.filter (fun e => s.seqGet d g q (F.ADC_AG_ENT_STEP g e) == n)).take 7
  let due := x.startAt + n * s.seqGet d g q (F.ADC_AG_SEQ_CFG_GAP g q)
  let free := s.freeSlices d g
  if !s.fabric d || !s.seqBusy d g q || s.isBurst d g q || es.isEmpty || decide (s.now d < due) ||
      decide (free.length < es.length) then s
  else
    let late := decide (due < s.now d)
    let s := if late then s.putBit d (F.ADC_AG_EVT_LATE g) q true else s
    s.modSeq d g q (fun x =>
      { x with todo := x.todo.filter (fun e => !es.contains e)
               flight := x.flight ++ (es.zip free).map (fun e => ⟨e.1, s.now d, late, e.2⟩) })

/-- R153, R154. A step of a SIMUL sequence samples, when its edge has come. -/
def execAdcStepSample (d : CDie) (g : Fin 4) (q : Fin 4) (n : Fin 16) (s : State) : Out :=
  onC d.val (stepSample d.val g.val q.val n.val) s

/-- Every step whose edge has come samples, in ascending order of the sequences (R153, R154). -/
def stepsDue (d : Nat) (s : State) : State :=
  overN 4 (fun g s => if s.get d (F.ADC_AG_STAT_SEQBUSY g) == 0 then s
    else overN 4 (fun q s => overN 16 (fun n s => stepSample d g q n s) s) s) s

/-- A start of sequence q, R152, R154, R155, R167: dropped with OVERRUN while it runs, while a burst of another sequence
runs, or while a calibration or a capture has the group. Step 0 samples on this edge (R153). -/
def seqStart (d g q : Nat) (s : State) : State :=
  if !s.flag d (F.ADC_AG_CTRL_EN g) || s.flag d (F.ADC_AG_STAT_GFAULT g) || s.get d (F.ADC_AG_SEQ_CFG_LEN g q) == 0 ||
      !s.fabric d then s
  else if s.seqBusy d g q || (s.burstSeq d g).isSome || s.flag d (F.ADC_AG_STAT_CALBUSY g) then
    s.putBit d (F.ADC_AG_EVT_OVERRUN g) q true
  else
    let es := s.seqEntries d g q
    let s := s.putBit d (F.ADC_AG_STAT_SEQBUSY g) q true
    stepSample d g q 0 (s.modSeq d g q (fun x =>
      { runs := (x.runs + 1) % 256, startAt := s.now d, todo := if s.isBurst d g q then [] else es, flight := x.flight,
        taken := 0, kept := [] }))

/-- R152, R154. Sequence q of a group is started, by its cue or by ADC_AGg_SWTRIG.START. -/
def execAdcSequenceStart (d : CDie) (g : Fin 4) (q : Fin 4) (s : State) : Out := onC d.val (seqStart d.val g.val q.val) s

/-- A burst of sequence q stops. -/
def burstStop (d g q : Nat) (s : State) : State :=
  if s.seqBusy d g q && s.isBurst d g q then seqDone d g q s else s

/-- A write of ADC_AGg_SWTRIG: the sequences of STOP stop their bursts, those of START start in ascending order. -/
def swtrigWrite (d g v : Nat) (s : State) : State :=
  let s := overN 4 (fun q s => if bit v (4 + q) then burstStop d g q s else s) s
  overN 4 (fun q s => if bit v q then seqStart d g q s else s) s

/-- R155. A write of 1s to ADC_AGg_SWTRIG.STOP stops running bursts of the named sequences. -/
def execAdcSwtrigStop (d : CDie) (g : Fin 4) (mask : Fin 16) (s : State) : Out :=
  onCW d.val (own (0x100020 + 0x4000 * g.val)) (swtrigWrite d.val g.val (16 * mask.val)) s

/-- The scaling of R162: the code as u, OFFSET, GAIN (a signed Q15 field) and SHIFT give a result before saturation. -/
def scaleQ15 (u offset gain : Int) (shift : Nat) : Int := rndDiv ((u - offset) * gain) (2 ^ (15 - shift))

/-- The result word of a group: VALUE, TAG, FRESH, SAT, CLIP, LATE. -/
def resWord (v : Int) (tag : Nat) (sat clip late : Bool) : Word :=
  BitVec.ofNat 32 (ux16 v + tag % 256 * 2 ^ 16 + 2 ^ 24 + b2n sat * 2 ^ 25 + b2n clip * 2 ^ 26 + b2n late * 2 ^ 27)

/-- A raw code of a C-die slice is at either end of its range, R163. -/
def clip14 (code : Nat) : Bool := code == 0 || code == 0x3FFF

/-- The corrected code as u (R162, R166) of a raw code of slice j. -/
def State.corrected (s : State) (d g j code : Nat) : Nat :=
  (Config.sliceCorrect code (s.get d (F.ADC_AG_SL_CAL_OFS g j)) (s.get d (F.ADC_AG_SL_CAL_GTRIM g j))).toNat

/-- The window comparators that watch an entry, Table 7-8. -/
def winCheck (d g e : Nat) (v : Int) (s : State) : State :=
  let hit := (List.range 4).any (fun w =>
    s.flag d (F.ADC_AG_WIN_CFG_EN g w) && s.get d (F.ADC_AG_WIN_CFG_ENT g w) == e &&
      ((decide (s.geti d (F.ADC_AG_WIN_LIM_LO g w) ≤ v) && decide (v ≤ s.geti d (F.ADC_AG_WIN_LIM_HI g w))) ==
        s.flag d (F.ADC_AG_WIN_CFG_INSIDE g w)))
  if hit then s.on d (F.ADC_AG_EVT_WINHIT g) else s

/-- The event bits of a result, R163. -/
def satClip (d g : Nat) (sat clip : Bool) (s : State) : State :=
  onlyIf clip (fun s => s.on d (F.ADC_AG_EVT_CLIP g)) (onlyIf sat (fun s => s.on d (F.ADC_AG_EVT_SAT g)) s)

/-- A result of an entry with TMON = 1 goes to the torque monitor too, R156. -/
def tmonDeliver (d g e : Nat) (v : Int) (s : State) : State :=
  if s.flag d (F.ADC_AG_ENT_TMON g e) then
    let j := 64 * g + e
    s.modSafe d (fun x => { x with
      tmonCur := x.tmonCur.set j (ux16 v), tmonPk := x.tmonPk.set j (max (absQ15 v + 1) (x.tmonPk.at j)) })
  else s

/-- A conversion of entry e completes with a raw code: corrected with its slice's constants (R166) and scaled (R162), it
goes to the result register, the events, the window comparators and the fabric source; the sequence completes with its
last entry (R152). -/
def convDone (d g e code : Nat) (s : State) : State :=
  let q := e / 16
  match (s.seq d g q).flight.find? (fun x => x.ent == e), s.fabric d with
  | some x, true =>
    let scl := s.seqGet d g q (F.ADC_AG_SCL_GAIN g e)
    let r := scaleQ15 (Int.ofNat (s.corrected d g x.slice code)) (Int.ofNat (s.get d (F.ADC_AG_OFS_OFFSET g e))) (sx16 scl)
      (s.seqGet d g q (F.ADC_AG_SCL_SHIFT g e))
    let v := satQ15 r
    let sat := offQ15 r
    let clip := clip14 code
    let s := s.setReg d (F.ADC_AG_RES_VALUE g e).off (resWord v (s.seq d g q).runs sat clip x.late)
    let s := winCheck d g e v (satClip d g sat clip s)
    let s := tmonDeliver d g e v (srcSet d (0x100 + 64 * g + e) (ux16 v) s)
    let s := s.modSeq d g q (fun y => { y with flight := y.flight.erase x })
    let y := s.seq d g q
    agRefresh d g (if y.flight.isEmpty && y.todo.isEmpty && s.seqBusy d g q then seqDone d g q s else s)
  | _, _ => s

/-- R156, R162, R163, R166, R172. A conversion completes, is corrected and scaled, and its result register is written; `code` is
the raw code of the slice. -/
def execAdcConversionDone (d : CDie) (g : Fin 4) (e : Fin 64) (code : BitVec 14) (s : State) : Out :=
  onC d.val (convDone d.val g.val e.val code.toNat) s

/-- ADC_AGg_FIFO and FIFOLVL show the oldest burst result. -/
def refreshFifo (d g : Nat) (s : State) : State :=
  let f := (s.ag d g).fifo
  let s := s.put d (F.ADC_AG_FIFOLVL g) f.length
  s.setReg d (F.ADC_AG_FIFO_VALUE g).off (match f with
    | [] => 0
    | w :: _ => BitVec.ofNat 32 (w + 2 ^ 16))

/-- A burst sample of the group, R155: the working slices take turns; its result goes into the FIFO, scaled with the
settings of the sequence's first entry. -/
def burstSample (d g code : Nat) (s : State) : State :=
  match s.burstSeq d g, s.fabric d with
  | some q, true =>
    let e := 16 * q
    let ws := s.workingSlices d g
    let j := ws.getD ((s.seq d g q).taken % max 1 ws.length) 0
    let r := scaleQ15 (Int.ofNat (s.corrected d g j code)) (Int.ofNat (s.get d (F.ADC_AG_OFS_OFFSET g e)))
      (sx16 (s.seqGet d g q (F.ADC_AG_SCL_GAIN g e))) (s.seqGet d g q (F.ADC_AG_SCL_SHIFT g e))
    let v := satQ15 r
    let sat := offQ15 r
    let clip := clip14 code
    let s := satClip d g sat clip s
    let s := if 128 ≤ (s.ag d g).fifo.length then s.on d (F.ADC_AG_EVT_FIFO_OVF g)
      else s.modAg d g (fun x => { x with fifo := x.fifo ++ [ux16 v + b2n sat * 2 ^ 17 + b2n clip * 2 ^ 18] })
    let s := refreshFifo d g (s.modSeq d g q (fun x => { x with taken := x.taken + 1 }))
    let n := s.seqGet d g q (F.ADC_AG_SEQ_CFG_BCOUNT g q)
    if n != 0 && decide (n ≤ (s.seq d g q).taken) then seqDone d g q s else s
  | _, _ => s

/-- R155. A burst sample enters the FIFO, or is lost with FIFO_OVF; at BCOUNT samples the burst ends. -/
def execAdcBurstSample (d : CDie) (g : Fin 4) (code : BitVec 14) (s : State) : Out :=
  onC d.val (burstSample d.val g.val code.toNat) s

/-- The data of a read returned on a die. -/
def returnData (d : Nat) (w : Word) (s : State) : State := s.modSys d (fun y => { y with rdata := w })

/-- A read of ADC_AGg_FIFO, R155. -/
def fifoRead (d g : Nat) (s : State) : State :=
  let s := returnData d (s.reg d (F.ADC_AG_FIFO_VALUE g).off) s
  refreshFifo d g (s.modAg d g (fun x => { x with fifo := x.fifo.drop 1 }))

/-- R155. A read of ADC_AGg_FIFO returns and removes the oldest burst result. -/
def execAdcFifoRead (d : CDie) (g : Fin 4) (s : State) : Out := onC d.val (fifoRead d.val g.val) s

/-- A read of ADC_AGg_RESe, Table 7-8. -/
def resRead (d g e : Nat) (s : State) : State :=
  (returnData d (s.reg d (F.ADC_AG_RES_VALUE g e).off) s).off d (F.ADC_AG_RES_FRESH g e)

/-- R172. A read of a result register returns it and clears FRESH. -/
def execAdcResultRead (d : CDie) (g : Fin 4) (e : Fin 64) (s : State) : Out := onC d.val (resRead d.val g.val e.val) s

/-! ### The shunt converter -/

/-- A change of a D die's shunt converter. -/
def State.modShunt (s : State) (k : Nat) (f : ShuntD → ShuntD) : State := s.modD k (fun x => { x with shunt := f x.shunt })

/-- A capture of the owner uses the shunt converter, R167: a channel of it is being captured. -/
def State.shCapturing (s : State) (k : Nat) : Bool :=
  let d := s.owner k
  !s.orphan k && s.runs d && s.flag d F.ADC_GSTAT_ZCAPBUSY &&
    (List.range 3).any (fun c => inRound (s.c d).adc.zRound (s.zAxis d (4 + k) c))

/-- A start is dropped and counted, R157. -/
def shDrop (k : Nat) (s : State) : State :=
  (s.count (dix k) F.DRV_D_SHCSTAT_DROPCNT 1).on (dix k) F.DRV_D_SHCEVT_DROP

/-- A shunt start, R157, R160, R161: dropped less than 100 ns (40 counts) after the last accepted one, while a burst runs or a
capture uses the converter. In BURST mode it begins a burst of BLEN + 1 samples. -/
def shuntStart (k : Nat) (s : State) : State :=
  let i := dix k
  let x := (s.dd k).shunt
  let t := (s.dd k).stage.toNat
  if !s.flag i F.DRV_D_SHCCTRL_EN || s.orphan k then s
  else if (x.iAt != 0 && decide (t + 1 < x.iAt + 40)) || s.flag i F.DRV_D_SHCSTAT_BURST || s.shCapturing k then
    (shDrop k s).modShunt k (fun x => { x with iDropped := true, bDropped := true })
  else
    let s := s.put i F.DRV_D_SHCSTAT_ITAG ((s.get i F.DRV_D_SHCSTAT_ITAG + 1) % 16)
    if s.flag i F.DRV_D_SHCCTRL_MODE then
      (s.on i F.DRV_D_SHCSTAT_BURST).modShunt k (fun x =>
        { x with burstLeft := s.get i F.DRV_D_SHCCTRL_BLEN + 1, burstDone := 0, burstCh := s.get i F.DRV_D_SHCCTRL_BCH,
                 iAt := t + 1 })
    else s.modShunt k (fun x => { x with iBusy := true, iAt := t + 1 })

/-- R157. A shunt start cue reaches D die k. -/
def execShuntStart (k : DDie) (s : State) : Out := onD k.val (shuntStart k.val) s

/-- A 12-bit signed shunt code, or an unsigned voltage code, is at an end of its range. -/
def clip12 (volt : Bool) (c : Nat) : Bool := if volt then c == 0 || c == 0xFFF else c == 0x7FF || c == 0x800

/-- The payload of a SHUNT flit, R158. -/
def shuntPayload (c0 c1 c2 tag content : Nat) (clip dropped : Bool) : Nat :=
  c0 * 2 ^ 32 + c1 * 2 ^ 20 + c2 * 2 ^ 8 + tag % 16 * 16 + content + 4 * b2n clip + 8 * b2n dropped

/-- A SHUNT flit goes to the C die that owned the D die at its sampling instant, and the framing cue fires. -/
def frameFlit (k toC payload : Nat) (s : State) : State :=
  fireDrvCue k 0 (s.modShunt k (fun x => { x with flits := x.flits ++ [(toC, payload)] }))

/-- The corrected code (R166) of slice j of D die k. -/
def State.shCorrected (s : State) (k j code : Nat) : Nat :=
  (Config.shuntCorrect code (s.get (dix k) (F.DRV_D_SHCTRIM_OFS j)) (s.get (dix k) (F.DRV_D_SHCTRIM_GTRIM j))).toNat

/-- The codes of a current set, or of three consecutive samples of a burst, are complete: the flit is framed for the owner
at the sampling instant (R159; a burst flit's is its first sample's, log entry 22). The last flit of a burst carries the
samples that are left (R161 is silent on it; DESIGN CHOICE, log entry 22). -/
def shuntDone (k c0 c1 c2 : Nat) (s : State) : State :=
  let i := dix k
  let x := (s.dd k).shunt
  if s.orphan k then s
  else if s.flag i F.DRV_D_SHCSTAT_BURST then
    let n := min 3 x.burstLeft
    let left := x.burstLeft - n
    let code := fun j c => s.shCorrected k ((x.burstDone + j) % 4) c
    let toC := s.ownerAt k (x.iAt - 1 + 10 * x.burstDone)
    let clip := ([c0, c1, c2].take n).any (clip12 false)
    let s := s.modShunt k (fun y =>
      { y with burstLeft := left, burstDone := x.burstDone + n, burstTag := (x.burstTag + 1) % 16, bDropped := false })
    let s := if left == 0 then s.off i F.DRV_D_SHCSTAT_BURST else s
    frameFlit k toC (shuntPayload (code 0 c0) (code 1 c1) (code 2 c2) (x.burstTag + 1) 3 clip x.bDropped +
      (n + 4 * x.burstCh) * 2 ^ 44) s
  else if x.iBusy then
    let clip := clip12 false c0 || clip12 false c1 || clip12 false c2
    let s := s.modShunt k (fun x => { x with iBusy := false, iDropped := false })
    frameFlit k (s.ownerAt k (x.iAt - 1)) (shuntPayload (s.shCorrected k 0 c0) (s.shCorrected k 1 c1) (s.shCorrected k 2 c2)
      (s.get i F.DRV_D_SHCSTAT_ITAG) 0 clip x.iDropped) s
  else s

/-- R157, R158, R161, R166. The raw shunt codes of D die k are complete and their SHUNT flit is framed. -/
def execShuntConversionDone (k : DDie) (c0 c1 c2 : BitVec 12) (s : State) : Out :=
  onD k.val (shuntDone k.val c0.toNat c1.toNat c2.toNat) s

/-- A voltage start, R160. -/
def voltStart (k : Nat) (s : State) : State :=
  let i := dix k
  if !s.flag i F.DRV_D_SHCCTRL_EN || s.orphan k || s.flag i F.DRV_D_SHCSTAT_BURST then s
  else if (s.dd k).shunt.vBusy then
    (shDrop k s).modShunt k (fun x => { x with vDropped := true, vdcDropped := true })
  else
    let s := s.put i F.DRV_D_SHCSTAT_VTAG ((s.get i F.DRV_D_SHCSTAT_VTAG + 1) % 16)
    s.modShunt k (fun x => { x with vBusy := true, vHalf := false, vAt := (s.dd k).stage.toNat + 1 })

/-- The automatic start of R160: at a multiple of 400 counts while VAUTO is 1, once. -/
def voltAuto (k : Nat) (s : State) : State :=
  let t := (s.dd k).stage.toNat
  if s.flag (dix k) F.DRV_D_SHCCTRL_VAUTO && t % 400 == 0 && (s.dd k).shunt.vAt != t + 1 then voltStart k s else s

/-- R160. A voltage start: cue destination 0xA0 + 8d + 1, or (`auto`) the start at a multiple of 1 µs while VAUTO is 1. -/
def execVoltageStart (k : DDie) (auto : Bool) (s : State) : Out :=
  onD k.val (fun s => if auto then voltAuto k.val s else voltStart k.val s) s

/-- SC3 completes VPH2 (CONTENT 1) or VDC (CONTENT 2), 100 ns a channel, and sends its flit; it pauses during a burst (R161). -/
def voltFlit (k c0 c1 c2 : Nat) (s : State) : State :=
  let x := (s.dd k).shunt
  let tag := s.get (dix k) F.DRV_D_SHCSTAT_VTAG
  let code := s.shCorrected k 3
  if s.orphan k || !x.vBusy || s.flag (dix k) F.DRV_D_SHCSTAT_BURST then s
  else if !x.vHalf then
    let clip := clip12 true c0 || clip12 true c1 || clip12 true c2
    let toC := s.ownerAt k (x.vAt - 1 + 80)
    s.modShunt k (fun y => { y with
      vHalf := true, vDropped := false
      flits := y.flits ++ [(toC, shuntPayload (code c0) (code c1) (code c2) tag 1 clip x.vDropped)] })
  else
    let toC := s.ownerAt k (x.vAt - 1 + 120)
    s.modShunt k (fun y => { y with
      vBusy := false, vHalf := false, vdcDropped := false
      flits := y.flits ++ [(toC, shuntPayload (code c0) 0 0 tag 2 (clip12 true c0) x.vdcDropped)] })

/-- R158, R160, R166. SC3 of D die k completes VPH0 to VPH2, and then VDC (its code in the first place), and sends the flit. -/
def execVoltageSetFlit (k : DDie) (c0 c1 c2 : BitVec 12) (s : State) : Out :=
  onD k.val (voltFlit k.val c0.toNat c1.toNat c2.toNat) s

/-- An axis that the D die serves runs (FIELD phase RUN). -/
def State.servedRuns (s : State) (k : Nat) : Bool :=
  (s.axOf k).any (fun a => s.phase (s.owner k) a == Ph.run)

/-- A write of DRV_Dd_SHCCTRL, R160, R161: MODE = BURST is ignored while a served axis runs; with EN = 0 nothing converts. -/
def shcctrlWrite (k : Nat) (v : Word) (s : State) : State :=
  let i := dix k
  let off := F.DRV_D_SHCCTRL_EN.off
  let burst := F.DRV_D_SHCCTRL_MODE.ofWord v == 1
  let s := if burst && !s.flag i F.DRV_D_SHCCTRL_MODE && s.servedRuns k then
      plainWrite i off (F.DRV_D_SHCCTRL_MODE.into v 0) true (s.on i F.DRV_D_SHCEVT_REFUSED)
    else plainWrite i off v true s
  if s.flag i F.DRV_D_SHCCTRL_EN then s
  else (s.off i F.DRV_D_SHCSTAT_BURST).modShunt k (fun x =>
    { x with iBusy := false, burstLeft := 0, vBusy := false, vHalf := false })

/-- R161. A write of DRV_Dd_SHCCTRL by C die d that changes the burst mode. -/
def execShuntBurstModeWrite (d : CDie) (k : DDie) (v : Word) (s : State) : Out :=
  onDW d.val k.val F.DRV_D_SHCCTRL_EN.off (drvStore d.val k.val F.DRV_D_SHCCTRL_EN.off v (shcctrlWrite k.val v)) s

/-- ADC_SHd_FIFO and FIFOLVL show the oldest burst result of a D die. -/
def refreshShFifo (d k : Nat) (s : State) : State :=
  let f := (s.c d).adc.shFifo.at k
  let s := s.put d (F.ADC_SH_FIFOLVL k) f.length
  s.setReg d (F.ADC_SH_FIFO_VALUE k).off (match f with
    | [] => 0
    | w :: _ => BitVec.ofNat 32 (w + 2 ^ 16))

/-- A read of ADC_SHd_FIFO, Table 7-10. -/
def shFifoRead (d k : Nat) (s : State) : State :=
  let s := returnData d (s.reg d (F.ADC_SH_FIFO_VALUE k).off) s
  refreshShFifo d k (s.modAdc d (fun x => { x with shFifo := x.shFifo.mod k (fun f => f.drop 1) }))

/-- R174. A read of ADC_SHd_FIFO returns and removes the oldest burst result. -/
def execShuntFifoRead (d : CDie) (k : DDie) (s : State) : Out :=
  onC d.val (shFifoRead d.val k.val) s

/-- A read of ADC_SHd_RESi clears FRESH. -/
def shResRead (d k i : Nat) (s : State) : State :=
  (returnData d (s.reg d (F.ADC_SH_RES_VALUE k i).off) s).off d (F.ADC_SH_RES_FRESH k i)

/-! ### Self-calibration and zero-current capture -/

/-- The self-calibration of a die's groups begins. -/
def calBegin (d : Nat) (s : State) : State :=
  let s := (s.on d F.ADC_GSTAT_CALBUSY).off d F.ADC_GSTAT_CALDONE
  overN 4 (fun g s => s.on d (F.ADC_AG_STAT_CALBUSY g)) s

/-- R164. When CONFIG begins, C0 starts the self-calibration of every group of both C dies and of every shunt converter. -/
def execAdcSelfCalibrationStart (s : State) : Out :=
  .next (if s.dev == Dev.config && s.runs 0 && !s.rcIsHeld then
    overN 2 (fun d s => if s.runs d then calBegin d s else s) s
  else s)

/-- The constants of a slice as measured: values the spec leaves to the silicon. -/
def slConst (d g j : Nat) (s : State) : State :=
  let w := s.freeWord
  let s := s.drawn
  let s := s.put d (F.ADC_AG_SL_CAL_OFS g j) (w % 4096)
  let s := s.put d (F.ADC_AG_SL_CAL_GTRIM g j) (w / 4096 % 4096)
  (s.put d (F.ADC_AG_SL_CAL_SKEW g j) (w / 2 ^ 24 % 64)).on d (F.ADC_AG_SL_CAL_VALID g j)

/-- A slice is retired under R24: shown, reported to fault collection (group BIST_SVC instance 1) and recorded. -/
def retireSlice (d g j : Nat) (s : State) : State :=
  let s := s.putBit d (F.ADC_AG_STAT_RETIRED g) j true
  let s := (s.on d (F.ADC_AG_STAT_NO_US g)).on d (F.ADC_AG_EVT_RETIRE g)
  let s := s.modAg d g (fun x => { x with order := x.order.filter (fun z => z != j) })
  note d Blk.adc 0x0012 2 g 1 (8 * g + j) 0 (latchFault d Fg.bistSvc 1 false s)

/-- The outcome of a group's calibration, R164: constants for the slices that pass, SL7 the understudy; one failed slice is
retired, two or more fail the group. -/
def groupCalDone (d g fails : Nat) (s : State) : State :=
  let bad := (List.range 8).filter (fun j => bit fails j)
  let s := overN 8 (fun j s => if bit fails j then s else slConst d g j s) s
  let s := s.off d (F.ADC_AG_STAT_CALBUSY g)
  let s := s.modAg d g (fun x => { x with order := [0, 1, 2, 3, 4, 5, 6].filter (fun j => !bit fails j) })
  let s := s.put d (F.ADC_AG_STAT_US g) 7
  match bad with
  | [] => s
  | [j] =>
    let s := s.modAg d g (fun x => { x with order := (List.range 8).filter (fun z => z != j) })
    retireSlice d g j s
  | _ => s.putBit d F.ADC_GSTAT_CALFAIL g true

/-- The outcome of a shunt converter's calibration. -/
def shuntCalDone (k : Nat) (fail : Bool) (s : State) : State :=
  let i := dix k
  if fail then (s.on i F.DRV_D_SHCSTAT_CALFAIL).off i F.DRV_D_SHCSTAT_CALDONE
  else
    let s := (s.on i F.DRV_D_SHCSTAT_CALDONE).off i F.DRV_D_SHCSTAT_CALFAIL
    overN 4 (fun j s =>
      let w := s.freeWord
      let s := s.drawn
      ((s.put i (F.DRV_D_SHCTRIM_OFS j) (w % 1024)).put i (F.DRV_D_SHCTRIM_GTRIM j) (w / 4096 % 1024)).on i
        (F.DRV_D_SHCTRIM_VALID j)) s

/-- R164, R99. The self-calibration of C die d completes. Bit 8g + j of `fails` names a failed slice, bit k of `dfails` a
failed shunt converter. A fail mask holds CONFIG with GROUP_FAIL, except in K4 compatibility mode. -/
def execAdcSelfCalibrationDone (d : CDie) (fails : BitVec 32) (dfails : BitVec 6) (s : State) : Out :=
  onC d.val (fun s =>
    if s.flag d.val F.ADC_GSTAT_CALBUSY then
      let s := (s.put d.val F.ADC_GSTAT_CALFAIL 0).put d.val F.ADC_GSTAT_DCALFAIL 0
      let s := overN 4 (fun g s => groupCalDone d.val g (fails.toNat / 256 ^ g % 256) s) s
      let s := overN 6 (fun k s =>
        if s.owns d.val k then
          shuntCalDone k (bit dfails.toNat k) (s.putBit d.val F.ADC_GSTAT_DCALFAIL k (bit dfails.toNat k))
        else s) s
      let s := s.off d.val F.ADC_GSTAT_CALBUSY
      let failed := s.flag d.val F.ADC_GSTAT_CALFAIL || s.flag d.val F.ADC_GSTAT_DCALFAIL
      let s := if failed then s.put d.val F.ADC_GSTAT_CODE 5 else s
      let s := if failed && !s.flag d.val F.LIB_STAT_K4 then s else s.on d.val F.ADC_GSTAT_CALDONE
      configEnds s
    else s) s

/-- A link to an owned D die is down. -/
def State.ownedLinkDown (s : State) (d : Nat) : Bool :=
  (List.range 6).any (fun k => s.owns d k && !s.linkD d k)

/-- The calibration or capture runs. -/
def State.convBusy (s : State) (d : Nat) : Bool := s.flag d F.ADC_GSTAT_CALBUSY || s.flag d F.ADC_GSTAT_ZCAPBUSY

/-- The code that refuses ADC_GCTRL.CAL, or 0, in the order of R173. -/
def State.calRefusal (s : State) (d : Nat) : Nat :=
  if s.dev != Dev.config && s.dev != Dev.standby then 4
  else if s.convBusy d then 1
  else if s.ownedLinkDown d then 6
  else if (List.range 4).any (fun g => s.flag d (F.ADC_AG_STAT_RUN g)) ||
      (List.range 6).any (fun k => s.owns d k && s.flag (dix k) F.DRV_D_SHCCTRL_EN) then 2
  else 0

/-- The code that refuses ADC_GCTRL.ZCAP, or 0, in the order of R173. -/
def State.zcapRefusal (s : State) (d : Nat) : Nat :=
  if s.dev != Dev.standby then 4
  else if s.convBusy d then 1
  else if s.ownedLinkDown d then 6
  else if s.gatesOn d != 0 then 3
  else 0

/-- A write of ADC_GCTRL. -/
def gctrlWrite (d v : Nat) (s : State) : State :=
  let s := if bit v 0 then
      let c := s.calRefusal d
      let s := s.put d F.ADC_GSTAT_CODE c
      if c == 0 then calBegin d s else s
    else s
  if bit v 1 then
    let c := s.zcapRefusal d
    if c == 0 then zcapBegin d s else s.put d F.ADC_GSTAT_CODE c
  else s

/-- R165, R173. ADC_GCTRL.CAL repeats the self-calibration or is refused with its code. -/
def execAdcGctrlCal (d : CDie) (s : State) : Out :=
  onCW d.val (own 0x110000) (gctrlWrite d.val 1) s

/-- R167, R173. ADC_GCTRL.ZCAP starts a zero-current capture or is refused with its code. -/
def execAdcGctrlZcap (d : CDie) (s : State) : Out :=
  onCW d.val (own 0x110000) (gctrlWrite d.val 2) s

/-- R167. At a STANDBY entry the device starts a capture by itself. A device-state change already does so; this is the same
start for a die whose RDY_OFFS is still 0. -/
def execZcapAtStandby (d : CDie) (s : State) : Out :=
  onC d.val (fun s =>
    if s.dev == Dev.standby && !s.flag d.val F.HDR_RC_STATUS_RDY_OFFS && !s.convBusy d.val then zcapBegin d.val s else s) s

/-- R167. All gates of an axis have been off for 1 ms: its channels are captured too. -/
def execZcapDeferredStart (d : CDie) (a : Axis) (s : State) : Out :=
  onC d.val (fun s =>
    if s.flag d.val F.ADC_GSTAT_ZCAPBUSY && bit (s.c d.val).adc.zWait a.val && !s.axisGatesOn d.val a.val then
      let s := s.modAdc d.val (fun x => { x with zWait := setBit x.zWait a.val false })
      let s := if (s.c d.val).adc.zWait == 0 then s.put d.val F.ADC_GSTAT_CODE 0 else s
      zRoundBegin d.val (setBit (s.c d.val).adc.zRound a.val true) s
    else s) s

/-- The OFFSET register of a channel that the capture of die d covers now: its offset on a C die, and whether it is signed. A
channel of an axis with a gate on is not captured. -/
def zChannel (s : State) (d u c : Nat) : Option (Nat × Bool) :=
  let ax := s.zAxis d u c
  if !inRound (s.c d).adc.zRound ax || (ax != 0 && s.axisGatesOn d (ax - 1)) then none
  else if u < 4 then
    if c < 64 ∧ s.flag d (F.ADC_AG_ENT_ZCAP u c) then some ((F.ADC_AG_OFS_OFFSET u c).off, false) else none
  else if u < 10 ∧ c < 3 ∧ s.owns d (u - 4) then some ((F.ADC_SH_OFS_OFFSET (u - 4) c).off, true)
  else none

/-- A captured offset is written to the OFFSET register on both C dies if it lies within ±ZLIM of the libretto's value;
otherwise the group or the D die is marked (R167). -/
def zCapture (d u c : Nat) (v : Int) (s : State) : State :=
  match zChannel s d u c with
  | none => s
  | some (off, signed) =>
    let w := (Tab.read resetWord (s.c d).adc.zBase (regKey d off)).toNat % 65536
    let base := if signed then sx16 w else Int.ofNat w
    if absI (v - base) ≤ Int.ofNat (s.get d F.ADC_ZCAPCFG_ZLIM) then
      overN 2 (fun e s => if s.runs e then s.put e ⟨off, 15, 0⟩ (ux16 v) else s) s
    else
      let s := s.modAdc d (fun x => { x with zBad := true })
      if u < 4 then s.putBit d F.ADC_GSTAT_ZFAIL u true else s.putBit d F.ADC_GSTAT_DZFAIL (u - 4) true

/-- The channels captured now are done: their groups are released (R172, CALBUSY). -/
def zRoundEnd (d : Nat) (s : State) : State :=
  let s := s.modAdc d (fun x => { x with zRound := 0 })
  overN 4 (fun g s => if s.flag d F.ADC_GSTAT_CALBUSY then s else s.off d (F.ADC_AG_STAT_CALBUSY g)) s

/-- R167, R94. The channels captured now are done, with the offsets measured. A channel out of limit leaves RDY_OFFS at 0 and
writes a record; a capture that still waits for an axis goes on. -/
def execZcapDone (d : CDie) (caps : Captures) (s : State) : Out :=
  onC d.val (fun s =>
    if s.flag d.val F.ADC_GSTAT_ZCAPBUSY && (s.c d.val).adc.zRound != 0 then
      let s := zRoundEnd d.val (caps.foldl (fun s x => zCapture d.val x.1 x.2.1 x.2.2 s) s)
      if (s.c d.val).adc.zWait != 0 then s
      else
        let s := s.off d.val F.ADC_GSTAT_ZCAPBUSY
        if (s.c d.val).adc.zBad then
          note d.val Blk.adc 0x0072 2 0 (s.wd d.val F.ADC_GSTAT_CODE.off) 0 0 s
        else
          let s := (s.on d.val F.ADC_GSTAT_ZCAPDONE).modAdc d.val (fun x => { x with zOk := true })
          if decide (Dev.standby ≤ s.dev) && s.dev != Dev.recovery then readyItem d.val 0 s else s
    else s) s

end Sys2Proof.Machine
end

