-- ==== Sys2Proof/Machine/Fb.lean ====
section
/-! DEFINITION. Position and speed feedback (chapter 8): counting, the tracking observer, serial frames, the position
latch and the encoder emulators. -/

namespace Sys2Proof.Machine

/-! ### Commands -/

/-- A command at interface n of C die d: held in reset by SYS_BRST.FB, or with its clock stopped, it does nothing (R84). -/
def onFb (d n : Nat) (f : State → State) (s : State) : Out :=
  onC d (fun s => if s.bitOf d F.SYS_BRST_FB n || !s.bitOf d F.SYS_CLKGATE_FB n then s else f s) s

/-- R206. A write of FB_FBn_CTRL with EN = 1 (and the other fields as written): the interface starts, or CFGERR sets. -/
def execFbEnable (d : CDie) (n : Fin 4) (v : Word) (s : State) : Out :=
  onCW d.val (own (0x200000 + 0x1000 * n.val)) (onlyIf (!s.bitOf d.val F.SYS_BRST_FB n.val) (fbCtrlWrite d.val n.val (v ||| 1#32))) s

/-- R199. A latch trigger: the latch cue or a write of CTRL.LATCH (`index` false), or an index under ZLATCH. -/
def execPositionLatch (d : CDie) (n : Fin 4) (index : Bool) (s : State) : Out :=
  onFb d.val n.val (fun s =>
    if index then (if s.flag d.val (F.FB_FB_CFG_ZLATCH n.val) then posLatch d.val n.val 2 s else s)
    else latchCue d.val n.val (tkDisturb d.val (own (0x200000 + 0x1000 * n.val)) .debug s)) s

/-- R199. A read of FB_FBn_LSTAT returns it and clears NEW. -/
def execLatchStatusRead (d : CDie) (n : Fin 4) (s : State) : Out :=
  onC d.val (fun s =>
    (returnData d.val (s.reg d.val (F.FB_FB_LSTAT_SEQ n.val).off) s).off d.val (F.FB_FB_LSTAT_NEW n.val)) s

/-- A read of POSLO by a core, R200. -/
def posRead (d n core : Nat) (s : State) : State :=
  let s := if s.fbRun d n then fbShow d n s else s
  let now := (s.get d (F.FB_FB_POSHI n), s.get d (F.FB_FB_FRAC n), s.wd d (F.FB_FB_ANGLE_ELEC n).off,
    s.wd d (F.FB_FB_SPD_SPEED n).off)
  let s := s.modFb d n (fun x => { x with seen := x.seen.set core now })
  returnData d (s.reg d (F.FB_FB_POSLO n).off) s

/-- R200. A read of FB_FBn_POSLO stores POSHI, FRAC, ANGLE and SPD for the reading core. -/
def execPositionRead (d : CDie) (n : Fin 4) (m : Master) (s : State) : Out :=
  onC d.val (posRead d.val n.val m.coreIx) s

/-! ### Encoder and Hall inputs -/

/-- Levels that have stood at the inputs for `held` fabric cycles are accepted once that is FILT + 1 (R181); with VIO_B low they
read 0 (R53). -/
def levelsAt (d n held st : Nat) (s : State) : State :=
  if held ≤ s.get d (F.FB_FB_CFG_FILT n) then s else fbLevels d n (if (s.c d).sys.vioBLow then 0 else st) s

/-- R181, R180. The A and B levels have changed and stood for `held` fabric cycles: the count moves, or a double change sets
QERR. -/
def execEncoderEdge (d : CDie) (n : Fin 4) (a b : Bool) (held : BitVec 8) (s : State) : Out :=
  onFb d.val n.val (fun s =>
    levelsAt d.val n.val held.toNat (s.get d.val (F.FB_FB_STAT_HALL n.val) / 4 * 4 + b2n a + 2 * b2n b) s) s

/-- Z has risen and stood for `held` fabric cycles: in INCR an index is accepted, whatever level Z showed before. -/
def indexAt (d n held : Nat) (s : State) : State :=
  let ab := s.get d (F.FB_FB_STAT_HALL n) % 4
  if held ≤ s.get d (F.FB_FB_CFG_FILT n) || (s.c d).sys.vioBLow then s
  else fbLevels d n (4 + ab) (onlyIf (s.fbMode d n == Fbm.incr) (fun s => s.put d (F.FB_FB_STAT_HALL n) ab) s)

/-- R182, R204. An accepted rising edge of Z: ZIDX, the cue, the action of ZMODE and, with ZLATCH, a latch. -/
def execEncoderIndex (d : CDie) (n : Fin 4) (held : BitVec 8) (s : State) : Out :=
  onFb d.val n.val (indexAt d.val n.val held.toNat) s

/-- R183, R180. The levels Z·B·A have changed and stood for `held` fabric cycles. -/
def execHallStateChange (d : CDie) (n : Fin 4) (st : Fin 8) (held : BitVec 8) (s : State) : Out :=
  onFb d.val n.val (levelsAt d.val n.val held.toNat st.val) s

/-- R184. An excitation period starts when (stage time / 400) mod N is 0 while the excitation is on: a new N or AMP takes
effect. -/
def execExcitationPeriodStart (d : CDie) (n : Fin 4) (s : State) : Out := onFb d.val n.val (excPeriod d.val n.val) s

/-! ### Serial frames -/

/-- R188. A frame request with the data line at a level (`ready`: high). -/
def execSerialFrameRequest (d : CDie) (n : Fin 4) (ready : Bool) (s : State) : Out :=
  onFb d.val n.val (fun s =>
    if s.fbMode d.val n.val != Fbm.serial then s
    else
      let st := setBit (s.get d.val (F.FB_FB_STAT_HALL n.val)) 1 (ready && !(s.c d.val).sys.vioBLow)
      serialRequest d.val n.val (fbLevels d.val n.val st s)) s

/-- Gray code to binary over w bits. -/
def grayGo : Nat → Nat → Bool → Nat → Nat
  | 0, _, _, acc => acc
  | k + 1, g, prev, acc =>
    let b := bit g k != prev
    grayGo k g b (2 * acc + b2n b)
def fromGray (w g : Nat) : Nat := grayGo w g false 0

/-- The CRC of R189 over the n highest-first bits of v. -/
def serialCrc (w poly init xorout n v : Nat) : Nat :=
  if w = 0 then 0
  else ((bitsMsb n v).foldl (crcMsbBit w (poly % 2 ^ w)) (init % 2 ^ w)) ^^^ (xorout % 2 ^ w)

/-- The fabric cycles from the first falling clock edge of a frame to its check, R188, Table 8-5: the first rising edge after
half a period, the periods of the bits and of the wait for a start bit, DLY, and the 8 cycles of the check. -/
def State.frameCycles (s : State) (d n wait : Nat) : Nat :=
  let half := s.get d (F.FB_FB_SERCLK_CLKDIV n) + 1
  let bits := s.get d (F.FB_FB_SERFMT_STB n) + s.get d (F.FB_FB_SERFMT_MTB n) + s.get d (F.FB_FB_SERFMT_EB n) +
    s.get d (F.FB_FB_SERFMT_CRCW n)
  let tmo := s.get d (F.FB_FB_SERTIM_TMO n)
  let periods := if !s.flag d (F.FB_FB_SERFMT_START n) then bits else if wait < tmo then wait + 1 + bits else tmo
  half + 2 * half * periods + s.get d (F.FB_FB_SERCLK_DLY n) + 8

/-- A frame is complete: checked for start bit, CRC and error bits, and kept for the next update (R187, R189); `wait` clock
periods have passed before its start bit. -/
def serialDone (d n raw wait : Nat) (s : State) : State :=
  match (s.fb d n).frameAt with
  | none => s
  | some t =>
    if s.now d < t + s.frameCycles d n wait then s else
    let low := (s.c d).sys.vioBLow
    let s := s.modFb d n (fun x => { x with frameAt := none })
    let stb := s.get d (F.FB_FB_SERFMT_STB n)
    let mtb := s.get d (F.FB_FB_SERFMT_MTB n)
    let eb := s.get d (F.FB_FB_SERFMT_EB n)
    let crcw := s.get d (F.FB_FB_SERFMT_CRCW n)
    let raw := if low then 0 else raw % 2 ^ (stb + mtb + eb + crcw)
    let body := raw / 2 ^ crcw
    let crc := serialCrc crcw (s.get d (F.FB_FB_SERCRC_POLY n)) (s.get d (F.FB_FB_SERCRC_INIT n))
      (s.get d (F.FB_FB_SERCRC_XOROUT n)) (stb + mtb + eb) body
    let active := (List.range eb).any (fun j => bit body j == s.flag d (F.FB_FB_SERFMT_EPOL n))
    let drop := fun (s : State) => s.modFb d n (fun x => { x with bad := true })
    let badCrc := crc != raw % 2 ^ crcw
    if s.flag d (F.FB_FB_SERFMT_START n) && (low || s.get d (F.FB_FB_SERTIM_TMO n) ≤ wait) then drop (s.on d (F.FB_FB_EVT_TIMEOUT n))
    else if badCrc || active then
      drop (onlyIf active (fun s => s.on d (F.FB_FB_EVT_ERRBIT n)) (onlyIf badCrc (fun s => s.on d (F.FB_FB_EVT_CRCERR n)) s))
    else
      let st := body / 2 ^ eb % 2 ^ stb
      let mt := body / 2 ^ (eb + stb)
      let gray := s.flag d (F.FB_FB_SERFMT_GRAY n)
      let v := (if gray then fromGray mtb mt else mt) * 2 ^ stb + (if gray then fromGray stb st else st)
      let v := if s.flag d (F.FB_FB_CFG_DIRINV n) then (2 ^ (mtb + stb) - v) % 2 ^ (mtb + stb) else v
      let s := (s.put d (F.FB_FB_SERRAWLO n) (raw % 2 ^ 32)).put d (F.FB_FB_SERRAWHI n) (raw / 2 ^ 32)
      fireCue d (0x91 + 4 * n) (s.modFb d n (fun x => { x with frame := some (v, t) }))

/-- R189, R187, R204. A serial frame ends with its bits (the last bit in bit 0), after `wait` clock periods without a start
bit. -/
def execSerialFrameDone (d : CDie) (n : Fin 4) (raw : BitVec 64) (wait : Byte) (s : State) : Out :=
  onFb d.val n.val (serialDone d.val n.val raw.toNat wait.toNat) s

/-! ### Tracking observer -/

/-- A number wrapped to the shortest distance within a range (0: no range). -/
def wrapTo (range : Int) (z : Int) : Int :=
  if range ≤ 0 then z
  else
    let r := z % range
    if range < 2 * r then r - range else r

/-- The estimate of k half µs ago, with `now` the estimate of this update; before the start, the first one. -/
def FbC.estAgo (x : FbC) (now : Int) (k : Nat) : Int :=
  if k = 0 then now
  else
    let h := (x.hist.drop ((k + 1) / 2 - 1)).headD (x.hist.getLastD (now, 0))
    h.1 + (if k % 2 = 1 then rndDiv h.2 (65536 * 2000000) else 0)

/-- A sample of SIN and COS is multiplied by the delayed excitation reference, R185. -/
def demodulate (d n : Nat) (sin cos : Int) (s : State) : State :=
  let ref := (Config.excRef ((s.excPhase d n + 65536 - s.get d (F.FB_FB_EXCPH n)) % 65536)).toInt
  s.modFb d n (fun x => { x with prods := ((sin * ref, cos * ref) :: x.prods).take 500 })

/-- S² + C² and the measured angle of the last N products, once N have been taken, R185. -/
def State.resolverSums (s : State) (d n : Nat) : Option (Nat × Nat) :=
  let k := s.excSamples d n
  let w := (s.fb d n).prods.take k
  if k = 0 || w.length < k then none
  else
    let sn := (w.map (·.1)).foldl (· + ·) 0
    let cs := (w.map (·.2)).foldl (· + ·) 0
    some ((sn * sn + cs * cs).toNat, (Config.atan2 sn cs).toNat)

/-- A 14-bit converter code stands at an end of its range, R186. -/
def atEnd14 (c : BitVec 14) : Bool := c == 0x1FFF#14 || c == 0x2000#14

/-- The measurement of an update in 2^-16 counts, with the estimate it is compared with and its range: R178, R181, R185,
R187. None: no new measurement. -/
def State.measure (s : State) (d n : Nat) : Option (Int × Int × Int) :=
  let x := s.fb d n
  let now := s.fbPos d n
  let mode := s.fbMode d n
  if mode == Fbm.incr then
    let dt := s.now d - x.edgeAt
    let per := x.edgeAt - x.edgeBefore
    let frac := if per = 0 then 0 else min 65535 (dt * 65536 / per)
    let frac : Int := if x.omega.natAbs < 4294967296 * 1000000 then (if x.down then -Int.ofNat frac else Int.ofNat frac) else 0
    some (x.count * 65536 + frac, now, 0)
  else if mode == Fbm.hall then if x.hall == 0 then none else some (x.count * 65536, now, 0)
  else if mode == Fbm.resolver then
    (s.resolverSums d n).map (fun r =>
      let a := if s.flag d (F.FB_FB_CFG_DIRINV n) then (65536 - r.2) % 65536 else r.2
      (Int.ofNat a * 65536, x.estAgo now (s.excSamples d n), 65536 * 65536))
  else match x.frame with
    | none => none
    | some (v, t) =>
      let range := 2 ^ (s.get d (F.FB_FB_SERFMT_MTB n) + s.get d (F.FB_FB_SERFMT_STB n))
      let then_ := x.pos + rndDiv (x.omega * (Int.ofNat t - Int.ofNat x.at_)) (65536 * 400000000)
      some (Int.ofNat v * 65536, then_, range * 65536)

/-- The states after an update with error e, R191, with ωb = 2π × BW. -/
def observe (bw : Nat) (e : Int) (x : FbC) : FbC :=
  let wb := 2 * pi48 * Int.ofNat bw
  let k48 : Int := 2 ^ 48
  let alpha := x.alpha + rndDiv (wb * wb * wb * e * 65536) (k48 * k48 * k48 * 1000000)
  let omega := x.omega + rndDiv (3 * wb * wb * e * 65536) (k48 * k48 * 1000000) + rndDiv alpha 1000000
  let pos := x.pos + rndDiv (3 * wb * e) (k48 * 1000000) + rndDiv omega (65536 * 1000000)
  { x with alpha := alpha, omega := omega, pos := pos }

/-- A coasting update: alpha is held and the states extrapolate, R192. -/
def coast (x : FbC) : FbC :=
  let omega := x.omega + rndDiv x.alpha 1000000
  { x with omega := omega, pos := x.pos + rndDiv omega (65536 * 1000000) }

/-- An axis on interface n that rides through on the observer, R255: FBLOSS = 1, the observer has run for 100 ms and its
speed (destination 6) is above S2. -/
def State.canRide (s : State) (d a : Nat) : Bool :=
  let from_ := (s.axr d a).obsFrom
  s.flag d (F.FIELD_AX_CFG_FBLOSS a) && from_ != 0 && decide (from_ + counts100ms ≤ s.now d + 1) &&
    decide (s.geti d (F.FIELD_AX_HFI_S2 a) < Int.ofNat (absQ15 (s.fieldDst d a 6)))

/-- An axis switches to the observer until its next start, R255. -/
def rideOn (d a : Nat) (s : State) : State :=
  let s := (s.on d (F.FIELD_AX_EVT_ANGSW a)).put d (F.FIELD_AX_STAT_ANGSRC a) 1
  s.modAxr d a (fun x => { x with riding := true })

/-- The axes whose angle interface n loses: those that can ride through switch to the observer (R255). -/
def rideThrough (d n : Nat) (s : State) : State :=
  overN 6 (fun a s =>
    if s.axType d a != 0 && s.get d (F.FIELD_AX_ANG_SRC a) == 0 && s.get d (F.FIELD_AX_CFG_FB a) == n && s.canRide d a &&
        !(s.axr d a).riding then rideOn d a s
    else s) s

/-- An errored update, R194: counted; at ERRMAX in a row the interface faults. -/
def fbErrored (d n : Nat) (s : State) : State :=
  let s := s.count d (F.FB_FB_ERRCNT_TOTAL n) 1
  let s := s.count d (F.FB_FB_ERRCNT_CONSEC n) 1
  let s := fireCue d (0x92 + 4 * n) (s.on d (F.FB_FB_STAT_COAST n))
  let s := s.modFb d n (fun x => { x with good := 0 })
  if s.get d (F.FB_FB_ERRCNT_CONSEC n) == max 1 (s.get d (F.FB_FB_ERRMAX n)) then
    let s := (s.on d (F.FB_FB_EVT_FAULT n)).off d (F.FB_FB_STAT_VALID n)
    latchFault d Fg.fb n true (rideThrough d n s)
  else s

/-- An update without error, R194: VALID sets after 1,000 of them within LOTLIM while no fault is latched. -/
def fbClean (d n : Nat) (within : Bool) (s : State) : State :=
  let s := (s.put d (F.FB_FB_ERRCNT_CONSEC n) 0).off d (F.FB_FB_STAT_COAST n)
  let s := s.modFb d n (fun x => { x with good := if within then min 1000 (x.good + 1) else 0 })
  if 1000 ≤ (s.fb d n).good && !s.flag d (F.FB_FB_EVT_FAULT n) && !s.flag d (F.FB_FB_STAT_VALID n) then
    endActive d Fg.fb n (s.on d (F.FB_FB_STAT_VALID n))
  else s

/-- The direction bit of R197. -/
def fbDir (d n : Nat) (s : State) : State :=
  let v := s.fbSpeed d n
  let neg := s.flag d (F.FB_FB_STAT_DIR n)
  if neg && decide (32 < v) || !neg && decide (v < -32) then
    (s.put d (F.FB_FB_STAT_DIR n) (b2n !neg)).on d (F.FB_FB_EVT_DIRCHG n)
  else s

/-- The states of an update are in place: the outputs, the fabric sources' update counts and the cue follow. -/
def fbPublish (d n : Nat) (s : State) : State :=
  let s := s.modFb d n (fun x => { x with at_ := s.now d, hist := ((x.pos, x.omega) :: x.hist).take 256, frame := none, bad := false })
  let s := fbShow d n (fbLimits d n (fbDir d n s))
  let s := s.modLoop d (fun l =>
    { l with srcN := [0, 1, 2, 3, 4].foldl (fun t k => t.mod (0x240 + 8 * n + k) (· + 1)) l.srcN })
  fireCue d (0x90 + 4 * n) s

/-- A resolver's sample at an update, R185, R186: the products, AMP, LOS and DOS. The flag says that the update is errored. -/
def resolverSample (d n : Nat) (sin cos : BitVec 14) (s : State) : State × Bool :=
  let s := demodulate d n sin.toInt cos.toInt s
  let clip := atEnd14 sin || atEnd14 cos
  match s.resolverSums d n with
  | none => (onlyIf clip (fun s => s.on d (F.FB_FB_EVT_DOS n)) s, clip)
  | some (sq, _) =>
    let amp := (Config.resolverAmp sq (s.excSamples d n)).toNat
    let los := decide (amp < s.get d (F.FB_FB_AMPLIM_LOSLIM n))
    let dos := decide (s.get d (F.FB_FB_AMPLIM_DOSLIM n) < amp) || clip
    let s := s.put d (F.FB_FB_AMP n) amp
    (onlyIf dos (fun s => s.on d (F.FB_FB_EVT_DOS n)) (onlyIf los (fun s => s.on d (F.FB_FB_EVT_LOS n)) s), los || dos)

/-- |e| is beyond LOTLIM in electrical angle units, R192. -/
def State.beyondLot (s : State) (d n : Nat) (e : Int) : Bool :=
  decide (Int.ofNat (s.get d (F.FB_FB_OBS_LOTLIM n)) * Int.ofNat (max 1 (s.cpr d n)) <
    absI e * Int.ofNat (s.get d (F.FB_FB_CFG_POLEPAIRS n)))

/-- The first measurement becomes the observer's position, with speed and acceleration 0, R194; REF (R182). -/
def obsBegin (d n : Nat) (z : Int) (s : State) : State :=
  let s := s.modFb d n (fun x => { x with started := true, pos := z, omega := 0, alpha := 0, hist := [] })
  if s.fbMode d n == Fbm.incr then s else s.on d (F.FB_FB_STAT_REF n)

/-- The body of an update, R191 to R194, with `bad` for an error of the sensor or of VIO_B. -/
def obsUpdate (d n : Nat) (bad : Bool) (s : State) : State :=
  match (s.fb d n).started, s.measure d n with
  | false, none => if bad then fbErrored d n s else fbClean d n false s
  | false, some (z, _, _) => if bad then fbErrored d n s else fbClean d n true (obsBegin d n z s)
  | true, none =>
    let s := s.modFb d n (fun x => { coast x with beyond := false })
    if bad then fbErrored d n s else fbClean d n true s
  | true, some (z, est, range) =>
    let e := wrapTo range (z - est)
    let beyond := s.beyondLot d n e
    let lot := beyond && (s.fb d n).beyond
    let s := s.modFb d n (fun x => { x with beyond := beyond })
    let s := onlyIf lot (fun s => s.on d (F.FB_FB_EVT_LOT n)) s
    if bad || lot then fbErrored d n (s.modFb d n coast)
    else fbClean d n (!beyond) (s.modFb d n (observe (s.get d (F.FB_FB_OBS_BW n)) e))

/-- An update of the observer is due: the stage time is a multiple of 400 counts, R191, and this one is not made yet. -/
def State.updateDue (s : State) (d n : Nat) : Bool :=
  s.fbRun d n && s.now d % 400 == 0 && (s.fb d n).updAt != s.now d + 1

/-- One update of the observer, R191 to R194; `sin` and `cos` are the resolver's converter codes. -/
def observerUpdate (d n : Nat) (sin cos : BitVec 14) (s : State) : State :=
  if !s.updateDue d n then s
  else
    let s := s.modFb d n (fun x => { x with updAt := s.now d + 1 })
    let r := if s.fbMode d n == Fbm.resolver then resolverSample d n sin cos s else (s, false)
    fbPublish d n (obsUpdate d n (r.2 || (r.1.fb d n).bad || (r.1.c d).sys.vioBLow) r.1)

/-- R191 to R198, R178, R185, R186, R204, R255. One observer update, every 1 µs. -/
def execObserverUpdate (d : CDie) (n : Fin 4) (sin cos : BitVec 14) (s : State) : Out :=
  onFb d.val n.val (observerUpdate d.val n.val sin cos) s

/-- A write of FB_FBn_EVT: FAULT clears only with CONSEC at 0, R195; VALID then starts from 0 (R194). -/
def fbEvtWrite (d n : Nat) (v : Word) (s : State) : State :=
  let f := F.FB_FB_EVT_FAULT n
  if f.ofWord v == 1 && s.flag d f then
    if s.get d (F.FB_FB_ERRCNT_CONSEC n) != 0 then
      (plainWrite d f.off (f.into v 0) true s).on d (F.FB_FB_EVT_CLRREF n)
    else
      let s := plainWrite d f.off v true s
      let s := (s.off d (F.FB_FB_STAT_VALID n)).modFb d n (fun x => { x with good := 0 })
      endActive d Fg.fb n s
  else plainWrite d f.off v true s

/-- R195. A write of 1 to FB_FBn_EVT.FAULT. -/
def execFbFaultClear (d : CDie) (n : Fin 4) (s : State) : Out :=
  onCW d.val (own (0x200010 + 0x1000 * n.val)) (onlyIf (!s.bitOf d.val F.SYS_BRST_FB n.val) (fbEvtWrite d.val n.val (F.FB_FB_EVT_FAULT n.val).mask)) s

/-! ### Emulators -/

/-- R206, R201. A write of FB_EMUm_CTRL with EN = 1. -/
def execEmuEnable (d : CDie) (m : Fin 2) (v : Word) (s : State) : Out :=
  onCW d.val (own (0x208000 + 0x100 * m.val)) (emuCtrlWrite d.val m.val (v ||| 1#32)) s

/-- One opportunity of an emulator to step, R202, R203. -/
def emuStep (d m : Nat) (s : State) : State :=
  if !s.flag d (F.FB_EMU_STAT_RUN m) then s
  else if !s.flag d (F.FB_FB_STAT_VALID (s.get d (F.FB_EMU_CTRL_SRC m))) then s.on d (F.FB_EMU_EVT_SRCFAULT m)
  else
    let t := s.emuTarget d m
    let x := s.emu d m
    let back := t - x.off - x.count
    let kept := clampI (-255) 255 back
    let s := onlyIf (decide (kept ≠ back)) (fun s => s.on d (F.FB_EMU_EVT_OVF m)) s
    let s := s.modEmu d m (fun x => { x with off := x.off + (back - kept) })
    let may := decide (x.edgeAt + 40 ≤ s.now d) && decide (kept ≠ 0)
    let s := if may then
        s.modEmu d m (fun x => { x with count := x.count + (if kept < 0 then -1 else 1), edgeAt := s.now d })
      else s
    let left := if may then (absI kept).toNat - 1 else (absI kept).toNat
    emuPins d m (s.put d (F.FB_EMU_STAT_BACKLOG m) left)

/-- R202, R201, R203. The emulator steps its output count one toward the target. -/
def execEmuStep (d : CDie) (m : Fin 2) (s : State) : Out := onC d.val (emuStep d.val m.val) s

/-! ### Software writes -/

/-- A software write of a register of interface n at an offset of its map, R206, R207. -/
def fbWrite (d n o : Nat) (v : Word) (s : State) : State :=
  let off := 0x200000 + 0x1000 * n + o
  if s.bitOf d F.SYS_BRST_FB n then s
  else if o == 0 then fbCtrlWrite d n v s
  else if o == 0x10 then fbEvtWrite d n v s
  else if o == 0x18 && !bwOk ((F.FB_FB_OBS_BW n).ofWord v) then
    (plainWrite d off ((F.FB_FB_OBS_BW n).into v (s.get d (F.FB_FB_OBS_BW n))) true s).on d (F.FB_FB_EVT_WRREF n)
  else plainWrite d off v (!s.fbRun d n) s

/-- A software write of a register of emulator m. -/
def emuWrite (d m o : Nat) (v : Word) (s : State) : State :=
  if o == 0 then emuCtrlWrite d m v s
  else plainWrite d (0x208000 + 0x100 * m + o) v (!s.flag d (F.FB_EMU_STAT_RUN m)) s

/-- SYS_BRST.FB bit n, R84: the interface is reset, its excitation off. -/
def fbReset (d n : Nat) (s : State) : State :=
  let lo := regKey d (0x200000 + 0x1000 * n)
  let s := { s with regs := s.regs.filter (fun e => decide (e.1 < lo) || decide (lo + 0x1000 ≤ e.1)) }
  endActive d Fg.fb n (s.modFb d n (fun _ => default))

end Sys2Proof.Machine
end

