-- ==== Sys2Proof/Machine/FieldCalc.lean ====
section
/-! DEFINITION. What FIELD computes (chapter 10): the angle of an axis, the energy path, the energy limit and the battery
factor, and the references formed at a store of a request (R246 to R253, R268 to R271); with the tracking presets of the
loop engines, which it shares with the weirs (R227, R249). -/

namespace Sys2Proof.Machine

/-! ### Engines' presets -/

/-- A pending preset of engine n for a state slot, clamped (R227); a later one replaces it. -/
def setPreset (d n sl : Nat) (z : Int) (s : State) : State :=
  let v := s.clampSlot d n sl z
  s.modEng d n (fun x => { x with presets := x.presets.set sl (some v) })

/-- A pending preset cancelled. -/
def cancelPreset (d n sl : Nat) (s : State) : State :=
  s.modEng d n (fun x => { x with presets := x.presets.set sl none })

/-! ### Axis status -/

/-- Another axis gives axis a an energy path, R246. -/
def State.epath (s : State) (d a : Nat) : Bool :=
  (List.range 6).any (fun b => b != a && (s.axType d b == 4 || s.axType d b == 5) &&
    s.get d (F.FIELD_AX_CFG_BUS b) == s.get d (F.FIELD_AX_CFG_BUS a) && s.get d F.LIB_AXST / 16 ^ b % 16 == 1 &&
    !s.inCurtain d b && !(s.axCurt d b).chopFault)

/-- The factor f of a bus, R270: 0x7FFF stands for 1. -/
def State.busFactor (s : State) (d b : Nat) : Nat :=
  if s.flag d (F.FIELD_BUS_BCFG_EN b) then s.get d (F.FIELD_BUS_BST2_FACTOR b) else 0x7FFF

/-- A factor of ELIM.MAX. -/
def State.elimOf (s : State) (d a f : Nat) : Int :=
  let m := s.geti d (F.FIELD_AX_ELIM_MAX a)
  if f = 0x7FFF then m else floorDiv (m * Int.ofNat f) 32768

/-- The bus that a DCDC axis reads its factor from: the battery bus among BUS and PORT, the lower where both are. -/
def State.dcdcFactor (s : State) (d a : Nat) : Nat :=
  min (s.busFactor d (s.get d (F.FIELD_AX_CFG_BUS a))) (s.busFactor d (s.get d (F.FIELD_AX_CFG_PORT a)))

/-- REVERSING without an energy path: FIELD holds source 6 at 0 until the speed is below REVTH, R266. -/
def State.regenHeld (s : State) (d a : Nat) : Bool :=
  s.phase d a == Ph.reversing && !s.epath d a && decide (s.get d (F.FIELD_AX_REV_REVTH a) ≤ absQ15 (s.speed d a))

/-- Source 6, the energy limit: R271, held at 0 by R266 and R268. -/
def State.elim (s : State) (d a : Nat) : Int :=
  if s.flag d (F.FIELD_AX_STAT_WATCH a) || s.regenHeld d a then 0
  else
    let ty := s.axType d a
    if ty == 5 then s.geti d (F.FIELD_AX_ELIM_MAX a)
    else s.elimOf d a (if ty == 4 then s.dcdcFactor d a else s.busFactor d (s.get d (F.FIELD_AX_CFG_BUS a)))

/-- The weight of R253 as (numerator, denominator), clamped from 0 to 1. -/
def State.hfiWeight (s : State) (d a : Nat) : Int × Int :=
  let s1 := s.geti d (F.FIELD_AX_HFI_S1 a)
  let s2 := s.geti d (F.FIELD_AX_HFI_S2 a)
  let v := Int.ofNat (absQ15 (s.fieldDst d a 6))
  if s2 ≤ s1 then (if v < s1 then (0, 1) else (1, 1)) else (clampI 0 (s2 - s1) (v - s1), s2 - s1)

/-- The source of source 0 in use, Table 10-4; in ALIGN the angle 0 of METHOD DCINJ or the HFI angle (R256). -/
def State.angSrc (s : State) (d a : Nat) : Nat :=
  if s.phase d a == Ph.align then (if s.get d (F.FIELD_AX_ALIGN_METHOD a) == 1 then 6 else 2)
  else if (s.axr d a).onCatch then 5
  else match s.get d (F.FIELD_AX_ANG_SRC a) with
    | 0 => if (s.axr d a).riding then 1 else 0
    | 1 => 1
    | 2 =>
      let w := s.hfiWeight d a
      if w.1 = 0 then 2 else if w.1 = w.2 then 1 else 3
    | 3 => 4
    | _ => 6

/-- Electrical angle run in a number of fabric counts at a speed in Q15 of SPDFS. -/
def State.angleRun (s : State) (d a : Nat) (spd : Int) (counts : Nat) : Int :=
  floorDiv (spd * Int.ofNat (s.get d (F.FIELD_AX_SCALE_SPDFS a) * s.get d (F.FIELD_AX_SCALE_POLEPAIRS a) * 65536 * counts))
    (32768 * 60 * 400000000)

/-- The observer's angle, destination 5 extrapolated with destination 6. -/
def State.obsAngle (s : State) (d a : Nat) : Int :=
  s.fieldDst d a 5 + s.angleRun d a (s.fieldDst d a 6) (s.now d - (s.c d).loop.dstT.at (0x135 + 8 * a))

/-- The HFI angle, with the polarity of R254. -/
def State.hfiAngle (s : State) (d a : Nat) : Int := s.fieldDst d a 7 + (if (s.axr d a).flip then 32768 else 0)

/-- The grid angle of R258, run on at the measured frequency (0.01 Hz). -/
def State.gridAngle (s : State) (d a : Nat) : Int :=
  let x := s.axr d a
  Int.ofNat x.gridAng + floorDiv (Int.ofNat (s.get d (F.FIELD_AX_GRIDST_FREQ a) * 65536 * (s.now d - x.gridAt))) (100 * 400000000)

/-- Source 0 of an axis in this fabric cycle: the electrical angle of the source in use, 16 bits (R252, R253, R264). -/
def State.fieldAngle (s : State) (d a : Nat) : Nat :=
  uxN 16 (match s.angSrc d a with
    | 0 => Int.ofNat (s.fbElec d (s.get d (F.FIELD_AX_CFG_FB a)))
    | 1 => s.obsAngle d a
    | 2 => s.hfiAngle d a
    | 3 =>
      let w := s.hfiWeight d a
      let h := s.hfiAngle d a
      h + rndDiv (w.1 * sx16 (uxN 16 (s.obsAngle d a - h))) w.2
    | 4 => s.gridAngle d a
    | 5 => Int.ofNat (s.get d (F.FIELD_AX_CATCHST_ANGLE a)) +
        s.angleRun d a (s.geti d (F.FIELD_AX_CATCHST_SPEED a)) (s.now d - (s.axr d a).caughtAt)
    | _ => 0)

/-- The status bits that follow every fabric cycle: EPATH, ANGSRC, DIR (with the hysteresis of R197), ELIMACT and
TOUT.ELIM. -/
def fieldStatus (d a : Nat) (s : State) : State :=
  let v := s.speed d a
  let neg := s.flag d (F.FIELD_AX_STAT_DIR a)
  let s := s.put d (F.FIELD_AX_STAT_DIR a) (b2n (if neg then !decide (32 < v) else decide (v < -32)))
  let s := s.put d (F.FIELD_AX_STAT_EPATH a) (b2n (s.epath d a))
  let s := s.put d (F.FIELD_AX_STAT_ANGSRC a) (s.angSrc d a)
  let s := s.put d (F.FIELD_AX_STAT_ELIMACT a) (b2n (decide (s.elim d a < s.geti d (F.FIELD_AX_ELIM_MAX a))))
  s.puti d (F.FIELD_AX_TOUT_ELIM a) (s.elim d a)

/-! ### References -/

/-- A table point read by index. -/
abbrev Points := Nat → Int

/-- Linear interpolation between points 1,024 apart, rounded to nearest; `last` is where the last point stands (R250). -/
def interp (p : Points) (last x : Nat) : Int :=
  let i := min (x / 1024) 31
  let x0 := 1024 * i
  let x1 := if i = 31 then last else x0 + 1024
  rndDiv (p i * Int.ofNat (x1 - x0) + (p (i + 1) - p i) * Int.ofNat (x - x0)) (Int.ofNat (x1 - x0))

/-- The VDC of the bus of an axis, as FIELD source 4 carries it. -/
def State.axVdc (s : State) (d a : Nat) : Int := s.geti d (F.DISCH_BUS_STAT_VDC (s.get d (F.FIELD_AX_CFG_BUS a)))

/-- The references of a motor axis from |T| and its speed, R250: id*, iq* and whether the current limit acts. -/
def State.motorRefs (s : State) (d a : Nat) (t : Int) : Int × Int × Bool :=
  let mag := absQ15 t
  let idm := interp (fun i => s.geti d (F.FIELD_AX_MTPA_ID a i)) 32767 mag
  let iqm := interp (fun i => s.geti d (F.FIELD_AX_MTPA_IQ a i)) 32767 mag
  let vdc := (max (s.axVdc d a) 1024).toNat
  let x := min 32767 (absQ15 (s.speed d a) * s.get d (F.FIELD_AX_FW_VNOM a) / vdc)
  let idf := interp (fun i => s.geti d (F.FIELD_AX_FWT_ID a i)) 32768 x
  let id := clampI (s.geti d (F.FIELD_AX_ILIM_IDMIN a)) 0 (min idm idf + min (s.fieldDst d a 4) 0)
  let imax := s.get d (F.FIELD_AX_ILIM_IMAX a)
  let room := Int.ofNat (isqrt ((Int.ofNat (imax * imax) - id * id).toNat))
  let iq := min iqm room
  (id, if t < 0 then -iq else if t = 0 then 0 else iq, decide (room < iqm))

/-- The references of a LINE3 axis: |i| ≤ IMAX with id* first, R251. -/
def State.lineRefs (s : State) (d a : Nat) (t : Int) : Int × Int × Bool :=
  let imax := s.get d (F.FIELD_AX_ILIM_IMAX a)
  let q := s.geti d (F.FIELD_AX_TSET_Q a)
  let id := clampI (-Int.ofNat imax) (Int.ofNat imax) t
  let room := Int.ofNat (isqrt ((Int.ofNat (imax * imax) - id * id).toNat))
  let iq := clampI (-room) room q
  (id, iq, decide (id ≠ t) || decide (iq ≠ q))

/-- The limit of the quadrant of a request, R248, R271. -/
def State.quadLimit (s : State) (d a : Nat) (t : Int) : Int :=
  let mot := s.fieldDst d a 2
  let reg := s.fieldDst d a 3
  let held := s.flag d (F.FIELD_AX_STAT_WATCH a) || s.regenHeld d a
  let fed := fun b => if held then 0 else s.elimOf d a (s.busFactor d b)
  match s.axType d a with
  | 3 => if 0 < t then min reg (s.elim d a) else mot
  | 4 =>
    if 0 < t then
      let port := s.get d (F.FIELD_AX_CFG_PORT a)
      if s.flag d (F.FIELD_BUS_BCFG_EN port) then min mot (fed port) else mot
    else min reg (fed (s.get d (F.FIELD_AX_CFG_BUS a)))
  | _ =>
    let v := s.speed d a
    let sg : Int := if v = 0 then 0 else if s.flag d (F.FIELD_AX_STAT_DIR a) then -1 else 1
    if t * sg < 0 then min reg (s.elim d a) else mot

/-- A fabric source takes a value at a stage time to come. -/
def srcLater (d due ix v : Nat) (s : State) : State := s.modLoop d (fun l => { l with srcDue := l.srcDue ++ [(due, ix, v)] })

/-- A value reaches a fabric source; FIELD_AXa_OUT shows sources 2 and 3 (Table 10-10). -/
def srcShow (d : Nat) (e : Nat × Nat × Nat) (s : State) : State :=
  let a := (e.2.1 - 0x2D0) / 8
  let field := decide (0x2D0 ≤ e.2.1) && decide (e.2.1 < 0x300)
  let s := if field && e.2.1 % 8 == 2 then s.put d (F.FIELD_AX_OUT_ID a) e.2.2
    else if field && e.2.1 % 8 == 3 then s.put d (F.FIELD_AX_OUT_IQ a) e.2.2 else s
  srcSet d e.2.1 e.2.2 s

/-- The d-axis current alone, as ALIGN and a winding discharge regulate it (R256, R368): nothing earlier is still on its way. -/
def dCurrent (d a : Nat) (z : Int) (s : State) : State :=
  let own := fun (e : Nat × Nat × Nat) => e.2.1 == 0x2D2 + 8 * a || e.2.1 == 0x2D3 + 8 * a
  let s := s.modLoop d (fun l => { l with srcDue := l.srcDue.filter (fun e => !own e) })
  srcShow d (0, 0x2D3 + 8 * a, 0) (srcShow d (0, 0x2D2 + 8 * a, ux16 z) s)

/-- A store to TREQ_Y, R248 to R251: the applied request T, the tracking preset of SPDTRK, and the references, which read
as sources 2 and 3 two fabric cycles later (R247). In ALIGN the references are the alignment current alone (R256), in a winding
discharge WIND.ID alone (R368). -/
def fieldRequest (d a : Nat) (s : State) : State :=
  let s := fieldStatus d a s
  let ty := s.axType d a
  if ty == 0 || ty == 5 then s
  else if s.phase d a == Ph.align || s.winding d a then s
  else
    let asked := s.fieldDst d a 1
    let want := if s.flag d (F.FIELD_AX_CFG_CTRL a) then s.geti d (F.FIELD_AX_TSET_VALUE a) else asked
    let want := match (s.axr d a).stopT with
      | some v => floorDiv v 2560
      | none => want
    let lim := max 0 (s.quadLimit d a want)
    let t := clampI (-lim) lim want
    let s := if s.flag d (F.FIELD_AX_SPDTRK_EN a) then
        let n := s.get d (F.FIELD_AX_SPDTRK_ENG a)
        let sl := s.get d (F.FIELD_AX_SPDTRK_SLOT a)
        if t ≠ asked then setPreset d n sl ((t - s.fieldDst d a 0) * 32768) s else cancelPreset d n sl s
      else s
    let r := match ty with
      | 3 => s.lineRefs d a t
      | 4 =>
        let legs := Int.ofNat (max 1 (s.get d (F.FIELD_AX_CFG_NLEG a)))
        ((if t < 0 then -(-t / legs) else t / legs), 0, false)
      | _ => s.motorRefs d a t
    let s := s.put d (F.FIELD_AX_STAT_TCLAMP a) (b2n (decide (t ≠ want) || r.2.2))
    let s := s.puti d (F.FIELD_AX_TOUT_T a) t
    srcLater d (s.now d + 2) (0x2D3 + 8 * a) (ux16 r.2.1) (srcLater d (s.now d + 2) (0x2D2 + 8 * a) (ux16 r.1) s)

/-- ALIGN runs a polarity test after its TIME ms: with SRC = HFI_OBS (R254) or METHOD = HFI (Table 10-5). -/
def State.polTests (s : State) (d a : Nat) : Bool :=
  s.get d (F.FIELD_AX_ANG_SRC a) == 2 || s.get d (F.FIELD_AX_ALIGN_METHOD a) == 2

/-- Fabric counts of the TIME ms of ALIGN. -/
def State.alignTime (s : State) (d a : Nat) : Nat := s.get d (F.FIELD_AX_ALIGN_TIME a) * 400000

/-- The pulse of the polarity test that runs: 1 positive, 2 negative, 3 both over; 0 not yet (R254; log entry 24). -/
def State.polPulse (s : State) (d a : Nat) : Nat :=
  let x := s.axr d a
  if s.phase d a != Ph.align || x.alignAt == 0 || !s.polTests d a then 0
  else
    let t := s.now d + 1 - x.alignAt
    if t < s.alignTime d a then 0
    else if t < s.alignTime d a + 400000 then 1
    else if t < s.alignTime d a + 800000 then 2
    else 3

/-- The d-axis current of ALIGN: CUR along θ = 0 under DCINJ, ±CUR in the pulses of the polarity test, 0 otherwise (R254,
R256). -/
def State.alignCur (s : State) (d a : Nat) : Int :=
  let cur := s.geti d (F.FIELD_AX_ALIGN_CUR a)
  match s.polPulse d a with
  | 1 => cur
  | 2 => satQ15 (-cur)
  | 3 => 0
  | _ => if s.get d (F.FIELD_AX_ALIGN_METHOD a) == 1 then cur else 0

/-- During a pulse of the polarity test, destination 7 brings the ripple amplitude instead of an angle (R254). -/
def ripple (d a v : Nat) (s : State) : State :=
  s.modAxr d a (fun x => if s.polPulse d a == 1 then { x with ripPos := some v } else { x with ripNeg := some v })

/-- A store to FIELD destination k of an axis, Table 10-2. -/
def fieldStore (d a k v : Nat) (s : State) : State :=
  if k == 7 && (s.polPulse d a == 1 || s.polPulse d a == 2) then ripple d a (v % 65536) s else
  let s := s.modLoop d (fun l =>
    { l with dstV := l.dstV.set (0x130 + 8 * a + k) (v % 65536 + 1), dstT := l.dstT.set (0x130 + 8 * a + k) (s.now d) })
  let s := if k == 6 && (s.axr d a).obsFrom == 0 then s.modAxr d a (fun x => { x with obsFrom := s.now d + 1 }) else s
  if k == 1 then fieldRequest d a s
  else if 5 ≤ k then fieldStatus d a s
  else s

/-! ### Bus voltage and battery temperature -/

/-- The VDC of a bus has a new result: sources 4 and 5 of its axes, and the watch of R268. -/
def fieldVdc (d b : Nat) (s : State) : State :=
  overN 6 (fun a s =>
    if s.get d (F.FIELD_AX_CFG_BUS a) == b && s.axType d a != 0 then
      let v := s.axVdc d a
      let s := srcSet d (0x2D4 + 8 * a) (ux16 v) s
      let s := srcSet d (0x2D5 + 8 * a) (ux16 (satQ15 (rndDiv (s.geti d (F.FIELD_AX_FW_MODLIM a) * v) 32768))) s
      let w := s.geti d (F.FIELD_AX_WATCH_VWATCH a)
      let h := Int.ofNat (s.get d (F.FIELD_AX_WATCH_VHYS a))
      let s := if w = 32767 then s.off d (F.FIELD_AX_STAT_WATCH a)
        else if w ≤ v then s.on d (F.FIELD_AX_STAT_WATCH a)
        else if v < w - h then s.off d (F.FIELD_AX_STAT_WATCH a)
        else s
      fieldStatus d a s
    else s) s

/-- The factor f of R270 for a temperature: 0x7FFF for 1. -/
def State.battFactor (s : State) (d b : Nat) (t : Int) (stale : Bool) : Nat :=
  let lo := s.geti d (F.FIELD_BUS_BATT_TMIN b)
  let hi := s.geti d (F.FIELD_BUS_BATT_TMAX b)
  let band := Int.ofNat (128 * s.get d (F.FIELD_BUS_BCFG_BAND b))
  if stale || t < lo || hi < t then 0
  else
    let f := fun (x : Int) => if band ≤ x then 32767 else min 32767 (rndDiv (x * 32768) (max 1 band))
    (min (f (t - lo)) (f (hi - t))).toNat

/-- FIELD_BUSb_BST and BST2 after a change of temperature, settings or staleness. -/
def battRefresh (d b : Nat) (s : State) : State :=
  let t := s.geti d (F.FIELD_BUS_BST_TEMP b)
  let s := s.put d (F.FIELD_BUS_BST2_FACTOR b) (s.battFactor d b t (s.flag d (F.FIELD_BUS_BST_STALE b)))
  overN 6 (fun a s => fieldStatus d a s) s

/-- A new battery temperature of a bus, R269. -/
def battTemp (d b v : Nat) (s : State) : State :=
  let s := s.modLoop d (fun l => { l with battAt := l.battAt.set b (s.now d + 1) })
  battRefresh d b ((s.put d (F.FIELD_BUS_BST_TEMP b) v).off d (F.FIELD_BUS_BST_STALE b))

/-- A store to channel c is the temperature of every battery bus that names it. -/
def battChannel (d c v : Nat) (s : State) : State :=
  overN 3 (fun b s =>
    if s.flag d (F.FIELD_BUS_BCFG_EN b) && !s.flag d (F.FIELD_BUS_BCFG_SRC b) && s.get d (F.FIELD_BUS_BCFG_CH b) == c then
      battTemp d b v s
    else s) s

end Sys2Proof.Machine
end

