-- ==== Sys2Proof/Machine/Weir.lean ====
section
/-! DEFINITION. Weirs, channels and the other fabric destinations (chapter 9: R217, R218, R223 to R231, R283). -/

namespace Sys2Proof.Machine

/-! ### Sources -/

/-- The value of a fabric source in this fabric cycle, 16 bits. -/
def State.srcVal (s : State) (d ix : Nat) : Nat :=
  if ix < 0x100 then s.get d (F.LOOP_CH_VAL_VALUE ix)
  else if 0x240 ≤ ix && ix < 0x260 then s.fbSource d ((ix - 0x240) / 8) (ix % 8)
  else if 0x260 ≤ ix && ix < 0x280 then s.get d (F.LOOP_SP (ix - 0x260))
  else if 0x280 ≤ ix && ix < 0x2C0 && (s.c d).loop.srcN.at ix == 0 then 0x7FFF
  else if ix == 0x2C1 then 0x7FFF
  else if 0x2D0 ≤ ix && ix < 0x300 then
    let a := (ix - 0x2D0) / 8
    match ix % 8 with
    | 0 => s.fieldAngle d a
    | 1 => ux16 (s.speed d a)
    | 6 => ux16 (s.elim d a)
    | _ => (s.c d).loop.srcV.at ix
  else (s.c d).loop.srcV.at ix

/-- The update count of a fabric source, R218: FIELD sources 0, 1 and 6 update on every fabric cycle (R247). -/
def State.srcCount (s : State) (d ix : Nat) : Nat :=
  if ix < 0x100 then s.get d (F.LOOP_CH_VAL_SEQ ix)
  else if 0x2D0 ≤ ix && ix < 0x300 && (ix % 8 == 0 || ix % 8 == 1 || ix % 8 == 6) then s.now d + 1
  else (s.c d).loop.srcN.at ix

/-- A source that a register shows has a new value: its update count rises. -/
def srcTouch (d ix : Nat) (s : State) : State := s.modLoop d (fun l => { l with srcN := l.srcN.mod ix (· + 1) })

/-! ### Weirs -/

/-- Input j of weir w is enabled. -/
def State.weirIn (s : State) (d w j : Nat) : Bool := s.bitOf d (F.LOOP_WR_CFG_INEN w) j

/-- The value input j of weir w takes part with, R229. -/
def State.weirY (s : State) (d w j : Nat) : Int :=
  if (s.c d).loop.weirStale.at (4 * w + j) then s.geti d (F.LOOP_WR_IN_FB_FALLBACK w j) else s.geti d (F.LOOP_WR_IN_VAL_Y w j)

/-- The winner of a weir: the lowest Y among the enabled inputs, of equal ones the lowest index (R226). -/
def State.weirWin (s : State) (d w : Nat) : Option Nat :=
  ((List.range 4).filter (fun j => s.weirIn d w j)).foldl (fun acc j =>
    match acc with
    | none => some j
    | some i => if s.weirY d w j < s.weirY d w i then some j else some i) none

/-- The weir's manual station acts: MANEN is 1, or its end has not taken effect yet (R231). -/
def State.weirManual (s : State) (d w : Nat) : Bool :=
  s.flag d (F.LOOP_WR_CFG_MANEN w) || s.flag d (F.LOOP_WR_OUT_MANUAL w)

/-- The value that a weir's path tracks from below, R228: the output of the first weir at which the path loses, over at
most four levels. -/
def State.trackDown (s : State) (d : Nat) : Nat → Nat → Option Int
  | 0, _ => none
  | fuel + 1, w =>
    if !s.flag d (F.LOOP_WR_CFG_DOWNEN w) then none
    else
      let v := s.get d (F.LOOP_WR_CFG_DWEIR w)
      if s.weirManual d v || s.weirWin d v != some (s.get d (F.LOOP_WR_CFG_DIN w)) then
        some (s.geti d (F.LOOP_WR_OUT_VALUE v))
      else s.trackDown d fuel v

/-- The path of weir w runs through weir v. -/
def State.pathHas (s : State) (d v : Nat) : Nat → Nat → Bool
  | 0, _ => false
  | fuel + 1, w =>
    s.flag d (F.LOOP_WR_CFG_DOWNEN w) && (s.get d (F.LOOP_WR_CFG_DWEIR w) == v || s.pathHas d v fuel (s.get d (F.LOOP_WR_CFG_DWEIR w)))

/-- The tracking presets of a weir, R227, R228, R230. -/
def weirTrack (d w : Nat) (s : State) : State :=
  let down := s.trackDown d 4 w
  let win := s.weirWin d w
  let all := down.isSome || s.weirManual d w
  let out := s.geti d (F.LOOP_WR_OUT_VALUE w)
  let y := if s.weirManual d w then out else down.getD out
  let s := s.put d (F.LOOP_WR_OUT_TRKDOWN w) (b2n down.isSome)
  overN 4 (fun j s =>
    if s.weirIn d w j && s.flag d (F.LOOP_WR_IN_CFG_TRK w j) then
      let n := s.get d (F.LOOP_WR_IN_CFG_ENG w j)
      let sl := s.get d (F.LOOP_WR_IN_CFG_SLOT w j)
      if !all && win == some j then cancelPreset d n sl s
      else setPreset d n sl ((y - s.geti d (F.LOOP_WR_IN_VAL_P w j)) * 32768) s
    else s) s

/-- Weir w evaluates in the next fabric cycle, R226. -/
def weirLater (d w : Nat) (s : State) : State := s.modLoop d (fun l => { l with weirDue := l.weirDue.filter (· != w) ++ [w] })

/-- An evaluation of a weir, R226 to R230: the output (a fabric source in the next cycle), the winner, the presets of the
weir and of the weirs above it. -/
def weirEval (d w : Nat) (s : State) : State :=
  if !s.flag d (F.LOOP_WR_CFG_EN w) then s
  else
    let win := s.weirWin d w
    let man := s.flag d (F.LOOP_WR_CFG_MANEN w)
    let out := if man then s.geti d (F.LOOP_WR_MAN_VALUE w) else (win.map (s.weirY d w)).getD 32767
    let sel := win.getD 0
    let s := if win.isSome && s.get d (F.LOOP_WR_OUT_SEL w) != sel then statWeir d w (s.on d (F.LOOP_WR_EVT_SELCHG w)) else s
    let s := (s.puti d (F.LOOP_WR_OUT_VALUE w) out).put d (F.LOOP_WR_OUT_SEL w) sel
    let s := (s.put d (F.LOOP_WR_OUT_EMPTY w) (b2n win.isNone)).put d (F.LOOP_WR_OUT_MANUAL w) (b2n man)
    let s := srcLater d (s.now d + 1) (0x280 + w) (ux16 out) (weirTrack d w s)
    overN 64 (fun u s =>
      if u != w && s.flag d (F.LOOP_WR_CFG_EN u) && s.pathHas d w 4 u then weirTrack d u s else s) s

/-- A store of Y to input j of weir w ends a stale condition (R229); an enabled input's weir evaluates in the next cycle. -/
def weirStoreY (d w j v : Nat) (s : State) : State :=
  let s := s.put d (F.LOOP_WR_IN_VAL_Y w j) v
  let was := (s.c d).loop.weirStale.at (4 * w + j)
  let s := s.modLoop d (fun l =>
    { l with weirAt := l.weirAt.set (4 * w + j) (s.now d), weirStale := l.weirStale.set (4 * w + j) false })
  let s := if was && (List.range 4).all (fun i => !(s.c d).loop.weirStale.at (4 * w + i)) then
      endActive d Fg.weirStale w s else s
  if s.weirIn d w j then weirLater d w s else s

/-- Input j of weir w has had no Y for STALE µs, R229. -/
def State.staleDue (s : State) (d w j : Nat) : Bool :=
  let us := s.get d (F.LOOP_WR_IN_CFG_STALE w j)
  s.flag d (F.LOOP_WR_CFG_EN w) && s.weirIn d w j && us != 0 && !(s.c d).loop.weirStale.at (4 * w + j) &&
    decide ((s.c d).loop.weirAt.at (4 * w + j) + 400 * us ≤ s.now d)

/-- An input becomes stale, R229: the weir evaluates in the next cycle. -/
def weirStaleAt (d w j : Nat) (s : State) : State :=
  if s.staleDue d w j then
    let s := s.modLoop d (fun l => { l with weirStale := l.weirStale.set (4 * w + j) true })
    weirLater d w (latchFault d Fg.weirStale w true (s.on d (F.LOOP_WR_EVT_STALE w)))
  else s

/-- The inputs of an enabled weir that become stale in this fabric cycle. -/
def weirWatch (d w : Nat) (s : State) : State :=
  if s.flag d (F.LOOP_WR_CFG_EN w) then overN 4 (weirStaleAt d w) s else s

/-- The manual station takes over, R230: its value is the output at once. -/
def weirMan (d w : Nat) (s : State) : State :=
  let v := s.get d (F.LOOP_WR_MAN_VALUE w)
  srcLater d (s.now d + 1) (0x280 + w) v ((s.put d (F.LOOP_WR_OUT_VALUE w) v).on d (F.LOOP_WR_OUT_MANUAL w))

/-- A write of LOOP_WRw_CFG: EN is refused while it would complete a broken tree; MANEN takes effect at the next
evaluation (R228, R231). -/
def weirCfgWrite (d w : Nat) (v : Word) (s : State) : State :=
  let en := F.LOOP_WR_CFG_EN w
  let off := en.off
  let was := s.flag d en
  let man := s.flag d (F.LOOP_WR_CFG_MANEN w)
  let t := plainWrite d off v (!was) s
  let t := onlyIf (t.flag d (F.LOOP_WR_CFG_MANEN w) && !man) (weirMan d w) t
  if en.ofWord v == 1 && !was && !s.loading && !t.treeOk d then (plainWrite d off (en.into v 0) true s).on d (F.LOOP_WR_EVT_WRREF w)
  else t

/-- A software write of a register of weir w at an offset of its map. -/
def weirWrite (d w o : Nat) (v : Word) (s : State) : State :=
  if o == 0 then weirCfgWrite d w v s
  else if o == 4 then weirLater d w (plainWrite d (0x150000 + 0x100 * w + 4) v true s)
  else plainWrite d (0x150000 + 0x100 * w + o) v (!s.flag d (F.LOOP_WR_CFG_EN w)) s

/-! ### Channels and setpoints -/

/-- A channel shows a stored value: its update count rises, and a battery temperature is taken (R223, R269). -/
def chShow (d : Nat) (e : Nat × Nat) (s : State) : State :=
  let s := s.put d (F.LOOP_CH_VAL_VALUE e.1) e.2
  let s := s.put d (F.LOOP_CH_VAL_SEQ e.1) ((s.get d (F.LOOP_CH_VAL_SEQ e.1) + 1) % 256)
  battChannel d e.1 e.2 s

/-- A store to a channel, visible in the next fabric cycle (R223); with MIRROR a WR flit goes to the peer (R224). -/
def chStore (d c v : Nat) (s : State) : State :=
  let s := s.modLoop d (fun l => { l with chDue := l.chDue ++ [(c, v % 65536)] })
  if s.flag d (F.LOOP_CH_CFG_MIRROR c) && s.linkC d then
    (if s.serviceOnly then s else peerFlits d (0x60000000 + 0x1000000 * (1 - d) + 0x158004 + 8 * c) (BitVec.ofNat 32 (v % 65536)) s)
  else s

/-- A software write of LOOP_CHc_VAL, R224. -/
def chValWrite (d c : Nat) (v : Word) (s : State) : State :=
  if s.get d (F.LOOP_CH_CFG_WRITER c) == 0x7F then chStore d c ((F.LOOP_CH_VAL_VALUE c).ofWord v) s
  else s.on d F.LOOP_GEVT_WRREF

/-- A channel counts as stopped for its RWL fields. -/
def State.chStopped (s : State) (d c : Nat) : Bool :=
  let w := s.get d (F.LOOP_CH_CFG_WRITER c)
  decide (63 ≤ w) || s.get d (F.LOOP_LE_CFG_MODE w) == 0

/-- A setpoint is written, R241. -/
def spWrite (d k : Nat) (v : Word) (s : State) : State := srcTouch d (0x260 + k) (plainWrite d (0x159000 + 4 * k) v true s)

/-! ### PWM shadows -/

/-- L′ of R283: with the PER shadow of the pair's group. -/
def State.pairLp (s : State) (d k : Nat) : Nat :=
  let g := s.pairLg d k
  let carm := if (s.lg d g).running then (s.lg d g).carm else s.get d (F.PWM_PP_CFG_CARM k)
  pairL (s.get d (F.PWM_LG_PER g)) carm

/-- A store of a DUTY to a compare shadow, R283; `b`: compare B. -/
def dutyStore (d k : Nat) (b : Bool) (duty : Nat) (s : State) : State :=
  s.put d (if b then F.PWM_PP_CMPB k else F.PWM_PP_CMPA k) (duty * s.pairLp d k / 65536)

/-- The owner's engines write no more compare values of pair k: a handover of a D die that its axis uses is past the last load
before B (R141 step 3). -/
def State.cmpFrozen (s : State) (d k : Nat) : Bool :=
  let h := (s.c d).hdr.ho
  h.active && !h.taking && !h.static && (s.mateAxes h.die).contains (s.pairAx d k) &&
    decide (h.b ≤ s.now d + max 1 (s.lgPer d (s.pairLg d k)))

/-- LOADALL is armed for a group, R285. -/
def loadallArm (d g : Nat) (s : State) : State := s.putBit d F.PWM_GCTRL_LOADALL g true

/-! ### Arithmetic of the engines -/

/-- The 40-bit accumulator's ends, R216. -/
def accMax : Int := 2 ^ 39 - 1
def accMin : Int := -(2 ^ 39)
def sat40 (z : Int) : Int := clampI accMin accMax z

/-- q(ACC) before saturation: ACC / 2^15 rounded to nearest, ties away from zero (R216). -/
def q15 (z : Int) : Int := rndDiv z 32768

/-- DUTY of R217. -/
def dutyOf (acc : Int) : Nat := ((clampI 0 (2 ^ 30) acc) / 16384).toNat

/-- A value stored by an engine's port to a destination, in its format (R217, R218). -/
def fabricStore (d n dst : Nat) (acc : Int) (s : State) : State :=
  let q := q15 acc
  let v := ux16 (satQ15 q)
  let sat := fun (s : State) => onlyIf (offQ15 q) (fun s => s.on d (F.LOOP_LE_EVT_SAT n)) s
  if dst < 0x100 then
    if s.get d (F.LOOP_CH_CFG_WRITER dst) == n then chStore d dst v (sat s) else s.on d (F.LOOP_LE_EVT_WRREF n)
  else if dst < 0x124 then
    let k := (dst - 0x100) / 2
    if s.cmpFrozen d k then s else dutyStore d k (dst % 2 == 1) (dutyOf acc) s
  else if 0x128 ≤ dst && dst < 0x130 then loadallArm d (dst - 0x128) s
  else if 0x130 ≤ dst && dst < 0x160 then fieldStore d ((dst - 0x130) / 8) (dst % 8) v (sat s)
  else if 0x200 ≤ dst && dst < 0x300 then weirStoreY d ((dst - 0x200) / 4) (dst % 4) v (sat s)
  else if 0x300 ≤ dst && dst < 0x400 then (sat s).put d (F.LOOP_WR_IN_VAL_P ((dst - 0x300) / 4) (dst % 4)) v
  else s

end Sys2Proof.Machine
end

