-- ==== Sys2Proof/Machine/Loop.lean ====
section
/-! DEFINITION. The loop engines (chapter 9): checking and running programs, following error, held writes, bank swaps,
twins, and the commands of the fabric. -/

namespace Sys2Proof.Machine

/-- Held writes take effect in an idle cycle, unless HOLDK holds them (R222); a waiting swap is made, or refused by the check
of the new bank (R214, R238). -/
def applyHeldW (d n : Nat) (s : State) : State :=
  if !s.engIdle d n then s
  else
    let s := if (s.eng d n).swap then
        let bank := 1 - s.get d (F.LOOP_LE_STAT_BANK n)
        let t := s.modEng d n (fun x => { x with swap := false })
        if s.engineOk d n bank then t.put d (F.LOOP_LE_STAT_BANK n) bank else t.on d (F.LOOP_LE_EVT_CFGERR n)
      else s
    if s.flag d (F.LOOP_LE_CTRL_HOLDK n) then s
    else
      let s := (s.eng d n).held.foldl (fun s x => s.setReg d x.1 x.2) s
      s.modEng d n (fun x => { x with held := [] })

/-! ### Running -/

/-- The accumulator of a run, saturated at 40 bits with the sticky flag of R216. -/
def setAcc (d n : Nat) (z : Int) (s : State) : State :=
  let s := onlyIf (decide (z < accMin) || decide (accMax < z)) (fun s => s.on d (F.LOOP_LE_EVT_ACCSAT n)) s
  s.modEng d n (fun x => { x with acc := sat40 z })

/-- An operand as a 16-bit multiplicand, R215, R216, Table 9-3. -/
def State.opnd (s : State) (d n x : Nat) : Int :=
  if x < 8 then s.geti d (F.LOOP_LE_LAT n x)
  else if x < 16 then 0
  else if x < 0x20 then satQ15 (q15 (s.slot d n (x - 0x10)))
  else if x < 0x40 then s.geti d (F.LOOP_LE_W n (x - 0x20))
  else s.geti d (F.LOOP_LE_COEF n (x - 0x40))

/-- A state slot read as a multiplicand saturates, R216. -/
def opndSat (d n x : Nat) (s : State) : State :=
  if 0x10 ≤ x && x < 0x20 && offQ15 (q15 (s.slot d n (x - 0x10))) then s.on d (F.LOOP_LE_EVT_SAT n) else s

/-- An aligned operand a(A), R215. -/
def State.aligned15 (s : State) (d n x : Nat) : Int :=
  if 0x10 ≤ x && x < 0x20 then s.slot d n (x - 0x10) else s.opnd d n x * 32768

/-- ±z. -/
def negIf (b : Bool) (z : Int) : Int := if b then -z else z

/-- The product P of R215 with its shift, and its saturation (R216). -/
def State.prod (s : State) (d n : Nat) (w : StepW) : Int :=
  s.opnd d n w.a * s.opnd d n w.b * (if w.s then Int.ofNat (2 ^ s.get d (F.LOOP_LE_CFG_SHIFT n)) else 1)

/-- The product, its flags noted. -/
def noteProd (d n : Nat) (w : StepW) (s : State) : State :=
  let p := s.prod d n w
  opndSat d n w.b (opndSat d n w.a
    (onlyIf (decide (p < accMin) || decide (accMax < p)) (fun s => s.on d (F.LOOP_LE_EVT_ACCSAT n)) s))

/-- sin of an angle of 0 to 16,384 (a quarter period) in 2^-60, by its series. -/
def sinQuarter (q : Int) : Int :=
  let x := q * 2 * 884279719003555 * 2 ^ 12 / 65536
  let one : Int := 2 ^ 60
  let x2 := x * x / one
  let go := [16, 14, 12, 10, 8, 6, 4, 2].foldl (fun (acc : Int) k => one - x2 * acc / one / (k * (k + 1))) one
  x * go / one

/-- sin of a 16-bit electrical angle in Q15, rounded to nearest. -/
def sinQ15 (ang : Nat) : Int :=
  let a := Int.ofNat (ang % 65536)
  let r := fun (q : Int) => rndDiv (sinQuarter q * 32768) (2 ^ 60)
  if a ≤ 16384 then r a
  else if a ≤ 32768 then r (32768 - a)
  else if a ≤ 49152 then -(r (a - 32768))
  else -(r (65536 - a))

/-- A result of SCS at angle A, sin (k = 0) or cos (k = 1): within ±2 LSB of the ideal value, open otherwise (R213). -/
def scsValue (ang k : Nat) : Int :=
  satQ15 (sinQ15 (ang + 16384 * k) + (Int.ofNat ((Config.scsError (2 * (ang % 65536) + k)).toNat % 5) - 2))

/-- Port p of engine n is fresh, R218. -/
def State.fresh (s : State) (d n p : Nat) : Bool :=
  s.flag d (F.LOOP_LE_IN_EN n p) && s.srcCount d (s.get d (F.LOOP_LE_IN_SRC n p)) != (s.eng d n).seen.at p

/-- A snapshot of port p is taken, R218. -/
def snapshot (d n p : Nat) (s : State) : State :=
  if s.flag d (F.LOOP_LE_IN_EN n p) then
    let ix := s.get d (F.LOOP_LE_IN_SRC n p)
    let cnt := s.srcCount d ix
    (s.put d (F.LOOP_LE_LAT n p) (s.srcVal d ix)).modEng d n (fun x => { x with seen := x.seen.set p cnt })
  else s.put d (F.LOOP_LE_LAT n p) 0

/-- A store through output port q, R217, R218. -/
def portStore (d n q : Nat) (s : State) : State :=
  let acc := (s.eng d n).acc
  if s.flag d (F.LOOP_LE_OUT_EN n q) then
    let s := if q == 0 then s.modEng d n (fun x => { x with out0 := satQ15 (q15 acc) }) else s
    fabricStore d n (s.get d (F.LOOP_LE_OUT_DST n q)) acc s
  else s

/-- A store to a state slot, clamped under R225. -/
def storeSlot (d n k : Nat) (s : State) : State :=
  let acc := (s.eng d n).acc
  let v := s.clampSlot d n k acc
  (putSlot d n k v s).putBit d (F.LOOP_LE_STAT_INCLAMP n) k (decide (v ≠ acc))

/-- A store of q(ACC) to a working register, R216. -/
def storeW (d n k : Nat) (s : State) : State :=
  let q := q15 (s.eng d n).acc
  (onlyIf (offQ15 q) (fun s => s.on d (F.LOOP_LE_EVT_SAT n)) s).puti d (F.LOOP_LE_W n k) (satQ15 q)

/-- The condition of a SKIP, Table 9-4. -/
def State.skips (s : State) (d n : Nat) (w : StepW) : Bool :=
  let acc := (s.eng d n).acc
  match w.b with
  | 0 => decide (acc < 0)
  | 1 => decide (acc = 0)
  | 2 => decide (0 < acc)
  | _ => !s.fresh d n (w.a % 8)

/-- One step of Table 9-4 but for WAITF, SKIP and END. -/
def runStep (d n : Nat) (w : StepW) (s : State) : State :=
  let acc := (s.eng d n).acc
  let p := negIf w.n (sat40 (s.prod d n w))
  let al := negIf w.n (s.aligned15 d n w.a)
  match w.op with
  | 0x01 => setAcc d n p (noteProd d n w s)
  | 0x02 => setAcc d n (acc + p) (noteProd d n w s)
  | 0x03 => setAcc d n (acc + floorDiv p 32768) (noteProd d n w s)
  | 0x04 => setAcc d n al s
  | 0x05 => setAcc d n (acc + al) s
  | 0x06 => setAcc d n (min acc al) s
  | 0x07 => setAcc d n (max acc al) s
  | 0x08 => setAcc d n (absI acc) s
  | 0x09 => setAcc d n (floorDiv acc (Int.ofNat (2 ^ (w.x + 1)))) s
  | 0x0A => storeW d n (w.dd - 0x20) s
  | 0x0B => storeSlot d n (w.dd - 0x10) s
  | 0x0C => (opndSat d n w.a s).puti d (F.LOOP_LE_W n (w.dd - 0x20)) (s.opnd d n w.a)
  | 0x0D =>
    let ang := ux16 (s.opnd d n w.a)
    let s := opndSat d n w.a s
    (s.puti d (F.LOOP_LE_W n (w.dd - 0x20)) (scsValue ang 0)).puti d (F.LOOP_LE_W n (w.dd - 0x1F)) (scsValue ang 1)
  | 0x11 => portStore d n (w.dd - 8) s
  | _ => s

/-- The pending presets replace their slots, R219, R227. -/
def applyPresets (d n : Nat) (s : State) : State :=
  let s := overN 16 (fun k s =>
    match (s.eng d n).presets.at k with
    | some v => putSlot d n k v s
    | none => s) s
  s.modEng d n (fun x => { x with presets := [] })

/-- The engine feeds a weir whose station is in manual, R231. -/
def State.feedsManual (s : State) (d n : Nat) : Bool :=
  (List.range 8).any (fun q => let x := s.get d (F.LOOP_LE_OUT_DST n q)
    s.flag d (F.LOOP_LE_OUT_EN n q) && decide (0x200 ≤ x) && decide (x < 0x300) && s.weirManual d ((x - 0x200) / 4))

/-- The engine feeds a weir input that is not the winner, R232. -/
def State.feedsLoser (s : State) (d n : Nat) : Bool :=
  (List.range 8).any (fun q => let x := s.get d (F.LOOP_LE_OUT_DST n q)
    s.flag d (F.LOOP_LE_OUT_EN n q) && decide (0x200 ≤ x) && decide (x < 0x300) &&
      s.weirWin d ((x - 0x200) / 4) != some (x % 4))

/-- The setpoint snapshot is replaced by the feedback snapshot while a manual station acts, R231. -/
def spTrack (d n : Nat) (s : State) : State :=
  if s.flag d (F.LOOP_LE_CFG_SPTRK n) && s.feedsManual d n then
    s.put d (F.LOOP_LE_LAT n (s.get d (F.LOOP_LE_CFG_SPPORT n))) (s.get d (F.LOOP_LE_LAT n (s.get d (F.LOOP_LE_CFG_FBPORT n))))
  else s

/-- The values that the CRC-16 of a run covers: W and S, R235. -/
def State.wsOf (s : State) (d n : Nat) : List Nat :=
  (List.range 32).map (fun k => s.get d (F.LOOP_LE_W n k)) ++ (List.range 16).map (fun k => uxN 40 (s.slot d n k))

/-- The twin that mirrors engine n of C die d, R235: on the peer, which holds an offer, in STANDBY with MIRROR set. -/
def State.twinOf (s : State) (d n : Nat) : Option Nat :=
  let t := s.get d (F.LOOP_LE_TWIN n)
  if s.runs (1 - d) && (s.c (1 - d)).hdr.offer.active && s.flag (1 - d) (F.LOOP_LE_STAT_MIRROR t) &&
      s.get d (F.LOOP_LE_CFG_MODE n) == Lm.active && (s.c d).hdr.ho.active then some t else none

/-- The run's snapshots are sent to the twin, R235 step 2. -/
def mailTwin (d n : Nat) (s : State) : State :=
  match s.twinOf d n with
  | none => s
  | some t =>
    if ((s.c (1 - d)).eng.at t).synced then
      s.modEng (1 - d) t (fun x => { x with mail := some ((List.range 8).map (fun p => s.get d (F.LOOP_LE_LAT n p))) })
    else s

/-- The engine is set running, its accumulator 0: it executes step 1 in the next fabric cycle, R219. `ecc` is the worst memory
error of the run (R211): 1 corrected, 2 a double-bit error, once `atStep` steps are executed. -/
def runBegin (d n ecc atStep : Nat) (s : State) : State :=
  let s := (s.on d (F.LOOP_LE_STAT_RUN n)).off d (F.LOOP_LE_STAT_WAIT n)
  s.modEng d n (fun x =>
    { x with acc := 0, pc := 0, cyc := 0, stall := 0, skip := 0, ended := false, startAt := s.now d + 1,
             eccAt := if ecc == 0 then none else some (atStep, ecc == 2) })

/-- A start is dropped, R220. -/
def overrun (d n : Nat) (s : State) : State :=
  let s := (s.on d (F.LOOP_LE_EVT_OVERRUN n)).count d (F.LOOP_LE_OVRCNT n) 1
  let s := statEng d n F.PROMPT_LIVE_SA_ENG_OVR s
  latchFault d Fg.loopOverrun n false s

/-- The angle of a catch stands up to the first start of the engine CURTRK.ENGQ at or after the enabling boundary, R264. -/
def catchEnds (d n : Nat) (s : State) : State :=
  overN 6 (fun a s =>
    if (s.axr d a).onCatch && s.enabled d a && (s.phase d a == Ph.run || s.phase d a == Ph.reversing) &&
        s.get d (F.FIELD_AX_CURTRK_ENGQ a) == n then
      fieldStatus d a (s.modAxr d a (fun x => { x with onCatch := false }))
    else s) s

/-- A start of engine n, R219, R220: the snapshots are latched, the presets applied, and the run begins; a second start of one
idle cycle makes no second run. An engine that ECCFAULT has stopped starts no more. -/
def engineStartEcc (d n ecc atStep : Nat) (s : State) : State :=
  if 63 ≤ n || s.get d (F.LOOP_LE_CFG_MODE n) != Lm.active || !s.fabric d || s.flag d (F.LOOP_LE_EVT_ECCFAULT n) then s
  else if !s.engIdle d n then (if (s.eng d n).startAt == s.now d + 1 then s else overrun d n s)
  else
    let s := applyHeldW d n s
    let s := overN 8 (snapshot d n) s
    runBegin d n ecc atStep (mailTwin d n (catchEnds d n (spTrack d n (applyPresets d n s))))

/-- A start whose run meets no memory error. -/
def engineStart (d n : Nat) (s : State) : State := engineStartEcc d n 0 0 s

/-- A trigger of a kind of CFG.TRIG: 0 CUE, 1 SHUNT, 2 VOLT, 3 TIMER. -/
def engineTrigger (d n kind : Nat) (s : State) : State :=
  if s.get d (F.LOOP_LE_CFG_TRIG n) == kind then engineStart d n s else s

/-- The timer of an engine starts it in this fabric cycle, R219. -/
def State.timerDue (s : State) (d n : Nat) : Bool :=
  let per := s.get d (F.LOOP_LE_PER_PER n)
  s.get d (F.LOOP_LE_CFG_TRIG n) == 3 && per != 0 && s.now d % 40 == 0 &&
    s.now d / 40 % per == s.get d (F.LOOP_LE_PER_PH n)

/-- A trigger of a kind, of SHUNT and VOLT for a flit of D die k, starts engine n now, R219. -/
def State.trigDue (s : State) (d n kind k : Nat) : Bool :=
  if kind == 4 then true
  else if kind == 3 then s.timerDue d n
  else s.get d (F.LOOP_LE_CFG_TRIG n) == kind && (kind == 0 || s.get d (F.LOOP_LE_CFG_TRIGD n) == k)

/-- R219, R220, R211. A start of engine n: kind 0 CUE, 1 SHUNT and 2 VOLT with a flit of D die k, 3 TIMER, 4 a write of 1 to
CTRL.START; `ecc`, `atStep`: a memory error that the run will meet (R211). -/
def execEngineStart (d : CDie) (n : Fin 64) (kind : Fin 5) (k : Fin 8) (ecc : Fin 3) (atStep : Fin 129) (s : State) : Out :=
  onC d.val (fun s =>
    let s := onlyIf (kind.val == 4) (tkDisturb d.val (own (F.LOOP_LE_CTRL_START n.val).off) .debug) s
    if s.trigDue d.val n.val kind.val k.val then engineStartEcc d.val n.val ecc.val atStep.val s else s) s

/-! ### The end of a run -/

/-- Following-error supervision at a run end, R232; ELAPSED counts whole µs of stage time. -/
def ferrCheck (d n : Nat) (s : State) : State :=
  if !s.flag d (F.LOOP_LE_FERR_EN n) || s.feedsManual d n || s.feedsLoser d n then s
  else
    let w := absQ15 (s.geti d (F.LOOP_LE_W n (s.get d (F.LOOP_LE_FERR_WREG n))))
    if w ≤ s.get d (F.LOOP_LE_FERR_LIMIT n) then
      let beyond := s.get d (F.LOOP_LE_FERRT_TIME n) < s.get d (F.LOOP_LE_FERRT_ELAPSED n)
      let s := (s.put d (F.LOOP_LE_FERRT_ELAPSED n) 0).modEng d n (fun x => { x with ferrSub := 0 })
      if beyond then endActive d Fg.loopFerr n s else s
    else
      let dt := s.now d - (s.eng d n).endAt + (s.eng d n).ferrSub
      let s := s.count d (F.LOOP_LE_FERRT_ELAPSED n) (dt / 400)
      let s := s.modEng d n (fun x => { x with ferrSub := dt % 400 })
      if s.get d (F.LOOP_LE_FERRT_TIME n) < s.get d (F.LOOP_LE_FERRT_ELAPSED n) && !s.flag d (F.LOOP_LE_EVT_FERR n) then
        latchFault d Fg.loopFerr n true (s.on d (F.LOOP_LE_EVT_FERR n))
      else s

/-- The CRCs of a run of a twin and of its owner are compared once both are there, R235 steps 4 and 5. -/
def twinCompare (e t : Nat) (s : State) : State :=
  match (s.eng e t).crcOwner, (s.eng e t).crcTwin with
  | some a, some b =>
    let s := s.modEng e t (fun x => { x with crcOwner := none, crcTwin := none })
    if a == b then s.modEng e t (fun x => { x with matched := x.matched + 1 })
    else (s.on e (F.LOOP_LE_EVT_MIRRERR t)).modEng e t (fun x => { x with matched := 0, synced := false })
  | _, _ => s

/-- The owner's part of R235 at the end of a run: W, S, ACC and the presets go to a twin that has not got them; to one that
has, the run's CRC. -/
def ownerMirror (d n : Nat) (s : State) : State :=
  match s.twinOf d n with
  | none => s
  | some t =>
    let e := 1 - d
    if (s.eng e t).synced then
      let crc := (Config.crc16 (s.wsOf d n)).toNat
      twinCompare e t (s.modEng e t (fun x => { x with crcOwner := some crc }))
    else
      let s := overN 32 (fun k s => s.put e (F.LOOP_LE_W t k) (s.get d (F.LOOP_LE_W n k))) s
      let s := overN 16 (fun k s => putSlot e t k (s.slot d n k) s) s
      let o := s.eng d n
      s.modEng e t (fun x => { x with synced := true, matched := 0, acc := o.acc, presets := o.presets, mail := none })

/-- The twin's part: its CRC. -/
def twinEnd (d n : Nat) (s : State) : State :=
  if s.flag d (F.LOOP_LE_STAT_MIRROR n) && (s.eng d n).synced then
    let crc := (Config.crc16 (s.wsOf d n)).toNat
    twinCompare d n (s.modEng d n (fun x => { x with crcTwin := some crc }))
  else s

/-- A run ends, R212, R220, R221: its cycles and accumulator are shown, the following error is judged, held writes and a
swap are applied once the engine is idle. -/
def runEnd (d n : Nat) (s : State) : State :=
  let x := s.eng d n
  let s := engStop d n s
  let cyc := min 65535 x.cyc
  let s := (s.put d (F.LOOP_LE_RUNCYC_LAST n) cyc).put d (F.LOOP_LE_RUNCYC_MAX n) (max cyc (s.get d (F.LOOP_LE_RUNCYC_MAX n)))
  let s := statRun d n cyc s
  let v := uxN 40 x.acc
  let s := (s.put d (F.LOOP_LE_ACCLO n) (v % 2 ^ 32)).put d (F.LOOP_LE_ACCHI n) (v / 2 ^ 32)
  let s := ferrCheck d n s
  let s := s.modEng d n (fun x => { x with endAt := s.now d })
  applyHeldW d n (twinEnd d n (ownerMirror d n s))

/-- R212, R220, R232, R235. The run of engine n ends: it has executed END or its LEN steps. -/
def execEngineRunEnd (d : CDie) (n : Fin 64) (s : State) : Out :=
  onC d.val (fun s => if s.engRun d.val n.val && (s.eng d.val n.val).ended then runEnd d.val n.val s else s) s

/-! ### The steps of a run -/

/-- A double-bit error in a memory of the engine, R211: it stops at once, with no further store, and ECCFAULT latches. -/
def engineEccFault (d n : Nat) (s : State) : State :=
  latchFault d Fg.loopEcc n true ((engStop d n s).on d (F.LOOP_LE_EVT_ECCFAULT n))

/-- A step is executed; the run is over after END (`over`) or LEN steps, R212. -/
def stepDone (d n : Nat) (over_ : Bool) (s : State) : State :=
  let last := over_ || decide (s.get d (F.LOOP_LE_CFG_LEN n) ≤ (s.eng d n).pc + 1)
  s.modEng d n (fun x =>
    { x with pc := x.pc + 1, stall := 0, ended := last, lastAt := if last then s.now d + 1 else x.lastAt })

/-- A WAITF step whose port is fresh takes its new snapshot, R221; the setpoint follows the feedback under R231. -/
def waitfTake (d n : Nat) (w : StepW) (s : State) : State :=
  let p := w.a % 8
  let s := (snapshot d n p s).off d (F.LOOP_LE_STAT_WAIT n)
  let s := onlyIf (p == s.get d (F.LOOP_LE_CFG_SPPORT n) || p == s.get d (F.LOOP_LE_CFG_FBPORT n)) (spTrack d n) s
  stepDone d n false (onlyIf w.c (fireCue d (0x50 + n)) s)

/-- A stall has lasted WAITTMO cycles, R221. -/
def State.waitfOver (s : State) (d n : Nat) : Bool :=
  s.flag d (F.LOOP_LE_STAT_WAIT n) && decide (s.get d (F.LOOP_LE_WAITTMO n) ≤ (s.eng d n).stall)

/-- A stalled run ends at once, R221; the event goes to fault collection. -/
def waitfEnd (d n : Nat) (s : State) : State :=
  let s := (s.on d (F.LOOP_LE_EVT_WAITTMO n)).modEng d n (fun x => { x with lastAt := s.now d + 1 })
  latchFault d Fg.loopWaittmo n false (statEng d n F.PROMPT_LIVE_SA_ENG_WAITTMO (runEnd d n s))

/-- The step that a run has reached, R213. -/
def State.stepNow (s : State) (d n : Nat) : StepW := s.stepAt d n (s.get d (F.LOOP_LE_STAT_BANK n)) (s.eng d n).pc

/-- A run's fabric cycle, R212, R213: one step, a skipped step, or a cycle of a stall. -/
def engExec (d n : Nat) (s : State) : State :=
  let s := s.modEng d n (fun x => { x with cyc := x.cyc + 1 })
  let w := s.stepNow d n
  if 0 < (s.eng d n).skip then stepDone d n false (s.modEng d n (fun x => { x with skip := x.skip - 1 }))
  else if w.op == 0x0E then
    if s.fresh d n (w.a % 8) then waitfTake d n w s
    else (s.on d (F.LOOP_LE_STAT_WAIT n)).modEng d n (fun x => { x with stall := x.stall + 1 })
  else
    let s := onlyIf w.c (fireCue d (0x50 + n)) s
    if w.op == 0x0F then
      stepDone d n false (s.modEng d n (fun x => { x with skip := if s.skips d n w then w.x + 1 else 0 }))
    else stepDone d n (w.op == 0x10) (runStep d n w s)

/-- A memory error that the step of this cycle meets, R211. -/
def engEcc (d n : Nat) (s : State) : State :=
  match (s.eng d n).eccAt with
  | some (k, double) =>
    if (s.eng d n).pc < k then s
    else
      let s := s.modEng d n (fun x => { x with eccAt := none })
      if double then engineEccFault d n s else latchFault d Fg.eccCor 4 false (s.on d (F.LOOP_LE_EVT_ECCCOR n))
  | none => s

/-- A fabric cycle of engine n, R212: a run that is over ends, a stall that is over ends its run, another run goes one step on;
an idle engine takes its held writes and its swap (R222, R238). -/
def engCycle (d n : Nat) (s : State) : State :=
  if !s.engRun d n then applyHeldW d n s
  else if (s.eng d n).startAt == s.now d + 1 then s
  else if (s.eng d n).ended then runEnd d n s
  else if s.waitfOver d n then waitfEnd d n s
  else
    let s := engEcc d n s
    if s.engRun d n then engExec d n s else s

/-- Engine n is started by its timer in this fabric cycle. -/
def timerStart (d n : Nat) (s : State) : State := if s.timerDue d n then engineStart d n s else s

/-- R221. The port of a stalled WAITF becomes fresh within WAITTMO cycles: a new snapshot is taken and the run goes on. -/
def execWaitfResume (d : CDie) (n : Fin 64) (s : State) : Out :=
  onC d.val (fun s =>
    let w := s.stepNow d.val n.val
    if s.flag d.val (F.LOOP_LE_STAT_WAIT n.val) && !s.waitfOver d.val n.val && s.fresh d.val n.val (w.a % 8) then
      waitfTake d.val n.val w s
    else s) s

/-- R221. WAITTMO cycles have passed in a stall: the run ends at once, and the event goes to fault collection. -/
def execWaitfTimeout (d : CDie) (n : Fin 64) (s : State) : Out :=
  onC d.val (fun s => if s.waitfOver d.val n.val then waitfEnd d.val n.val s else s) s

/-- R222, R238. The first idle cycle of engine n: its held writes take effect, unless HOLDK holds them. -/
def execHeldWriteApply (d : CDie) (n : Fin 64) (s : State) : Out := onC d.val (applyHeldW d.val n.val) s

/-! ### Twins -/

/-- R235. A twin has received the owner's snapshots: it runs the same program on them, ignoring its own trigger. -/
def twinStart (d t ecc atStep : Nat) (s : State) : State :=
  match (s.eng d t).mail with
  | none => s
  | some lats =>
    if !s.flag d (F.LOOP_LE_STAT_MIRROR t) || s.get d (F.LOOP_LE_CFG_MODE t) != Lm.standby || !s.engIdle d t ||
        s.flag d (F.LOOP_LE_EVT_ECCFAULT t) then s
    else
      let s := s.modEng d t (fun x => { x with mail := none })
      let s := applyHeldW d t s
      let s := overN 8 (fun p s => s.put d (F.LOOP_LE_LAT t p) (lats.getD p 0)) s
      runBegin d t ecc atStep (applyPresets d t s)

/-- R235, R211. The owner's snapshots have arrived at twin t of C die d; `ecc`, `atStep` as for a start. -/
def execTwinStart (d : CDie) (t : Fin 64) (ecc : Fin 3) (atStep : Fin 129) (s : State) : Out :=
  onC d.val (twinStart d.val t.val ecc.val atStep.val) s

/-! ### Writes -/

/-- A write of MODE, R214. -/
def modeWrite (d n mode : Nat) (s : State) : State :=
  if mode == 3 || (mode != Lm.off && !s.engineOk d n (s.get d (F.LOOP_LE_STAT_BANK n))) then s.on d (F.LOOP_LE_EVT_CFGERR n)
  else if mode != Lm.active && s.engRun d n && s.get d (F.LOOP_LE_CFG_MODE n) == Lm.active then
    applyHeldW d n ((engStop d n s).put d (F.LOOP_LE_CFG_MODE n) mode)
  else s.put d (F.LOOP_LE_CFG_MODE n) mode

/-- A write of LOOP_LEn_CFG: the RWL fields while MODE is OFF, then MODE; the loader's is
checked at the release (R119). -/
def engCfgWrite (d n : Nat) (v : Word) (s : State) : State :=
  let f := F.LOOP_LE_CFG_MODE n
  let mode := s.get d f
  if s.loading then plainWrite d f.off v true s
  else modeWrite d n (f.ofWord v) (plainWrite d f.off (f.into v mode) (mode == Lm.off) s)

/-- R214. A write of an engine's CFG with a MODE. -/
def execEngineModeWrite (d : CDie) (n : Fin 63) (v : Word) (s : State) : Out :=
  onCW d.val (own (F.LOOP_LE_CFG_MODE n.val).off) (engCfgWrite d.val n.val v) s

/-- A bank swap asked for, R238. -/
def swapWrite (d n : Nat) (s : State) : State :=
  if s.dev == Dev.standby || s.get d (F.LOOP_LE_CFG_MODE n) == Lm.off then
    applyHeldW d n (s.modEng d n (fun x => { x with swap := true }))
  else s.on d (F.LOOP_LE_EVT_WRREF n)

/-- R238, R214. A write of 1 to LOOP_LEn_CTRL.SWAP: the banks swap in the next idle cycle, or it is refused. -/
def execBankSwap (d : CDie) (n : Fin 63) (s : State) : Out :=
  onCW d.val (own (F.LOOP_LE_CTRL_SWAP n.val).off) (swapWrite d.val n.val) s

/-- A write of a coefficient, state slot or integrator limit: at once in an idle engine or by the loader, held otherwise
(R222). -/
def heldWrite (d n off : Nat) (v : Word) (s : State) : State :=
  if s.loading then plainWrite d off v true s
  else match rowAt d off with
  | none => s
  | some r =>
    let old := match ((s.eng d n).held.filter (fun x => x.1 == off)).getLast? with
      | some x => x.2
      | none => s.reg d off
    applyHeldW d n (s.modEng d n (fun x => { x with held := x.held ++ [(off, mergeW old r.rw v)] }))

/-- A write of LOOP_LEn_EVT, R232, Table 9-9. -/
def engEvtWrite (d n : Nat) (v : Word) (s : State) : State :=
  let ferr := F.LOOP_LE_EVT_FERR n
  let ecc := F.LOOP_LE_EVT_ECCFAULT n
  let keepF := ferr.ofWord v == 1 && s.flag d ferr &&
    s.get d (F.LOOP_LE_FERRT_TIME n) < s.get d (F.LOOP_LE_FERRT_ELAPSED n)
  let keepE := ecc.ofWord v == 1 && s.flag d ecc && s.get d (F.LOOP_LE_CFG_MODE n) != Lm.off
  let v := if keepF then ferr.into v 0 else v
  let v := if keepE then ecc.into v 0 else v
  let s := onlyIf (keepF || keepE) (fun s => s.on d (F.LOOP_LE_EVT_CLRREF n)) s
  let s := plainWrite d ferr.off v true s
  if bit (s.fcAct d Fg.loopEcc) n && !s.flag d ecc then endActive d Fg.loopEcc n s else s

/-- A software write of a register of engine n at an offset of its map, R210, R214, R221, R222, R225, R239. -/
def engWrite (d n o : Nat) (v : Word) (s : State) : State :=
  let off := 0x140000 + 0x400 * n + o
  let stopped := s.get d (F.LOOP_LE_CFG_MODE n) == Lm.off
  let wrref := s.on d (F.LOOP_LE_EVT_WRREF n)
  if n == 63 && o != 0xC && o != 0x10 then wrref
  else if o == 0 then
    let hold := (F.LOOP_LE_CTRL_HOLDK n).ofWord v
    let s := applyHeldW d n (s.put d (F.LOOP_LE_CTRL_HOLDK n) hold)
    let s := if (F.LOOP_LE_CTRL_SWAP n).ofWord v == 1 then swapWrite d n s else s
    if (F.LOOP_LE_CTRL_START n).ofWord v == 1 then engineStart d n s else s
  else if o == 4 then engCfgWrite d n v s
  else if o == 8 then
    let per := (F.LOOP_LE_PER_PER n).ofWord v
    if per != 0 && per ≤ (F.LOOP_LE_PER_PH n).ofWord v then wrref else plainWrite d off v stopped s
  else if o == 0x10 then engEvtWrite d n v s
  else if o == 0x20 then if (F.LOOP_LE_WAITTMO n).ofWord v == 0 then wrref else plainWrite d off v stopped s
  else if 0x100 ≤ o && o < 0x200 then heldWrite d n off v s
  else if 0x280 ≤ o && o < 0x300 then heldWrite d n off v s
  else if 0x300 ≤ o && o < 0x340 then
    if sx16 (v.toNat / 65536) < sx16 v.toNat then wrref else heldWrite d n off v s
  else plainWrite d off v stopped s

/-- A software write of a program word, R238, R210, R242: the inactive bank only. -/
def progWrite (d n o : Nat) (v : Word) (s : State) : State :=
  if n == 63 || o / 0x200 == s.get d (F.LOOP_LE_STAT_BANK n) then s.on d (F.LOOP_LE_EVT_WRREF n)
  else s.setReg d (0x160000 + 0x400 * n + o) v

/-- A software write among the channels, setpoints and common registers, R241. -/
def loopWrite (d off : Nat) (v : Word) (s : State) : State :=
  if 0x158000 ≤ off && off < 0x158800 then
    let c := (off - 0x158000) / 8
    if off % 8 == 4 then chValWrite d c v s else plainWrite d off v (s.chStopped d c) s
  else if 0x159000 ≤ off && off < 0x159080 then spWrite d ((off - 0x159000) / 4) v s
  else plainWrite d off v true s

/-- R224. A software write of LOOP_CHc_VAL. -/
def execChannelSoftwareWrite (d : CDie) (c : Byte) (v : Word) (s : State) : Out :=
  onCW d.val (own (F.LOOP_CH_VAL_VALUE c.toNat).off) (chValWrite d.val c.toNat v) s

/-- R224. A mirrored channel store arrives on C die d: the channel takes it if its WRITER is 0x7E. -/
def execMirrorChannelWrite (d : CDie) (c : Byte) (v : BitVec 16) (s : State) : Out :=
  onC d.val (fun s =>
    if s.get d.val (F.LOOP_CH_CFG_WRITER c.toNat) == 0x7E && s.linkC d.val then chStore d.val c.toNat v.toNat s else s) s

/-- R241. A write of LOOP_SPk. -/
def execSetpointWrite (d : CDie) (k : Fin 32) (v : Word) (s : State) : Out :=
  onCW d.val (own (0x159000 + 4 * k.val)) (spWrite d.val k.val v) s

/-- A weir whose evaluation is due evaluates, R226. -/
def weirTurn (d w : Nat) (s : State) : State :=
  if (s.c d).loop.weirDue.contains w then
    weirEval d w (s.modLoop d (fun l => { l with weirDue := l.weirDue.filter (· != w) }))
  else s

/-- R226 to R230. Weir w evaluates after a store, a stale input or a write that makes it. -/
def execWeirEvaluate (d : CDie) (w : Fin 64) (s : State) : Out := onC d.val (weirTurn d.val w.val) s

/-! ### The fabric's clock -/

/-- Values stored in earlier cycles reach their channels and sources, R223, R226, R247. -/
def loopShow (d : Nat) (s : State) : State :=
  let ch := (s.c d).loop.chDue
  let src := (s.c d).loop.srcDue
  let due := fun (e : Nat × Nat × Nat) => decide (e.1 ≤ s.now d)
  let s := s.modLoop d (fun l => { l with chDue := [], srcDue := src.filter (fun e => !due e) })
  (src.filter due).foldl (fun s e => srcShow d e s) (ch.foldl (fun s e => chShow d e s) s)

/-- A fabric cycle of the loop fabric of C die d: the values due appear, every engine with a history takes its cycle, the weirs
due evaluate, inputs become stale, and the timers start engines. -/
def loopCycle (d : Nat) (s : State) : State :=
  let s := loopShow d s
  let due := (s.c d).loop.weirDue
  let s := s.modLoop d (fun l => { l with weirDue := [] })
  let s := overL ((s.c d).eng.map (·.1)) (engCycle d) s
  let s := overN 64 (weirWatch d) (overL due (weirEval d) s)
  if s.now d % 40 == 0 then overN 63 (timerStart d) s else s

/-- R229. No Y has been stored to input j of weir w for STALE µs. -/
def execWeirInputStale (d : CDie) (w : Fin 64) (j : Fin 4) (s : State) : Out := onC d.val (weirStaleAt d.val w.val j.val) s

/-- R230. A write of LOOP_WRw_MAN.VALUE. -/
def execWeirManualValueWrite (d : CDie) (w : Fin 64) (v : Word) (s : State) : Out :=
  onCW d.val (own (0x150004 + 0x100 * w.val)) (weirWrite d.val w.val 4 v) s

/-- R228. A write of LOOP_WRw_CFG. -/
def execWeirEnableWrite (d : CDie) (w : Fin 64) (v : Word) (s : State) : Out :=
  onCW d.val (own (0x150000 + 0x100 * w.val)) (weirCfgWrite d.val w.val v) s

end Sys2Proof.Machine
end

