-- ==== Sys2Proof/Machine/PwmRun.lean ====
section
/-! DEFINITION. PWM generation: the enable checks (R293), the waveform of a pair with its pulse rules, dead times and
interlock (R281 to R292), the load groups (R277 to R287), and what a group boundary brings to FIELD (R261, R264, R294). -/

namespace Sys2Proof.Machine

/-! ### Enable -/

/-- A pair of either C die is split, R399. -/
def State.pkgSplit (s : State) : Bool :=
  (List.range 2).any (fun d => s.runs d && (s.flag d (F.CHK_P_STAT_SPLIT 0) || s.flag d (F.CHK_P_STAT_SPLIT 1)))

/-- Bench conditions apply, R399. -/
def State.benchReq (s : State) (d : Nat) : Bool := s.lc d == 1 || s.lc d == 3 || s.pkgSplit

/-- A bus is below its bench limit. -/
def State.benchBus (s : State) (d b : Nat) : Bool :=
  s.flag d (F.DISCH_BUS_STAT_VDCOK b) && decide (s.geti d (F.DISCH_BUS_STAT_VDC b) < s.geti d (F.CHK_BENCH_VLIM b))

/-- FLAGS.BENCH of the libretto applied, as LIB_STAT.SOURCE names its slot. -/
def State.benchFlag (s : State) (d : Nat) : Bool :=
  let slot := match s.get d F.LIB_STAT_SOURCE with
    | 2 => (s.n d).active
    | 3 => (s.n d).prev
    | _ => 0
  slot != 0 && bit (imgFlags s d (slotAddr slot)) 1

/-- The bench check of Table 11-4 passes for an axis. -/
def State.benchOk (s : State) (d a : Nat) : Bool :=
  !s.benchReq d || ((!s.pkgSplit || s.benchFlag d) && s.benchBus d (s.get d (F.FIELD_AX_CFG_BUS a)) &&
    (s.axType d a != 4 || s.benchBus d (s.get d (F.FIELD_AX_CFG_PORT a))))

/-- PWM_ENST.CODE, Table 11-4. -/
def State.enCheck (s : State) (d a : Nat) : Nat :=
  if !s.devActive then 1
  else if s.lc d == 0 || s.lc d == 4 then 2
  else if s.flag d F.LIB_STAT_STATE then 3
  else if s.get d F.LIB_AXST / 16 ^ a % 16 != 1 then 4
  else if !s.flag d F.HDR_RC_STATUS_START_RDY then 5
  else if s.flag d F.SYS_DSTATE_PWMLOCK then 6
  else if !s.benchOk d a then 7
  else if s.inCurtain d a then 8
  else if (s.pairsOf d a).any (fun k => s.tripHeld d k) then 9
  else if !(s.dOf a).all (fun k => s.owns d k) then 10
  else if (s.pairsOf d a).isEmpty then 11
  else 0

/-- The outcome of a request, R293. -/
def enNote (d a code : Nat) (s : State) : State :=
  let s := (s.put d F.PWM_ENST_CODE code).put d F.PWM_ENST_AX a
  onlyIf (code != 0) (fun s => s.on d F.PWM_GEVT_ENREF) s

/-- A request to enable an axis, R293, R294: accepted, it waits for a group boundary; a static handover of its D dies is
cancelled (R143). -/
def enRequest (d a : Nat) (s : State) : State :=
  let code := s.enCheck d a
  let s := enNote d a code s
  if code != 0 then s
  else
    let s := s.putBit d F.PWM_AXEN_EN a true
    let s := s.modPwm d (fun p => { p with enPend := p.enPend.set a true })
    overL (s.dOf a) (fun k s => onlyIf ((s.c d).hdr.ho.static) (hoCancelFor k Ho.axisEnabled) s) s

/-! ### FIELD at the enable -/

/-- The axis returns to IDLE, R260. -/
def fieldIdle (d a : Nat) (s : State) : State :=
  let s := s.put d (F.FIELD_AX_STAT_PHASE a) Ph.idle
  fieldStatus d a (s.modAxr d a (fun x =>
    { x with onCatch := false, requested := false, stopT := none, effHeld := false, revNext := false,
             since := 0, stillAt := 0, alignAt := 0, ripPos := none, ripNeg := none, catchSets := [] }))

/-- The outcome of a command, Table 10-7; OK, REVERSE_TIMEOUT and RUNNING are no refusals (R260). -/
def fieldReport (d a code op : Nat) (s : State) : State :=
  let s := (s.put d (F.FIELD_AX_CMDST_CODE a) code).put d (F.FIELD_AX_CMDST_LASTOP a) op
  onlyIf (code != 0x00 && code != 0x09 && code != 0x0A) (fun s => s.on d (F.FIELD_AX_EVT_REFUSED a)) s

/-- Phase REVERSING begins, R265, R267. -/
def fieldReverse (d a : Nat) (s : State) : State :=
  let s := s.put d (F.FIELD_AX_STAT_PHASE a) Ph.reversing
  fieldStatus d a (s.modAxr d a (fun x => { x with since := s.now d, effHeld := false }))

/-- FIELD's own request of the enable, R261: a refusal reports PWM_REFUSED and the axis returns to IDLE. -/
def fieldEnable (d a : Nat) (s : State) : State :=
  let s := s.modAxr d a (fun x => { x with requested := true })
  let s := enRequest d a s
  if s.enabled d a then s else standbyIfIdle (fieldIdle d a (fieldReport d a 0x02 1 s))

/-- The enabling boundary of an axis, R264, R294, R352: ALIGN begins to count (R256), ENGAGE ends, a CHOP axis or a winding
discharge (R368) runs. -/
def fieldEnabled (d a : Nat) (s : State) : State :=
  let p := s.phase d a
  if p == Ph.align then s.modAxr d a (fun x => { x with alignAt := s.now d + 1 })
  else if p == Ph.engage then
    if (s.axr d a).revNext then fieldReverse d a (s.modAxr d a (fun x => { x with revNext := false }))
    else fieldStatus d a (s.put d (F.FIELD_AX_STAT_PHASE a) Ph.run)
  else if p == Ph.idle && (s.axType d a == 5 || s.winding d a) then fieldStatus d a (s.put d (F.FIELD_AX_STAT_PHASE a) Ph.run)
  else s

/-- The device enters RUN at an enabling boundary (Table 1-8); an acceptance window that waits for it opens (R123). -/
def runEntry (s : State) : State :=
  if s.dev == Dev.standby then
    overN 2 (fun d s => if s.runs d && (s.c d).lib.watchArmed then watchOpen d s else s) (setDevice Dev.run s)
  else s

/-- The enable of an axis takes effect on one of its pairs; the first time is its enabling boundary. -/
def axisTakes (d a : Nat) (s : State) : State :=
  if (s.c d).pwm.enPend.at a then
    let s := s.modPwm d (fun p => { p with enPend := p.enPend.set a false })
    fieldEnabled d a (runEntry s)
  else s

/-! ### Waveforms -/

/-- The used switch of a pair's CHOP axis: its LS channel alone follows H (R243, R291). -/
def State.chopLs (s : State) (d k : Nat) : Bool :=
  let a := s.pairAx d k
  decide (a < 6) && s.axType d a == 5 && !s.flag d (F.FIELD_AX_CFG_CHSW a)

/-- Its HS channel alone is used. -/
def State.chopHs (s : State) (d k : Nat) : Bool :=
  let a := s.pairAx d k
  decide (a < 6) && s.axType d a == 5 && s.flag d (F.FIELD_AX_CFG_CHSW a)

/-- The edges of the ideal H and its level without edges, R281, R282. -/
def idealH (mode a b l : Nat) : Option Nat × Option Nat × Option Bool :=
  if mode < 2 then
    if a = 0 then (none, none, some false)
    else if l ≤ a then (none, none, some true)
    else
      let x := if mode = 0 then 0 else (l - a) / 2
      (some x, some (x + a), none)
  else if a < l ∧ b < l then
    if a = b then (none, none, some false) else (some a, some b, none)
  else (if a < l then some a else none, if b < l then some b else none, none)

/-- The pulse rule of R289 on a repeating carrier of cyc cycles. -/
def patOf (mode pulse dtr dtf minp : Nat) (inv : Bool) (a b cyc : Nat) : PwmPat :=
  let l := 64 * cyc
  let h := idealH mode a b l
  let x := if inv then (h.2.1, h.1, h.2.2.map (!·)) else h
  match x.1, x.2.1 with
  | some r, some f =>
    let high := (f + l - r) % l
    let low := l - high
    if high < dtr + minp then
      if pulse = 0 then ⟨cyc, none, none, some false, some r, some f, some (r, true, true)⟩
      else
        let need := dtr + minp - high
        let lo := if mode = 1 then need / 2 else 0
        ⟨cyc, some ((r + l - lo) % l), some ((f + need - lo) % l), none, some r, some f, some (r, true, false)⟩
    else if low < dtf + minp then
      if pulse = 0 then ⟨cyc, none, none, some true, some r, some f, some (f, false, true)⟩
      else
        let need := dtf + minp - low
        let lo := if mode = 1 then need / 2 else 0
        ⟨cyc, some ((r + need - lo) % l), some ((f + l - lo) % l), none, some r, some f, some (f, false, false)⟩
    else ⟨cyc, some r, some f, none, some r, some f, none⟩
  | r, f => ⟨cyc, r, f, x.2.2, r, f, none⟩

/-- Cycle c lies from a up to b on the carrier. -/
def inSpan (a b c : Nat) : Bool := if a < b then decide (a ≤ c ∧ c < b) else decide (a ≤ c ∨ c < b)

/-- A level between two edges at cycle c, given the level before. -/
def levelAt (rise fall : Option Nat) (rest : Option Bool) (c : Nat) (old : Bool) : Bool :=
  match rise, fall with
  | some r, some f => inSpan (r / 64) (f / 64) c
  | some r, none => decide (r / 64 ≤ c) || old
  | none, some f => !decide (f / 64 ≤ c) && old
  | none, none => rest.getD old

/-- The level of the pattern at cycle c. -/
def PwmPat.level (p : PwmPat) (c : Nat) (old : Bool) : Bool := levelAt p.rise p.fall p.rest c old

/-- Cycles from c to the edge at step e on the carrier, at least one. -/
def PwmPat.until (p : PwmPat) (c e : Nat) : Nat := (e / 64 + p.cyc - c - 1) % p.cyc + 1

/-- Cycles from c to the end of the interval of a level under the pattern; none: it does not end. -/
def PwmPat.endOf (p : PwmPat) (c : Nat) (lv : Bool) : Option Nat :=
  if p.level c lv != lv then some 0
  else match (if lv then p.fall else p.rise) with
    | some e => some (p.until c e)
    | none => none

/-- A dropped interval of the pattern in which cycle c lies, of a level: the cycles to its ideal end. -/
def PwmPat.dropEnd (p : PwmPat) (c : Nat) (lv : Bool) : Option Nat :=
  match p.hit with
  | some (_, hl, true) =>
    if hl == lv && levelAt p.rise0 p.fall0 none c lv == lv then (if lv then p.fall0 else p.rise0).map (p.until c) else none
  | _ => none

/-- A drop or a stretch is counted (R289, R290), also in the frame statistics. -/
def pulseCount (d k : Nat) (dropped : Bool) (s : State) : State :=
  if dropped then
    statAx d (s.pairAx d k) F.PROMPT_LIVE_SA_DROP ((s.on d (F.PWM_PP_EVT_DROP k)).count d (F.PWM_PP_PCNT_DROPCNT k) 1)
  else
    statAx d (s.pairAx d k) F.PROMPT_LIVE_SA_STR_STRETCH
      ((s.on d (F.PWM_PP_EVT_STRETCH k)).count d (F.PWM_PP_PCNT_STRCNT k) 1)

/-- A forced stretch, R290. -/
def forcedCount (d k : Nat) (s : State) : State :=
  statAx d (s.pairAx d k) F.PROMPT_LIVE_SA_STR_FORCED
    ((s.on d (F.PWM_PP_EVT_FSTRETCH k)).count d (F.PWM_PP_PCNT_STRCNT k) 1)

/-- The carrier of a running group in counts. -/
def State.carrier (s : State) (d g : Nat) : Nat := max 1 (s.lgCarrier d g)

/-- The pair count c, R280. -/
def State.pairCnt (s : State) (d k : Nat) : Nat :=
  let g := s.pairLg d k
  (s.get d (F.PWM_LG_CNT g) + (s.pair d k).phase) % s.carrier d g

/-- A load moves the end of the interval in progress, R290. -/
def pairRedecide (d k c : Nat) (s : State) : State :=
  let x := s.pair d k
  let t := s.now d
  let p := x.pat
  let on := if x.eff then x.rawH else x.rawL
  let dt := if x.eff then x.dtr else x.dtf
  let until_ := fun (n : Nat) (s : State) => s.modPair d k (fun y => { y with endAt := n })
  if on then
    let lim := (if x.eff then x.hAt else x.lAt) + x.minp / 64
    match p.dropEnd c x.eff with
    | some n => until_ (max lim (t + n)) s
    | none =>
      match p.endOf c x.eff with
      | some n => if t + n < lim then forcedCount d k (until_ lim s) else until_ 0 s
      | none => until_ 0 s
  else if x.drop || x.effAt = t then s
  else
    let up := x.effAt + (x.effSub + dt + x.minp) / 64
    let short := fun (n : Nat) (s : State) =>
      if t + n < up then
        if x.pulse = 0 then
          pulseCount d k true (s.modPair d k (fun y => { y with drop := true, endAt := t + n }))
        else pulseCount d k false (until_ up s)
      else s
    match p.dropEnd c x.eff with
    | some n => short n s
    | none => match p.endOf c x.eff with
      | some n => short n s
      | none => s

/-- A pair at a group boundary: its settings (R287), and its waveform from the values in force (R290); `jump`: the carrier
was restarted. -/
def pairTake (d k : Nat) (jump : Bool) (s : State) : State :=
  let s := s.modPair d k (fun p =>
    { p with mode := s.get d (F.PWM_PP_CFG_MODE k), pulse := s.get d (F.PWM_PP_CFG_PULSE k),
             phase := s.get d (F.PWM_PP_PHASE k), dtr := s.get d (F.PWM_PP_DTR k), dtf := s.get d (F.PWM_PP_DTF k),
             minp := s.get d (F.PWM_PP_MINP k) })
  let x := s.pair d k
  let new := patOf x.mode x.pulse x.dtr x.dtf x.minp (s.chopLs d k) (s.get d (F.PWM_PP_ACTA k))
    (s.get d (F.PWM_PP_ACTB k)) (s.carrier d (s.pairLg d k))
  let s := s.modPair d k (fun p => { p with pat := new })
  let c := s.pairCnt d k
  if x.pat.cyc = 0 then
    s.modPair d k (fun p => { p with eff := new.level c false, effAt := s.now d, effSub := 0, hAt := s.now d, lAt := s.now d })
  else if new == x.pat && !jump then s
  else pairRedecide d k c s

/-- The lines of a pair, from the lines before trips and enables: the start rule of R294, the unused switch of a CHOP axis
(R291), the overlap of R292. -/
def pairLines (d k : Nat) (s : State) : State :=
  let x := s.pair d k
  let t := s.now d
  let go := x.live && s.devActive && !s.tripHeld d k
  let hs := go && x.rawH && !s.chopLs d k && (decide (x.liveAt ≤ x.hAt) || decide (x.liveAt + x.dtr / 64 ≤ t))
  let ls := go && x.rawL && !s.chopHs d k && (decide (x.liveAt ≤ x.lAt) || decide (x.liveAt + x.dtf / 64 ≤ t))
  let s := s.put d (F.PWM_PP_STAT_RUN k) (b2n go)
  if hs && ls then
    latchFault d Fg.pwmOvlp k false
      (((s.off d (F.PWM_PP_STAT_HS k)).off d (F.PWM_PP_STAT_LS k)).on d (F.PWM_PP_EVT_OVLP k))
  else (s.put d (F.PWM_PP_STAT_HS k) (b2n hs)).put d (F.PWM_PP_STAT_LS k) (b2n ls)

/-- The cues of a pair in this cycle (R280, R284), taken on the ideal H. -/
def pairCues (d k c : Nat) (s : State) : State :=
  let x := s.pair d k
  let g := s.pairLg d k
  let per := max 1 (s.lgPer d g)
  let l := 64 * x.pat.cyc
  let h := idealH x.mode (s.get d (F.PWM_PP_ACTA k)) (s.get d (F.PWM_PP_ACTB k)) l
  let s := if c % per = 0 then fireCue d k s else s
  let s := match h.1 with
    | some r => if r / 64 = c ∧ (h.2.1.isSome ∨ !x.eff) then fireCue d (0x12 + 2 * k) s else s
    | none => s
  let b := s.get d (F.PWM_PP_ACTB k)
  if b < l ∧ b / 64 = c then fireCue d (0x13 + 2 * k) s else s

/-- The level of a pair in this cycle, with the place of its last edge. -/
def pairLevel (d k c : Nat) (s : State) : State :=
  let x := s.pair d k
  let t := s.now d
  if t < x.endAt then s
  else
    let lv := x.pat.level c x.eff
    if lv == x.eff then s.modPair d k (fun p => { p with endAt := 0 })
    else
      let e := if lv then x.pat.rise else x.pat.fall
      let sub := match e with
        | some e => if e / 64 = c then e % 64 else 0
        | none => 0
      s.modPair d k (fun p => { p with eff := lv, effAt := t, effSub := sub, endAt := 0, drop := false })

/-- Turn-offs follow the level; a turn-on waits for its dead time and for the other channel (R288, R292). In a dropped
interval the channel that would have turned off keeps its state, and one that is off waits for its next interval (R289,
R290). -/
def pairRaw (d k c : Nat) (s : State) : State :=
  let x := s.pair d k
  let t := s.now d
  let held := match x.pat.hit with
    | some (_, hl, true) => hl != x.eff && x.pat.cyc != 0 && levelAt x.pat.rise0 x.pat.fall0 none c x.eff == hl
    | _ => false
  let onH := x.eff && !x.drop && (x.rawH || (!held && !x.rawL && decide (x.effAt + (x.effSub + x.dtr) / 64 ≤ t) &&
    decide (x.lAt + x.dtr / 64 ≤ t)))
  let onL := !x.eff && !x.drop && (x.rawL || (!held && !x.rawH && decide (x.effAt + (x.effSub + x.dtf) / 64 ≤ t) &&
    decide (x.hAt + x.dtf / 64 ≤ t)))
  s.modPair d k (fun p =>
    { p with rawH := onH, rawL := onL, hAt := if onH == x.rawH then p.hAt else t,
             lAt := if onL == x.rawL then p.lAt else t })

/-- A trip input whose blanking has ended while it is active latches, R299. -/
def blankEnd (d n : Nat) (s : State) : State :=
  let x := (s.c d).pwm.trips.at n
  if x.active && x.blanked && !s.blanking d n then
    tripLatch d n (s.modTrip d n (fun t => { t with blanked := false }))
  else s

/-- One fabric cycle of a pair of a running group. -/
def pairCycle (d k : Nat) (s : State) : State :=
  let c := s.pairCnt d k
  let s := s.put d (F.PWM_PP_CNT k) c
  let s := pairCues d k c s
  let s := match (s.pair d k).pat.hit with
    | some (e, _, dropped) => if e / 64 = c then pulseCount d k dropped s else s
    | none => s
  pairLines d k (pairRaw d k c (pairLevel d k c s))

/-! ### Load groups -/

/-- B of a handover in progress is no longer a boundary of its groups: it is cancelled, R141, R144. -/
def hoBoundaryCheck (d : Nat) (s : State) : State :=
  let h := (s.c d).hdr.ho
  if h.active && !h.taking && !h.static && decide (s.now d < h.b) &&
      !((s.mateGroups d h.die).all (fun g => s.isBoundary d g (h.b - s.now d))) then
    hoCancel d Ho.noBoundary s
  else s

/-- The shadows of a group move into force, R285. -/
def groupLoad (d g : Nat) (s : State) : State :=
  let s := s.put d (F.PWM_LG_ACTPER g) (s.get d (F.PWM_LG_PER g))
  let s := overL (s.pairsIn d g) (fun k s =>
    (s.put d (F.PWM_PP_ACTA k) (s.get d (F.PWM_PP_CMPA k))).put d (F.PWM_PP_ACTB k) (s.get d (F.PWM_PP_CMPB k))) s
  fireCue d (0x36 + g) (s.putBit d F.PWM_GCTRL_LOADALL g false)

/-- A load at a boundary, Table 11-2. -/
def groupLoadAt (d g : Nat) (s : State) : State :=
  if s.bitOf d F.PWM_GCTRL_LOADALL g then
    if s.get d (F.PWM_LG_PER g) != s.lgPer d g && s.flag d (F.PWM_LG_CNT g) then s.on d F.PWM_GEVT_LOADWAIT
    else groupLoad d g s
  else s

/-- FIELD's request at the first period boundary at least 10 µs after CATCH, R264. -/
def engageAt (d g : Nat) (s : State) : State :=
  overN 6 (fun a s =>
    if s.phase d a == Ph.engage && !(s.axr d a).requested && decide ((s.axr d a).caughtAt + 4000 ≤ s.now d) &&
        (s.pairsOf d a).any (fun k => s.pairLg d k == g) then fieldEnable d a s
    else s) s

/-- The enable of a pair acts at a boundary of its group, R294, R295, R298, R301: of an enabled axis, of a timer pair, or of
a mirroring pair whose owner is enabled. -/
def pairEnable (d k : Nat) (s : State) : State :=
  let a := s.pairAx d k
  let en := a == 7 || s.enabled d a || (s.flag d (F.PWM_PP_STAT_MIRROR k) && s.enabled (1 - d) a)
  if en && !(s.pair d k).live && s.devActive && !s.tripHeld d k then
    let s := s.modPair d k (fun p => { p with live := true, liveAt := s.now d })
    if a < 6 then axisTakes d a s else s
  else s

/-- A group boundary, R278, R285, R287, R294. -/
def groupBoundary (d g : Nat) (jump : Bool) (s : State) : State :=
  let s := groupLoadAt d g s
  let s := if s.flag d (F.PWM_LG_CNT g) then s
    else match s.pairsIn d g with
      | [] => s
      | k :: _ => s.modLg d g (fun x => { x with carm := s.get d (F.PWM_PP_CFG_CARM k) })
  let s := overL (s.pairsIn d g) (fun k s => pairTake d k jump s) s
  let s := engageAt d g s
  hoBoundaryCheck d (overL (s.pairsIn d g) (pairEnable d) s)

/-- A group starts, R279: its count is 0, it loads as at a load, and its cue fires. -/
def groupStart (d g : Nat) (s : State) : State :=
  let s := (s.put d (F.PWM_LG_CNT g) 0).modLg d g (fun x => { x with waiting := false, running := true, restart := false })
  let s := overL (s.pairsIn d g) (pairRest d) s
  groupBoundary d g false (s.putBit d F.PWM_GCTRL_LOADALL g true)

/-- The carrier that a waiting group will start with, R279. -/
def State.startCarrier (s : State) (d g : Nat) : Nat :=
  (match s.pairsIn d g with
    | [] => 1
    | k :: _ => s.get d (F.PWM_PP_CFG_CARM k) + 1) * max 1 (s.get d (F.PWM_LG_PER g))

/-- The stage time is aligned for the start of a waiting group. -/
def State.startAligned (s : State) (d g : Nat) : Bool :=
  (Int.ofNat (s.now d) - Int.ofNat (s.get d (F.PWM_LG_CFG_ORG g))) % Int.ofNat (s.startCarrier d g) == 0

/-- One fabric cycle of a group. -/
def groupCycle (d g : Nat) (s : State) : State :=
  let x := s.lg d g
  if x.waiting then (if s.startAligned d g then groupStart d g s else s)
  else if x.running then
    if x.restart then
      groupBoundary d g true ((s.put d (F.PWM_LG_CNT g) 0).modLg d g (fun x => { x with restart := false }))
    else
      let n := (s.get d (F.PWM_LG_CNT g) + 1) % s.carrier d g
      let s := s.put d (F.PWM_LG_CNT g) n
      if n % max 1 (s.lgPer d g) = 0 then groupBoundary d g false s else s
  else s

/-- One fabric cycle of the PWM of C die d. -/
def pwmCycle (d : Nat) (s : State) : State :=
  let s := overN 8 (groupCycle d) s
  let s := overN 18 (fun k s => if (s.lg d (s.pairLg d k)).running then pairCycle d k s else s) s
  overN 4 (blankEnd d) s

end Sys2Proof.Machine
end

