-- ==== Sys2Proof/Machine/Field.lean ====
section
/-! DEFINITION. FIELD (chapter 10): the commands of an axis, the flying start, alignment, reversal, the grid PLL, and the
battery limits. -/

namespace Sys2Proof.Machine

/-! ### Commands -/

/-- Source 7 carries the effective setpoint, R247. -/
def spSource (d a : Nat) (s : State) : State :=
  srcSet d (0x2D7 + 8 * a) (ux16 (floorDiv (s.axr d a).eff 2560)) s

/-- The axis leaves its phase with a refusal of START: IDLE, its gates never switched. -/
def startRefused (d a code : Nat) (s : State) : State := fieldIdle d a (fieldReport d a code 1 s)

/-- PWM of the axis is disabled at once; the axis goes to IDLE, R260. -/
def fieldDisable (d a : Nat) (s : State) : State := standbyIfIdle (fieldIdle d a (axisOff d a s))

/-- No load group with a pair of the axis runs. -/
def State.noGroupRuns (s : State) (d a : Nat) : Bool :=
  (s.pairsOf d a).all (fun k => !(s.lg d (s.pairLg d k)).running)

/-- ENGAGE, R264: the presets (those of the observer for every axis but a DCDC one, which has the current integrators
alone, R259), the effective setpoint, and the request of the enable; with no running group there is no
boundary to wait for, and the enable is requested at once. -/
def fieldEngage (d a : Nat) (spd ang q : Int) (s : State) : State :=
  let pre := fun (e sl : Nat) (v : Int) (s : State) => setPreset d e sl (v * 32768) s
  let s := pre (s.get d (F.FIELD_AX_CURTRK_ENGD a)) (s.get d (F.FIELD_AX_CURTRK_SLOTD a)) 0 s
  let s := pre (s.get d (F.FIELD_AX_CURTRK_ENGQ a)) (s.get d (F.FIELD_AX_CURTRK_SLOTQ a)) q s
  let s := if s.flag d (F.FIELD_AX_SPDTRK_EN a) then
      pre (s.get d (F.FIELD_AX_SPDTRK_ENG a)) (s.get d (F.FIELD_AX_SPDTRK_SLOT a)) 0 s else s
  let s := if s.axType d a == 4 then s else
      let e := s.get d (F.FIELD_AX_OBSTRK_ENG a)
      pre e (s.get d (F.FIELD_AX_OBSTRK_SLOTW a)) spd (pre e (s.get d (F.FIELD_AX_OBSTRK_SLOTA a)) ang s)
  let s := s.modAxr d a (fun x => { x with eff := spd * 2560, effHeld := false, requested := false })
  let s := spSource d a (s.put d (F.FIELD_AX_STAT_PHASE a) Ph.engage)
  if s.noGroupRuns d a then fieldEnable d a s else fieldStatus d a s

/-- START from IDLE, R261: the checks in order, then CATCH; a CHOP axis asks for its enable (R352), a DCDC axis engages at
once with its integrators at 0 (R259). -/
def fieldStart (d a : Nat) (s : State) : State :=
  let ty := s.axType d a
  let vdc := s.axVdc d a
  if s.get d F.LIB_AXST / 16 ^ a % 16 != 1 then fieldReport d a 0x01 1 s
  else if s.inCurtain d a then fieldReport d a 0x07 1 s
  else if ty == 3 && (!s.flag d (F.FIELD_AX_GRIDST_LOCK a) || decide (100 * vdc < 105 * Int.ofNat (s.axr d a).gridPeak)) then
    fieldReport d a 0x06 1 s
  else
    let code := s.enCheck d a
    if code != 0 then fieldReport d a 0x02 1 (enNote d a code s)
    else
      let s := fieldReport d a 0x00 1 s
      if ty == 5 then enRequest d a s
      else
        let fb := s.get d (F.FIELD_AX_ANG_SRC a) == 0 && s.flag d (F.FB_FB_STAT_VALID (s.get d (F.FIELD_AX_CFG_FB a)))
        let s := s.modAxr d a (fun x =>
          { x with catchAt := s.now d, catchV := !fb, catchSets := [], caughtV := false, caughtAt := s.now d, revNext := false,
                   riding := false, flip := false, stopT := none })
        let s := s.off d (F.FIELD_AX_STAT_POLOK a)
        if ty == 4 then fieldEngage d a 0 0 0 s
        else fieldStatus d a (s.put d (F.FIELD_AX_STAT_PHASE a) Ph.catch_)

/-- STOP, R260: STOPPING; a LINE3 or DCDC axis ramps T to 0; a CHOP axis has no setpoint and is disabled. -/
def fieldStop (d a : Nat) (s : State) : State :=
  let ty := s.axType d a
  if ty == 5 then fieldDisable d a s
  else
    let t := s.geti d (F.FIELD_AX_TOUT_T a)
    let s := s.modAxr d a (fun x => { x with stopT := if ty == 3 || ty == 4 then some (t * 2560) else none })
    fieldStatus d a (s.put d (F.FIELD_AX_STAT_PHASE a) Ph.stopping)

/-- A write of FIELD_AXa_CMD, Table 10-6; only the first command of a fabric cycle is acted on (R260). -/
def fieldCommand (d a op : Nat) (s : State) : State :=
  if (s.axr d a).cmdAt == s.now d + 1 then s else
  let p := s.phase d a
  let s := (s.put d (F.FIELD_AX_CMD_OP a) 0).modAxr d a (fun x => { x with cmdAt := s.now d + 1, cmdPhase := p })
  if p == Ph.curtain then fieldReport d a 0x07 op s
  else if op == 1 then
    if p == Ph.idle then fieldStart d a s
    else if p == Ph.run || p == Ph.reversing then fieldReport d a 0x0A 1 s
    else fieldReport d a 0x05 1 s
  else if op == 2 then
    if p == Ph.run || p == Ph.reversing then fieldReport d a 0x00 2 (fieldStop d a s)
    else fieldReport d a 0x05 2 s
  else if op == 3 then fieldReport d a 0x00 3 (fieldDisable d a s)
  else fieldReport d a 0x08 op s

/-- R261, R243, R252, R256, R258, R259, R262. A write of START to FIELD_AXa_CMD. -/
def execFieldStart (d : CDie) (a : Axis) (s : State) : Out :=
  onCW d.val (own (0x180000 + 0x1000 * a.val)) (fieldCommand d.val a.val 1) s

/-- R260. A write of STOP. -/
def execFieldStop (d : CDie) (a : Axis) (s : State) : Out :=
  onCW d.val (own (0x180000 + 0x1000 * a.val)) (fieldCommand d.val a.val 2) s

/-- R260. A write of DISABLE. -/
def execFieldDisable (d : CDie) (a : Axis) (s : State) : Out :=
  onCW d.val (own (0x180000 + 0x1000 * a.val)) (fieldCommand d.val a.val 3) s

/-- R260. A write of a command value that is not in Table 10-6: 0, or 4 to 7. -/
def execFieldBadCmd (d : CDie) (a : Axis) (op : Fin 5) (s : State) : Out :=
  onCW d.val (own (0x180000 + 0x1000 * a.val)) (fieldCommand d.val a.val (if op.val = 0 then 0 else op.val + 3)) s

/-! ### Setpoint -/

/-- A speed setpoint is against the rotation, R265. -/
def State.against (s : State) (d a : Nat) (sp v : Int) : Bool :=
  decide (sp ≠ 0) && decide (v ≠ 0) && (decide (0 < sp) != decide (0 < v)) && decide (s.get d (F.FIELD_AX_REV_REVTH a) < absQ15 v)

/-- SPSET takes a value, and source 7 updates (R247). -/
def spsetTake (d a : Nat) (v : Word) (s : State) : State := spSource d a (s.put d (F.FIELD_AX_SPSET a) (v.toNat % 65536))

/-- The speed rule of R265 acts in a phase of an axis. -/
def State.spRuled (s : State) (d a p : Nat) : Bool :=
  (p == Ph.run || p == Ph.reversing || p == Ph.stopping) && !s.flag d (F.FIELD_AX_CFG_CTRL a)

/-- A write of SPSET that shares its fabric cycle with a command counts as made before it (R260): it is judged in the phase that
the command met, and what the command has made of the phase and reported stands. -/
def spsetBefore (d a : Nat) (v : Word) (s : State) : State :=
  if s.spRuled d a (s.axr d a).cmdPhase && s.against d a (sx16 v.toNat) (s.speed d a) && !s.epath d a then
    s.on d (F.FIELD_AX_EVT_REFUSED a)
  else spsetTake d a v s

/-- A write of SPSET, R265 to R267. -/
def spsetWrite (d a : Nat) (v : Word) (s : State) : State :=
  let p := s.phase d a
  let sp := sx16 v.toNat
  let spd := s.speed d a
  let ruled := s.spRuled d a p
  let anti := s.against d a sp spd
  if (s.axr d a).cmdAt == s.now d + 1 then spsetBefore d a v s
  else if ruled && anti && !s.epath d a then fieldReport d a 0x03 7 s
  else
    let s := fieldReport d a 0x00 7 (spsetTake d a v s)
    if !ruled then s
    else if p != Ph.reversing then if anti then fieldReverse d a s else s
    else if decide (sp ≠ 0) && decide (spd ≠ 0) && decide (0 < sp) == decide (0 < spd) then
      fieldStatus d a (s.put d (F.FIELD_AX_STAT_PHASE a) Ph.run)
    else s.modAxr d a (fun x => { x with effHeld := false, since := s.now d })

/-- R265, R247, R266. A write of FIELD_AXa_SPSET. -/
def execSpsetWrite (d : CDie) (a : Axis) (v : Word) (s : State) : Out :=
  onCW d.val (own (0x18001C + 0x1000 * a.val)) (spsetWrite d.val a.val v) s

/-- One step of a value toward another. -/
def rampTo (x target step : Int) : Int := if x < target then min target (x + step) else max target (x - step)

/-- The effective setpoint of an axis moves one ramp step, R247, R260, R264; a stopping LINE3 or DCDC axis ramps T, and its
PWM is disabled when T is 0. -/
def effStep (d a : Nat) (s : State) : State :=
  let p := s.phase d a
  let x := s.axr d a
  let step := Int.ofNat (s.get d (F.FIELD_AX_RAMP a))
  let target := if p == Ph.stopping || x.effHeld then 0 else s.geti d (F.FIELD_AX_SPSET a) * 2560
  let moves := p == Ph.engage || p == Ph.run || p == Ph.reversing || p == Ph.stopping
  let s := if moves then s.modAxr d a (fun x => { x with eff := rampTo x.eff target step }) else s
  let s := fieldStatus d a (spSource d a s)
  match x.stopT with
  | some t =>
    let t := rampTo t 0 step
    let s := fieldRequest d a (s.modAxr d a (fun x => { x with stopT := some t }))
    if t = 0 then fieldDisable d a s else s
  | none => s

/-- R247. 100 µs have passed: the effective setpoint of every axis moves one step. -/
def execEffectiveSetpointUpdate (d : CDie) (s : State) : Out := onC d.val (fun s => overN 6 (effStep d.val) s) s

/-! ### Flying start -/

/-- The observer has run for 100 ms (R255), the lock of R263. -/
def State.obsLock (s : State) (d a : Nat) : Bool :=
  let t := (s.axr d a).obsFrom
  t != 0 && decide (t + 40000000 ≤ s.now d + 1)

/-- The source cannot follow the caught speed, R263. -/
def State.cannotFollow (s : State) (d a : Nat) (spd : Int) : Bool :=
  let src := s.get d (F.FIELD_AX_ANG_SRC a)
  decide (s.get d (F.FIELD_AX_CATCH_STILL a) < absQ15 spd) &&
    ((src == 0 && !s.flag d (F.FB_FB_STAT_VALID (s.get d (F.FIELD_AX_CFG_FB a))) && !s.flag d (F.FIELD_AX_CFG_FBLOSS a)) ||
     (src == 2 && decide (Int.ofNat (absQ15 spd) < s.geti d (F.FIELD_AX_HFI_S1 a)) && !s.obsLock d a))

/-- The angle source has no absolute reference at a start from standstill, R256. -/
def State.needsAlign (s : State) (d a : Nat) (spd : Int) : Bool :=
  let src := s.get d (F.FIELD_AX_ANG_SRC a)
  let n := s.get d (F.FIELD_AX_CFG_FB a)
  decide (absQ15 spd ≤ s.get d (F.FIELD_AX_CATCH_STILL a)) &&
    ((src == 0 && s.get d (F.FB_FB_CFG_MODE n) == 1 && !s.flag d (F.FB_FB_STAT_REF n)) ||
     (src == 2 && !s.flag d (F.FIELD_AX_STAT_POLOK a)))

/-- ALIGN, R256: the alignment current alone, with the gates switching; the enable is asked for now. -/
def alignBegin (d a : Nat) (s : State) : State :=
  let s := s.put d (F.FIELD_AX_STAT_PHASE a) Ph.align
  let s := s.modAxr d a (fun x => { x with alignAt := 0, ripPos := none, ripNeg := none, onCatch := false })
  fieldEnable d a (dCurrent d a (s.alignCur d a) s)

/-- The references of ALIGN as its parts follow one another, R254, R256. -/
def alignCycle (d a : Nat) (s : State) : State :=
  if s.phase d a == Ph.align && s.geti d (F.FIELD_AX_OUT_ID a) ≠ s.alignCur d a then dCurrent d a (s.alignCur d a) s else s

/-- FIELD writes ELOFS of the interface so that its electrical angle is the found one, R256. -/
def elofsTake (d a found : Nat) (s : State) : State :=
  let n := s.get d (F.FIELD_AX_CFG_FB a)
  s.put d (F.FB_FB_ELOFS n) ((s.get d (F.FB_FB_ELOFS n) + found + 65536 - s.fbElec d n) % 65536)

/-- The interface of an FB axis has no absolute reference: INCR with REF = 0, R256. -/
def State.fbUnref (s : State) (d a : Nat) : Bool :=
  let n := s.get d (F.FIELD_AX_CFG_FB a)
  s.get d (F.FIELD_AX_ANG_SRC a) == 0 && s.fbMode d n == Fbm.incr && !s.flag d (F.FB_FB_STAT_REF n)

/-- The q preset of R264: the machine's own voltage. -/
def State.qPreset (s : State) (d a : Nat) (spd : Int) : Int :=
  if (s.axr d a).caughtV then
    (if spd < 0 then -1 else if spd = 0 then 0 else 1) * s.geti d (F.FIELD_AX_CATCHAMP a)
  else rndDiv (s.geti d (F.FIELD_AX_MOT_KE a) * spd) 32768

/-- The catch of an axis has run its time, R262: the window of 2 ms for the voltages, the next observer update for the
interface. -/
def State.catchOver (s : State) (d a : Nat) : Bool :=
  let x := s.axr d a
  s.phase d a == Ph.catch_ &&
    (if x.catchV then !x.catchSets.isEmpty && decide (x.catchAt + 800000 ≤ s.now d)
     else decide (x.catchAt + 1 < (s.fb d (s.get d (F.FIELD_AX_CFG_FB a))).updAt))

/-- Speed and angle of the machine at the end of a catch; the voltages give AMP too (R262). -/
def State.caught (s : State) (d a : Nat) : Int × Nat × Option Nat :=
  let x := s.axr d a
  if x.catchV then
    let r := Config.catchFilter x.catchSets (s.get d (F.FIELD_AX_SCALE_SPDFS a)) (s.get d (F.FIELD_AX_SCALE_POLEPAIRS a))
    let amp := (r.extractLsb' 32 16).toNat
    let spd := sx16 (r.extractLsb' 0 16).toNat
    (if sx16 amp < s.geti d (F.FIELD_AX_CATCH_VSTILL a) then 0 else spd, (r.extractLsb' 16 16).toNat, some amp)
  else (s.fbAxisSpeed d a, s.fbElec d (s.get d (F.FIELD_AX_CFG_FB a)), none)

/-- The results of a catch are held, R262; the voltages of a turning machine also align an interface without a reference
(R256). -/
def caughtTake (d a : Nat) (s : State) : State :=
  let r := s.caught d a
  let s := (s.puti d (F.FIELD_AX_CATCHST_SPEED a) r.1).put d (F.FIELD_AX_CATCHST_ANGLE a) r.2.1
  let s := match r.2.2 with
    | some amp => s.put d (F.FIELD_AX_CATCHAMP a) amp
    | none => s
  let s := s.on d (F.FIELD_AX_EVT_CATCHDONE a)
  let s := onlyIf (r.2.2.isSome && s.fbUnref d a && decide (s.get d (F.FIELD_AX_CATCH_STILL a) < absQ15 r.1))
    (elofsTake d a r.2.1) s
  s.modAxr d a (fun x => { x with caughtV := r.2.2.isSome, caughtAt := s.now d, onCatch := true, catchSets := [] })

/-- The end of a catch, R262 to R265. -/
def catchDone (d a : Nat) (s : State) : State :=
  let r := s.caught d a
  let s := caughtTake d a s
  let rev := !s.flag d (F.FIELD_AX_CFG_CTRL a) && s.against d a (s.geti d (F.FIELD_AX_SPSET a)) r.1
  if s.cannotFollow d a r.1 then startRefused d a 0x04 s
  else if rev && !s.epath d a then startRefused d a 0x03 s
  else
    let s := s.modAxr d a (fun x => { x with revNext := rev })
    if s.needsAlign d a r.1 then
      if s.get d (F.FIELD_AX_ALIGN_METHOD a) == 0 then startRefused d a 0x04 s else alignBegin d a s
    else fieldEngage d a r.1 (sx16 r.2.1) (s.qPreset d a r.1) s

/-- R262 to R265. CATCH of an axis completes. -/
def execCatchDone (d : CDie) (a : Axis) (s : State) : Out :=
  onC d.val (fun s => if s.catchOver d.val a.val then catchDone d.val a.val s else s) s

/-- R263. 10 µs have passed in a voltage CATCH without a VPH set. -/
def execCatchNoVoltage (d : CDie) (a : Axis) (s : State) : Out :=
  onC d.val (fun s =>
    let x := s.axr d.val a.val
    if s.phase d.val a.val == Ph.catch_ && x.catchV && x.catchSets.isEmpty && decide (x.catchAt + 4000 ≤ s.now d.val) then
      startRefused d.val a.val 0x04 s else s) s

/-! ### Alignment -/

/-- ALIGN has run its time: TIME ms with the gates switching, and the polarity test after it where there is one (R254, R256). -/
def State.alignOver (s : State) (d a : Nat) : Bool :=
  s.phase d a == Ph.align && (s.axr d a).alignAt != 0 &&
    (if s.polTests d a then s.polPulse d a == 3 else decide (s.alignTime d a ≤ s.now d + 1 - (s.axr d a).alignAt))

/-- Alignment completes, R256: the rotor lies at 0 (DCINJ) or at the HFI angle; FIELD writes ELOFS of the interface so that
its angle is the found one, the found angle takes the place of the caught one, and the axis engages with its lines off. An
HFI_OBS axis without a polarity result has no usable angle. -/
def alignDone (d a : Nat) (s : State) : State :=
  let src := s.get d (F.FIELD_AX_ANG_SRC a)
  if s.polTests d a && !s.flag d (F.FIELD_AX_STAT_POLOK a) then startRefused d a 0x04 (axisOff d a s)
  else
    let found := if s.get d (F.FIELD_AX_ALIGN_METHOD a) == 1 then 0 else uxN 16 (s.hfiAngle d a)
    let s := onlyIf (src == 0) (elofsTake d a found) s
    let s := (s.put d (F.FIELD_AX_CATCHST_ANGLE a) found).put d (F.FIELD_AX_CATCHST_SPEED a) 0
    let s := s.modAxr d a (fun x => { x with caughtAt := s.now d, onCatch := true })
    fieldEngage d a 0 (sx16 found) (s.qPreset d a 0) (axisOff d a s)

/-- R256. The alignment of an axis completes. -/
def execAlignDone (d : CDie) (a : Axis) (s : State) : Out :=
  onC d.val (fun s => if s.alignOver d.val a.val then alignDone d.val a.val s else s) s

/-- The polarity test of an axis in ALIGN is over, R254: with the larger ripple in the negative pulse the HFI angle is
turned. -/
def polarity (d a : Nat) (s : State) : State :=
  match s.polPulse d a, (s.axr d a).ripPos, (s.axr d a).ripNeg with
  | 3, some p, some n =>
    fieldStatus d a ((s.on d (F.FIELD_AX_STAT_POLOK a)).modAxr d a (fun x => { x with flip := decide (p < n) }))
  | _, _, _ => s

/-- R254. The polarity test of an axis in ALIGN ends. -/
def execPolarityTest (d : CDie) (a : Axis) (s : State) : Out := onC d.val (polarity d.val a.val) s

/-! ### Running -/

/-- |speed| is below STILL. -/
def State.still (s : State) (d a : Nat) : Bool := decide (absQ15 (s.speed d a) < s.get d (F.FIELD_AX_CATCH_STILL a))

/-- The time below STILL in STOPPING, R260. -/
def stillCycle (d a : Nat) (s : State) : State :=
  let x := s.axr d a
  if s.phase d a == Ph.stopping && s.still d a then
    if x.stillAt == 0 then s.modAxr d a (fun x => { x with stillAt := s.now d + 1 }) else s
  else if x.stillAt == 0 then s
  else s.modAxr d a (fun x => { x with stillAt := 0 })

/-- R260. |speed| has stayed below STILL for 10 ms in STOPPING. -/
def execStopComplete (d : CDie) (a : Axis) (s : State) : Out :=
  onC d.val (fun s =>
    let x := s.axr d.val a.val
    if s.phase d.val a.val == Ph.stopping && x.stopT.isNone && x.stillAt != 0 && s.still d.val a.val &&
        decide (x.stillAt + 4000000 ≤ s.now d.val + 1) then fieldDisable d.val a.val s
    else s) s

/-- R266. In REVERSING the measured speed has the sign of SPSET and exceeds STILL. -/
def execReversalDone (d : CDie) (a : Axis) (s : State) : Out :=
  onC d.val (fun s =>
    let sp := s.geti d.val (F.FIELD_AX_SPSET a.val)
    let v := s.speed d.val a.val
    if s.phase d.val a.val == Ph.reversing && decide (sp ≠ 0) && decide (v ≠ 0) && decide (0 < sp) == decide (0 < v) &&
        s.get d.val (F.FIELD_AX_CATCH_STILL a.val) < absQ15 v then
      fieldStatus d.val a.val
        ((s.put d.val (F.FIELD_AX_STAT_PHASE a.val) Ph.run).on d.val (F.FIELD_AX_EVT_REVDONE a.val))
    else s) s

/-- R267. REVERSING has lasted longer than REVTMO. -/
def execReversalTimeout (d : CDie) (a : Axis) (s : State) : Out :=
  onC d.val (fun s =>
    let x := s.axr d.val a.val
    if s.phase d.val a.val == Ph.reversing && !x.effHeld &&
        decide (x.since + s.get d.val (F.FIELD_AX_REV_REVTMO a.val) * 400000 < s.now d.val) then
      let s := s.modAxr d.val a.val (fun x => { x with eff := 0, effHeld := true })
      spSource d.val a.val
        ((s.put d.val (F.FIELD_AX_CMDST_CODE a.val) 0x09).on d.val (F.FIELD_AX_EVT_REVTMO a.val))
    else s) s

/-! ### Grid -/

/-- The line-to-line peak of three voltages to neutral: √3 times the length of their vector, rounded down. -/
def linePeak (v1 v2 v3 : Int) : Nat :=
  let x := 2 * v1 - v2 - v3
  let y := v2 - v3
  isqrt ((x * x + 3 * y * y).toNat / 3)

/-- One update of the grid PLL of a LINE3 axis, R258, on entries ENT to ENT + 2 of group AG. -/
def gridUpdate (d a : Nat) (s : State) : State :=
  let g := s.get d (F.FIELD_AX_GRID_AG a)
  let e := s.get d (F.FIELD_AX_GRID_ENT a)
  let v := fun (i : Nat) => s.geti d (F.ADC_AG_RES_VALUE g (e + i))
  let st := Config.gridPll (s.get d (F.FIELD_AX_GRID_BW a)) (s.axr d a).gridSt (v 0) (v 1) (v 2)
  let err := absQ15 (sx16 (st.extractLsb' 32 16).toNat)
  let fine := decide (err ≤ s.get d (F.FIELD_AX_GRID_LOCKTOL a))
  let s := s.put d (F.FIELD_AX_GRIDST_FREQ a) (st.extractLsb' 0 16).toNat
  s.modAxr d a (fun x =>
    { x with gridSt := st, gridAng := (st.extractLsb' 16 16).toNat, gridAt := s.now d, gridPeak := linePeak (v 0) (v 1) (v 2),
             gridGood := if fine then min 100000 (x.gridGood + 1) else 0, gridBad := if fine then 0 else min 1000 (x.gridBad + 1) })

/-- R258. The grid PLL of a LINE3 axis has been within LOCKTOL for 100 ms. -/
def execGridLock (d : CDie) (a : Axis) (s : State) : Out :=
  onC d.val (fun s =>
    if s.axType d.val a.val == 3 && (s.axr d.val a.val).gridGood == 100000 then
      endActive d.val Fg.grid a.val (fieldStatus d.val a.val (s.on d.val (F.FIELD_AX_GRIDST_LOCK a.val)))
    else s) s

/-- R258. The angle error of the grid PLL has been beyond LOCKTOL for 1 ms. -/
def execGridLoss (d : CDie) (a : Axis) (s : State) : Out :=
  onC d.val (fun s =>
    if s.axType d.val a.val == 3 && s.flag d.val (F.FIELD_AX_GRIDST_LOCK a.val) && (s.axr d.val a.val).gridBad == 1000 then
      let s := s.off d.val (F.FIELD_AX_GRIDST_LOCK a.val)
      if s.phase d.val a.val == Ph.run then
        latchFault d.val Fg.grid a.val true (s.on d.val (F.FIELD_AX_EVT_GRIDLOSS a.val))
      else s
    else s) s

/-! ### The clock of FIELD -/

/-- An axis that commutates on an interface whose VALID is 0: it rides through on the observer, or the fault is reported
(R255). -/
def fbLoss (d a : Nat) (s : State) : State :=
  let n := s.get d (F.FIELD_AX_CFG_FB a)
  let p := s.phase d a
  if s.axType d a != 0 && s.angSrc d a == 0 && s.get d (F.FIELD_AX_ANG_SRC a) == 0 && !s.flag d (F.FB_FB_STAT_VALID n) &&
      (p == Ph.run || p == Ph.reversing || p == Ph.stopping) then
    if s.canRide d a then rideOn d a s
    else if bit (s.fcAct d Fg.fb) n then s
    else latchFault d Fg.fb n true s
  else s

/-- The observer of an axis has stopped with its engine: it has to run 100 ms again (R255). -/
def obsCycle (d a : Nat) (s : State) : State :=
  if (s.axr d a).obsFrom != 0 && s.get d (F.LOOP_LE_CFG_MODE (s.get d (F.FIELD_AX_OBSTRK_ENG a))) != Lm.active then
    s.modAxr d a (fun x => { x with obsFrom := 0 })
  else s

/-- A fabric cycle of FIELD of an axis: its status, its angle's loss, its timers, and each µs its grid PLL. -/
def axisCycle (d a : Nat) (s : State) : State :=
  let s := obsCycle d a (fbLoss d a (stillCycle d a (alignCycle d a s)))
  let s := if s.axType d a == 3 && s.now d % 400 == 0 then gridUpdate d a s else s
  fieldStatus d a s

/-- A fabric cycle of FIELD of C die d. -/
def fieldCycle (d : Nat) (s : State) : State :=
  let due := (s.c d).loop.battDue
  let s := overN 3 (fun b s => onlyIf (bit due b) (battRefresh d b) s) s
  overN 6 (axisCycle d) (s.modLoop d (fun l => { l with battDue := 0 }))

/-! ### Battery buses -/

/-- R269. The battery temperature of bus b has not been updated for TMO × 10 ms. -/
def execBatteryTempStale (d : CDie) (b : Fin 3) (s : State) : Out :=
  onC d.val (fun s =>
    if s.flag d.val (F.FIELD_BUS_BCFG_EN b.val) && decide ((s.c d.val).loop.battAt.at b.val +
        s.get d.val (F.FIELD_BUS_BCFG_TMO b.val) * 4000000 ≤ s.now d.val + 1) then
      let s := s.on d.val (F.FIELD_BUS_BST_STALE b.val)
      let s := overN 6 (fun a s =>
        if s.axType d.val a != 0 && s.get d.val (F.FIELD_AX_CFG_BUS a) == b.val then s.on d.val (F.FIELD_AX_EVT_BSTALE a)
        else s) s
      battRefresh d.val b.val s
    else s) s

/-- What R276 refuses: a write of BATT (j = 0) with TMIN at or above TMAX, one of BCFG (j = 1) with a BAND wider than half
of TMAX − TMIN. -/
def battOk (j : Nat) (batt v : Word) : Bool :=
  if j == 0 then decide (sx16 ((F.FIELD_BUS_BATT_TMIN 0).ofWord v) < sx16 ((F.FIELD_BUS_BATT_TMAX 0).ofWord v))
  else decide (256 * Int.ofNat ((F.FIELD_BUS_BCFG_BAND 0).ofWord v) ≤
    sx16 ((F.FIELD_BUS_BATT_TMAX 0).ofWord batt) - sx16 ((F.FIELD_BUS_BATT_TMIN 0).ofWord batt))

/-- The offset of a register of a battery bus: 0 BATT, 1 BCFG. -/
def busOff (b j : Nat) : Nat := 0x186000 + 0x20 * b + 4 * j

/-- A write of BATT or BCFG of a battery bus, R276: one that it refuses leaves the register; an accepted one applies, and f
changes in the next fabric cycle. -/
def busWrite (d : Nat) (m : Master) (b j : Nat) (v : Word) (s : State) : State :=
  let off := busOff b j
  let s := tkWriteIf (battOk j (s.reg d (busOff b 0)) v) (refuseAt d off) d m (own off) d off v (protWrite d off v false) s
  if j < 2 then s.modLoop d (fun l => { l with battDue := setBit l.battDue b true }) else s

/-- R276, R130, R270. A write of FIELD_BUSb_BATT (j = 0) or FIELD_BUSb_BCFG (j = 1) by master m. -/
def execBusBatteryWrite (d : CDie) (m : Master) (b : Fin 3) (j : Fin 2) (v : Word) (s : State) : Out :=
  onC d.val (busWrite d.val m b.val j.val v) s

/-- A software write of FIELD_BUSb_BTEMP is the temperature of a battery bus with SRC = 1, R269. -/
def btempWrite (d b : Nat) (v : Word) (s : State) : State :=
  let s := s.put d (F.FIELD_BUS_BTEMP b) (v.toNat % 65536)
  if s.flag d (F.FIELD_BUS_BCFG_EN b) && s.flag d (F.FIELD_BUS_BCFG_SRC b) then battTemp d b (v.toNat % 65536) s else s

/-! ### Software writes -/

/-- An axis counts as stopped for its RWL fields while its TYPE is NONE or its phase IDLE (chapter 10, register maps). -/
def State.axStopped (s : State) (d a : Nat) : Bool := s.axType d a == 0 || s.phase d a == Ph.idle

/-- A software write of a register of axis a at an offset of its map: its own checks (R253, R274, Tables 10-3, 10-5), the
commands, and plain fields. -/
def fieldWrite (d a o : Nat) (v : Word) (s : State) : State :=
  let off := 0x180000 + 0x1000 * a + o
  let lo := sx16 v.toNat
  let hi := sx16 (v.toNat / 65536)
  let plain := fun (s : State) => fieldStatus d a (plainWrite d off v (s.axStopped d a) s)
  let refuse := s.on d (F.FIELD_AX_EVT_WRREF a)
  -- R8: an illegal value of one field refuses the write of that field alone
  let but := fun (f : Fld) => fieldStatus d a (plainWrite d off (f.into v (s.get d f)) (s.axStopped d a) refuse)
  if o == 0 then fieldCommand d a (v.toNat % 8) s
  else if o == 0x1C then spsetWrite d a v s
  else if o == 0x08 then if 5 < v.toNat % 8 then but (F.FIELD_AX_CFG_TYPE a) else plain s
  else if o == 0x40 then if 4 < v.toNat % 8 then but (F.FIELD_AX_ANG_SRC a) else plain s
  else if o == 0x44 then if hi ≤ lo then refuse else plain s
  else if o == 0x48 then if v.toNat % 4 == 3 then but (F.FIELD_AX_ALIGN_METHOD a) else plain s
  else if 0x100 ≤ o && o < 0x184 then if 0 < lo || hi < 0 then refuse else plain s
  else if 0x200 ≤ o && o < 0x284 then if 0 < lo then refuse else plain s
  else plain s

end Sys2Proof.Machine
end

