-- ==== Sys2Proof/Machine/Pwm.lean ====
section
/-! DEFINITION. PWM commands (chapter 11): load groups, enables, trips, and the software writes of the PWM registers. -/

namespace Sys2Proof.Machine

/-! ### Load groups -/

/-- A write of PWM_LGg_CFG, R277, R279: SYNCEN and ORG while the group is stopped; EN = 1 arms the start, or is refused while
the pairs of the group differ in CARM or one breaks R288; EN = 0 turns the lines off. -/
def lgCfgWrite (d g : Nat) (v : Word) (s : State) : State :=
  let en := F.PWM_LG_CFG_EN g
  let was := s.flag d en
  let s := plainWrite d en.off (en.into v (b2n was)) (!was) s
  if en.ofWord v == 1 then
    if was then s
    else if !s.groupOk d g then s.on d F.PWM_GEVT_WRREF
    else (s.on d en).modLg d g (fun x => { x with waiting := true })
  else if was then overN 4 (blankEnd d) (hoBoundaryCheck d (groupStop d g (s.off d en)))
  else s

/-- R277, R279, R305. A write of PWM_LGg_CFG. -/
def execLoadGroupEnable (d : CDie) (g : Fin 8) (v : Word) (s : State) : Out :=
  onCW d.val (own (F.PWM_LG_CFG_EN g.val).off) (lgCfgWrite d.val g.val v) s

/-- A cue at destination 0x50 + k: the group of pair k restarts in the next fabric cycle, R279. -/
def syncCue (d k : Nat) (s : State) : State :=
  let g := s.pairLg d k
  if (s.lg d g).running && s.flag d (F.PWM_LG_CFG_SYNCEN g) then s.modLg d g (fun x => { x with restart := true }) else s

/-- R279. A sync cue arrives at pair k. -/
def execSyncCue (d : CDie) (k : Fin 18) (s : State) : Out := onC d.val (syncCue d.val k.val) s

/-- R285. A load of group g is armed, by software, an engine's store or a cue. -/
def execLoadallArm (d : CDie) (g : Fin 8) (s : State) : Out := onC d.val (loadallArm d.val g.val) s

/-! ### Enables -/

/-- A write of 1 to an enable bit; a bit that reads 1 already makes no request. -/
def axisEnableWrite (d a : Nat) (s : State) : State := if s.enabled d a then s else enRequest d a s

/-- A write of 0 to an enable bit, R295. -/
def axisDisableWrite (d a : Nat) (s : State) : State := if s.enabled d a then standbyIfIdle (axisOff d a s) else s

/-- A write of PWM_AXEN. -/
def axenWrite (d : Nat) (v : Word) (s : State) : State :=
  overN 6 (fun a s => if bit v.toNat a then axisEnableWrite d a s else axisDisableWrite d a s) s

/-- R293, R399. A write of 1 to PWM_AXEN bit a. -/
def execAxisEnable (d : CDie) (a : Axis) (s : State) : Out := 
  onCW d.val (own F.PWM_AXEN_EN.off) (axisEnableWrite d.val a.val) s

/-- R295. A write of 0 to PWM_AXEN bit a. -/
def execAxisDisable (d : CDie) (a : Axis) (s : State) : Out := 
  onCW d.val (own F.PWM_AXEN_EN.off) (axisDisableWrite d.val a.val) s

/-! ### Trips -/

/-- A level of a trip input that has been stable for `held` fabric cycles is accepted, R296. -/
def State.tripAccepts (s : State) (d n held : Nat) : Bool := decide (s.get d (F.PWM_TRIP_CFG_FILT n) + 1 ≤ held)

/-- A level of a trip input is its active one, as POL says, R296; with VIO_C low every input reads active (R53). -/
def State.tripLevel (s : State) (d n : Nat) (level : Bool) : Bool :=
  (s.c d).sys.vioCLow || level == s.flag d (F.PWM_TRIP_CFG_POL n)

/-- R296, R297, R299. The level of input n, stable for `held` fabric cycles, is its active one. -/
def execTripAssert (d : CDie) (n : Fin 4) (level : Bool) (held : BitVec 8) (s : State) : Out :=
  onC d.val (fun s =>
    if s.tripLevel d.val n.val level && s.tripAccepts d.val n.val held.toNat &&
        !((s.c d.val).pwm.trips.at n.val).active then tripActive d.val n.val s
    else s) s

/-- R296. The level of input n, stable for `held` fabric cycles, is its inactive one. -/
def execTripInactive (d : CDie) (n : Fin 4) (level : Bool) (held : BitVec 8) (s : State) : Out :=
  onC d.val (fun s =>
    if !s.tripLevel d.val n.val level && s.tripAccepts d.val n.val held.toNat then tripInactive d.val n.val s else s) s

/-- A clear of trip n, R298, R342: refused while the input is active; the sluice latches the trip set on every D die are
cleared by a command that goes to every D die. -/
def tripClear (d n : Nat) (s : State) : State :=
  if s.bitOf d F.PWM_TRIPST_ACTIVE n then s.on d F.PWM_GEVT_CLR_REFUSED
  else if !s.bitOf d F.PWM_TRIPST_LATCH n then s
  else
    let ks := s.trippedPairs d n
    let s := s.putBit d F.PWM_TRIPST_LATCH n false
    let s := overL ks (fun k s => if s.tripHeld d k then s else s.off d (F.PWM_PP_STAT_TRIPPED k)) s
    let s := overN 6 (fun k s =>
      if s.runsD k && s.linkD d k then s.modD k (fun x => { x with slClr := setBit x.slClr (4 * d + n) true }) else s) s
    overN 6 (fun a s =>
      if ks.any (fun k => s.pairAx d k == a) && (s.pairsOf d a).all (fun k => !s.tripHeld d k) then
        dropCause d a Cause.trip s
      else s) s

/-- A write of PWM_TRIPCLR. -/
def tripClrWrite (d : Nat) (v : Word) (s : State) : State :=
  overN 4 (fun n s => if bit v.toNat n then tripClear d n s else s) s

/-- R298. A write of PWM_TRIPCLR. -/
def execTripClear (d : CDie) (v : Word) (s : State) : Out := onCW d.val (own 0x1C30B4) (tripClrWrite d.val v) s

/-- R299. The blanking of trip n has ended while its input is still active. -/
def execTripBlankingEnd (d : CDie) (n : Fin 4) (s : State) : Out := onC d.val (blankEnd d.val n.val) s

/-! ### Software writes -/

/-- A pair counts as stopped for its RWL fields: its axis is not enabled, or, for a timer pair, its group has EN = 0 (R302). -/
def State.pairStopped (s : State) (d k : Nat) : Bool :=
  let a := s.pairAx d k
  if a == 7 then !s.flag d (F.PWM_LG_CFG_EN (s.pairLg d k)) else !s.enabled d a

/-- The group of pair k, if it has EN = 1, agrees (R277), and so does the pair with the period in force (R288);
a libretto is checked as a whole (R118). -/
def State.pairAgrees (s : State) (d k : Nat) : Bool :=
  let g := s.pairLg d k
  s.loading || !s.flag d (F.PWM_LG_CFG_EN g) || (s.groupOk d g &&
    decide (s.get d (F.PWM_PP_DTR k) + s.get d (F.PWM_PP_DTF k) + 2 * s.get d (F.PWM_PP_MINP k) ≤
      pairL (s.get d (F.PWM_LG_ACTPER g)) (s.get d (F.PWM_PP_CFG_CARM k))))

/-- The dead times and the minimum pulse of pair k are within their ranges, R288. -/
def State.pairRanges (s : State) (d k : Nat) : Bool :=
  let r := fun (x lo hi : Nat) => decide (lo ≤ x) && decide (x ≤ hi)
  r (s.get d (F.PWM_PP_DTR k)) 512 128000 && r (s.get d (F.PWM_PP_DTF k)) 512 128000 &&
    r (s.get d (F.PWM_PP_MINP k)) 512 51200

/-- What PWM_PPk_CFG takes of a word: MODE 3 and AX 6 are refused, and LGRP with CARM where they would make the pairs of a
running group differ or break R288 (R277, R281, R304), each field for itself (R8). -/
def pairCfg (d k : Nat) (w : Word) (s : State) : Word :=
  let keep := fun (f : Fld) (w : Word) => f.into w (s.get d f)
  let w := if (F.PWM_PP_CFG_MODE k).ofWord w == 3 then keep (F.PWM_PP_CFG_MODE k) w else w
  let w := if (F.PWM_PP_CFG_AX k).ofWord w == 6 then keep (F.PWM_PP_CFG_AX k) w else w
  if (s.setReg d (F.PWM_PP_CFG_MODE k).off w).pairAgrees d k then w
  else keep (F.PWM_PP_CFG_LGRP k) (keep (F.PWM_PP_CFG_CARM k) w)

/-- A software write of a register of pair k at an offset of its map, R277, R288, R302. -/
def pairWrite (d k o : Nat) (v : Word) (s : State) : State :=
  let off := 0x1C0000 + 0x100 * k + o
  let t := plainWrite d off v (s.pairStopped d k) s
  let w := t.reg d off
  let err := fun (s : State) => s.on d (F.PWM_PP_EVT_CFGERR k)
  if w == s.reg d off then t
  else if o == 0 then
    let n := pairCfg d k w s
    let t := t.setReg d off n
    let t := if n == w then t else err t
    if s.pairLg d k != t.pairLg d k || s.pairAx d k != t.pairAx d k then pairRest d k t else t
  else if o == 0x18 || o == 0x1C || o == 0x20 then
    if t.pairRanges d k && t.pairAgrees d k then t else err s
  else t

/-- A write of the PER shadow, R277, R288, R305. -/
def perWrite (d g : Nat) (v : Word) (s : State) : State :=
  let per := (F.PWM_LG_PER g).ofWord v
  let t := s.put d (F.PWM_LG_PER g) per
  if per < 40 || (s.flag d (F.PWM_LG_CFG_EN g) && !t.groupOk d g) then s.on d F.PWM_GEVT_WRREF else t

/-- A software write of a global PWM register at an offset from 0x401C_3000. -/
def pwmGlobalWrite (d o : Nat) (v : Word) (s : State) : State :=
  if o == 0 then overN 8 (fun g s => if bit v.toNat g then loadallArm d g s else s) s
  else if o == 0x10 then axenWrite d v s
  else if 0x20 ≤ o && o < 0xA0 && o % 0x10 == 0 then lgCfgWrite d ((o - 0x20) / 0x10) v s
  else if 0x20 ≤ o && o < 0xA0 && o % 0x10 == 4 then perWrite d ((o - 0x20) / 0x10) v s
  else if o == 0xB4 then tripClrWrite d v s
  else if 0xC0 ≤ o && o < 0xF0 then
    plainWrite d (0x1C3000 + o) v (!s.flag d (F.PWM_XMUX_EN ((o - 0xC0) / 4))) s
  else plainWrite d (0x1C3000 + o) v true s

/-! ### Terminals -/

/-- The level of terminal PWMXm, R300: the selected channel, inverted on INV; a disabled terminal carries no channel. -/
def State.pwmx (s : State) (d m : Nat) : Bool :=
  let c := s.get d (F.PWM_XMUX_CH m)
  let on := s.flag d (F.PWM_XMUX_EN m) &&
    (if c % 2 == 0 then s.flag d (F.PWM_PP_STAT_HS (c / 2)) else s.flag d (F.PWM_PP_STAT_LS (c / 2)))
  on != s.flag d (F.PWM_XMUX_INV m)

end Sys2Proof.Machine
end

