-- ==== Sys2Proof/Machine/Drv.lean ====
section
/-! DEFINITION. The gate drive of a D die (chapter 12): lines, detections, lockout, STO, the sluice path, the sequencer. -/

namespace Sys2Proof.Machine

/-! ### Reports -/

/-- What a STATUS flit reports of a D die, R343: STAT, EVT, the FSTAT registers and the leg latches. -/
def State.drvShown (s : State) (k : Nat) : List Nat :=
  let i := dix k
  [s.wd i F.DRV_D_STAT_LOCKOUT.off, s.wd i F.DRV_D_EVT_SC.off] ++
    (List.range 6).map (fun c => s.wd i (F.DRV_D_CH_FSTAT_STATE c).off) ++
    (List.range 3).map (fun leg => s.wd i (F.DRV_D_LEG_STAT_SHOOT leg).off % 8)

/-- A change of a D die; the owner hears of it when something it reports has changed, R343. -/
def drvAct (k : Nat) (f : State → State) (s : State) : State :=
  let t := f s
  if t.drvShown k == s.drvShown k then t else sendStatus k t

/-- A fault that the next STATUS flit brings to fault collection (Table 14-3, group 23, instance 8k + j). -/
def drvFault (k j : Nat) (s : State) : State := s.modD k (fun x => { x with evtDue := setBit x.evtDue j true })

/-- The axis of a leg is inhibited, R320; an unused leg serves none. -/
def inhibitLeg (k leg : Nat) (s : State) : State :=
  let a := s.legAx k leg
  if a < 6 then s.modD k (fun x => { x with inhibit := setBit x.inhibit a true }) else s

/-- The line of a leg means nothing to the die: the leg is unused, SHOOT or GSTUCK holds it, or there is no microcode
(R88, R313, R327, R328). -/
def State.linesIgnored (s : State) (k leg : Nat) : Bool :=
  s.legUnused k leg || s.flag (dix k) (F.DRV_D_LEG_STAT_SHOOT leg) || s.flag (dix k) (F.DRV_D_LEG_STAT_GSTUCK leg) ||
    !s.flag (dix k) F.DRV_D_STAT_UCODE

/-! ### Lines -/

/-- Both lines of a leg are high, R327: both channels go off, SHOOT latches, and its cue fires. -/
def shootLatch (k leg : Nat) (s : State) : State :=
  let i := dix k
  let s := (s.on i (F.DRV_D_LEG_STAT_SHOOT leg)).on i F.DRV_D_EVT_SHOOT_ATTEMPT
  settleHeld k (fireDrvCue k 3 (drvFault k 1 s))

/-- Nothing keeps a channel from a release by its line (R306, R320): no hold, no inhibit, and FOLLOW in force. -/
def State.mayRelease (s : State) (k c : Nat) : Bool :=
  let leg := c / 2
  !s.chHeld k c && !bit (s.dd k).inhibit (s.legAx k leg) && !s.orphan k && s.legCmd k leg == Leg.follow &&
    s.ch k c != Ch.softOff

/-- A channel of the leg that was released early goes off, R329. -/
def endEarly (k c : Nat) (s : State) : State :=
  if ((s.dd k).chans.at c).early then (chDown k c Ch.off s).modCh k c (fun h => { h with early := false }) else s

/-- An edge of a line: the transferred values of DRIVE and ADT take effect, R343. -/
def lineEdge (k c : Nat) (s : State) : State :=
  (s.modCh k c (fun h => { h with oldDrive := none })).modLeg k (c / 2) (fun x => { x with oldAdt := none })

/-- A rising line at D die k from C die d, R306, as the die's owner drives it; `gate` is what the gate-off comparator of the
other channel reads where the model does not know when its gate fell (R328). -/
def lineRise (d k c : Nat) (gate : Bool) (s : State) : State :=
  if s.owner k != d || s.line k c || !s.lineAt d k c then s
  else
    let o := otherCh c
    let s := lineEdge k c (s.modCh k c (fun h => { h with line := true, early := false }))
    if s.linesIgnored k (c / 2) then s
    else if s.line k o then shootLatch k (c / 2) s
    else if s.ch k c == Ch.on then s
    else if !s.mayRelease k c then s
    else
      let high := s.ch k o == Ch.on || (s.gateHigh k o && (gate || ((s.dd k).chans.at o).gateAt != 0))
      let s := endEarly k o s
      if high then gateHold k c s else chOn k c (s.modCh k o (fun h => { h with gateUp := false }))

/-- R306, R14, R88, R313, R320, R327, R328. The line of channel c rises at D die k, driven by C die d. -/
def execPwmLineRise (d : CDie) (k : DDie) (c : Fin 6) (gate : Bool) (s : State) : Out :=
  onDC d.val k.val (drvAct k.val (lineRise d.val k.val c.val gate)) s

/-- The instant a number of 312.5 ps units ahead as a stage time plus one, in whole counts, not before its time; 0xFFFF, longer
than 20.48 µs, is not known. -/
def State.fineAt (s : State) (k u : Nat) : Nat := if u = 65535 then 0 else s.mark k + (u + 7) / 8

/-- The telemetry of a falling line, R330, R331: `on` says that the channel turns off now. -/
def lineTelemetry (k c isns toff tsw : Nat) (on : Bool) (s : State) : State :=
  let i := dix k
  let leg := c / 2
  let s := (s.put i (F.DRV_D_CH_TEL_ISNS c) isns).put i (F.DRV_D_CH_TEL_TOFF c) toff
  let s := s.put i (F.DRV_D_CH_TELMAX c) (max isns (s.get i (F.DRV_D_CH_TELMAX c)))
  if on then
    let s := s.put i (if c % 2 = 0 then F.DRV_D_LEG_TSW_HL leg else F.DRV_D_LEG_TSW_LH leg) tsw
    let s := s.modLeg k leg (fun x => { x with nodeAt := s.fineAt k tsw, nodeTo := c % 2 })
    if (s.dd k).tcapArmed && s.get i F.DRV_D_TCAPCFG_CH == c then
      let s := ((s.put i F.DRV_D_TCAP0_TOFF toff).put i F.DRV_D_TCAP0_TSW tsw).put i F.DRV_D_TCAP1_ISNS isns
      (s.on i F.DRV_D_TCAPCFG_DONE).modD k (fun x => { x with tcapArmed := false })
    else s
  else s

/-- A falling line at D die k from C die d, R306: a channel that follows it goes off, its gate TOFF later (R330). -/
def lineFall (d k c isns toff tsw : Nat) (s : State) : State :=
  if s.owner k != d || !s.line k c || s.lineAt d k c then s
  else
    let was := s.ch k c
    let t := s.mark k
    let s := lineEdge k c (s.modCh k c (fun h => { h with line := false, fellAt := t, early := false, held := false }))
    if s.legUnused k (c / 2) || !s.flag (dix k) F.DRV_D_STAT_UCODE then s
    else
      let s := settleCh k c s
      let off := was == Ch.on && s.ch k c != Ch.on
      lineTelemetry k c isns toff tsw off
        (if off then s.modCh k c (fun h => { h with gateAt := s.fineAt k toff }) else s)

/-- R306, R14, R330, R331. The line of channel c falls at D die k, driven by C die d: the sense current, and TOFF and TSW
in 312.5 ps (0xFFFF: longer than 20.48 µs). -/
def execPwmLineFall (d : CDie) (k : DDie) (c : Fin 6) (isns : BitVec 11) (toff tsw : BitVec 16) (s : State) : Out :=
  onDC d.val k.val (drvAct k.val (lineFall d.val k.val c.val isns.toNat toff.toNat tsw.toNat)) s

/-- A capture is armed, R331. -/
def tcapArm (k : Nat) (s : State) : State := s.modD k (fun x => { x with tcapArmed := true })

/-- R331. A cue at destination 0xA0 + 8k + 2 arms a capture. -/
def execTcapArm (k : DDie) (s : State) : Out := onD k.val (tcapArm k.val) s

/-- A read of DRV_Dd_CHc_TELMAX by C die d, R345; reads from either C die are answered (R15). -/
def telmaxRead (d k c : Nat) (s : State) : State :=
  if s.linkD d k && s.runsD k then
    (returnData d (s.reg (dix k) (F.DRV_D_CH_TELMAX c).off) s).off (dix k) (F.DRV_D_CH_TELMAX c)
  else s

/-- R345, R138. A read of DRV_Dd_CHc_TELMAX returns the largest sample and clears it; over a link that is down it is
reported. -/
def execTelmaxRead (d : CDie) (k : DDie) (c : Fin 6) (s : State) : Out :=
  onCD d.val k.val (fun s =>
    if s.linkD d.val k.val then telmaxRead d.val k.val c.val s
    else accErr d.val Acc.linkDown (dix k.val) 0 (drvAddr k.val (F.DRV_D_CH_TELMAX c.val).off) false s) s

/-- R327. Both lines of a leg are high at once. -/
def execShootAttempt (k : DDie) (leg : Fin 3) (s : State) : Out :=
  onD k.val (drvAct k.val (fun s =>
    let s := (s.modCh k.val (hsCh leg.val) (fun h => { h with line := true })).modCh k.val (lsCh leg.val)
      (fun h => { h with line := true })
    if s.linesIgnored k.val leg.val then s else shootLatch k.val leg.val s)) s

/-- The gate-off comparator of the other channel of the leg, R328: 0 it reads above VGOFF, 1 it has fallen below VGOFF,
which lets a held turn-on of channel c go; 2 the hold has lasted 1 µs (400 counts) and GSTUCK latches. -/
def gateSense (k c kind : Nat) (s : State) : State :=
  let i := dix k
  let leg := c / 2
  let o := otherCh c
  let now := s.mark k
  if kind == 0 then
    if s.ch k o == Ch.on then s else s.modCh k o (fun h => { h with gateUp := true, gateAt := 0 })
  else if kind == 1 then
    if s.ch k o == Ch.on then s
    else
      let s := s.modCh k o (fun h => { h with gateAt := if h.gateAt == 0 || now < h.gateAt then now else h.gateAt })
      if !((s.dd k).chans.at c).held then s
      else
        let s := s.modCh k c (fun h => { h with held := false })
        if s.line k c && s.mayRelease k c then chOn k c s else settle k s
  else if ((s.dd k).chans.at c).held && decide (((s.dd k).chans.at c).heldAt + 400 ≤ (s.dd k).stage.toNat) then
    let s := s.modCh k c (fun h => { h with held := false })
    settleHeld k (drvFault k 2 ((s.on i (F.DRV_D_LEG_STAT_GSTUCK leg)).on i F.DRV_D_EVT_GSTUCK))
  else s

/-- R328. The gate-off comparator of the other channel of the leg holds the turn-on of channel c, or lets it go. -/
def execGateSenseHold (k : DDie) (c : Fin 6) (kind : Fin 3) (s : State) : Out :=
  onD k.val (drvAct k.val (gateSense k.val c.val kind.val)) s

/-- DRV_Dd_LEGk_ADT as it is in force, R343. -/
def State.adt (s : State) (k leg : Nat) : Word :=
  match ((s.dd k).legs.at leg).oldAdt with
  | some w => w
  | none => s.reg (dix k) (F.DRV_D_LEG_ADT_EN leg).off

/-- The three conditions of an early release of the incoming channel c, R329: the outgoing gate below VGOFF for MARGIN
counts, the phase node across the midpoint toward the incoming rail, and MINDT counts since the outgoing line fell. -/
def State.adtReady (s : State) (k c : Nat) : Bool :=
  let o := (s.dd k).chans.at (otherCh c)
  let leg := c / 2
  let w := s.adt k leg
  let now := s.mark k
  o.fellAt != 0 && decide (((s.dd k).chans.at c).fellAt < o.fellAt) && decide (o.fellAt ≤ o.gateAt) &&
    decide (o.gateAt + (F.DRV_D_LEG_ADT_MARGIN leg).ofWord w ≤ now) &&
    decide (o.fellAt + (F.DRV_D_LEG_ADT_MINDT leg).ofWord w ≤ now) &&
    ((s.dd k).legs.at leg).nodeAt == 0 && s.get (dix k) (F.DRV_D_LEG_STAT_NODE leg) == 1 - c % 2

/-- An early release of the incoming channel, R329: never under a hold or a command. -/
def adtRelease (k c : Nat) (s : State) : State :=
  let o := otherCh c
  if (F.DRV_D_LEG_ADT_EN (c / 2)).ofWord (s.adt k (c / 2)) == 1 && s.mayRelease k c && s.ch k c == Ch.off && !s.line k c &&
      !s.line k o && s.ch k o == Ch.off && s.adtReady k c then
    let s := s.count (dix k) (F.DRV_D_LEG_ADTST_ADVCNT (c / 2)) 1
    (chOn k c s).modCh k c (fun h => { h with early := true })
  else s

/-- R329. The gate-off, midpoint and minimum conditions of a commutation hold before the line of channel c rises. -/
def execAdtEarlyRelease (k : DDie) (c : Fin 6) (s : State) : Out := onD k.val (drvAct k.val (adtRelease k.val c.val)) s

/-! ### Rails and lockout -/

/-- The floating rail of a leg first recovers, R314, which ends its charge hold. -/
def railCharged (k leg : Nat) (s : State) : State :=
  let i := dix k
  if !s.legUnused k leg && !((s.dd k).legs.at leg).measured && !s.flag i F.DRV_D_LOCKST_VDRV then
    settle k ((s.modLeg k leg (fun x => { x with measured := true })).putBit i F.DRV_D_LOCKST_FLT leg false)
  else s

/-- R314. The charging floating rail of a leg recovers. -/
def execFloatingRailCharged (k : DDie) (leg : Fin 3) (s : State) : Out :=
  onD k.val (drvAct k.val (railCharged k.val leg.val)) s

/-- A rail of Table 12-3 is low, R314, R315: 0 VDRV, 1 VNEG, 2 + leg the floating rail of a leg that has been measured. -/
def railLow (k rail : Nat) (s : State) : State :=
  let i := dix k
  if 2 ≤ rail && (s.legUnused k (rail - 2) || !((s.dd k).legs.at (rail - 2)).measured) then s
  else
    let s := if rail == 0 then s.on i F.DRV_D_LOCKST_VDRV
      else if rail == 1 then s.on i F.DRV_D_LOCKST_VNEG else s.putBit i F.DRV_D_LOCKST_FLT (rail - 2) true
    if s.flag i F.DRV_D_STAT_LOCKOUT then s
    else
      let s := ((s.on i F.DRV_D_STAT_LOCKOUT).on i F.DRV_D_EVT_LOCKOUT).count i F.DRV_D_LOCKST_LOCKCNT 1
      settleHeld k (fireDrvCue k 2 (drvFault k 3 s))

/-- R315, R314. A watched rail of D die k is low. -/
def execLockoutEntry (k : DDie) (rail : Fin 5) (s : State) : Out := onD k.val (drvAct k.val (railLow k.val rail.val)) s

/-- Every watched rail has recovered, R316: the lockout releases, and every channel stays off until a fresh line edge or a
new command. With VDRV low the pumps stood still: their rails charge again (R314); otherwise a charging rail delays the
release. -/
def lockoutRelease (k : Nat) (s : State) : State :=
  let i := dix k
  let pumps := s.flag i F.DRV_D_LOCKST_VDRV
  let ready := (List.range 3).all (fun leg => s.legUnused k leg || ((s.dd k).legs.at leg).measured)
  if !s.flag i F.DRV_D_STAT_LOCKOUT || (!pumps && !ready) then s
  else
    let s := (s.off i F.DRV_D_LOCKST_VDRV).off i F.DRV_D_LOCKST_VNEG
    let s := overN 3 (fun leg s =>
      let s := s.modLeg k leg (fun x => { x with waitCmd := true, measured := x.measured && !pumps })
      s.putBit i F.DRV_D_LOCKST_FLT leg (!((s.dd k).legs.at leg).measured)) s
    settle k (overN 6 (fun c s => chDown k c Ch.off s) (s.off i F.DRV_D_STAT_LOCKOUT))

/-- R316. The lockout of D die k releases. -/
def execLockoutRelease (k : DDie) (s : State) : Out := onD k.val (drvAct k.val (lockoutRelease k.val)) s

/-! ### Short circuits -/

/-- A protective turn-off is counted in the frame statistics of the owner (Table 18-4). -/
def statProtective (k leg : Nat) (s : State) : State :=
  if s.orphan k then s else statAx (s.owner k) (s.legAx k leg) F.PROMPT_LIVE_SA_IPK_SC s

/-- A soft turn-off begins, R319, R331. -/
def softBegin (k c : Nat) (s : State) : State :=
  let i := dix k
  let now := (s.dd k).stage.toNat
  let s := (s.setCh k c Ch.softOff).modCh k c (fun h => { h with early := false, held := false, softAt := now })
  let s := s.on i (F.DRV_D_CH_FSTAT_SOFT_ACTIVE c)
  let s := s.put i (F.DRV_D_CH_FREC1 c) ((s.dd k).stage.toNat % 2 ^ 32)
  statProtective k (c / 2) (fireDrvCue k 1 (s.count i (F.DRV_D_CH_FREC0_COUNT c) 1))

/-- The blanking time of a channel runs, R318: 80 ns + 20 ns × BLANK (8 counts each) from its turn-on. -/
def State.scBlank (s : State) (k c : Nat) : Bool :=
  s.ch k c == Ch.on &&
    decide ((s.dd k).stage.toNat < ((s.dd k).chans.at c).onAt + 32 + 8 * s.get (dix k) (F.DRV_D_CH_SCCFG_BLANK c))

/-- A sense current crosses the threshold in force, SCTH or, during blanking, SCTH × BMULT / 4, and has for FILT + 1 steps of
20 ns, R317, R318. -/
def State.scCrosses (s : State) (k c cur held : Nat) : Bool :=
  let i := dix k
  let th := s.get i (F.DRV_D_CH_SCCFG_SCTH c)
  (if s.scBlank k c then decide (th * s.get i (F.DRV_D_CH_SCCFG_BMULT c) ≤ 4 * cur) else decide (th ≤ cur)) &&
    decide (s.get i (F.DRV_D_CH_SCCFG_FILT c) < held)

/-- An accepted sense-cell detection, R317 to R322, R325. -/
def scDetect (k c cur held : Nat) (s : State) : State :=
  let i := dix k
  if s.flag i (F.DRV_D_CH_SCCFG_EN c) && s.scCrosses k c cur held then
    let blank := s.scBlank k c
    let s := if s.ch k c == Ch.on then softBegin k c s else s
    let s := ((s.on i (F.DRV_D_CH_FSTAT_SCLATCH c)).on i (F.DRV_D_CH_FSTAT_SRC_SENSE c)).on i F.DRV_D_EVT_SC
    let s := if blank then s.on i (F.DRV_D_CH_FSTAT_IN_BLANK c) else s
    settle k (drvFault k 0 (inhibitLeg k (c / 2) s))
  else s

/-- R319, R317, R318, R320, R322, R325. The sense current of channel c has been at `cur` × 0.02 mA for `held` steps of 20 ns. -/
def execScDetection (k : DDie) (c : Fin 6) (cur : BitVec 11) (held : BitVec 8) (s : State) : Out :=
  onD k.val (drvAct k.val (scDetect k.val c.val cur.toNat held.toNat)) s

/-- An accepted shunt-comparator crossing, R321, R322, R325: `mv` mV or more between the shunt terminals, for `held` steps of
40 ns. -/
def shuntDetect (k leg mv held : Nat) (s : State) : State :=
  let i := dix k
  if s.flag i (F.DRV_D_LEG_SHCMP_EN leg) && decide (2 * s.get i (F.DRV_D_LEG_SHCMP_SHTH leg) ≤ mv) &&
      decide (s.get i (F.DRV_D_LEG_SHCMP_SHFILT leg) < held) then
    let s := overL [hsCh leg, lsCh leg] (fun c s =>
      let s := if s.ch k c == Ch.on then softBegin k c s else s
      if s.ch k c == Ch.softOff then s.on i (F.DRV_D_CH_FSTAT_SRC_SHUNT c) else s) s
    let s := (s.on i (F.DRV_D_LEG_STAT_SHLATCH leg)).on i F.DRV_D_EVT_SHUNTFB
    settle k (drvFault k 0 (inhibitLeg k leg s))
  else s

/-- R321, R322, R325. |HBn_SHP − HBn_SHN| of a leg has been at `mv` mV for `held` steps of 40 ns. -/
def execShuntDetection (k : DDie) (leg : Fin 3) (mv : BitVec 10) (held : BitVec 8) (s : State) : Out :=
  onD k.val (drvAct k.val (shuntDetect k.val leg.val mv.toNat held.toNat)) s

/-- A soft turn-off ends, R319, R324, R331, 1 µs + 200 ns × SOFT (400 and 80 counts) after it began: the record takes the
peak, and held commands apply once none of the axis's channels is in SOFT_OFF. A channel that a hold of rank 1 to 3 took
out of SOFT_OFF stays as it is. -/
def softEnd (k c peak : Nat) (s : State) : State :=
  let i := dix k
  if s.flag i (F.DRV_D_CH_FSTAT_SOFT_ACTIVE c) &&
      decide (((s.dd k).chans.at c).softAt + 400 + 80 * s.get i (F.DRV_D_CH_SOFT c) ≤ (s.dd k).stage.toNat) then
    let s := (s.off i (F.DRV_D_CH_FSTAT_SOFT_ACTIVE c)).on i (F.DRV_D_CH_FSTAT_SOFT_DONE c)
    let s := s.put i (F.DRV_D_CH_FREC0_PEAK c) peak
    applyHeld k (seqRuns k 2 (2 ^ c) (if s.ch k c == Ch.softOff then s.setCh k c Ch.off else s))
  else s

/-- R319, R324, R331. The soft turn-off of channel c reaches its time; `peak` is the largest sense current since the
detection, in 0.02 mA. -/
def execSoftOffEnd (k : DDie) (c : Fin 6) (peak : BitVec 11) (s : State) : Out :=
  onD k.val (drvAct k.val (softEnd k.val c.val peak.toNat)) s

/-! ### STO and the sluice path -/

/-- The level of an STO input has stood for its filter time, STOFILT × 2 µs (R338); `held` in µs. -/
def State.stoAccepts (s : State) (k held : Nat) : Bool := decide (2 * s.get (dix k) F.DRV_D_STOCFG_STOFILT ≤ held)

/-- The time from which the STO inputs differ is kept, R339. -/
def stoNote (k : Nat) (s : State) : State :=
  let same := s.get (dix k) F.DRV_D_SLST_STO_A == s.get (dix k) F.DRV_D_SLST_STO_B
  let now := s.mark k
  s.modD k (fun x => { x with stoAt := if same then 0 else if x.stoAt == 0 then now else x.stoAt })

/-- STO_A (a) or STO_B (b) reads torque off, R338. -/
def stoTorqueOff (k : Nat) (a b : Bool) (s : State) : State :=
  let i := dix k
  let s := if a then s.off i F.DRV_D_SLST_STO_A else s
  let s := if b then s.off i F.DRV_D_SLST_STO_B else s
  if a || b then settleHeld k (seqRuns k 6 0x3F (stoNote k s)) else s

/-- R338. STO_A (a) or STO_B (b) has been low at D die k for `held` µs. -/
def execStoTorqueOff (k : DDie) (a b : Bool) (held : BitVec 16) (s : State) : Out :=
  onD k.val (fun s => if s.stoAccepts k.val held.toNat then drvAct k.val (stoTorqueOff k.val a b) s else s) s

/-- STO_A (a) or STO_B (b) reads run; with both, R340, the hold is released, lines need a fresh edge, and a standing
command acts again (Table 13-5). -/
def stoRun (k : Nat) (a b : Bool) (s : State) : State :=
  let i := dix k
  let s := if a then s.on i F.DRV_D_SLST_STO_A else s
  let s := stoNote k (if b then s.on i F.DRV_D_SLST_STO_B else s)
  if s.stoOff k then settle k s
  else settle k (overN 6 (fun c s =>
    if s.ch k c == Ch.forcedOff && !s.flag i F.DRV_D_STAT_LOCKOUT then s.setCh k c Ch.off else s) s)

/-- R340, R338, R53. STO_A (a) or STO_B (b) has been high at D die k for `held` µs; with bank A low both read torque off. -/
def execStoRun (k : DDie) (a b : Bool) (held : BitVec 16) (s : State) : Out :=
  onD k.val (fun s =>
    if s.bankALow || !s.stoAccepts k.val held.toNat then s else drvAct k.val (stoRun k.val a b) s) s

/-- The STO inputs have differed for longer than DISC ms (400,000 counts each), R339. -/
def stoDiscrepancy (k : Nat) (s : State) : State :=
  let i := dix k
  let at_ := (s.dd k).stoAt
  if at_ != 0 && !(s.dd k).stoDisc && decide (at_ + 400000 * s.get i F.DRV_D_STOCFG_DISC < s.mark k) then
    settleHeld k (drvFault k 4 ((s.on i F.DRV_D_EVT_STO_DISC).modD k (fun x => { x with stoDisc := true })))
  else s

/-- R339. The STO inputs of D die k have differed for DISC ms. -/
def execStoDiscrepancy (k : DDie) (s : State) : Out := onD k.val (drvAct k.val (stoDiscrepancy k.val)) s

/-- The sluice line of trip n of Cx goes active at D die k, R341. -/
def sluiceActive (k x n : Nat) (s : State) : State :=
  let i := dix k
  let s := s.putBit i F.DRV_D_SLST_LINES (4 * x + n) true
  let m := bitsOf 24 (fun j => j % 8 == 4 * x + n && s.bitOf i F.DRV_D_SLMASK j)
  settle k (s.modD k (fun y => { y with sluice := Nat.lor y.sluice m }))

/-- Trip n of Cx is active past its polarity, filter and blanking stages, R341. -/
def State.sluiceLine (s : State) (x n : Nat) : Bool := s.bitOf x F.PWM_TRIPST_ACTIVE n && !((s.c x).pwm.trips.at n).blanked

/-- R341. The sluice line of trip n of Cx goes active at D die k. -/
def execSluiceActive (k : DDie) (x : CDie) (n : Fin 4) (s : State) : Out :=
  onDC x.val k.val (fun s => if s.sluiceLine x.val n.val then drvAct k.val (sluiceActive k.val x.val n.val) s else s) s

/-- The clear of trip n by Cx reaches D die k, R342. -/
def sluiceClear (k x n : Nat) (s : State) : State :=
  let j := 4 * x + n
  if bit (s.dd k).slClr j && s.linkD x k then
    settle k (s.modD k (fun y =>
      { y with slClr := setBit y.slClr j false, sluice := bitsOf 24 (fun b => b % 8 != j && bit y.sluice b) }))
  else s

/-- R342. The clear of trip n that Cx accepted reaches D die k. -/
def execSluiceClear (k : DDie) (x : CDie) (n : Fin 4) (s : State) : Out :=
  onDC x.val k.val (drvAct k.val (sluiceClear k.val x.val n.val)) s

/-! ### Microcode -/

/-- R335. C die d writes DRV_Dd_UC_CTRL.COMMIT. -/
def execUcodeCommit (d : CDie) (k : DDie) (v : Word) (s : State) : Out :=
  onDW d.val k.val F.DRV_D_UC_CTRL_COMMIT.off (drvStore d.val k.val F.DRV_D_UC_CTRL_COMMIT.off v (drvAct k.val (ucCommit k.val v))) s

/-- The sequencer switches to bank 1, R335. -/
def ucSwitch (k : Nat) (s : State) : State :=
  let i := dix k
  if (s.dd k).ucCommit && s.allOff k && (s.dd k).seq.isNone && (s.dd k).seqDue.isEmpty then
    let s := (s.on i F.DRV_D_UC_STAT_BANK).modD k (fun x => { x with ucCommit := false })
    s.put i F.DRV_D_UC_CRC (bankCrc s k 1)
  else s

/-- R335, R332. Every channel of D die k is OFF and no entry runs. -/
def execUcodeBankSwitch (k : DDie) (s : State) : Out := onD k.val (ucSwitch k.val) s

/-- DRV_Dd_CHc_DRIVE as it is in force, R343. -/
def State.drive (s : State) (k c : Nat) : Word :=
  match ((s.dd k).chans.at c).oldDrive with
  | some w => w
  | none => s.reg (dix k) (F.DRV_D_CH_DRIVE_SRCSTR c).off

/-- What the sequencer drives on a channel: SRC only where no hardware hold acts, R333. -/
def ucDrive (k c op str : Nat) (s : State) : State :=
  let st := if str != 15 then str
    else if op == 1 then (F.DRV_D_CH_DRIVE_SRCSTR c).ofWord (s.drive k c)
    else (F.DRV_D_CH_DRIVE_SNKSTR c).ofWord (s.drive k c)
  if op == 1 && s.chHeld k c then s else s.modCh k c (fun h => { h with out := op, str := st })

/-- A WAITG has timed out for the channels of a mask, R334: GSTUCK latches on the legs whose gates are still above VGOFF. -/
def gateTimeout (k m : Nat) (s : State) : State :=
  let i := dix k
  let up := fun (s : State) c => bit m c && s.gateHigh k c
  let s := overN 3 (fun leg s =>
    if up s (hsCh leg) || up s (lsCh leg) then s.on i (F.DRV_D_LEG_STAT_GSTUCK leg) else s) s
  settleHeld k (drvFault k 2 (s.on i F.DRV_D_EVT_GSTUCK))

/-- A word of an entry that takes no time, Table 12-7, for the channels it names. -/
def ucExec (k w m : Nat) (s : State) : State :=
  let op := ucOp w
  if op == 1 || op == 2 then overN 6 (fun c s => if bit m c then ucDrive k c op (ucStr w) s else s) s
  else if op == 5 then
    overN 6 (fun c s => if bit m c then s.modCh k c (fun h => { h with out := 3, str := 15 }) else s) s
  else if op == 6 then sendStatus k (s.modD k (fun x => { x with flag := ucArg w }))
  else s

/-- The words of an entry from a word address up to END, to a WAIT or WAITG, or to the end of the bank. -/
def ucRun (k bank : Nat) (q : SeqD) : Nat → State → State
  | 0, s => s.modD k (fun x => { x with seq := none })
  | fuel + 1, s =>
    let w := s.ucWord k bank q.pc
    let m := if ucMask w == 0x3F then q.named else ucMask w
    let q := { q with pc := q.pc + 1 }
    if ucOp w == 0 || 511 < q.pc - 1 then s.modD k (fun x => { x with seq := none })
    else if ucOp w == 3 then s.modD k (fun x => { x with seq := some { q with wait := ucArg w, waitG := 0 } })
    else if ucOp w == 4 then s.modD k (fun x => { x with seq := some { q with wait := ucArg w, waitG := m } })
    else ucRun k bank q fuel (ucExec k w m s)

/-- The sequencer goes on with an entry at its next word. -/
def ucGo (k : Nat) (q : SeqD) (s : State) : State :=
  ucRun k (s.get (dix k) F.DRV_D_UC_STAT_BANK) { q with wait := 0, waitG := 0 } 512 s

/-- The sequencer starts the entry of an event, R333: the first one that waits, once no other runs; ORPHAN waits while a
channel is in SOFT_OFF (R336). -/
def seqStartEntry (k e : Nat) (s : State) : State :=
  if (s.dd k).seq.isSome || !s.flag (dix k) F.DRV_D_STAT_UCODE then s
  else
    match (s.dd k).seqDue with
    | (x, named) :: rest =>
      if x == e && !(e == 4 && (List.range 6).any (fun c => s.ch k c == Ch.softOff)) then
        let bank := s.get (dix k) F.DRV_D_UC_STAT_BANK
        ucGo k ⟨e, named, s.ucWord k bank e, 0, 0⟩ (s.modD k (fun x => { x with seqDue := rest }))
      else s
    | [] => s

/-- R333, R334. The sequencer starts an entry of Table 12-6 whose event has come. -/
def execSequencerEntry (k : DDie) (e : Fin 7) (s : State) : Out :=
  onD k.val (drvAct k.val (seqStartEntry k.val e.val)) s

/-- A fabric cycle of the sequencer, R334: a WAIT counts down; a WAITG ends with its gates below VGOFF, or at its timeout. -/
def seqCycle (k : Nat) (s : State) : State :=
  match (s.dd k).seq with
  | none => s
  | some q =>
    let up := (List.range 6).any (fun c => bit q.waitG c && s.gateHigh k c)
    if q.waitG != 0 && !up then drvAct k (ucGo k q) s
    else if 1 < q.wait then s.modD k (fun x => { x with seq := some { q with wait := q.wait - 1 } })
    else drvAct k (ucGo k q) (if q.waitG != 0 then drvAct k (gateTimeout k q.waitG) s else s)

/-- The phase-node comparators in a fabric cycle, R330: a crossing that is due shows in LEGk_STAT.NODE. -/
def nodeCycle (k : Nat) (s : State) : State :=
  overN 3 (fun leg s =>
    let x := (s.dd k).legs.at leg
    if x.nodeAt != 0 && decide (x.nodeAt ≤ s.mark k) then
      (s.put (dix k) (F.DRV_D_LEG_STAT_NODE leg) x.nodeTo).modLeg k leg (fun x => { x with nodeAt := 0 })
    else s) s

/-- A fabric cycle of the gate drive of D die k. -/
def gateCycle (k : Nat) (s : State) : State := seqCycle k (nodeCycle k s)

/-! ### Writes -/

/-- The levels of a channel are within their ranges, R308. -/
def State.levelOk (s : State) (k c : Nat) (v : Word) : Bool :=
  let von := (F.DRV_D_CH_LVL_VON c).ofWord v
  let voff := (F.DRV_D_CH_LVL_VOFF c).ofWord v
  let x := s.dd k
  decide (100 ≤ von) && decide (von ≤ 220) && (c % 2 == 0 || decide (von + 25 ≤ x.lastVdrv)) &&
    ((F.DRV_D_CH_LVL_DIRECT c).ofWord v == 1 || decide (voff + 5 ≤ x.lastVneg))

/-- A write of DRV_Dd_CHc_LVL, R308. -/
def levelWrite (k c : Nat) (v : Word) (s : State) : State :=
  let off := (F.DRV_D_CH_LVL_VON c).off
  if s.drvStopped k && !s.levelOk k c v then s.on (dix k) F.DRV_D_EVT_CFGERR
  else plainWrite (dix k) off v (s.drvStopped k) s

/-- R308. C die d writes DRV_Dd_CHc_LVL; `vdrv` and `vneg` are the last measured Dd_VDRV and −Dd_VNEG, in 100 mV. -/
def execLevelWrite (d : CDie) (k : DDie) (c : Fin 6) (v : Word) (vdrv vneg : Byte) (s : State) : Out :=
  onDW d.val k.val (F.DRV_D_CH_LVL_VON c.val).off (drvStore d.val k.val (F.DRV_D_CH_LVL_VON c.val).off v (fun s =>
      drvAct k.val (levelWrite k.val c.val v)
        (s.modD k.val (fun x => { x with lastVdrv := vdrv.toNat, lastVneg := vneg.toNat })))) s

/-- A write of LEGAX, R313, R314. -/
def legaxWrite (k : Nat) (v : Word) (s : State) : State :=
  legaxAfter k s (plainWrite (dix k) F.DRV_D_LEGAX.off v (s.drvStopped k) s)

/-- The settings of a sense-cell detector are within their ranges, R318. -/
def sccfgOk (v : Word) : Bool :=
  let th := (F.DRV_D_CH_SCCFG_SCTH 0).ofWord v
  let bm := (F.DRV_D_CH_SCCFG_BMULT 0).ofWord v
  decide (50 ≤ th) && decide (th ≤ 2000) && decide (8 ≤ bm) && decide (bm ≤ 16) && decide (th * bm ≤ 8000)

/-- A detector of a used leg is switched off in DEPLOYED, R326. -/
def State.detectorKept (s : State) (d k leg : Nat) (en : Nat) : Bool :=
  en == 0 && s.lc d == 2 && !s.legUnused k leg

/-- The STO settings are within their ranges, R338. -/
def stocfgOk (v : Word) : Bool :=
  let f := F.DRV_D_STOCFG_STOFILT.ofWord v
  let c := F.DRV_D_STOCFG_DISC.ofWord v
  decide (1 ≤ f) && decide (f ≤ 500) && decide (1 ≤ c) && decide (c ≤ 100)

/-- The legs of a clear command are at rest, R344: lines low for 10 µs (4,000 counts; `asLow`: they count as low), no
command names a channel on, no SOFT_OFF. -/
def State.legQuiet (s : State) (k leg : Nat) (asLow : Bool) : Bool :=
  let low := fun (c : Nat) =>
    let h := (s.dd k).chans.at c
    !h.line && (h.fellAt == 0 || decide (h.fellAt + 4000 ≤ (s.dd k).stage.toNat + 1))
  let free := fun (c : Nat) => !namesOn (s.legCmd k leg) c && s.ch k c != Ch.softOff
  (asLow || (low (hsCh leg) && low (lsCh leg))) && free (hsCh leg) && free (lsCh leg)

/-- A clear of SCLATCH of channel c, R344, R345. -/
def clearSc (k c : Nat) (s : State) : State :=
  let i := dix k
  if !s.flag i (F.DRV_D_CH_FSTAT_SCLATCH c) then s
  else if s.legQuiet k (c / 2) false then
    let f := F.DRV_D_CH_FSTAT_SCLATCH c
    settle k (s.setReg i f.off (s.reg i f.off &&& 0xFFFFFFC0#32))
  else s.on i F.DRV_D_EVT_CLRREF

/-- A clear of SHLATCH of a leg, R344: with it the FSTAT bits 5:1 that its detection set. -/
def clearShunt (k leg : Nat) (s : State) : State :=
  let i := dix k
  if !s.flag i (F.DRV_D_LEG_STAT_SHLATCH leg) then s
  else if s.legQuiet k leg false then
    let s := overL [hsCh leg, lsCh leg] (fun c s =>
      let f := F.DRV_D_CH_FSTAT_SRC_SHUNT c
      if !s.flag i f then s
      else if s.flag i (F.DRV_D_CH_FSTAT_SRC_SENSE c) then s.off i f
      else s.setReg i f.off (s.reg i f.off &&& 0xFFFFFFC1#32)) s
    settle k (s.off i (F.DRV_D_LEG_STAT_SHLATCH leg))
  else s.on i F.DRV_D_EVT_CLRREF

/-- A clear of SHOOT of a leg, R344. -/
def clearShoot (k leg : Nat) (s : State) : State :=
  let i := dix k
  if !s.flag i (F.DRV_D_LEG_STAT_SHOOT leg) then s
  else if s.legQuiet k leg false then settle k (s.off i (F.DRV_D_LEG_STAT_SHOOT leg))
  else s.on i F.DRV_D_EVT_CLRREF

/-- A clear of GSTUCK of a leg, R344. -/
def clearGstuck (k leg : Nat) (s : State) : State :=
  let i := dix k
  if !s.flag i (F.DRV_D_LEG_STAT_GSTUCK leg) then s
  else if s.legQuiet k leg false then settle k (s.off i (F.DRV_D_LEG_STAT_GSTUCK leg))
  else s.on i F.DRV_D_EVT_CLRREF

/-- A clear of STO_DISC, R344, R339: every leg at rest, the lines of an unused leg counting as low, and both inputs at run;
the latch and its event bit clear. -/
def clearStoDisc (k : Nat) (s : State) : State :=
  if !(s.dd k).stoDisc then s
  else if (List.range 3).all (fun leg => s.legQuiet k leg (s.legUnused k leg)) && !s.stoOff k then
    settle k ((s.off (dix k) F.DRV_D_EVT_STO_DISC).modD k (fun x => { x with stoDisc := false }))
  else s.on (dix k) F.DRV_D_EVT_CLRREF

/-- The clears that a two-key write of FCLR names, R344. -/
def fclrApply (k : Nat) (v : Word) (s : State) : State :=
  let n := v.toNat
  let s := overN 6 (fun c s => if bit n c then clearSc k c s else s) s
  let s := overN 3 (fun leg s => if bit n (8 + leg) then clearShunt k leg s else s) s
  let s := overN 3 (fun leg s => if bit n (12 + leg) then clearShoot k leg s else s) s
  let s := if bit n 16 then clearStoDisc k s else s
  overN 3 (fun leg s => if bit n (17 + leg) then clearGstuck k leg s else s) s

/-- A write of FCLR by master m of C die d, under two keys (R128, R344). -/
def fclrWrite (d : Nat) (m : Master) (k : Nat) (v : Word) (s : State) : State :=
  let off := F.DRV_D_FCLR_SC.off
  tkWrite d m (drvAddr k off) (dix k) off v false (fclrApply k v) s

/-- A store of FCLR by C die d, with what the STATUS flit reports. -/
def fclrStore (d : Nat) (m : Master) (k : Nat) (v : Word) (s : State) : State :=
  if s.hasD k then drvStore d k F.DRV_D_FCLR_SC.off v (drvAct k (fclrWrite d m k v)) s
  else busTrap d m (drvAddr k F.DRV_D_FCLR_SC.off) true s

/-- R344, R325. A two-key write that clears SCLATCH of the named channels. -/
def execFclrSc (d : CDie) (m : Master) (k : DDie) (ch : BitVec 6) (s : State) : Out :=
  onC d.val (fclrStore d.val m k.val (BitVec.ofNat 32 ch.toNat)) s

/-- R344, R325. A two-key write that clears SHLATCH of the named legs. -/
def execFclrShunt (d : CDie) (m : Master) (k : DDie) (legs : BitVec 3) (s : State) : Out :=
  onC d.val (fclrStore d.val m k.val (BitVec.ofNat 32 (legs.toNat * 0x100))) s

/-- R344, R327. A two-key write that clears SHOOT of the named legs. -/
def execFclrShoot (d : CDie) (m : Master) (k : DDie) (legs : BitVec 3) (s : State) : Out :=
  onC d.val (fclrStore d.val m k.val (BitVec.ofNat 32 (legs.toNat * 0x1000))) s

/-- R344, R339. A two-key write that clears the STO discrepancy latch. -/
def execFclrStoDisc (d : CDie) (m : Master) (k : DDie) (s : State) : Out :=
  onC d.val (fclrStore d.val m k.val 0x10000#32) s

/-- R344, R328. A two-key write that clears GSTUCK of the named legs. -/
def execFclrGstuck (d : CDie) (m : Master) (k : DDie) (legs : BitVec 3) (s : State) : Out :=
  onC d.val (fclrStore d.val m k.val (BitVec.ofNat 32 (legs.toNat * 0x20000))) s

/-- A software write of a D die's register at an offset of its window by master m of C die d, as the owner's store reaches
the die (R15, R343). -/
def drvRegWrite (d : Nat) (m : Master) (k off : Nat) (v : Word) (s : State) : State :=
  let i := dix k
  let c := (off - 0x100) / 0x40
  let co := (off - 0x100) % 0x40
  let leg := (off - 0x400) / 0x40
  let lo := (off - 0x400) % 0x40
  let a := drvAddr k off
  let err := fun (s : State) => s.on i F.DRV_D_EVT_CFGERR
  if off == 0x10 then fclrWrite d m k v s
  else if off == 0x1C then legaxWrite k v s
  else if 0x100 ≤ off && off < 0x280 then
    if co == 0 then levelWrite k c v s
    else if co == 8 then
      tkWriteIf (sccfgOk v && !s.detectorKept d k (c / 2) ((F.DRV_D_CH_SCCFG_EN c).ofWord v)) err d m a i off v
        (protWrite i off v false) s
    else if co == 0x0C then tkWrite d m a i off v false (protWrite i off v false) s
    else plainWrite i off v (s.drvStopped k) s
  else if 0x400 ≤ off && off < 0x4C0 && lo == 0 then
    tkWriteIf (!s.detectorKept d k leg ((F.DRV_D_LEG_SHCMP_EN leg).ofWord v)) err d m a i off v (protWrite i off v false) s
  else if off == 0x600 then tkWrite d m a i off v false (protWrite i off v false) s
  else if off == 0x604 then tkWriteIf (stocfgOk v) err d m a i off v (protWrite i off v false) s
  else if off == 0x700 then ucCommit k v s
  else if 0x2800 ≤ off && off < 0x3000 then
    if s.flag i F.DRV_D_UC_STAT_LOCK then (s.put i F.DRV_D_UC_STAT_ERR 4).on i F.DRV_D_EVT_UC_ERR else s
  else if off == 0x3000 then shcctrlWrite k v s
  else plainWrite i off v (s.drvStopped k) s

/-- A store of C die d to an offset of D die k, issued at an address. -/
def drvWrite (d : Nat) (m : Master) (k off addr : Nat) (v : Word) (s : State) : State :=
  drvStoreAt d k off addr v (drvAct k (drvRegWrite d m k off v)) s

/-! ### The owner -/

/-- A latch of cause SC of the legs of an axis, or a soft turn-off in progress (Table 13-1). -/
def State.scHolds (s : State) (a : Nat) : Bool :=
  (s.legsOf a).any (fun x =>
    let i := dix x.1
    let ch := fun (c : Nat) => s.flag i (F.DRV_D_CH_FSTAT_SCLATCH c) || s.ch x.1 c == Ch.softOff
    s.flag i (F.DRV_D_LEG_STAT_SHOOT x.2) || s.flag i (F.DRV_D_LEG_STAT_GSTUCK x.2) ||
      s.flag i (F.DRV_D_LEG_STAT_SHLATCH x.2) || ch (hsCh x.2) || ch (lsCh x.2))

/-- Causes LOCKOUT and STO of an axis (Table 13-1). -/
def State.lockoutHolds (s : State) (a : Nat) : Bool := (s.dOf a).any (fun k => s.flag (dix k) F.DRV_D_STAT_LOCKOUT)
def State.stoHolds (s : State) (a : Nat) : Bool := (s.dOf a).any (fun k => s.stoOff k || (s.dd k).stoDisc)

/-- A cause follows its condition: the axis enters its curtain state, or the cause is no longer active. -/
def followCause (d a j : Nat) (holds : Bool) (s : State) : State :=
  if holds then
    if s.bitOf d (F.SAFE_AX_CAUSE_ACTIVE a) j then s else enterCurtain d a j s
  else dropCause d a j s

/-- The condition of a fault instance of D die k (Table 14-3, group 23). -/
def State.drvActive (s : State) (k j : Nat) : Bool :=
  let i := dix k
  match j with
  | 0 => (List.range 6).any (fun c => s.flag i (F.DRV_D_CH_FSTAT_SCLATCH c)) ||
      (List.range 3).any (fun leg => s.flag i (F.DRV_D_LEG_STAT_SHLATCH leg))
  | 1 => (List.range 3).any (fun leg => s.flag i (F.DRV_D_LEG_STAT_SHOOT leg))
  | 2 => (List.range 3).any (fun leg => s.flag i (F.DRV_D_LEG_STAT_GSTUCK leg))
  | 3 => s.flag i F.DRV_D_STAT_LOCKOUT
  | _ => (s.dd k).stoDisc

/-- The causes of an axis after a STATUS flit; while it is in its curtain state its rule is evaluated, and a leg that waits
for a command after a lockout gets it again (Table 13-5). -/
def statusAxis (d a : Nat) (s : State) : State :=
  let s := followCause d a Cause.sc (s.scHolds a) s
  let s := followCause d a Cause.lockout (s.lockoutHolds a) s
  let s := followCause d a Cause.sto (s.stoHolds a) s
  let s := evalCurtain d a s
  let st := s.get d (F.SAFE_AX_STAT_STATE a)
  if st != Cs.none && st != Cs.pending && !s.lockoutHolds a &&
      (s.legsOf a).any (fun x => ((s.dd x.1).legs.at x.2).waitCmd) then writeCurtain d a st s
  else s

/-- A STATUS flit of D die k at its owner d, R343: SYS_SUPST, fault collection, a handover in progress (R144), and the
curtain controller. -/
def statusAt (d k : Nat) (s : State) : State :=
  let due := (s.dd k).evtDue
  let s := s.modD k (fun x => { x with statusDue := false, evtDue := 0 })
  let s := refreshLockout s
  let s := overN 5 (fun j s =>
    let i := 8 * k + j
    let s := if bit due j then latchFault d Fg.drv i (s.drvActive k j) s else s
    if bit (s.fcAct d Fg.drv) i && !s.drvActive k j then endActive d Fg.drv i s else s) s
  let s := if bit due 0 || bit due 3 || (s.dd k).sluice != 0 then hoCancelFor k Ho.dFault s else s
  overL (s.axOf k) (statusAxis d) s

/-- R343. The STATUS flit of D die k reaches its owner. -/
def execStatusFlitReceive (k : DDie) (s : State) : Out :=
  onD k.val (fun s =>
    let d := s.owner k.val
    if (s.dd k.val).statusDue && s.owns d k.val && s.runs d && s.linkD d k.val then statusAt d k.val s else s) s

end Sys2Proof.Machine
end

