-- ==== Sys2Proof/Machine/Dclink.lean ====
section
/-! DEFINITION. Buses (chapter 13): the intake of SHUNT flits (R158 to R163, R174), the bus voltage and its thresholds
(R348 to R353, R400), and active discharge (R366 to R369). -/

namespace Sys2Proof.Machine

/-! ### Bus voltage -/

/-- The axes of a bus. -/
def State.busAxes (s : State) (d b : Nat) : List Nat :=
  (List.range 6).filter (fun a => s.axType d a != 0 && s.get d (F.FIELD_AX_CFG_BUS a) == b)

/-- The axes that use a bus, with the port of a DCDC axis (R399). -/
def State.busUsers (s : State) (d b : Nat) : List Nat :=
  (List.range 6).filter (fun a => s.axType d a != 0 &&
    (s.get d (F.FIELD_AX_CFG_BUS a) == b || (s.axType d a == 4 && s.get d (F.FIELD_AX_CFG_PORT a) == b)))

/-- CHK_BENCHST of C die d, R399. -/
def benchRefresh (d : Nat) (s : State) : State :=
  let s := s.put d F.CHK_BENCHST_OK (bitsOf 3 (fun b => s.benchBus d b))
  let s := s.put d F.CHK_BENCHST_REQ (b2n (s.benchReq d))
  s.put d F.CHK_BENCHST_PKGSPLIT (b2n s.pkgSplit)

/-- R400: under bench conditions an enabled axis with its bus at or above VLIM latches BENCH_VDC. -/
def benchVdc (d b : Nat) (s : State) : State :=
  let beyond := s.benchReq d && (s.busUsers d b).any (fun a => s.enabled d a) && s.flag d (F.DISCH_BUS_STAT_VDCOK b) &&
    decide (s.geti d (F.CHK_BENCH_VLIM b) ≤ s.geti d (F.DISCH_BUS_STAT_VDC b))
  if beyond then
    if bit (s.fcAct d Fg.benchVdc) b then s else latchFault d Fg.benchVdc b true s
  else endActive d Fg.benchVdc b s

/-- A fault of a bus with a condition: it is latched when the condition begins (Table 14-3, group 25). -/
def busFault (d b j : Nat) (holds : Bool) (s : State) : State :=
  let i := 4 * b + j
  if holds then (if bit (s.fcAct d Fg.bus) i then s else latchFault d Fg.bus i true s)
  else endActive d Fg.bus i s

/-- The thresholds of R350. -/
def busThresholds (d b : Nat) (v : Int) (s : State) : State :=
  let vov := s.geti d (F.DISCH_BUS_VTH_VOV b)
  let hys := Int.ofNat (s.get d (F.DISCH_BUS_VHYS_OVHYS b))
  let s := if vov ≤ v then
      let s := (s.on d (F.DISCH_BUS_STAT_OV b)).on d (F.DISCH_BUS_EVT_OV b)
      overL ((s.busAxes d b).filter (fun a => s.axType d a != 5)) (fun a s =>
        if s.bitOf d (F.SAFE_AX_CAUSE_ACTIVE a) Cause.ov then s else enterCurtain d a Cause.ov s) s
    else if v < vov - hys then
      overL (s.busAxes d b) (fun a s => dropCause d a Cause.ov s) (s.off d (F.DISCH_BUS_STAT_OV b))
    else s
  let under := decide (v < s.geti d (F.DISCH_BUS_VTH_VUV b))
  let s := s.put d (F.DISCH_BUS_STAT_UV b) (b2n under)
  busFault d b 1 under (onlyIf under (fun s => s.on d (F.DISCH_BUS_EVT_UV b)) s)

/-- The duty law of R352, truncated as R217 does. -/
def chopperDuty (v lo hi : Int) : Nat :=
  if v ≤ lo then 0 else if hi ≤ v then 65536 else ((v - lo) * 65536 / (hi - lo)).toNat

/-- The duty of the running CHOP axes of a bus, R352: reported, stored to their pairs, and the loads armed. -/
def chopperRun (d b : Nat) (v : Int) (s : State) : State :=
  overL ((s.busAxes d b).filter (fun a => s.axType d a == 5 && s.phase d a == Ph.run)) (fun a s =>
    let duty := chopperDuty v (s.geti d (F.DISCH_BUS_CHOP_CHLO b)) (s.geti d (F.DISCH_BUS_CHOP_CHHI b))
    let s := s.put d (F.DISCH_BUS_CHDUTY b) duty
    overL (s.pairsOf d a) (fun k s => loadallArm d (s.pairLg d k) (dutyStore d k false duty s)) s) s

/-- The frame statistics of a bus (Table 18-4). -/
def busStats (d b : Nat) (v : Int) (s : State) : State :=
  let p := (s.c d).prompt
  let first := p.vcnt.at b == 0
  let lo := s.geti d (F.PROMPT_LIVE_SB_V_VMIN b)
  let hi := s.geti d (F.PROMPT_LIVE_SB_V_VMAX b)
  let s := s.puti d (F.PROMPT_LIVE_SB_V_VMIN b) (if first then v else min lo v)
  let s := s.puti d (F.PROMPT_LIVE_SB_V_VMAX b) (if first then v else max hi v)
  let s := s.puti d (F.PROMPT_LIVE_SB_VAVG b) (rndDiv (p.vsum.at b + v) (Int.ofNat (p.vcnt.at b) + 1))
  s.modPrompt d (fun p => { p with vsum := p.vsum.set b (p.vsum.at b + v), vcnt := p.vcnt.set b (p.vcnt.at b + 1) })

/-- The loss of a bus's voltage has ended, R349. -/
def vdcBack (d b : Nat) (s : State) : State :=
  let s := overL (s.busAxes d b) (fun a s => s.modAx d a (fun x => { x with vdcLoss := false })) s
  refreshCauses (busFault d b 2 false s)

/-- A VDC result at a bus of C die d, R348, R350, R352, R268, R400. -/
def busVdc (d b : Nat) (v : Int) (s : State) : State :=
  let s := (s.puti d (F.DISCH_BUS_STAT_VDC b) v).on d (F.DISCH_BUS_STAT_VDCOK b)
  let s := fieldVdc d b (vdcBack d b s)
  let s := busStats d b v (chopperRun d b v (busThresholds d b v s))
  benchVdc d b (benchRefresh d s)

/-- The two measurements of a bus compared, R349: they differ by more than VPLAUS from now on, or agree again, which ends the
fault. -/
def plausNote (d b : Nat) (s : State) : State :=
  if s.get d (F.DISCH_BUS_CFG_VDIE2 b) == 7 then s
  else if decide (Int.ofNat (s.get d (F.DISCH_BUS_VHYS_VPLAUS b)) <
      absI (s.geti d (F.DISCH_BUS_STAT_VDC b) - (s.c d).safe.vdc2.at b)) then
    if (s.c d).safe.plausAt.at b == 0 then
      s.modSafe d (fun x => { x with plausAt := x.plausAt.set b (s.now d + 1) })
    else s
  else busFault d b 0 false (s.modSafe d (fun x => { x with plausAt := x.plausAt.set b 0 }))

/-- A VDC result of D die k at every bus of C die d that measures by it, and as the second measurement of a bus. -/
def vdcResult (d k : Nat) (v : Int) (s : State) : State :=
  overN 3 (fun b s =>
    if s.flag d (F.DISCH_BUS_CFG_EN b) then
      let s := if s.get d (F.DISCH_BUS_CFG_VDIE2 b) == k then
          plausNote d b (s.modSafe d (fun x => { x with vdc2 := x.vdc2.set b v })) else s
      if s.get d (F.DISCH_BUS_CFG_VDIE b) == k then
        plausNote d b (busVdc d b v (s.modSafe d (fun x => { x with vdcAt := x.vdcAt.set b (s.now d + 1) })))
      else s
    else s) s

/-- R349. No VDC result has come for 10 µs (4,000 counts): VDCOK clears, and the axes of the bus enter their curtain states. -/
def vdcLoss (d b : Nat) (s : State) : State :=
  if s.flag d (F.DISCH_BUS_CFG_EN b) && decide ((s.c d).safe.vdcAt.at b + 4000 ≤ s.now d + 1) then
    let s := (s.on d (F.DISCH_BUS_EVT_VDCLOSS b)).off d (F.DISCH_BUS_STAT_VDCOK b)
    let s := busFault d b 2 true s
    overL (s.busAxes d b) (fun a s =>
      enterCurtain d a Cause.fault (s.modAx d a (fun x => { x with vdcLoss := true }))) (benchRefresh d s)
  else s

/-- R349. Bus b has had no VDC result from VDIE for 10 µs. -/
def execVdcLoss (d : CDie) (b : Fin 3) (s : State) : Out := onC d.val (vdcLoss d.val b.val) s

/-- R349. The results of VDIE and VDIE2 have differed by more than VPLAUS for 100 µs (40,000 counts). -/
def vdcPlaus (d b : Nat) (s : State) : State :=
  let t := (s.c d).safe.plausAt.at b
  if s.flag d (F.DISCH_BUS_CFG_EN b) && s.get d (F.DISCH_BUS_CFG_VDIE2 b) != 7 && t != 0 &&
      decide (t + 40000 ≤ s.now d + 1) then
    busFault d b 0 true (s.on d (F.DISCH_BUS_EVT_VPLAUS b))
  else s

/-- R349. Two measurements of bus b disagree. -/
def execVdcPlausibility (d : CDie) (b : Fin 3) (s : State) : Out := onC d.val (vdcPlaus d.val b.val) s

/-- The duty of a chopper is high and its current low, with the check on, R353. -/
def State.chopWeak (s : State) (d b : Nat) : Bool :=
  let src := s.get d (F.DISCH_BUS_CHISRC b)
  src != 0x2C0 && (s.busAxes d b).any (fun a => s.axType d a == 5 && s.phase d a == Ph.run) &&
    decide (s.get d (F.DISCH_BUS_CHFLT_FDUTY b) * 256 ≤ s.get d (F.DISCH_BUS_CHDUTY b)) &&
    decide (absQ15 (sx16 (s.srcVal d src)) < s.get d (F.DISCH_BUS_CHFLT_FCUR b))

/-- The choppers in a fabric cycle: since when each has had high duty with low current, R353. -/
def chopCycle (d : Nat) (s : State) : State :=
  overN 3 (fun b s =>
    if s.get d (F.DISCH_BUS_CHISRC b) == 0x2C0 then s
    else
      let t := (s.c d).safe.chopAt.at b
      let t2 := if !s.chopWeak d b then 0 else if t == 0 then s.now d + 1 else t
      if t == t2 then s else s.modSafe d (fun x => { x with chopAt := x.chopAt.set b t2 })) s

/-- The chopper of bus b is faulty, R353: high duty with low current for FTIME × 10 µs (4,000 counts each). -/
def chopperFault (d b : Nat) (s : State) : State :=
  let chops := (s.busAxes d b).filter (fun a => s.axType d a == 5 && s.phase d a == Ph.run)
  let t := (s.c d).safe.chopAt.at b
  if s.chopWeak d b && !s.flag d (F.DISCH_BUS_STAT_CHFAULT b) && t != 0 &&
      decide (t + 4000 * s.get d (F.DISCH_BUS_CHFLT_FTIME b) ≤ s.now d + 1) then
    let s := (s.on d (F.DISCH_BUS_STAT_CHFAULT b)).on d (F.DISCH_BUS_EVT_CHFAULT b)
    let s := overL chops (fun a s =>
      enterCurtain d a Cause.fault (s.modAx d a (fun x => { x with chopFault := true }))) s
    overL (s.busAxes d b) (fieldStatus d) s
  else s

/-- R353, R246. The duty has stayed high with low current for FTIME × 10 µs. -/
def execChopperFault (d : CDie) (b : Fin 3) (s : State) : Out := onC d.val (chopperFault d.val b.val) s

/-! ### Intake -/

/-- The result word of an intake: VALUE, TAG, FRESH, SAT, CLIP. -/
def shResPut (d k i code tag : Nat) (s : State) : State :=
  let volt := decide (3 ≤ i)
  let u : Int := if volt then Int.ofNat (code * 16) else sx16 (code * 16)
  let ofs := s.get d (F.ADC_SH_OFS_OFFSET k i)
  let r := scaleQ15 u (if volt then Int.ofNat ofs else sx16 ofs) (s.geti d (F.ADC_SH_SCL_GAIN k i))
    (s.get d (F.ADC_SH_SCL_SHIFT k i))
  let v := satQ15 r
  let clip := clip12 volt code
  let s := s.setReg d (F.ADC_SH_RES_VALUE k i).off (resWord v (tag % 16) (offQ15 r) clip false)
  let s := onlyIf (offQ15 r) (fun s => s.on d (F.ADC_SH_EVT_SAT k)) s
  let s := onlyIf clip (fun s => s.on d (F.ADC_SH_EVT_CLIP k)) s
  let s := srcSet d (0x200 + 8 * k + i) (ux16 v) s
  let a := s.legAx k i
  if i < 3 ∧ a < 6 then
    s.put d (F.PROMPT_LIVE_SA_IPK_PEAK a) (max (absQ15 v) (s.get d (F.PROMPT_LIVE_SA_IPK_PEAK a)))
  else s

/-- A burst code of channel i enters the intake's FIFO of 256 results, R161; it is scaled as that channel is (SCLi, OFSi; the
reserved channel 3 as VDC: DESIGN CHOICE, log entry 22). -/
def shBurstPut (d k i code : Nat) (s : State) : State :=
  let volt := decide (3 ≤ i)
  let u : Int := if volt then Int.ofNat (code * 16) else sx16 (code * 16)
  let ofs := s.get d (F.ADC_SH_OFS_OFFSET k i)
  let r := scaleQ15 u (if volt then Int.ofNat ofs else sx16 ofs) (s.geti d (F.ADC_SH_SCL_GAIN k i))
    (s.get d (F.ADC_SH_SCL_SHIFT k i))
  let s := onlyIf (offQ15 r) (fun s => s.on d (F.ADC_SH_EVT_SAT k)) s
  let s := onlyIf (clip12 volt code) (fun s => s.on d (F.ADC_SH_EVT_CLIP k)) s
  let f := (s.c d).adc.shFifo.at k
  if 256 ≤ f.length then s.on d (F.ADC_SH_EVT_FIFO_OVF k)
  else refreshShFifo d k (s.modAdc d (fun x => { x with shFifo := x.shFifo.set k (f ++ [ux16 (satQ15 r)]) }))

/-- The tag of a flit is checked against the last one of its CONTENT (R159) and shown; the first flit of a CONTENT after
the intake's reset has none to be checked against (DESIGN CHOICE, log entry 22). -/
def shTag (d k content tag : Nat) (s : State) : State :=
  let key := 4 * k + content
  let last := (s.c d).adc.tags.at key
  let s := if last != 0 && tag != last % 16 then latchFault d Fg.adcTag k false (s.on d (F.ADC_SH_EVT_TAGERR k)) else s
  let s := s.modAdc d (fun x => { x with tags := x.tags.set key (tag + 1) })
  if content == 0 then s.put d (F.ADC_SH_STAT_ITAG k) tag
  else if content == 3 then s
  else s.put d (F.ADC_SH_STAT_VTAG k) tag

/-- Every engine triggered by the arrival of a flit of D die k, R219: kind 1 SHUNT, 2 VOLT. -/
def shTrigger (d k kind : Nat) (s : State) : State :=
  overN 63 (fun n s => if s.get d (F.LOOP_LE_CFG_TRIGD n) == k then engineTrigger d n kind s else s) s

/-- The voltage result of phase slot p of an axis at its shunt intake. -/
def State.phaseV (s : State) (d a p : Nat) : Int :=
  let h := s.hbOf d a p
  s.geti d (F.ADC_SH_RES_VALUE (h / 3) (4 + h % 3))

/-- A VPH set of D die k reaches an axis in CATCH, R262; the die of slot PH0 sets the pace. -/
def catchSet (d k a : Nat) (s : State) : State :=
  if s.phase d a == Ph.catch_ && s.hbOf d a 0 / 3 == k then
    let v := (s.phaseV d a 0, s.phaseV d a 1, s.phaseV d a 2)
    s.modAxr d a (fun x => { x with catchSets := (v :: x.catchSets).take 2000 })
  else s

/-- The codes of a flit: register results, a catch's voltages (R262, R263), VDC at both C dies (R348), burst results (the
first n modulo 4 codes, of channel n / 4). -/
def shIntake (d k c0 c1 c2 tag content n : Nat) (s : State) : State :=
  if content == 0 then
    shTrigger d k 1 (shResPut d k 2 c2 tag (shResPut d k 1 c1 tag (shResPut d k 0 c0 tag s)))
  else if content == 1 then
    let s := shResPut d k 6 c2 tag (shResPut d k 5 c1 tag (shResPut d k 4 c0 tag s))
    let s := overL (s.axOf k) (catchSet d k) s
    shTrigger d k 2 s
  else if content == 2 then
    let s := shResPut d k 3 c0 tag s
    let v := s.geti d (F.ADC_SH_RES_VALUE k 3)
    let s := vdcResult d k v s
    let s := if s.runs (1 - d) && s.linkC d then vdcResult (1 - d) k v s else s
    shTrigger d k 2 s
  else overL ([c0, c1, c2].take (n % 4)) (shBurstPut d k (n / 4)) s

/-- The oldest SHUNT flit of D die k for C die d arrives, R158, R159. -/
def shFlit (d k : Nat) (s : State) : State :=
  match (s.dd k).shunt.flits.find? (fun f => f.1 == d) with
  | none => s
  | some f =>
    let p := f.2
    let s := s.modShunt k (fun x => { x with flits := x.flits.erase f })
    if !s.flag d (F.ADC_SH_CTRL_EN k) || !s.linkD d k then s
    else
      let content := p % 4
      let tag := p / 16 % 16
      let s := shTag d k content tag s
      let s := if bit p 3 then s.on d (F.ADC_SH_EVT_DROP k) else s
      shIntake d k (p / 2 ^ 32 % 4096) (p / 2 ^ 20 % 4096) (p / 2 ^ 8 % 4096) tag content (p / 2 ^ 44) s

/-- R159, R162, R163, R174, R348, R350, R352, R268, R400. A SHUNT flit of D die k arrives at C die d. -/
def execShuntFlitReceive (d : CDie) (k : DDie) (s : State) : Out :=
  onCD d.val k.val (shFlit d.val k.val) s

/-! ### Active discharge -/

/-- DISCH_BUSb_DST.CODE, Table 13-7. -/
abbrev Dc.busy := 1
abbrev Dc.noSwitch := 2
abbrev Dc.belowVend := 3
abbrev Dc.notStill := 4
abbrev Dc.axisState := 5
abbrev Dc.pwmRefused := 6
abbrev Dc.latched := 7
abbrev Dc.badCmd := 8

/-- A discharge runs on a bus. -/
def State.discharging (s : State) (d b : Nat) : Bool :=
  let st := s.get d (F.DISCH_BUS_STAT_STATE b)
  st == Ds.resistor || st == Ds.winding

/-- The code that refuses a discharge command, in the order of Table 13-7; 0 when accepted. -/
def State.dischRefusal (s : State) (d b op a : Nat) : Nat :=
  if op == 3 then 0
  else if s.discharging d b then Dc.busy
  else if op == 1 && s.get d (F.DISCH_BUS_CFG_DDIE b) == 7 then Dc.noSwitch
  else if op != 0 && decide (s.geti d (F.DISCH_BUS_STAT_VDC b) < s.geti d (F.DISCH_BUS_DIS_VEND b)) then Dc.belowVend
  else if op == 2 && a < 6 && decide (s.get d (F.FIELD_AX_CATCH_STILL a) ≤ absQ15 (s.speed d a)) then Dc.notStill
  else if op == 2 && (decide (6 ≤ a) || s.phase d a != Ph.idle || s.inCurtain d a ||
      !(s.axType d a == 1 || s.axType d a == 2) || s.get d (F.FIELD_AX_CFG_BUS a) != b) then Dc.axisState
  else if op == 2 && s.enCheck d a != 0 then Dc.pwmRefused
  else if s.flag d (F.DISCH_BUS_EVT_DTMO b) || s.flag d (F.DISCH_BUS_EVT_DOC b) then Dc.latched
  else if op == 0 then Dc.badCmd
  else 0

/-- A winding discharge ends, R368: PWM is disabled and the axis returns to IDLE. -/
def windingEnd (d b : Nat) (s : State) : State := fieldDisable d ((s.c d).safe.disAx.at b) s

/-- A running discharge ends with a state and an event. -/
def dischargeStop (d b st : Nat) (s : State) : State :=
  let was := s.get d (F.DISCH_BUS_STAT_STATE b)
  let s := dischargeEnd d b st s
  if was == Ds.winding then windingEnd d b s else s

/-- A winding discharge begins, R368: the axis is enabled with WIND.ID alone as its reference. -/
def windingStart (d b a : Nat) (s : State) : State :=
  let s := (s.put d (F.DISCH_BUS_STAT_STATE b) Ds.winding).modDisT d b (s.now d)
  let s := s.modSafe d (fun x => { x with disAx := x.disAx.set b a })
  let i := s.geti d (F.DISCH_BUS_WIND_ID b)
  let s := (s.puti d (F.FIELD_AX_OUT_ID a) i).put d (F.FIELD_AX_OUT_IQ a) 0
  enRequest d a (dCurrent d a i s)

/-- A command in DISCH_BUSb_DCMD, R366, R368, R369. -/
def dischCommand (d b op a : Nat) (s : State) : State :=
  let code := s.dischRefusal d b op a
  let s := (s.put d (F.DISCH_BUS_DST_CODE b) code).put d (F.DISCH_BUS_DCMD_AX b) a
  if code != 0 then
    let s := s.on d (F.DISCH_BUS_EVT_DREF b)
    if code == Dc.pwmRefused then enNote d a (s.enCheck d a) s else s
  else if op == 1 then resistorStart d b s
  else if op == 2 then windingStart d b a s
  else if s.discharging d b then dischargeStop d b Ds.idle s
  else s

/-- The offset of DISCH_BUSb_DCMD. -/
def dcmdOff (b : Nat) : Nat := 0x2D001C + 0x40 * b

/-- A write of DISCH_BUSb_DCMD by master m, under two keys (R128). -/
def dcmdWrite (d : Nat) (m : Master) (b : Nat) (v : Word) (s : State) : State :=
  let op := (F.DISCH_BUS_DCMD_OP b).ofWord v
  let a := (F.DISCH_BUS_DCMD_AX b).ofWord v
  tkWrite d m (own (dcmdOff b)) d (dcmdOff b) v false (dischCommand d b op a) s

/-- R366, R369. DCMD.OP = RESISTOR. -/
def execDischargeResistor (d : CDie) (m : Master) (b : Fin 3) (s : State) : Out :=
  onC d.val (dcmdWrite d.val m b.val 1#32) s

/-- R368, R369. DCMD.OP = WINDING for axis a. -/
def execDischargeWinding (d : CDie) (m : Master) (b : Fin 3) (a : Fin 8) (s : State) : Out :=
  onC d.val (dcmdWrite d.val m b.val (BitVec.ofNat 32 (2 + 16 * a.val))) s

/-- R366, R369. DCMD.OP = STOP. -/
def execDischargeStop (d : CDie) (m : Master) (b : Fin 3) (s : State) : Out :=
  onC d.val (dcmdWrite d.val m b.val 3#32) s

/-- R366, R368. VDC has fallen below VEND: by the keep-alive domain's own comparator for a resistor discharge, by the bus
voltage in use for a winding discharge. -/
def execDischargeVendReached (d : CDie) (b : Fin 3) (s : State) : Out :=
  onC d.val (fun s =>
    let st := s.get d.val (F.DISCH_BUS_STAT_STATE b.val)
    let below := decide (s.geti d.val (F.DISCH_BUS_STAT_VDC b.val) < s.geti d.val (F.DISCH_BUS_DIS_VEND b.val))
    if st == Ds.resistor || (st == Ds.winding && below) then
      dischargeStop d.val b.val Ds.done (s.on d.val (F.DISCH_BUS_EVT_DDONE b.val))
    else s) s

/-- R366, R368. TMAX ms (400,000 counts each) have elapsed. -/
def execDischargeTimeout (d : CDie) (b : Fin 3) (s : State) : Out :=
  onC d.val (fun s =>
    if s.discharging d.val b.val && decide ((s.c d.val).safe.disFrom.at b.val +
        400000 * s.get d.val (F.DISCH_BUS_DIS_TMAX b.val) ≤ s.now d.val) then
      dischargeStop d.val b.val Ds.timeout (s.on d.val (F.DISCH_BUS_EVT_DTMO b.val))
    else s) s

/-- R366. More than 0.20 V at Dd_DISCH_SNS of a resistor discharge. -/
def execDischargeOvercurrent (d : CDie) (b : Fin 3) (s : State) : Out :=
  onC d.val (fun s =>
    if s.get d.val (F.DISCH_BUS_STAT_STATE b.val) == Ds.resistor then
      dischargeEnd d.val b.val Ds.fault (s.on d.val (F.DISCH_BUS_EVT_DOC b.val))
    else s) s

/-- R367. An armed keep-alive domain discharges by itself: VDRV has been below 8.0 V for 10 ms with VDC above VEND. -/
def execKeepAutoDischarge (k : DDie) (s : State) : Out :=
  atD k.val (fun s =>
    let x := s.ka k.val
    if x.armed && !x.vkeepLow && !x.running && (s.dd k.val).vdrvLow then
      let s := s.modK k.val (fun x => { x with running := true, keepDis := true })
      overN 2 (fun d s => if s.runs d then overN 3 (fun b s =>
        if s.get d (F.DISCH_BUS_CFG_DDIE b) == k.val && s.flag d (F.DISCH_BUS_CFG_EN b) then
          (s.put d (F.DISCH_BUS_STAT_STATE b) Ds.resistor).modDisT d b (s.now d)
        else s) s else s) s
    else s) s

/-! ### Writes -/

/-- A write of 1s to DISCH_BUSb_EVT: a clear of CHFAULT ends the declaration, and is refused while the CHOP axis is in RUN
(R353). -/
def dischEvtWrite (d b : Nat) (v : Word) (s : State) : State :=
  let off := (F.DISCH_BUS_EVT_OV b).off
  let f := F.DISCH_BUS_EVT_CHFAULT b
  let chops := (s.busAxes d b).filter (fun a => s.axType d a == 5)
  let was := s.flag d f
  let s := plainWrite d off (f.into v 0) true s
  if f.ofWord v == 1 && was then
    if chops.any (fun a => s.phase d a == Ph.run) then s.on d (F.DISCH_BUS_EVT_CLRREF b)
    else
      let s := (s.off d f).off d (F.DISCH_BUS_STAT_CHFAULT b)
      let s := refreshCauses (overL chops (fun a s => s.modAx d a (fun x => { x with chopFault := false })) s)
      overL (s.busAxes d b) (fieldStatus d) s
  else s

/-- A bus counts as stopped for its RWL fields while no axis on it runs. -/
def State.busStopped (s : State) (d b : Nat) : Bool :=
  (s.busAxes d b).all (fun a => s.phase d a == Ph.idle || s.phase d a == Ph.curtain)

/-- A software write of a register of bus b at an offset of its map by master m. -/
def dischWrite (d : Nat) (m : Master) (b o : Nat) (v : Word) (s : State) : State :=
  let off := 0x2D0000 + 0x40 * b + o
  let stop := s.busStopped d b
  if o == 0 then keepSync (plainWrite d off v stop s)
  else if o == 0x0C then
    let ok := decide (sx16 v.toNat < sx16 (v.toNat / 65536))
    tkWriteIf ok (fun s => s.on d (F.DISCH_BUS_EVT_WRREF b)) d m (own off) d off v (protWrite d off v false) s
  else if o == 0x1C then dcmdWrite d m b v s
  else if o == 0x04 || o == 0x08 || o == 0x10 || o == 0x18 then
    tkWrite d m (own off) d off v false (protWrite d off v false) s
  else if o == 0x30 then dischEvtWrite d b v s
  else plainWrite d off v stop s

end Sys2Proof.Machine
end

