-- ==== Sys2Proof/Machine/Safe.lean ====
section
/-! DEFINITION. The curtain controller's commands (R354 to R363) and the torque monitor (R371 to R377). -/

namespace Sys2Proof.Machine

/-! ### Entry, evaluation, requests -/

/-- The condition of a cause of Table 13-1 holds for an axis now. -/
def State.causeHolds (s : State) (d a j : Nat) : Bool :=
  match j with
  | 0 => s.faultHolds d a
  | 1 => s.axType d a != 0 && s.axType d a != 5 && s.flag d (F.DISCH_BUS_STAT_OV (s.get d (F.FIELD_AX_CFG_BUS a)))
  | 2 => s.flag d (F.TMON_AX_EVT_VIOL a)
  | 3 => s.scHolds a
  | 4 => s.lockoutHolds a
  | 5 => s.stoHolds a
  | 6 => (s.pairsOf d a).any (fun k => s.tripHeld d k)
  | 7 => s.bitOf d F.SAFE_REQ_AX a
  | 8 => s.dev == Dev.curtain || s.dev == Dev.lockdown
  | _ => (s.axCurt d a).takeover != 0

/-- R354 to R357, R360, R363. A cause of Table 13-1 whose condition holds puts an axis into its curtain state. -/
def execCurtainEntry (d : CDie) (a : Axis) (j : Fin 10) (s : State) : Out :=
  onC d.val (fun s => if s.causeHolds d.val a.val j.val then enterCurtain d.val a.val j.val s else s) s

/-- R358, R355, R356. The rule of an axis in its curtain state is evaluated. -/
def execCurtainRuleEvaluate (d : CDie) (a : Axis) (s : State) : Out := onC d.val (evalCurtain d.val a.val) s

/-- The new side of a change is written 5 µs (2,000 counts) after OPEN, R358. -/
def sideSwitch (d a : Nat) (s : State) : State :=
  match (s.axCurt d a).newSide with
  | none => s
  | some st =>
    if s.inCurtain d a && decide ((s.axCurt d a).newSideAt + 2000 ≤ s.now d) then
      let old := s.get d (F.SAFE_AX_STAT_STATE a)
      let degr := (s.resolve d a).2
      ruleSwitched d a old st (issueState d a st degr (s.modAx d a (fun x => { x with newSide := none })))
    else s

/-- R358. 5 µs after OPEN was written for a change of side. -/
def execShortSideSwitch (d : CDie) (a : Axis) (s : State) : Out := onC d.val (sideSwitch d.val a.val) s

/-- A write of SAFE_REQ: a bit that is 1 is an active cause of its axis, R354. -/
def safeReqWrite (d : Nat) (v : Word) (s : State) : State :=
  overN 6 (fun a s =>
    if bit v.toNat a then
      if s.bitOf d (F.SAFE_AX_CAUSE_ACTIVE a) Cause.swreq then s else enterCurtain d a Cause.swreq s
    else dropCause d a Cause.swreq s) (s.put d F.SAFE_REQ_AX (v.toNat % 64))

/-- R354. A write of SAFE_REQ. -/
def execSafeReqWrite (d : CDie) (v : Word) (s : State) : Out :=
  onCW d.val (own 0x1800C) (safeReqWrite d.val v) s

/-! ### Clears -/

/-- SAFE_CLRST.CODE, Table 13-2. -/
abbrev Cc.causeActive := 1
abbrev Cc.ascSpeed := 2
abbrev Cc.axesInCurtain := 3
abbrev Cc.notOnAxis := 4

/-- The code that refuses a clear of an axis, R359; `pkg`: cause PKG ends in the same write. -/
def State.clrRefusal (s : State) (d a : Nat) (pkg : Bool) : Nat :=
  let act := s.get d (F.SAFE_AX_CAUSE_ACTIVE a)
  let act := if pkg then setBit act Cause.pkg false else act
  let st := s.get d (F.SAFE_AX_STAT_STATE a)
  if !s.inCurtain d a then (if s.home d a then 0 else Cc.notOnAxis)
  else if (s.dOf a).any (fun k => s.owns (1 - d) k) then Cc.notOnAxis
  else if act != 0 then Cc.causeActive
  else if (st == Cs.shortLs || st == Cs.shortHs) && s.shortBySpeed d a then Cc.ascSpeed
  else 0

/-- A refused clear: its code and axis (7: package). -/
def clrRefused (d a code : Nat) (s : State) : State :=
  ((s.put d F.SAFE_CLRST_CODE code).put d F.SAFE_CLRST_AX a).on d F.SAFE_CEVT_CLRREF

/-- An accepted clear of an axis. -/
def clrAxis (d a : Nat) (s : State) : State := if s.inCurtain d a then clearCurtain d a s else s

/-- The code that refuses a package clear, R360: a package cause persists, or an axis of either die stays in its curtain
state after the AX bits of the same write. -/
def State.clrPkgRefusal (s : State) (mask : Nat) : Nat :=
  let stays := (List.range 2).any (fun e => s.runs e && (List.range 6).any (fun a =>
    s.inCurtain e a && (!bit mask a || s.clrRefusal e a true != 0)))
  if s.pkgPersists then Cc.causeActive else if stays then Cc.axesInCurtain else 0

/-- An accepted package clear, R360: the named axes of both dies are cleared, and a device in CURTAIN enters STANDBY
(Table 1-8). -/
def clrPackage (d mask : Nat) (s : State) : State :=
  let s := overN 2 (fun e s => if s.runs e then overN 6 (fun a s =>
    dropCause e a Cause.pkg (if bit mask a then clrAxis e a s else s)) s else s) s
  let s := recordEvent d ⟨0x0031, Blk.safe, d, 7, 1, 7, 0, 0, s.now32 d⟩ s
  let s := s.put d F.SAFE_CLRST_CODE 0
  let s := if s.dev == Dev.curtain then setDevice Dev.standby s else s
  overN 2 (fun e s => if s.runs e then refreshFault e s else s) s

/-- The clears that the AX bits of a write ask for, R359. -/
def clrAxes (d mask : Nat) (s : State) : State :=
  overN 6 (fun a s =>
    if bit mask a then
      let code := s.clrRefusal d a false
      if code == 0 then clrAxis d a s else clrRefused d a code s
    else s) s

/-- The clears of a write of SAFE_CLR, R359, R360; with a refused package clear the AX bits act for themselves. -/
def clrApply (d : Nat) (v : Word) (s : State) : State :=
  let n := v.toNat
  if bit n 8 then
    let code := s.clrPkgRefusal (n % 64)
    if code == 0 then clrPackage d (n % 64) s else clrAxes d n (clrRefused d 7 code s)
  else clrAxes d n (s.put d F.SAFE_CLRST_CODE 0)

/-- A write of SAFE_CLR by master m, under two keys (R128). -/
def safeClrWrite (d : Nat) (m : Master) (v : Word) (s : State) : State :=
  tkWrite d m (own 0x18004) d 0x18004 v false (clrApply d v) s

/-- R359. A two-key write of SAFE_CLR.AX. -/
def execSafeClrAx (d : CDie) (m : Master) (axes : BitVec 6) (s : State) : Out :=
  onC d.val (safeClrWrite d.val m (BitVec.ofNat 32 axes.toNat)) s

/-- R360. A two-key write of SAFE_CLR.PKG, with the AX bits of the same write. -/
def execSafeClrPkg (d : CDie) (m : Master) (axes : BitVec 6) (s : State) : Out :=
  onC d.val (safeClrWrite d.val m (BitVec.ofNat 32 (256 + axes.toNat))) s

/-! ### Package curtain -/

/-- C die d sees a package-wide fault, R360. -/
def State.seesPackage (s : State) (d : Nat) : Bool :=
  s.dev == Dev.lockdown || (s.c d).safe.pkgCause != 0 || (s.fcSet d).any (fun g => (s.fcInst d g).any (fun i =>
    s.fcHolds d g i && s.fcForce d g i == Cl.pkg))

/-- R360. A package-wide fault of C die d puts every axis of both dies into its curtain state. -/
def execPackageCurtain (d : CDie) (s : State) : Out :=
  onC d.val (fun s => if s.seesPackage d.val then packageCurtain d.val s else s) s

/-- R360. The package fault of the other C die arrives. -/
def execPeerCurtainReceive (d : CDie) (s : State) : Out :=
  onC d.val (fun s =>
    if (s.c d.val).safe.peerDue && s.linkC d.val then
      curtainAll d.val (s.modSafe d.val (fun x => { x with peerDue := false }))
    else s) s

/-- A word for SAFE_AXa_RULE with its refused fields as they stand (R8): MODE = 3, MODE = SHORT on a LINE3, DCDC or CHOP
axis, and SPDSRC = 3 (R355, Table 13-8). -/
def State.ruleKept (s : State) (d a : Nat) (v : Word) : Word :=
  let m := F.SAFE_AX_RULE_MODE a
  let q := F.SAFE_AX_RULE_SPDSRC a
  let bad := m.ofWord v == 3 || (m.ofWord v == 2 && decide (3 ≤ s.axType d a))
  let v := if bad then m.into v (s.get d m) else v
  if q.ofWord v == 3 then q.into v (s.get d q) else v

/-- A software write of a curtain-controller register at an offset from 0x4001_8000 by master m. The rule of an axis in its
curtain state is evaluated after a write of RULE, ASC or VMARG (R358). -/
def safeCurtWrite (d : Nat) (m : Master) (o : Nat) (v : Word) (s : State) : State :=
  let off := 0x18000 + o
  let a := (o - 0x100) / 0x40
  let r := (o - 0x100) % 0x40
  let eff := fun (s : State) => evalCurtain d a (protWrite d off v false s)
  if o == 4 then safeClrWrite d m v s
  else if o == 0x0C then safeReqWrite d v s
  else if 0x100 ≤ o && o < 0x280 && r == 0 then
    let w := s.ruleKept d a v
    let eff := fun (s : State) => evalCurtain d a (protWrite d off w false s)
    tkWrite d m (own off) d off w false (fun s => onlyIf (w != v) (fun s => s.on d F.SAFE_CEVT_WRREF) (eff s)) s
  else if 0x100 ≤ o && o < 0x280 && (r == 4 || r == 8) then tkWrite d m (own off) d off v false eff s
  else plainWrite d off v true s

/-! ### Torque monitor -/

/-- The monitor watches in this phase, R372. -/
def State.tmonActive (s : State) (d a : Nat) : Bool :=
  let p := s.phase d a
  p == Ph.align || p == Ph.run || p == Ph.reversing || p == Ph.stopping

/-- The torque estimate of R372 in 2^-30 of an LSB of Q15, from the monitored currents. -/
def State.tmonEst (s : State) (d a : Nat) (id iq : Int) : Int :=
  s.geti d (F.TMON_AX_K_KPSI a) * iq * 32768 + s.geti d (F.TMON_AX_K_KREL a) * id * iq

/-- |√x − √y| > l, for x, y, l ≥ 0, decided on the squares. -/
def sqrtApart (x y l : Int) : Bool := decide (0 < x + y - l * l) && decide (4 * x * y < (x + y - l * l) * (x + y - l * l))

/-- Outside the window of R372, or of R373 in magnitude mode; a lost angle with MAG = 0 counts as outside. -/
def State.tmonOut (s : State) (d a : Nat) (id iq : Int) (valid : Bool) : Bool :=
  let t := s.geti d (F.FIELD_AX_TOUT_T a)
  if valid then
    decide (Int.ofNat (s.get d (F.TMON_AX_TOL_ABS a)) * 2 ^ 30 + Int.ofNat (s.get d (F.TMON_AX_TOL_REL a)) * absI t * 2 ^ 22 <
      absI (s.tmonEst d a id iq - t * 2 ^ 30))
  else if s.flag d (F.TMON_AX_CFG_MAG a) then
    let rd := s.geti d (F.FIELD_AX_OUT_ID a)
    let rq := s.geti d (F.FIELD_AX_OUT_IQ a)
    sqrtApart (id * id + iq * iq) (rd * rd + rq * rq) (Int.ofNat (s.get d (F.TMON_AX_ITOL_ITOL a)))
  else true

/-- The currents of the monitor, from its first entry on, and the id and iq it forms, R371, R372. -/
def State.tmonDq (s : State) (d a : Nat) : Int × Int :=
  let e := 64 * s.get d (F.TMON_AX_CFG_AG a) + s.get d (F.TMON_AX_CFG_ENT a)
  let len := if s.axType d a == 2 then 6 else 3
  let cur := (List.range len).map (fun j => BitVec.ofNat 16 ((s.c d).safe.tmonCur.at (e + j)))
  let w := (Config.tmonDq cur (BitVec.ofNat 16 (s.get d (F.TMON_AX_SPD_ANGLE a)))
    (BitVec.ofNat 16 (s.get d (F.FIELD_AX_ANG_SET2OFS a)))).toNat
  (sx16 w, sx16 (w / 65536))

/-- The back-EMF amplitude of the monitor's own observer exceeds 2 % of voltage full scale, R371. -/
def emfOk (emf : Nat) : Bool := decide (2 * 32768 < 100 * emf)

/-- The angle and speed of the monitor: of its interface, or of its own observer, with its back-EMF amplitude, R371. -/
def tmonAngle (d a emf spd ang : Nat) (s : State) : State :=
  let n := s.get d (F.TMON_AX_CFG_FB a)
  let fb := !s.flag d (F.TMON_AX_CFG_ANG a)
  let ok := if fb then s.flag d (F.FB_FB_STAT_VALID n) else emfOk emf
  let sp := if fb then ux16 (satQ15 (rndDiv (s.geti d (F.FB_FB_SPD_SPEED n) * Int.ofNat (s.get d (F.FB_FB_SCALE_SPDFS n)))
    (Int.ofNat (max 1 (s.get d (F.FIELD_AX_SCALE_SPDFS a)))))) else spd
  let th := if fb then s.fbElec d n else ang
  let s := s.put d (F.TMON_AX_STAT_VALID a) (b2n ok)
  (s.put d (F.TMON_AX_SPD_SPEED a) sp).put d (F.TMON_AX_SPD_ANGLE a) th

/-- VIOL latches, R372: the fault is reported and the axis enters its curtain state. -/
def tmonViol (d a : Nat) (s : State) : State :=
  enterCurtain d a Cause.tmon (latchFault d Fg.tmon a true (s.on d (F.TMON_AX_EVT_VIOL a)))

/-- TREACT in µs, rounded up to 10 µs. -/
def State.treact (s : State) (d a : Nat) : Nat := (s.get d (F.TMON_AX_RT_TREACT a) + 9) / 10 * 10

/-- 10 µs (4,000 counts) have passed since the last check of an axis, R372. -/
def State.tmonDue (s : State) (d a : Nat) : Bool :=
  let t := (s.c d).safe.tmonAt.at a
  t == 0 || decide (t + 4000 ≤ s.now d + 1)

/-- One check of R372, R373. -/
def tmonCheck (d a emf spd ang : Nat) (s : State) : State :=
  if !s.flag d (F.TMON_AX_CFG_EN a) || !s.tmonDue d a then s
  else
    let s := s.modSafe d (fun x => { x with tmonAt := x.tmonAt.set a (s.now d + 1) })
    let s := tmonAngle d a emf spd ang s
    let id := (s.tmonDq d a).1
    let iq := (s.tmonDq d a).2
    let s := (s.puti d (F.TMON_AX_CUR_ID a) id).puti d (F.TMON_AX_CUR_IQ a) iq
    let ok := s.flag d (F.TMON_AX_STAT_VALID a)
    let act := s.tmonActive d a
    let mag := act && !ok && s.flag d (F.TMON_AX_CFG_MAG a)
    let out := act && s.tmonOut d a id iq ok
    let s := if act && ok then s.puti d (F.TMON_AX_EST_TEST a) (satQ15 (rndDiv (s.tmonEst d a id iq) (2 ^ 30))) else s
    let s := if act then s.put d (F.TMON_AX_EST_TREQ a) (s.get d (F.FIELD_AX_TOUT_T a)) else s
    let s := if act && !ok && !mag then s.on d (F.TMON_AX_EVT_ANGLOSS a) else s
    let s := (s.put d (F.TMON_AX_STAT_ACTIVE a) (b2n act)).put d (F.TMON_AX_STAT_MAGMODE a) (b2n mag)
    let s := s.put d (F.TMON_AX_STAT_OUT a) (b2n out)
    let n := if out then min 65535 (s.get d (F.TMON_AX_STAT_ELAPSED a) + 10) else 0
    let s := s.put d (F.TMON_AX_STAT_ELAPSED a) n
    if out && decide (s.treact d a ≤ n) && !s.flag d (F.TMON_AX_EVT_VIOL a) then tmonViol d a s else s

/-- R372, R373. The check of every 10 µs; `emf`, `spd` and `ang` are the back-EMF amplitude, speed and angle of the
monitor's own observer, which ANG = 1 selects. -/
def execTmonCheck (d : CDie) (a : Axis) (emf spd ang : BitVec 16) (s : State) : Out :=
  onC d.val (tmonCheck d.val a.val emf.toNat spd.toNat ang.toNat) s

/-- The largest |current| plus one that the monitor of an axis has taken since its zero check began; 0 where an entry gave
none. -/
def State.tmonPeak (s : State) (d a : Nat) : Nat :=
  let e := 64 * s.get d (F.TMON_AX_CFG_AG a) + s.get d (F.TMON_AX_CFG_ENT a)
  let l := (List.range (if s.axType d a == 2 then 6 else 3)).map (fun j => (s.c d).safe.tmonPk.at (e + j))
  if l.any (· == 0) then 0 else l.foldl max 0

/-- The zero check of R374: 1 ms (400,000 counts) after RDY_OFFS set, every current has stayed within ZTOL of zero. -/
def tmonZero (d a : Nat) (s : State) : State :=
  let t := (s.c d).safe.tmonZAt
  if s.flag d F.HDR_RC_STATUS_RDY_OFFS && s.flag d (F.TMON_AX_CFG_EN a) && t != 0 && decide (t + 400000 ≤ s.now d + 1) &&
      !bit (s.c d).safe.tmonZero a then
    let pk := s.tmonPeak d a
    if pk != 0 && decide (pk ≤ s.get d (F.TMON_AX_ITOL_ZTOL a) + 1) then
      s.modSafe d (fun x => { x with tmonZero := setBit x.tmonZero a true })
    else (s.on d (F.TMON_AX_EVT_ZFAIL a)).off d F.HDR_RC_STATUS_RDY_TMON
  else s

/-- R374. 1 ms after RDY_OFFS. -/
def execTmonZeroCheck (d : CDie) (a : Axis) (s : State) : Out := onC d.val (tmonZero d.val a.val) s

/-- A write of 1s to TMON_AXa_EVT: a clear of VIOL is refused while OUT is 1 (R375). -/
def tmonEvtWrite (d a : Nat) (v : Word) (s : State) : State :=
  let f := F.TMON_AX_EVT_VIOL a
  let s := plainWrite d f.off (f.into v 0) true s
  if f.ofWord v == 1 && s.flag d f then
    if s.flag d (F.TMON_AX_STAT_OUT a) then s.on d (F.TMON_AX_EVT_CLRREF a)
    else dropCause d a Cause.tmon (endActive d Fg.tmon a (s.off d f))
  else s

/-- R375. A write of 1 to TMON_AXa_EVT.VIOL. -/
def execTmonViolClear (d : CDie) (a : Axis) (s : State) : Out :=
  onCW d.val (own (F.TMON_AX_EVT_VIOL a.val).off) (tmonEvtWrite d.val a.val 1#32) s

/-- A write of TMON_AXa_CFG: EN = 1 is checked, and refused with CFGERR, R371, for that field alone (R8); a libretto is
checked as a whole (R118). -/
def tmonCfgWrite (d a : Nat) (v : Word) (s : State) : State :=
  let f := F.TMON_AX_CFG_EN a
  let t := plainWrite d f.off v (!s.flag d f) s
  if f.ofWord v == 1 && !s.loading && !t.tmonOk d a then (t.put d f (b2n (s.flag d f))).on d (F.TMON_AX_EVT_CFGERR a)
  else if f.ofWord v == 1 then t
  else
    let t := (t.put d (F.TMON_AX_STAT_ELAPSED a) 0).off d (F.TMON_AX_STAT_OUT a)
    ((t.off d (F.TMON_AX_STAT_ACTIVE a)).off d (F.TMON_AX_STAT_VALID a)).off d (F.TMON_AX_STAT_MAGMODE a)

/-- R371. A write of TMON_AXa_CFG. -/
def execTmonEnable (d : CDie) (a : Axis) (v : Word) (s : State) : Out :=
  onCW d.val (own (F.TMON_AX_CFG_EN a.val).off) (tmonCfgWrite d.val a.val v) s

/-- A software write of a monitor's register at an offset of its map by master m. -/
def tmonWrite (d : Nat) (m : Master) (a o : Nat) (v : Word) (s : State) : State :=
  let off := 0x2C0000 + 0x100 * a + o
  if o == 0 then tmonCfgWrite d a v s
  else if o == 0x24 then tmonEvtWrite d a v s
  else if o == 0x08 || o == 0x0C || o == 0x10 then tkWrite d m (own off) d off v false (protWrite d off v false) s
  else plainWrite d off v (!s.flag d (F.TMON_AX_CFG_EN a)) s

end Sys2Proof.Machine
end

