-- ==== Sys2Proof/Machine/Chk.lean ====
section
/-! DEFINITION. Redundant execution (R380 to R400), the fault-collection commands (R401 to R407) and the interrupt
controller (R408, R409). -/

namespace Sys2Proof.Machine

/-! ### Pairs -/

/-- The pair of a core: 0 pair A, 1 pair B. -/
def pairOf (core : Nat) : Nat := core / 2

/-- A pair's record, and a change of it with CHK_Pp_LVL following. -/
def State.chk (s : State) (d p : Nat) : ChkPair := (s.c d).chk.at p
def modChk (d p : Nat) (f : ChkPair → ChkPair) (s : State) : State :=
  let s := s.modC d (fun c => { c with chk := c.chk.mod p f })
  let s := s.put d (F.CHK_P_LVL_DQ p) (s.chk d p).delay.length
  let s := s.put d (F.CHK_P_LVL_OCB p) (s.chk d p).ocb.length
  s.put d (F.CHK_P_STAT_WAITPEER p) (b2n (s.chk d p).cp.isSome)

/-- The pair is split, R398. -/
def State.split (s : State) (d p : Nat) : Bool := s.flag d (F.CHK_P_STAT_SPLIT p)

/-- Pair p stalls: at a dormant divergence (R392), or, for its writes, during a resynchronisation (R393). -/
def State.stalled (s : State) (d p : Nat) : Bool := (s.chk d p).held || s.flag d (F.CHK_P_STAT_RSYNC p)

/-- A core stalls: its pair does; it waits at a full-context checkpoint with RESYNC = 1 (R392); or it is the halted core of a
split pair (R398). -/
def State.coreStalls (s : State) (d core : Nat) : Bool :=
  let p := pairOf core
  let x := s.chk d p
  if s.split d p then x.dbg != core % 2
  else x.held || (p == 0 && s.flag d (F.CHK_P_CFG_RESYNC 0) && (match x.cp with
    | some e => e.full && e.core == core
    | none => false))

/-- The preset of a digest, R388. -/
def digPreset : Nat := 0xFFFFFFFF

/-- The hart identifier of core k of C die d, mhartid, R22. -/
def hartId (d k : Nat) : Nat := 4 * d + k

/-- A core's digest register. -/
def State.digest (s : State) (d core : Nat) : Nat :=
  let x := s.chk d (pairOf core)
  (if core % 2 == 0 then x.dig0 else x.dig1) ^^^ digPreset

/-- Its digest register set. -/
def putDigest (d core v : Nat) (s : State) : State :=
  modChk d (pairOf core) (fun x =>
    if core % 2 == 0 then { x with dig0 := v ^^^ digPreset } else { x with dig1 := v ^^^ digPreset }) s

/-- The address as the output compare buffer compares it: for mtimecmp and msip the core index is replaced by the lower
core index of its pair, R383. -/
def ocbAddr (addr : Nat) : Nat :=
  if 0x02008000 ≤ addr ∧ addr < 0x02008010 then addr - (addr - 0x02008000) / 4 % 2 * 4
  else if 0x02000000 ≤ addr ∧ addr < 0x02000020 then addr - (addr - 0x02000000) / 8 % 2 * 8
  else addr

/-- A store taken into the digest of the core that issued it, R388; the core index of R383 is no part of it. -/
def digestStore (d core addr data be : Nat) (s : State) : State :=
  putDigest d core ((wordBytes (ocbAddr addr) ++ wordBytes data ++ [be]).foldl crc32Byte (s.digest d core)) s

/-! ### Latches of this chapter -/

/-- A resynchronisation fails, R394. -/
def resyncFail (d : Nat) (s : State) : State :=
  let s := (s.on d (F.CHK_P_EVT_RSFAIL 0)).off d (F.CHK_P_STAT_RSYNC 0)
  modChk d 0 (fun x => { x with held := false }) (s.put d (F.CHK_P_RSST_CODE 0) 4)

/-- A fault at the collection unit: a CKPT instance of pair A during a pending or running resynchronisation fails it,
and its reaction is taken at once (R394). -/
def collect (d g i : Nat) (act : Bool) (s : State) : State :=
  let rs := g == Fg.ckptA && s.stalled d 0
  let s := latchFault d g i act s
  if rs then
    let s := resyncFail d s
    if bit (s.fc d g).taken i then s else takeReaction d g i s
  else s

/-- An instance of the CKPT group of pair p latches (0 MISMATCH, 1 TIMEOUT, 2 OCB, 3 CPMISS) with its event bit. -/
def ckLatch (d p i : Nat) (s : State) : State :=
  collect d (if p == 0 then Fg.ckptA else Fg.ckptB) i true
    (s.putBit d ⟨(F.CHK_P_EVT_MISMATCH p).off, 3, 0⟩ i true)

/-- The ECC of an entry or record that a comparison reads, R397: 0 clean, 1 corrected, 2 uncorrectable. -/
def chkEcc (d p ecc : Nat) (s : State) : State :=
  if ecc == 1 then
    latchFault d Fg.eccCor 3 true ((s.on d (F.CHK_P_EVT_ECCCOR p)).count d F.CHK_ECCCNT_COR 1)
  else if ecc == 2 then
    latchFault d Fg.chkEcc p true ((s.on d (F.CHK_P_EVT_ECCUNC p)).count d F.CHK_ECCCNT_UNC 1)
  else s

/-- The verdicts of the two comparators differ, R395. -/
def disagreed (d : Nat) (dis : Bool) (s : State) : State :=
  onlyIf dis (fun s => collect d Fg.checker 1 true (s.on d F.CHK_CMPST_DISAGREE)) s

/-! ### Replicated reads and interrupts -/

/-- The delay registers hold 512 entries, the output compare buffer 16 (R381, R384). -/
def delayMax : Nat := 512
def ocbMax : Nat := 16

/-- The leading core of a pair acts, R380. -/
def leads (d core lag : Nat) (s : State) : State :=
  (s.put d (F.CHK_P_STAT_LEADER (pairOf core)) (core % 2)).put d (F.CHK_P_STAT_LAG (pairOf core)) lag

/-- A read or an interrupt of the leading core is recorded, R381, R382. -/
def record (d core : Nat) (e : DqEnt) (s : State) : State :=
  modChk d (pairOf core) (fun x => { x with delay := x.delay ++ [e] }) s

/-- The pair can take a further replicated read. -/
def State.delayRoom (s : State) (d core : Nat) : Bool :=
  s.split d (pairOf core) || decide ((s.chk d (pairOf core)).delay.length < delayMax)

/-- The result of a read by the leading core: returned, and recorded unless the pair is split. -/
def readDone (d core addr data : Nat) (s : State) : State :=
  let s := s.modSys d (fun y => { y with rdata := BitVec.ofNat 32 data })
  onlyIf (!s.split d (pairOf core)) (record d core ⟨0, addr, data⟩) s

/-- R381. The trailing core's read takes the oldest recorded result; a differing address, or comparators that disagree, is
a mismatch at once (`lag` after it; `ecc` of the delay register). With no recorded read it waits. -/
def trailingRead (d p addr lag : Nat) (disagree : Bool) (ecc : Nat) (s : State) : State :=
  match (s.chk d p).delay with
  | e :: es =>
    if e.trap == 0 then
      let s := modChk d p (fun x => { x with delay := es }) s
      let s := (s.modSys d (fun y => { y with rdata := BitVec.ofNat 32 e.data })).put d (F.CHK_P_STAT_LAG p) lag
      let s := disagreed d disagree (chkEcc d p ecc s)
      onlyIf (e.addr != addr || disagree || ecc == 2) (ckLatch d p 0) s
    else s
  | [] => s

/-- R381. The trailing core of a pair issues a read. -/
def execTrailingRead (d : CDie) (p : Fin 2) (addr : Word) (lag : Fin 4097) (disagree : Bool) (ecc : Fin 3) (s : State) :
    Out :=
  onC d.val (trailingRead d.val p.val addr.toNat lag.val disagree ecc.val) s

/-! ### The interrupt controller -/

/-- An enabled bit of an event register is 1. -/
def State.evIen (s : State) (d evt ien : Nat) : Bool := Nat.land (s.wd d evt) (s.wd d ien) != 0

/-- Bits lo to hi of a word. -/
def bitsBetween (w lo hi : Nat) : Nat := w / 2 ^ lo % 2 ^ (hi + 1 - lo)

/-- The level of a PLIC source, Table 14-6. -/
def State.plicLevel (s : State) (d i : Nat) : Bool :=
  let can := fun n lo hi =>
    Nat.land (bitsBetween (s.wd d (0x240018 + 0x10000 * n)) lo hi) (bitsBetween (s.wd d (0x24001C + 0x10000 * n)) lo hi) != 0
  if i < 1 then false
  else if i < 5 then s.evIen d (0x100008 + 0x4000 * (i - 1)) (0x10000C + 0x4000 * (i - 1))
  else if i < 11 then s.evIen d (0x111008 + 0x100 * (i - 5)) (0x11100C + 0x100 * (i - 5))
  else if i < 15 then s.evIen d (0x200010 + 0x1000 * (i - 11)) (0x200014 + 0x1000 * (i - 11))
  else if i < 16 then false
  else if i < 80 then s.evIen d (0x140010 + 0x400 * (i - 16)) (0x140014 + 0x400 * (i - 16))
  else if i < 144 then s.evIen d (0x15000C + 0x100 * (i - 80)) (0x150010 + 0x100 * (i - 80))
  else if i < 145 then s.evIen d 0x15A00C 0x15A010
  else if i < 151 then s.evIen d (0x180014 + 0x1000 * (i - 145)) (0x180018 + 0x1000 * (i - 145))
  else if i < 169 then s.evIen d (0x1C0030 + 0x100 * (i - 151)) (0x1C0034 + 0x100 * (i - 151))
  else if i < 170 then s.evIen d 0x1C3004 0x1C3008
  else if i < 171 then s.evIen d 0x18010 0x18014
  else if i < 177 then s.evIen d (0x2C0024 + 0x100 * (i - 171)) (0x2C0028 + 0x100 * (i - 171))
  else if i < 180 then s.evIen d (0x2D0030 + 0x40 * (i - 177)) (0x2D0034 + 0x40 * (i - 177))
  else if i < 181 then s.flag d F.SAFE_FC_PENDLO || s.flag d F.SAFE_FC_PENDHI
  else if i < 182 then s.evIen d 0x20010 0x2040C || s.evIen d 0x20110 0x2040C
  else if i < 190 then (if i % 2 == 0 then can ((i - 182) / 2) 0 7 else can ((i - 182) / 2) 8 19)
  else if i < 191 then (List.range 16).any (fun n => s.evIen d (0x90020 + 0x40 * n) (0x90024 + 0x40 * n))
  else if i < 192 then s.evIen d 0x50034 0x50038
  else if i < 193 then s.evIen d 0x4002C 0x40030
  else if i < 194 then s.evIen d 0x30020 0x30024
  else if i < 195 then s.evIen d 0x60004 0x60008
  else if i < 196 then s.evIen d 0x70170 0x70174
  else false

/-- The PLIC of a C die, and a change of it. -/
def State.plic (s : State) (d : Nat) : PlicC := (s.c d).plic
def modPlic (d : Nat) (f : PlicC → PlicC) (s : State) : State := s.modC d (fun c => { c with plic := f c.plic })

/-- A source is pending: asserted and not in service. -/
def State.plicPending (s : State) (d i : Nat) : Bool := s.plicLevel d i && (s.plic d).claimed.at i == 0

/-- A source that a claim of a context could return: pending, enabled, of priority above 0. -/
def State.plicReady (s : State) (d ctx i : Nat) : Bool :=
  decide (0 < (s.plic d).prio.at i) && (s.plic d).enable.at (256 * ctx + i) && s.plicPending d i

/-- What a claim of a context returns: the ready source of the highest priority, the lowest number among equals; 0 none. -/
def State.plicBest (s : State) (d ctx : Nat) : Nat :=
  (List.range 256).foldl (fun b i =>
    if (s.plicReady d ctx i && (b == 0 || decide ((s.plic d).prio.at b < (s.plic d).prio.at i))) then i else b) 0

/-- An external interrupt is presented to a pair: a ready source above the threshold of its context. -/
def State.plicRaises (s : State) (d ctx : Nat) : Bool :=
  let b := s.plicBest d ctx
  b != 0 && decide ((s.plic d).thr.at ctx < (s.plic d).prio.at b)

/-- An interrupt is presented to a pair, R382: 1 external, 2 timer, 3 software. -/
def State.presented (s : State) (d p kind : Nat) : Bool :=
  if kind == 1 then s.plicRaises d p
  else if kind == 2 then (s.c d).sys.mtip.at (2 * p) || (s.c d).sys.mtip.at (2 * p + 1)
  else (s.c d).sys.msip.at (2 * p) || (s.c d).sys.msip.at (2 * p + 1)

/-- A core takes a trap for an interrupt: it fails an armed sequence of a core of pair B (R129). -/
def trapOf (d : Nat) (core : Fin 4) (s : State) : State := tkTrap d (.core core true) s

/-- R382. The leading core accepts a presented interrupt after R retired instructions, which the delay registers record;
the trailing core (`trailing`) takes the same trap once it has retired exactly R. -/
def interruptAccept (d : Nat) (core : Fin 4) (kind r : Nat) (trailing : Bool) (s : State) : State :=
  let p := pairOf core.val
  if trailing && !s.split d p then
    match (s.chk d p).delay with
    | e :: es =>
      if e.trap == kind && e.data == r then trapOf d core (modChk d p (fun x => { x with delay := es }) s) else s
    | [] => s
  else if s.presented d p kind && s.delayRoom d core.val && !s.stalled d p && !s.coreStalls d core.val then
    let s := trapOf d core s
    if s.split d p then s
    else record d core.val ⟨kind, 0, r⟩ (s.put d (F.CHK_P_STAT_LEADER p) (core.val % 2))
  else s

/-- R382. An interrupt is accepted by a core: `kind` 0 external, 1 machine timer, 2 machine software. -/
def execInterruptAccept (d : CDie) (core : Fin 4) (kind : Fin 3) (r : Word) (trailing : Bool) (s : State) : Out :=
  onC d.val (interruptAccept d.val core (kind.val + 1) r.toNat trailing) s

/-- The address of claim and complete of a context. -/
def claimAddr (ctx : Nat) : Nat := 0x0C200004 + 0x1000 * ctx

/-- A claim by a core's pair: the source is in service until its complete. -/
def plicTake (d ctx : Nat) (s : State) : Nat × State :=
  let i := s.plicBest d ctx
  (i, onlyIf (i != 0) (modPlic d (fun x => { x with claimed := x.claimed.set i (ctx + 1) })) s)

/-- R408, R381. The leading core of a pair reads claim: the highest pending source is returned, recorded for the trailing
core, and in service. -/
def plicClaim (d core : Nat) (s : State) : State :=
  if s.delayRoom d core && !s.coreStalls d core then
    let (i, s) := plicTake d (pairOf core) s
    readDone d core (claimAddr (pairOf core)) i (s.put d (F.CHK_P_STAT_LEADER (pairOf core)) (core % 2))
  else s

/-- R408. A claim read by a core. -/
def execPlicClaim (d : CDie) (core : Fin 4) (s : State) : Out := onC d.val (plicClaim d.val core.val) s

/-- A complete of a source by a context: a source that is not enabled for it is ignored. -/
def plicFinish (d ctx i : Nat) (s : State) : State :=
  onlyIf ((s.plic d).enable.at (256 * ctx + i)) (modPlic d (fun x => { x with claimed := x.claimed.set i 0 })) s

/-- R408. The write of complete, a protected store, is performed for a context: the handling of source `i` ends. -/
def execPlicComplete (d : CDie) (ctx : Fin 2) (i : Byte) (s : State) : Out :=
  onCW d.val (0xC200004 + 0x1000 * ctx.val) (plicFinish d.val ctx.val i.toNat) s

/-- A word of the PLIC read, R408 (claim apart). -/
def State.plicRead (s : State) (d off : Nat) : Nat :=
  if off < 0x400 then (s.plic d).prio.at (off / 4)
  else if 0x1000 ≤ off ∧ off < 0x1020 then bitsOf 32 (fun j => s.plicPending d ((off - 0x1000) * 8 + j))
  else if 0x2000 ≤ off ∧ off < 0x2100 ∧ off % 0x80 < 0x20 then
    bitsOf 32 (fun j => (s.plic d).enable.at (256 * ((off - 0x2000) / 0x80) + off % 0x80 * 8 + j))
  else if off = 0x200000 ∨ off = 0x201000 then (s.plic d).thr.at ((off - 0x200000) / 0x1000)
  else 0

/-- A word of the PLIC written, R408. -/
def plicWrite (d off v : Nat) (s : State) : State :=
  if 4 ≤ off ∧ off < 0x400 then modPlic d (fun x => { x with prio := x.prio.set (off / 4) (v % 8) }) s
  else if 0x2000 ≤ off ∧ off < 0x2100 ∧ off % 0x80 < 0x20 then
    overN 32 (fun j s =>
      let i := off % 0x80 * 8 + j
      onlyIf (i != 0) (modPlic d (fun x =>
        { x with enable := x.enable.set (256 * ((off - 0x2000) / 0x80) + i) (bit v j) })) s) s
  else if off = 0x200000 ∨ off = 0x201000 then
    modPlic d (fun x => { x with thr := x.thr.set ((off - 0x200000) / 0x1000) (v % 8) }) s
  else if off = 0x200004 ∨ off = 0x201004 then plicFinish d ((off - 0x200004) / 0x1000) (v % 1024) s
  else s

/-! ### Protected stores -/

/-- An address in SRAM, R384. -/
def inSram (addr : Nat) : Bool := decide (0x20000000 ≤ addr) && decide (addr < 0x20600000)

/-- The addresses at which a released store is performed: both cores' registers for mtimecmp and msip, R383. -/
def ocbTargets (addr : Nat) : List Nat :=
  let a := ocbAddr addr
  if 0x02008000 ≤ a ∧ a < 0x02008010 then [a, a + 4]
  else if 0x02000000 ≤ a ∧ a < 0x02000020 then [a, a + 8]
  else [a]

/-- A store of a core of an unsplit pair to an address outside SRAM, R384, R386: the first copy waits; the second is
compared with it. `perf` performs the store at an address. -/
def ocbStore (d core addr data be : Nat) (disagree : Bool) (ecc : Nat) (perf : Nat → State → State) (s : State) : State :=
  let p := pairOf core
  match (s.chk d p).ocb.find? (fun e => e.core != core) with
  | some e =>
    let s := digestStore d core addr data be s
    let s := modChk d p (fun x => { x with ocb := x.ocb.erase e }) s
    let s := disagreed d disagree (chkEcc d p ecc s)
    let same := e.addr == ocbAddr addr && e.data == data && e.be == be
    if same && !disagree && ecc != 2 then overL (ocbTargets addr) perf s else ckLatch d p 2 s
  | none =>
    if (s.chk d p).ocb.length < ocbMax then
      let s := digestStore d core addr data be s
      let now := s.now d
      modChk d p (fun x => { x with ocb := x.ocb ++ [⟨core, ocbAddr addr, data, be, now, false⟩] }) s
    else s

/-- A store of a core of an unsplit pair to SRAM, R385: the first copy is performed, the second discarded. -/
def sramStore (d core addr data be : Nat) (perf : State → State) (s : State) : State :=
  let p := pairOf core
  let s := digestStore d core addr data be s
  let x := s.chk d p
  let mine := if core % 2 == 0 then x.sram0 else x.sram1
  let other := if core % 2 == 0 then x.sram1 else x.sram0
  if other == 0 then
    modChk d p (fun x => if core % 2 == 0 then { x with sram0 := mine + 1 } else { x with sram1 := mine + 1 }) (perf s)
  else
    modChk d p (fun x => if core % 2 == 0 then { x with sram1 := other - 1 } else { x with sram0 := other - 1 }) s

/-- WIN µs have passed since a stage time, R389. -/
def State.winOver (s : State) (d p t : Nat) : Bool := decide (t + s.get d (F.CHK_P_CFG_WIN p) * 400 ≤ s.now d)

/-- The second copy of a store has not arrived within WIN of the first, R384: TIMEOUT latches, once for each store. -/
def ocbTimeout (d p : Nat) (s : State) : State :=
  let over_ := fun (e : OcbEnt) => !e.timed && s.winOver d p e.at_
  if !(s.chk d p).ocb.any over_ then s
  else ckLatch d p 1 (modChk d p (fun x =>
    { x with ocb := x.ocb.map (fun e => if over_ e then { e with timed := true } else e) }) s)

/-- R384, R389. The second copy has not arrived within WIN. -/
def execProtectedStoreTimeout (d : CDie) (p : Fin 2) (s : State) : Out := onC d.val (ocbTimeout d.val p.val) s

/-! ### Checkpoints -/

/-- Whether two captured contexts differ in x1 to x31, f0 to f31, as bit maps; bit 0 of the first is pc (R390, R412). -/
def ctxMap0 (a b : CoreCtx) : Nat :=
  bitsOf 32 (fun i => if i == 0 then a.pc != b.pc else a.x.getD (i - 1) 0 != b.x.getD (i - 1) 0)
def ctxMap1 (a b : CoreCtx) : Nat := bitsOf 32 (fun i => a.f.getD i 0 != b.f.getD i 0)
def ctxX (a b : CoreCtx) : Nat :=
  bitsOf 3 (fun i =>
    if i == 0 then a.fcsr != b.fcsr
    else if i == 1 then (List.range 7).any (fun j => a.csr.getD j 0 != b.csr.getD j 0)
    else a.dirty != b.dirty)

/-- The shadow-lane drill of R396. -/
def drill (d : Nat) (xMiss yMiss : Bool) (s : State) : State :=
  let n := s.get d F.CHK_DRILLCNT
  let s := s.put d F.CHK_CMPST_LANE (n % 32)
  if xMiss || yMiss then
    let s := if xMiss then s.on d F.CHK_CMPST_XMISS else s
    let s := if yMiss then s.on d F.CHK_CMPST_YMISS else s
    collect d Fg.checker 0 true s
  else s.put d F.CHK_DRILLCNT (n + 1)

/-- A resynchronisation completes, R394. -/
def resyncDone (d : Nat) (s : State) : State :=
  let s := (s.on d (F.CHK_P_EVT_RSDONE 0)).off d (F.CHK_P_STAT_RSYNC 0)
  let s := putAct d Fg.dormant 0 false (s.put d (F.CHK_P_RSST_CODE 0) 0)
  if s.deferring d Fg.dormant && !(s.fc d Fg.dormant).noAct then dropDeferral d Fg.dormant s else s

/-- The verdict at the second arrival of a checkpoint, R388, R390, R394 to R396. -/
def checkpointVerdict (d core : Nat) (e : CpEnt) (id digest : Nat) (full : Bool) (ctx : CoreCtx)
    (xMiss yMiss disagree : Bool) (ecc : Nat) (s : State) : State :=
  let p := pairOf core
  let full := full || e.full
  let s := modChk d p (fun x => { x with cp := none }) s
  let s := disagreed d disagree (chkEcc d p ecc (drill d xMiss yMiss s))
  let bad := e.id != id || e.digest != digest || disagree || ecc == 2
  let m0 := ctxMap0 e.ctx ctx
  let m1 := ctxMap1 e.ctx ctx
  let mx := ctxX e.ctx ctx
  let dorm := full && (m0 != 0 || m1 != 0 || mx != 0)
  let s := if full && (bad || dorm) then
      ((s.put d (F.CHK_P_DIVMAP0 p) m0).put d (F.CHK_P_DIVMAP1 p) m1).put d ⟨(F.CHK_P_DIVX_FCSR p).off, 2, 0⟩ mx
    else s
  let s := if full then s.put d (F.CHK_P_TFULL p) (s.now32 d) else s
  if bad then ckLatch d p 0 (s.put d (F.CHK_P_LASTID_MISS p) e.id)
  else if dorm then
    let s := (s.put d (F.CHK_P_LASTID_MISS p) e.id).on d (F.CHK_P_EVT_DORMANT p)
    let s := latchFault d Fg.dormant p true s
    if p == 0 && s.flag d (F.CHK_P_CFG_RESYNC 0) && s.deferring d Fg.dormant then
      modChk d 0 (fun x => { x with held := true }) s
    else s
  else
    let s := (s.count d (F.CHK_P_CPCNT p) 1).put d (F.CHK_P_LASTID_MATCH p) e.id
    let s := onlyIf full (modChk d p (fun x => { x with fullOk := true })) s
    if full && p == 0 && s.flag d (F.CHK_P_STAT_RSYNC 0) then resyncDone d s else s

/-- The first arrival is FCPER × 10 µs (4,000 counts) or more after that of the last full-context checkpoint, or no
full-context checkpoint has been written yet. -/
def State.fullDue (s : State) (d p : Nat) : Bool :=
  let t := (s.chk d p).fullAt
  t == 0 || decide (t - 1 + s.get d (F.CHK_P_CFG_FCPER p) * 4000 ≤ s.now d)

/-- A core arrives at a checkpoint, R387 to R390. A core of a split pair, one that waits for its peer at an earlier
checkpoint, or one that stalls at a divergence writes none. -/
def checkpoint (d core id : Nat) (full : Bool) (ctx : CoreCtx) (xMiss yMiss disagree : Bool) (ecc : Nat) (s : State) :
    State :=
  let p := pairOf core
  let x := s.chk d p
  let digest := [id % 256, id / 256 % 256].foldl crc32Byte (s.digest d core)
  let now := s.now d
  if s.split d p || x.held then s
  else match x.cp with
  | none =>
    let full := full || s.fullDue d p
    let s := putDigest d core digPreset s
    modChk d p (fun x =>
      { x with cp := some ⟨core, id, full, digest, ctx, now, false⟩, cpAt := now,
               fullAt := if full then now + 1 else x.fullAt }) s
  | some e =>
    if e.core == core then s
    else checkpointVerdict d core e id digest full ctx xMiss yMiss disagree ecc
      (modChk d p (fun x => { x with cpAt := now }) (putDigest d core digPreset s))

/-- R387. A core writes its checkpoint. `xMiss`, `yMiss`: comparator X or Y did not report the drill's lane;
`disagree`: the two verdicts differed; `ecc`: of the captured record. -/
def execCheckpointWrite (d : CDie) (core : Fin 4) (id : BitVec 16) (full : Bool) (ctx : CoreCtx) (xMiss yMiss : Bool)
    (disagree : Bool) (ecc : Fin 3) (s : State) : Out :=
  onCW d.val (own (0x20000 + 0x100 * pairOf core.val)) (checkpoint d.val core.val id.toNat full ctx xMiss yMiss disagree ecc.val) s

/-- The second core has not arrived within WIN µs of the first, R389: TIMEOUT latches, once for each checkpoint. -/
def checkpointTimeout (d p : Nat) (s : State) : State :=
  match (s.chk d p).cp with
  | some e =>
    if !e.timed && s.winOver d p e.at_ then
      ckLatch d p 1 (modChk d p (fun x => { x with cp := some { e with timed := true } }) s)
    else s
  | none => s

/-- R389. The second core has not arrived within WIN µs of the first. -/
def execCheckpointTimeout (d : CDie) (p : Fin 2) (s : State) : Out := onC d.val (checkpointTimeout d.val p.val) s

/-- Neither core has written a checkpoint for CPMAX µs, R391: CPMISS latches, and the time counts again. -/
def checkpointMiss (d p : Nat) (s : State) : State :=
  let now := s.now d
  if !s.split d p && decide ((s.chk d p).cpAt + s.get d (F.CHK_P_CPMAX p) * 400 ≤ now) then
    ckLatch d p 3 (modChk d p (fun x => { x with cpAt := now }) s)
  else s

/-- R391. Neither core of the pair has written a checkpoint for CPMAX µs. -/
def execCheckpointMiss (d : CDie) (p : Fin 2) (s : State) : Out := onC d.val (checkpointMiss d.val p.val) s

/-! ### Resynchronisation -/

/-- A write of GO, R393, Table 14-1: steps 1 and 2 as one, with the number of lines discarded; pair A then runs from
RSVEC with nothing written until it matches. -/
def resyncGo (d p lines : Nat) (s : State) : State :=
  let code := fun c (s : State) => s.put d (F.CHK_P_RSST_CODE p) c
  if p != 0 || !s.flag d (F.CHK_P_CFG_RESYNC 0) then code 2 s
  else if s.flag d (F.CHK_P_STAT_RSYNC 0) then code 3 s
  else if !bit (s.fcAct d Fg.dormant) 0 then code 1 s
  else
    let s := ((code 0 s).put d (F.CHK_P_RSST_LINES 0) lines).on d (F.CHK_P_STAT_RSYNC 0)
    modChk d 0 (fun x =>
      { x with delay := [], ocb := [], dig0 := 0, dig1 := 0, sram0 := 0, sram1 := 0, cp := none, held := false }) s

/-- R393. A write of 1 to CHK_Pp_RSCMD.GO; `lines` differ between the two data caches. -/
def execResyncGo (d : CDie) (m : Master) (p : Fin 2) (lines : BitVec 16) (s : State) : Out :=
  onC d.val (tkWrite d.val m (own (F.CHK_P_RSCMD_GO p.val).off) d.val (F.CHK_P_RSCMD_GO p.val).off 1#32 false
    (resyncGo d.val p.val lines.toNat)) s

/-- A write of CHK_Pp_CFG that a two-key sequence releases: RESYNC = 1 for pair B is refused, R392. -/
def chkCfgWrite (d : Nat) (m : Master) (p : Nat) (v : Word) (s : State) : State :=
  let f := F.CHK_P_CFG_RESYNC p
  tkWriteIf (p == 0 || f.ofWord v == 0) (fun s => s.on d F.CHK_ERR_WRREF) d m (own f.off) d f.off v
    (protWrite d f.off v false) s

/-! ### Debug -/

/-- Debug access to the cores of pair p is open, Table 1-9. -/
def State.debugOpen (s : State) (d p : Nat) : Bool :=
  s.lc d == 1 || s.lc d == 3 || (s.lc d == 2 && s.bitOf d F.SEC_DBGST_OPEN p)

/-- A debug attach to a core splits its pair, R398, R400; the core runs alone from then on. -/
def debugAttach (d core : Nat) (s : State) : State :=
  let p := pairOf core
  if s.debugOpen d p && !s.split d p then
    let s := ((s.on d (F.CHK_P_STAT_SPLIT p)).on d (F.CHK_P_EVT_SPLIT p)).off d (F.CHK_P_STAT_LOCK p)
    let s := modChk d p (fun x => { x with delay := [], ocb := [], sram0 := 0, sram1 := 0, cp := none, held := false, dbg := core % 2 }) s
    let s := latchFault d Fg.redundancy p true s
    overN 2 (fun e s => if s.runs e then overN 3 (benchVdc e) (benchRefresh e s) else s) s
  else s

/-- R398. A halt request or a register access to a core through the debug module. -/
def execDebugAttach (d : CDie) (core : Fin 4) (s : State) : Out := onC d.val (debugAttach d.val core.val) s

/-! ### Fault collection -/

/-- R401 to R403. A fault arrives at the collection unit; `act`: its instance has an active condition. Instances of the
checking groups stay active until the next reset. -/
def execFaultLatch (d : CDie) (g : Fin 32) (i : Fin 64) (act : Bool) (s : State) : Out :=
  onC d.val (collect d.val g.val i.val (act || decide (g.val ≤ 4))) s

/-- The deferral of a group runs out: the reaction of every instance latched since it started is taken, also of one
cleared meanwhile (R403). A resynchronisation that DORMANT waited for has failed (R394). -/
def deferExpiry (d g : Nat) (s : State) : State :=
  if s.deferring d g && decide ((s.fc d g).defAt + s.get d (F.SAFE_FC_CFG_FTT g) * 4000 ≤ s.now d) then
    let is := (s.fc d g).defLo
    let s := dropDeferral d g s
    let s := onlyIf (g == Fg.dormant && s.stalled d 0) (resyncFail d) s
    overN 64 (fun i s =>
      if bit is i then
        let s := takeReaction d g i s
        if bit (s.fcLat d g) i then s
        else refreshFault d (s.modFc d g (fun x => { x with taken := setBit x.taken i false }))
      else s) s
  else s

/-- R403. The fault-tolerant time of a group has run out. -/
def execFaultDeferExpiry (d : CDie) (g : Fin 32) (s : State) : Out := onC d.val (deferExpiry d.val g.val) s

/-- The latches that a word of SAFE_FC_CLR names are cleared, R405; a cleared latch ends its curtain causes. -/
def faultClear (d : Nat) (v : Word) (s : State) : State :=
  let g := F.SAFE_FC_CLR_GROUP.ofWord v
  let s := s.setReg d F.SAFE_FC_CLR_GROUP.off (v &&& 0x3F3F#32)
  let was := s.fcLat d g
  let s := if F.SAFE_FC_CLR_ALL.ofWord v == 1 then overN 64 (fun i => clearLatch d g i) s
    else clearLatch d g (F.SAFE_FC_CLR_INST.ofWord v) s
  let gone := was - s.fcLat d g
  let s := onlyIf (gone != 0) (note d Blk.safe 0x0021 1 g g (gone % 2 ^ 32) (gone / 2 ^ 32)) s
  refreshFault d (refreshCauses s)

/-- A write of SAFE_FC_CLR that a two-key sequence releases; groups above 31 are reserved. -/
def faultClearWrite (d : Nat) (m : Master) (v : Word) (s : State) : State :=
  tkWrite d m (own F.SAFE_FC_CLR_GROUP.off) d F.SAFE_FC_CLR_GROUP.off v false
    (fun s => if F.SAFE_FC_CLR_GROUP.ofWord v < 32 then faultClear d v s else s) s

/-- R405. A write of SAFE_FC_CLR. -/
def execFaultClear (d : CDie) (m : Master) (v : Word) (s : State) : Out := onC d.val (faultClearWrite d.val m v) s

/-- A write of SAFE_FC_INJ, R406: GO latches the instance, which has no active condition. -/
def faultInjectWrite (d : Nat) (m : Master) (v : Word) (s : State) : State :=
  tkWrite d m (own F.SAFE_FC_INJ_GROUP.off) d F.SAFE_FC_INJ_GROUP.off v false
    (fun s =>
      let g := F.SAFE_FC_INJ_GROUP.ofWord v
      let s := s.setReg d F.SAFE_FC_INJ_GROUP.off (v &&& 0x3F3F#32)
      if F.SAFE_FC_INJ_GO.ofWord v == 1 && decide (g < 32) then collect d g (F.SAFE_FC_INJ_INST.ofWord v) false s
      else s) s

/-- R406. A write of SAFE_FC_INJ. -/
def execFaultInject (d : CDie) (m : Master) (v : Word) (s : State) : Out := onC d.val (faultInjectWrite d.val m v) s

/-- A write of SAFE_FC_SWREP, R406: GO latches an instance of group SW; from either pair. -/
def swrepWrite (d : Nat) (v : Word) (s : State) : State :=
  let s := s.put d F.SAFE_FC_SWREP_INST (F.SAFE_FC_SWREP_INST.ofWord v)
  if F.SAFE_FC_SWREP_GO.ofWord v == 1 then collect d Fg.sw (F.SAFE_FC_SWREP_INST.ofWord v) false s else s

/-- R406. A write of SAFE_FC_SWREP. -/
def execSoftwareFaultReport (d : CDie) (v : Word) (s : State) : Out :=
  onCW d.val (own 0x1101C) (swrepWrite d.val v) s

/-- The lowest class of a group in DEPLOYED, Table 14-3. -/
def lowestClass (g : Nat) : Nat :=
  if g ≤ 4 then 3
  else if [5, 7, 14, 17, 18, 24].contains g then 1
  else if g == 6 || g == 10 then 3
  else if [11, 12, 15, 20, 21].contains g then 2
  else 0

/-- A word that SAFE_FC_CFGg takes, R402, R403. -/
def State.fcCfgOk (s : State) (d g : Nat) (v : Word) : Bool :=
  let cls := (F.SAFE_FC_CFG_CLASS g).ofWord v
  decide (cls < 4) && (s.lc d != 2 || decide (lowestClass g ≤ cls)) &&
    ((F.SAFE_FC_CFG_DEFER g).ofWord v == 0 || (F.SAFE_FC_CFG_FTT g).ofWord v != 0)

/-- A write of SAFE_FC_CFGg that a two-key sequence releases. -/
def fcCfgWrite (d : Nat) (m : Master) (g : Nat) (v : Word) (s : State) : State :=
  let off := (F.SAFE_FC_CFG_CLASS g).off
  tkWriteIf (s.fcCfgOk d g v) (fun s => s.on d F.SAFE_FC_ERR_WRREF) d m (own off) d off v
    (fun s => refreshFault d (protWrite d off v false s)) s

end Sys2Proof.Machine
end

