-- ==== Sys2Proof/Machine/Therm.lean ====
section
/-! DEFINITION. Thermal management (R421 to R432): samples, thresholds, derating, LOCKDOWN and its record. -/

namespace Sys2Proof.Machine

/-- How many sensors a die has, R421. -/
def sensors (i : Nat) : Nat := if i < 2 then 8 else 6

/-- A reading as a signed number. -/
def readingAt (vals : Readings) (t : Nat) : Int := (vals.getD t 0).toInt

/-- The registers in which C die e shows a sensor of die i. -/
def tempF (i t : Nat) : Fld := if i < 2 then F.THERM_TS_TEMP t else F.THERM_D_TS_TEMP (i - 2) t
def faultF (i t : Nat) : Fld := if i < 2 then F.THERM_TS_FAULT t else F.THERM_D_TS_FAULT (i - 2) t

/-- The C die whose registers show the sensors of die i to C die e. -/
def showAt (e i : Nat) : Nat := if i < 2 then i else e

/-- Sensor t of die i is marked faulty, as C die e sees it. -/
def State.sensBad (s : State) (e i t : Nat) : Bool := s.flag (showAt e i) (faultF i t)

/-- An ordered list with a number put in its place. -/
def insertInt (x : Int) : List Int → List Int
  | [] => [x]
  | y :: ys => if x ≤ y then x :: y :: ys else y :: insertInt x ys

/-- Twice the median of readings; with an even number, the sum of the two middle ones (R423). -/
def median2 (xs : List Int) : Int :=
  let ys := xs.foldr insertInt []
  let n := ys.length
  if n % 2 == 1 then 2 * ys.getD (n / 2) 0 else ys.getD (n / 2 - 1) 0 + ys.getD (n / 2) 0

/-- The fault check of R423 on a sample of die i, by C die e: the tenth sample in a row beyond 15 °C (1,920 counts) of the
median marks the sensor. -/
def sensorCheck (e i : Nat) (vals : Readings) (s : State) : State :=
  let good := (List.range (sensors i)).filter (fun t => !s.sensBad e i t)
  let m2 := median2 (good.map (readingAt vals))
  overL good (fun t s =>
    let off := decide (2 * 1920 < absI (2 * readingAt vals t - m2))
    let n := if off then (s.c e).therm.off.at (8 * i + t) + 1 else 0
    let s := modTherm e (fun x => { x with off := x.off.set (8 * i + t) (if n < 10 then n else 0) }) s
    if 10 ≤ n then latchFault e Fg.therm 4 true ((s.on (showAt e i) (faultF i t)).on e F.THERM_EVT_SENSFAULT) else s) s

/-- The sensor with the highest reading among some, the first of equals. -/
def hottestOf (vals : Readings) (ts : List Nat) : Option (Nat × Int) :=
  ts.foldl (fun acc t =>
    match acc with
    | none => some (t, readingAt vals t)
    | some (u, v) => if v < readingAt vals t then some (t, readingAt vals t) else some (u, v)) none

/-- The maximum of a sample of die i, R423: of the sensors not marked, or of all while three or more are. -/
def State.dieTop (s : State) (e i : Nat) (vals : Readings) : Nat × Int :=
  let all := List.range (sensors i)
  let good := all.filter (fun t => !s.sensBad e i t)
  (hottestOf vals (if all.length < good.length + 3 then good else all)).getD (0, readingAt vals 0)

/-- The maximum of die i at its last sample, as C die e holds it. -/
def State.topOf (s : State) (e i : Nat) : Option Int :=
  match (s.c e).therm.top.at i with
  | 0 => none
  | n + 1 => some (Int.ofNat (n + 1) - 65536)

/-- THERM_MAX and THERM_MAXLOC of C die e, R424, and the frame's maximum (Table 18-4). -/
def maxRefresh (e : Nat) (s : State) : State :=
  let best := (List.range 8).foldl (fun (acc : Option (Nat × Int)) i =>
    match s.topOf e i, acc with
    | some v, some (j, w) => if w < v then some (i, v) else some (j, w)
    | some v, none => some (i, v)
    | none, a => a) none
  match best with
  | none => s
  | some (i, v) =>
    let s := s.puti e F.THERM_MAX_DIE ((s.topOf e e).getD 0)
    let s := (s.puti e F.THERM_MAX_PKG v).put e F.THERM_MAXLOC_DIE i
    let s := s.put e F.THERM_MAXLOC_SENSOR ((s.c e).therm.at_.at i)
    if s.geti e F.PROMPT_LIVE_SD_TMAX < v then s.puti e F.PROMPT_LIVE_SD_TMAX v else s

/-- The lowest threshold of R422. -/
def State.lowTh (s : State) (e : Nat) : Int :=
  min (min (s.geti e F.THERM_TH0_WARN) (s.geti e F.THERM_TH0_DERATE)) (s.geti e F.THERM_TH1_SHUT)

/-- A threshold condition of a die begins or ends at C die e: event, status and instance of group 27 (Table 15-7). -/
def thFlag (e i j : Nat) (on : Bool) (s : State) : State :=
  let was := bit ((s.c e).therm.flags.at i) j
  if was == on then s
  else
    let s := modTherm e (fun x => { x with flags := x.flags.mod i (fun n => setBit n j on) }) s
    if on then latchFault e Fg.therm j true (s.putBit e ⟨F.THERM_EVT_WARN.off, 3, 0⟩ j true)
    else if (List.range 8).any (fun k => bit ((s.c e).therm.flags.at k) j) then s
    else endActive e Fg.therm j s

/-- A die of the part is at or above threshold j. -/
def State.thAny (s : State) (e j : Nat) : Bool := (List.range 8).any (fun k => bit ((s.c e).therm.flags.at k) j)

/-- The thresholds of R426 and the sampling period of R422, on a die maximum. -/
def thresholds (e i : Nat) (vals : Readings) (s : State) : State :=
  let v := (s.topOf e i).getD 0
  let low := s.lowTh e - celsius 10
  let s := modTherm e (fun x =>
    { x with fast := setBit x.fast i (decide (low ≤ v) || (bit x.fast i && decide (low - celsius 2 ≤ v))) }) s
  let hyst := fun (f : Fld) (j : Nat) (s : State) =>
    if s.geti e f ≤ v then thFlag e i j true s
    else if v < s.geti e f - celsius 2 then thFlag e i j false s
    else s
  let s := hyst F.THERM_TH0_DERATE 1 (hyst F.THERM_TH0_WARN 0 s)
  let s := thFlag e i 2 (decide (s.geti e F.THERM_TH1_SHUT ≤ v)) s
  let s := thFlag e i 3 ((List.range (sensors i)).any (fun t =>
    decide (s.geti e F.THERM_TH1_HWSHUT ≤ readingAt vals t))) s
  let s := s.put e F.THERM_STAT_FAST (b2n ((s.c e).therm.fast != 0))
  (s.put e F.THERM_STAT_WARN (b2n (s.thAny e 0))).put e F.THERM_STAT_DERATE (b2n (s.thAny e 1))

/-- The derate outputs of C die e at a sample of die i, R427. -/
def derate (e i : Nat) (s : State) : State :=
  overN 4 (fun j s =>
    if s.flag e (F.THERM_FAB_EN j) && s.bitOf e (F.THERM_FAB_DIES j) i then
      let top := (List.range 8).foldl (fun (acc : Option Int) k =>
        if s.bitOf e (F.THERM_FAB_DIES j) k then
          match s.topOf e k, acc with
          | some v, some w => some (max v w)
          | some v, none => some v
          | none, a => a
        else acc) none
      match top with
      | none => s
      | some v =>
        let m := satQ15 (s.geti e F.THERM_TH0_DERATE - v)
        spWrite e (s.get e (F.THERM_FAB_SP j)) (BitVec.ofNat 32 (ux16 m)) s
    else s) s

/-- A sample of die i at C die e: readings, faults, maxima, thresholds, derating. -/
def sampleAt (e i : Nat) (vals : Readings) (s : State) : State :=
  let s :=
    if i < 2 && i != e then s
    else
      let s := overN (sensors i) (fun t s => s.put e (tempF i t) (vals.getD t 0).toNat) s
      sensorCheck e i vals s
  let (t, v) := s.dieTop e i vals
  let s := modTherm e (fun x => { x with top := x.top.set i (v + 65536).toNat, at_ := x.at_.set i t }) s
  let s := maxRefresh e s
  let s := if i == e then s.put e F.THERM_STAT_NVMOK (b2n ((List.range 8).all (fun t =>
      s.sensBad e e t || (decide (celsius (-40) ≤ readingAt vals t) && decide (readingAt vals t ≤ celsius 125)))))
    else s
  let s := onlyIf (!s.nvmWindow e) (nvmCut e 2) s
  let s := if (List.range 8).any (fun k => (List.range (sensors k)).any (fun t => s.sensBad e k t)) then s
    else endActive e Fg.therm 4 s
  derate e i (thresholds e i vals s)

/-- A thermal shutdown of the package, R428: LOCKDOWN, every axis in its curtain state with cause PKG, the record, a
flush on both C dies, an open acceptance window rejected (R123). -/
def shutdown (i sensor : Nat) (temp : Int) (hw : Bool) (s : State) : State :=
  let was := s.devActive
  let early := decide (s.dev < Dev.standby)
  let s := if was then rejectWindow s else s
  let s := setDevice Dev.lockdown s
  overN 2 (fun d s =>
    if s.runs d then
      let s := modTherm d (fun x => { x with early := early }) (s.on d F.THERM_STAT_SHUT)
      let s := curtainAll d s
      let s := thermEvent d i sensor (ux16 temp) hw s
      let s := note d Blk.therm 0x0070 4 0 (s.get d F.THERM_LREC0) (s.get d F.THERM_LREC1)
        (s.wd d F.THERM_MAXLOC_DIE.off) s
      flushStart d s
    else s) s

/-- Whether a sample of die i shuts the device down, R428, R97: SHUT in STANDBY, RUN and CURTAIN, HWSHUT from ROLL_CALL on,
never in BLANK or RETIRED, which do not reach LOCKDOWN (Table 1-9);
with the sensor, its reading and HW. -/
def State.shutCause (s : State) (i : Nat) (vals : Readings) : Option (Nat × Int × Bool) :=
  if s.lc 0 == 0 || s.lc 0 == 4 then none else
  let e := s.lead
  let hot := (List.range (sensors i)).filter (fun t => decide (s.geti e F.THERM_TH1_HWSHUT ≤ readingAt vals t))
  let late := s.devActive || s.dev == Dev.curtain
  let from_ := late || s.dev == Dev.rollCall || s.dev == Dev.bist || s.dev == Dev.config
  if from_ && !hot.isEmpty then (hottestOf vals hot).map (fun x => (x.1, x.2, true))
  else if late && bit ((s.c e).therm.flags.at i) 2 then
    some ((s.c e).therm.at_.at i, (s.topOf e i).getD 0, false)
  else none

/-- Every die sensor of the part that is not marked faulty reads below a temperature. -/
def State.allBelow (s : State) (t : Int) : Bool :=
  (List.range 8).all (fun i =>
    let runs := if i < 2 then s.runs i else s.runsD (i - 2)
    !runs || (List.range (sensors i)).all (fun j =>
      s.sensBad s.lead i j || decide (s.geti (showAt s.lead i) (tempF i j) < celsius t)))

/-- LOCKDOWN ends, R428: STANDBY with PWM enable locked, or, entered before STANDBY, a package reset. -/
def lockdownEnd (s : State) : State :=
  if s.dev == Dev.lockdown && s.allBelow 135 then
    let early := (s.c s.lead).therm.early
    let s := overN 2 (fun d s => if s.runs d then s.off d F.THERM_STAT_SHUT else s) s
    if early then packageReset 0 s else setDevice Dev.standby s
  else s

/-- What die i sends reaches C die e: over L0 from the other C die, over its own link from a D die (R422, R424). -/
def State.hears (s : State) (e i : Nat) : Bool :=
  s.runs e && (e == i || (if i < 2 then s.linkC e else s.linkD e (i - 2)))

/-- The sampling period of die i in fabric cycles, R422. -/
def State.sampPeriod (s : State) (i : Nat) : Nat := if bit (s.c s.lead).therm.fast i then 4000 else 40000

/-- The sample of die i is noted: its time, and what a D die's own comparator reads (R422, R428). -/
def sampNote (i : Nat) (vals : Readings) (s : State) : State :=
  if i < 2 then modTherm i (fun x => { x with sampAt := s.now i + 1 }) s
  else
    let hot := (List.range 6).any (fun t => decide (celsius 165 ≤ readingAt vals t))
    let now := s.mark (i - 2)
    s.modD (i - 2) (fun x => { x with sampAt := now, hot := hot })

/-- A sample of die i is taken, R422, and reaches the C dies; a sample before its time is none. -/
def thermalSample (i : Nat) (vals : Readings) (s : State) : State :=
  let last := if i < 2 then (s.c i).therm.sampAt else (s.dd (i - 2)).sampAt
  let now := if i < 2 then s.now i + 1 else s.mark (i - 2)
  if last != 0 && now < last + s.sampPeriod i then s else
  let s := sampNote i vals s
  let s := if i < 2 then sampleAt i i vals s else s
  let s := overN 2 (fun e s => if e != i && s.hears e i then sampleAt e i vals s else s) s
  let s := match s.shutCause i vals with
    | some (t, v, hw) => shutdown i t v hw s
    | none => s
  lockdownEnd s

/-- R422 to R428. Die i samples its sensors. -/
def execThermalSample (i : DieIx) (vals : Readings) (s : State) : Out :=
  if i.val < 2 then onC i.val (thermalSample i.val vals) s else onD (i.val - 2) (thermalSample i.val vals) s

/-- R428. The comparator of D die k reaches HWSHUT: its loaded orphan command comes into force on every leg as the leg
command, without the orphan state. -/
def execHwShutdownLocal (k : DDie) (s : State) : Out :=
  onD k.val (fun s => if (s.dd k.val).hot then
      drvAct k.val (fun s => settle k.val (overN 3 (fun leg s =>
        curtainLeg k.val leg (s.get (dix k.val) F.DRV_D_ORPHAN / 4 ^ leg % 4) s) s)) s
    else s) s

/-- The TMOD results of D die k at C die e, R425. -/
def tmodAt (e k : Nat) (mv : Readings) (s : State) : State :=
  let used := (List.range 6).filter (fun c => !s.legUnused k (c / 2))
  let v := fun c => (mv.getD c 0).toNat
  let bad := fun c => decide (3200 < v c) || decide (v c < 20)
  let lim := s.get e F.THERM_MODLIM_LIM
  let hot := fun c => lim != 0 && decide (v c < lim)
  let s := overL used (fun c s =>
    (s.put e (F.THERM_D_TMOD_MV k c) (v c)).put e (F.THERM_D_TMOD_FAULT k c) (b2n (bad c))) s
  let anyBad := used.any bad
  let anyHot := used.any hot
  let t := (s.c e).therm
  let s := onlyIf (anyBad && !bit t.modFault k) (fun s =>
    latchFault e Fg.therm 5 true (s.on e F.THERM_EVT_TMODFAULT)) s
  let s := onlyIf (anyHot && !bit t.modHot k) (fun s =>
    latchFault e Fg.therm 6 true (s.on e F.THERM_EVT_MODHOT)) s
  let s := modTherm e (fun x =>
    { x with modFault := setBit x.modFault k anyBad, modHot := setBit x.modHot k anyHot }) s
  let s := if (s.c e).therm.modFault == 0 then endActive e Fg.therm 5 s else s
  if (s.c e).therm.modHot == 0 then endActive e Fg.therm 6 s else s

/-- The TMOD voltages of D die k are measured, R425, every 100 µs (40,000 counts). -/
def tmodSample (k : Nat) (mv : Readings) (s : State) : State :=
  let last := (s.dd k).tmodAt
  let now := s.mark k
  if last != 0 && now < last + 40000 then s
  else overN 2 (fun e s => if s.hears e (2 + k) then tmodAt e k mv s else s) (s.modD k (fun x => { x with tmodAt := now }))

/-- R425. D die k measures the TMOD voltage of every used leg, in mV. -/
def execTmodSample (k : DDie) (mv : Readings) (s : State) : Out := onD k.val (tmodSample k.val mv) s

/-- R429. A waiting shutdown record of C die d is written. -/
def execShutdownRecordWrite (d : CDie) (s : State) : Out := onC d.val (thermTry d.val) s

/-- Why THERM_LACK.GO is refused, Table 15-8; 0 when accepted. -/
def State.ackRefusal (s : State) (d : Nat) : Nat :=
  let r := s.get d F.THERM_LREC0
  if !bit r 0 then 1
  else if bit r 1 then 2
  else if s.dev != Dev.standby then 3
  else if (List.range 2).any (fun e => s.runs e && !s.nvmWindow e) then 4
  else if (List.range 2).any (fun e => s.runs e && (s.c e).sys.mramRefuse) then 5
  else 0

/-- The record is acknowledged on C die d, or refused, R431. -/
def thermAck (d : Nat) (s : State) : State :=
  let code := s.ackRefusal d
  let s := s.put d F.THERM_LACKST_CODE code
  if code != 0 then s.on d F.THERM_EVT_ACKREF
  else
    let s := note d Blk.therm 0x0071 1 0 (s.get d F.THERM_LREC0) 0 0 s
    let s := overN 2 (fun e s =>
      if s.runs e then
        let r := s.lrec e
        let r := (setBit r.1 1 true, r.2)
        let s := if bit r.1 0 then thermStore e r (putLrec e r s) else s
        s.off e F.SYS_DSTATE_PWMLOCK
      else s) s
    s.on d F.THERM_EVT_ACKDONE

/-- R431. A write of 1 to THERM_LACK.GO. -/
def execThermalAck (d : CDie) (m : Master) (s : State) : Out :=
  onC d.val (tkWrite d.val m (own F.THERM_LACK_GO.off) d.val F.THERM_LACK_GO.off 1#32 false (thermAck d.val)) s

/-- A write of THERM_TH0 or THERM_TH1 that a two-key sequence releases: WARN ≤ DERATE ≤ SHUT ≤ 150 °C (R426). -/
def thermThWrite (d : Nat) (m : Master) (off : Nat) (v : Word) (s : State) : State :=
  let w := if off == F.THERM_TH0_WARN.off then sx16 (F.THERM_TH0_WARN.ofWord v) else s.geti d F.THERM_TH0_WARN
  let r := if off == F.THERM_TH0_WARN.off then sx16 (F.THERM_TH0_DERATE.ofWord v) else s.geti d F.THERM_TH0_DERATE
  let h := if off == F.THERM_TH0_WARN.off then s.geti d F.THERM_TH1_SHUT else sx16 (F.THERM_TH1_SHUT.ofWord v)
  tkWriteIf (decide (w ≤ r) && decide (r ≤ h) && decide (h ≤ celsius 150)) (fun s => s.on d F.THERM_EVT_WRREF)
    d m (own off) d off v (protWrite d off v false) s

end Sys2Proof.Machine
end

