-- ==== Sys2Proof/Machine/Bist.lean ====
section
/-! DEFINITION. Self-test (R414 to R420): start-up slices, the understudy rotation of engines and converter slices
(R23, R24, R168, R169, R233, R234), requests. -/

namespace Sys2Proof.Machine

/-- A change of BIST's hidden record. -/
def modBist (d : Nat) (f : BistC → BistC) (s : State) : State := s.modC d (fun c => { c with bist := f c.bist })

/-! ### Start-up -/

/-- How many start-up slices a die runs, Tables 15-1 and 15-2, and the ID of its n-th. -/
def slices (i : Nat) : Nat := if i < 2 then 13 else 9
def sliceId (i n : Nat) : Nat := if i < 2 then n else 0x20 + n

/-- The budget of a start-up slice in fabric cycles, Tables 15-1 and 15-2. -/
def sliceBudget (slice : Nat) : Nat :=
  if slice ≤ 1 || slice == 8 || slice == 0x21 || slice == 0x22 then 800000
  else if slice ≤ 6 then 600000
  else if slice == 0xC || 0x26 ≤ slice then 200000
  else 400000

/-- The dies that start-up BIST covers: the running C dies that are not in RECOVERY, and the D dies. -/
def State.bistDies (s : State) : List Nat :=
  (List.range 8).filter (fun i =>
    if i < 2 then s.runs i && s.get i F.SYS_DSTATE_STATE != Dev.recovery else s.hasD (i - 2))

/-- A field on every running C die. -/
def putBoth (f : Fld) (v : Nat) (s : State) : State := overN 2 (fun d s => if s.runs d then s.put d f v else s) s

/-- The slices begin, with the mode that the ACTIVE libretto names, R417. -/
def bistBegin (s : State) : State :=
  let a := (s.n 0).active
  let k4 := a != 0 && bit (imgFlags s 0 (slotAddr a)) 0
  let s := putBoth F.BIST_STAT_PHASE 1 (putBoth F.BIST_STAT_MODE (b2n k4) s)
  let now := s.now 0
  modBist 0 (fun b => { b with ran := [], began := now, at_ := (List.range 8).foldl (fun m i => m.set i now) [] }) s

/-- Some die sensor of the part reads at or above a temperature. -/
def State.anyAt (s : State) (t : Int) : Bool :=
  (List.range 8).any (fun i =>
    (if i < 2 then s.runs i else s.runsD (i - 2)) &&
      (List.range (sensors i)).any (fun j => decide (celsius t ≤ s.geti (showAt 0 i) (tempF i j))))

/-- R414, R97. Start-up BIST begins, or waits in a thermal hold with a sensor at 150 °C or more. -/
def execBistStart (s : State) : Out :=
  .next (if s.runs 0 && s.dev == Dev.bist && s.get 0 F.BIST_STAT_PHASE == 0 && s.get 0 F.HDR_RC_STATUS_HOLD == 0 then
    if s.anyAt 150 then modBist 0 (fun b => { b with holdAt := s.now 0 }) (s.put 0 F.HDR_RC_STATUS_HOLD 1) else bistBegin s
  else s)

/-- R97. In the thermal hold C0 reads every sensor again, 100 µs (40,000 counts) after the last time; below 135 °C the start
continues. -/
def execThermalHoldRecheck (s : State) : Out :=
  .next (if s.runs 0 && s.dev == Dev.bist && s.get 0 F.HDR_RC_STATUS_HOLD == 1 &&
      decide ((s.c 0).bist.holdAt + 40000 ≤ s.now 0) then
    if s.anyAt 135 then modBist 0 (fun b => { b with holdAt := s.now 0 }) s
    else bistBegin (s.put 0 F.HDR_RC_STATUS_HOLD 0)
  else s)

/-- Every slice of every die has run. -/
def State.bistOver (s : State) : Bool := s.bistDies.all (fun i => decide (slices i ≤ (s.c 0).bist.ran.at i))

/-- Start-up BIST ends and CONFIG begins, R417, Table 1-8. -/
def bistEnd (s : State) : State :=
  if s.dev == Dev.bist && s.get 0 F.BIST_STAT_PHASE == 1 && s.bistOver then
    let us := min (2 ^ 24 - 1) ((s.now 0 - (s.c 0).bist.began) / 400)
    let s := putBoth F.BIST_STAT_PHASE (if s.anyMark then 4 else 2) (putBoth F.BIST_SUTIME us s)
    setDevice Dev.config s
  else s

/-- The first failure on the part, R415. -/
def firstFail (i slice code : Nat) (s : State) : State :=
  if s.get 0 F.BIST_STAT_CODE != 0 then s
  else putBoth F.BIST_STAT_SLICE slice (putBoth F.BIST_STAT_DIE i (putBoth F.BIST_STAT_CODE code s))

/-- The record of a failure, which C0's ROM writes and flushes once slices 0x00 to 0x07 of C0 have passed, R415. -/
def failRecord (s : State) : State :=
  if 8 ≤ (s.c 0).bist.ran.at 0 then
    flushStart 0 (recordRom 0 ⟨0x0011, Blk.bist, 0, 0, 4, s.wd 0 F.BIST_STAT_PHASE.off, s.wd 0 F.BIST_MARK0_PP.off,
      s.wd 0 F.BIST_MARK1_D.off, 0⟩ s)
  else s

/-- Reaction RESET of R416: the package is held in RESET with FAULT_N low until the next package reset. -/
def bistReset (s : State) : State :=
  let s := putBoth F.BIST_STAT_PHASE 3 s
  overN 2 (fun d s =>
    if s.runs d then
      (putDev d Dev.reset (s.modSys d (fun y => { y with romHold := true }))).on d F.SAFE_FC_STAT_FAULTN
    else s) s

/-- Reaction CURTAIN of R416: the failure stands as a package cause until the next package reset. -/
def bistCurtain (s : State) : State :=
  let s := setDevice Dev.curtain (putBoth F.BIST_STAT_PHASE 3 s)
  overN 2 (fun d s =>
    if s.runs d then
      flushStart d (curtainAll d (s.modSafe d (fun x => { x with pkgCause := setBit x.pkgCause 2 true })))
    else s) s

/-- C1 is marked: it stays in reset, and C0 carries the package, R417. -/
def markC1 (s : State) : State :=
  let s := ((s.on 0 F.BIST_MARK0_C1).on 0 F.BIST_EVT_MARKED).on 0 F.HDR_RC_STATUS_SINGLE
  (resetC 1 0 false (s.on 0 F.HDR_RC_STATUS_DEGRADED)).syncOwn

/-- Units of a C die's block marked, with the event. -/
def markUnits (d : Nat) (f : Fld) (units : Nat) (s : State) : State :=
  (s.put d f (Nat.lor (s.get d f) (units % f.size))).on d F.BIST_EVT_MARKED

/-- An engine unit retired, R24, R234. -/
def retireUnit (d u : Nat) (s : State) : State :=
  let s := if u < 32 then s.putBit d F.LOOP_RETIRED0 u true else s.putBit d F.LOOP_RETIRED1 (u - 32) true
  let s := (s.on d F.LOOP_GSTAT_NO_US).on d F.LOOP_GEVT_RETIRE
  let s := (s.off d (F.LOOP_LE_STAT_RUN 63)).put d (F.LOOP_LE_STAT_PU 63) 0x3F
  note d Blk.loop 0x0012 2 0 0 u 0 (latchFault d Fg.bistSvc 0 false s)

/-- The slot whose unit is u changes places with the understudy, so that u is retired as the understudy. -/
def retireStart (d u : Nat) (s : State) : State :=
  let us := s.get d (F.LOOP_LE_STAT_PU 63)
  let s := overN 63 (fun n s =>
    if s.get d (F.LOOP_LE_STAT_PU n) == u then s.put d (F.LOOP_LE_STAT_PU n) us else s) s
  retireUnit d u s

/-- The failed engine units of the LOOP slice, R417: one is retired; further ones are marked in K4 compatibility mode and
take the reaction CURTAIN in native mode. -/
def loopFail (d units : Nat) (k4 : Bool) (curtain : State → State) (s : State) : State :=
  let bad := (List.range 64).filter (fun u => bit units u)
  match bad with
  | [] => s
  | [u] => retireStart d u s
  | u :: us =>
    if k4 then
      overL us (fun u s => if u < 32 then s.putBit d F.LOOP_RETIRED0 u true else s.putBit d F.LOOP_RETIRED1 (u - 32) true)
        ((retireStart d u s).on d F.BIST_EVT_MARKED)
    else curtain s

/-- The reaction to a failed start-up slice of C die d, Table 15-1, with the two reactions of R416. -/
def ctlFail (d slice units : Nat) (k4 : Bool) (reset curtain : State → State) (s : State) : State :=
  if slice < 8 then (if k4 && d == 1 then markC1 s else reset s)
  else if slice == 8 then loopFail d units k4 curtain s
  else if slice == 9 && k4 then markUnits d F.BIST_MARK0_PP units s
  else if slice == 0xB && k4 then markUnits d F.BIST_MARK0_CAN (units / 16) (markUnits d F.BIST_MARK0_FB units s)
  else curtain s

/-- The reaction to a failed start-up slice of die i, Tables 15-1 and 15-2. -/
def sliceFail (i slice units : Nat) (s : State) : State :=
  let k4 := s.flag 0 F.BIST_STAT_MODE
  if 2 ≤ i then
    if k4 then
      let s := overN 2 (fun d s => if s.runs d then
        (s.putBit d F.BIST_MARK1_D (i - 2) true).on d F.BIST_EVT_MARKED else s) s
      settle (i - 2) (s.modD (i - 2) (fun x => { x with marked := true }))
    else bistCurtain s
  else ctlFail i slice units k4 bistReset bistCurtain s

/-- A start-up slice of die i ends with a code (0 PASS); `units` failed within it. -/
def sliceEnd (i code units : Nat) (s : State) : State :=
  let slice := sliceId i ((s.c 0).bist.ran.at i)
  let s := if code == 0 then s else sliceFail i slice units (failRecord (firstFail i slice code s))
  bistEnd (modBist 0 (fun b => { b with ran := b.ran.mod i (· + 1), at_ := b.at_.set i (s.now 0) }) s)

/-! A C die that rejoins runs its slices alone (R104 step 5); the package state stays that of the running die, so the
reactions of R416 reach this die only (log entry 25). -/

/-- Reaction RESET on a die alone: it is held with FAULT_N low. -/
def aloneReset (d : Nat) (s : State) : State :=
  let s := s.put d F.BIST_STAT_PHASE 3
  (s.modSys d (fun y => { y with romHold := true })).on d F.SAFE_FC_STAT_FAULTN

/-- Reaction CURTAIN on a die alone: its failure stands as a package cause, and its libretto is not loaded. -/
def aloneCurtain (d : Nat) (s : State) : State :=
  let s := (s.put d F.BIST_STAT_PHASE 3).modSafe d (fun x => { x with pkgCause := setBit x.pkgCause 2 true })
  flushStart d (curtainAll d s)

/-- The failure of a slice that a die runs alone: BIST_STAT and the record of R415, then the reaction. -/
def aloneFail (d slice code units : Nat) (s : State) : State :=
  let s := if s.get d F.BIST_STAT_CODE != 0 then s
    else ((s.put d F.BIST_STAT_SLICE slice).put d F.BIST_STAT_DIE d).put d F.BIST_STAT_CODE code
  let s := if slice < 8 then s else
    flushStart d (recordRom d ⟨0x0011, Blk.bist, d, 0, 4, s.wd d F.BIST_STAT_PHASE.off, s.wd d F.BIST_MARK0_PP.off,
      s.wd d F.BIST_MARK1_D.off, s.now32 d⟩ s)
  ctlFail d slice units (s.flag d F.BIST_STAT_MODE) (aloneReset d) (aloneCurtain d) s

/-- A slice that a die runs alone ends; after the last one the die goes on to its configuration. -/
def aloneEnd (d code units : Nat) (s : State) : State :=
  let slice := (s.c d).bist.ran.at d
  let s := modBist d (fun b => { b with ran := b.ran.set d (slice + 1), at_ := b.at_.set d (s.now d) }) s
  let s := if code == 0 then s else aloneFail d slice code units s
  if s.get d F.BIST_STAT_PHASE == 1 && slice == 12 then
    let s := s.put d F.BIST_SUTIME (min (2 ^ 24 - 1) ((s.now d - (s.c d).bist.began) / 400))
    modBist d (fun b => { b with alone := false }) (s.put d F.BIST_STAT_PHASE (if s.anyMark then 4 else 2))
  else s

/-- A die runs its start-up slices alone. -/
def State.aloneRuns (s : State) (i : Nat) : Bool :=
  decide (i < 2) && s.runs i && (s.c i).bist.alone && s.get i F.BIST_STAT_PHASE == 1

/-- A requested start-up slice ends, R420: the result, and for slices 0x00 to 0x07 a reset of the tested C die. -/
def requestEnd (d i code : Nat) (s : State) : State :=
  let slice := match (s.c d).bist.req with
    | some (_, x, _) => x
    | none => 0
  let s := modBist d (fun b => { b with req := none }) s
  let s := (s.put d F.BIST_REQST_RESULT code).on d F.BIST_EVT_REQDONE
  if i < 2 && slice < 8 then dieReset i 0 false s else s

/-- The C die with a pending request of TYPE 2 for die i. -/
def State.slicesFor (s : State) (i : Nat) : Option Nat :=
  (List.range 2).find? (fun d => s.runs d && (match (s.c d).bist.req with
    | some (t, _, j) => t == 2 && j == i
    | none => false))

/-- A slice runs on die i at start-up: begun, not yet through, the die taking part. -/
def State.sliceRuns (s : State) (i : Nat) : Bool :=
  s.dev == Dev.bist && s.get 0 F.BIST_STAT_PHASE == 1 && s.bistDies.contains i &&
    decide ((s.c 0).bist.ran.at i < slices i)

/-- The slice that runs on die i, and the C die whose stage time measures it. -/
def State.sliceNow (s : State) (i : Nat) : Option (Nat × Nat) :=
  if s.sliceRuns i then some (0, sliceId i ((s.c 0).bist.ran.at i))
  else if s.aloneRuns i then some (i, (s.c i).bist.ran.at i)
  else (s.slicesFor i).map (fun d => (d, match (s.c d).bist.req with
    | some (_, x, _) => x
    | none => 0))

/-- The slice that runs on die i has exceeded its budget, R414. -/
def State.sliceLate (s : State) (i : Nat) : Bool :=
  match s.sliceNow i with
  | some (e, x) => decide ((s.c e).bist.at_.at i + sliceBudget x < s.now e)
  | none => false

/-- The code of a slice of die i that ends, Table 15-3: TIMEOUT over its budget, NO_RESULT when the result of a D die does
not reach the die that runs the test. -/
def State.sliceCode (s : State) (i code : Nat) : Nat :=
  let e := match s.sliceNow i with
    | some x => x.1
    | none => 0
  if s.sliceLate i then 2 else if 2 ≤ i && !s.linkD e (i - 2) then 5 else code

/-- The slice that runs on die i ends with a code. -/
def sliceOver (i code units : Nat) (s : State) : State :=
  if s.sliceRuns i then sliceEnd i code units s
  else if s.aloneRuns i then aloneEnd i code units s
  else match s.slicesFor i with
    | some d => requestEnd d i code s
    | none => s

/-- The slice that runs on die i answers. -/
def sliceDone (i code units : Nat) (s : State) : State := sliceOver i (s.sliceCode i code) units s

/-- A command about die i of the part. -/
def atDie (i : Nat) (f : State → State) (s : State) : Out := .next (if s.hasDie i then f s else s)

/-- R414 to R417, R420. The start-up slice that runs on die i ends with a code of Table 15-3; `units` are the engine units,
pairs, or interfaces (bits 0 to 3) and controllers (bits 4 to 7) that failed in it. -/
def execBistSliceDone (i : DieIx) (code : Fin 6) (units : BitVec 64) (s : State) : Out :=
  atDie i.val (sliceDone i.val code.val units.toNat) s

/-- R414. The slice that runs on die i has exceeded its budget: it fails with TIMEOUT, and no unit of it has passed. -/
def execBistSliceTimeout (i : DieIx) (s : State) : Out :=
  atDie i.val (fun s => if s.sliceLate i.val then sliceOver i.val 2 (2 ^ 64 - 1) s else s) s

/-! ### Rotation -/

/-- Rotation runs, R418. -/
def State.rotates (s : State) (d : Nat) : Bool :=
  (s.devActive || s.dev == Dev.curtain) && (s.lc d == 1 || s.lc d == 2 || s.lc d == 3)

/-- A released unit of a target is under test. -/
def State.testing (s : State) (d t : Nat) : Bool := (s.c d).bist.tests.any (fun x => x.1 == t)

/-- BIST_ROTST.BUSY follows the tests. -/
def refreshRot (d : Nat) (s : State) : State := s.put d F.BIST_ROTST_BUSY (b2n (!(s.c d).bist.tests.isEmpty))

/-- The next target of the rotation, R418. -/
def nextTarget (d : Nat) (s : State) : State := s.put d F.BIST_ROTST_NEXT ((s.get d F.BIST_ROTST_NEXT + 1) % 5)

/-- The slot whose unit has worked longest since its last test, R233: the lowest among equals; a pending request of TYPE 0
names its own. -/
def State.oldestSlot (s : State) (d : Nat) : Nat :=
  match (s.c d).bist.req with
  | some (0, n, _) => n
  | _ =>
    let tested := fun n => (s.c d).loop.puTested.at (s.get d (F.LOOP_LE_STAT_PU n))
    (List.range 63).foldl (fun b n => if tested n < tested b then n else b) 0

/-- A pending request is being served from now on: its type is raised by 8 in the record. -/
def serving (d t x : Nat) (s : State) : State :=
  modBist d (fun b =>
    { b with req := match b.req with
        | some (t', x', i) => if t' == t && x' == x then some (t + 8, x, i) else some (t', x', i)
        | none => none }) s

/-- The copy of a slot's unit to the understudy begins, R233 step 1. -/
def engineCopy (d : Nat) (s : State) : State :=
  let n := s.oldestSlot d
  let s := (s.on d F.LOOP_GSTAT_COPYING).modLoop d (fun l =>
    { l with copying := n + 1, copyEnd := s.now d + 4000, copyWait := 0 })
  serving d 0 n s

/-- The slice of a group that a rotation point releases, R168: the one that has worked longest, or the one requested. -/
def State.oldestSlice (s : State) (d g : Nat) : Option Nat :=
  match (s.c d).bist.req with
  | some (1, x, _) => if x / 8 == g then some (x % 8) else (s.ag d g).order.head?
  | _ => (s.ag d g).order.head?

/-- A rotation point of a group, R168 steps 1 to 3. -/
def groupRotate (d g : Nat) (s : State) : State :=
  match s.oldestSlice d g with
  | none => s
  | some j =>
    let us := s.get d (F.ADC_AG_STAT_US g)
    let s := s.modAg d g (fun x => { x with order := x.order.filter (fun z => z != j) ++ [us] })
    let s := (s.put d (F.ADC_AG_STAT_US g) j).on d (F.ADC_AG_EVT_ROTATED g)
    serving d 1 (8 * g + j) (refreshRot d (modBist d (fun b => { b with tests := b.tests ++ [(1 + g, j)] }) s))

/-- The target has an understudy to rotate, R418. -/
def State.hasUs (s : State) (d t : Nat) : Bool :=
  if t == 0 then !s.flag d F.LOOP_GSTAT_NO_US else !s.flag d (F.ADC_AG_STAT_NO_US (t - 1))

/-- The rotation point must wait for a later boundary, R418: the unit released before is still under test or being copied,
or the group is stopped, calibrating or capturing (R168). -/
def State.rotWaits (s : State) (d t : Nat) : Bool :=
  s.testing d t || (if t == 0 then s.flag d F.LOOP_GSTAT_COPYING
    else !s.flag d (F.ADC_AG_STAT_RUN (t - 1)) || s.flag d (F.ADC_AG_STAT_CALBUSY (t - 1)))

/-- A rotation point on the n targets from NEXT on, R418: one without an understudy is skipped; the first other one is
served, or the point moves. -/
def rotateFrom (d : Nat) : Nat → State → State
  | 0, s => s
  | n + 1, s =>
    let t := s.get d F.BIST_ROTST_NEXT
    if !s.hasUs d t then rotateFrom d n (nextTarget d s)
    else if s.rotWaits d t then s
    else
      let s := nextTarget d (modBist d (fun b => { b with rotAt := s.now d }) s)
      if t == 0 then engineCopy d s else groupRotate d (t - 1) s

/-- A rotation point is due, R418: a frame boundary in this cycle, PERIOD seconds (4 × 10^8 counts each) after the last
point. -/
def State.rotDue (s : State) (d : Nat) : Bool :=
  s.rotates d && s.now d == (s.c d).prompt.lastBoundary &&
    decide ((s.c d).bist.rotAt + 400000000 * s.get d F.BIST_ROT_PERIOD ≤ s.now d)

/-- R418, R23, R168, R233. PERIOD has passed since the last rotation point of C die d, and a supervisory frame boundary
falls. -/
def execRotationPoint (d : CDie) (s : State) : Out :=
  onC d.val (fun s => if s.rotDue d.val then rotateFrom d.val 5 s else s) s

/-- The stage time from which the move of a copied unit may happen, R233: the end of the copy, or, once deferred, the next frame
boundary. -/
def State.moveFrom (s : State) (d : Nat) : Option Nat :=
  let l := (s.c d).loop
  let b := (s.c d).prompt.lastBoundary
  if l.copyWait == 0 then some l.copyEnd else if l.copyWait == b + 1 then none else some b

/-- The move itself, R233 step 2: the slot's state goes to the understudy, which takes the slot. -/
def unitMove (d n : Nat) (s : State) : State :=
  let old := s.get d (F.LOOP_LE_STAT_PU n)
  let new := s.get d (F.LOOP_LE_STAT_PU 63)
  let s := (s.put d (F.LOOP_LE_STAT_PU n) new).put d (F.LOOP_LE_STAT_PU 63) old
  let s := (s.put d F.LOOP_GSTAT_US old).off d F.LOOP_GSTAT_COPYING
  let s := (s.on d (F.LOOP_LE_EVT_HANDED n)).on d F.LOOP_GEVT_ROTATED
  let s := s.modLoop d (fun l => { l with copying := 0, copyWait := 0, puTested := l.puTested.set new (s.now d + 1) })
  refreshRot d (modBist d (fun b => { b with tests := b.tests ++ [(0, old)] }) s)

/-- R233 step 2: in an idle cycle of the slot within 5 µs (2,000 counts) the unit moves; without one the move waits for
the next frame boundary. -/
def engineMove (d : Nat) (s : State) : State :=
  match (s.c d).loop.copying, s.moveFrom d with
  | n + 1, some t =>
    if s.now d < t then s
    else if s.now d ≤ t + 2000 && s.engIdle d n then unitMove d n s
    else if t + 2000 ≤ s.now d then
      (s.on d F.LOOP_GEVT_ROTDEFER).modLoop d (fun l => { l with copyWait := (s.c d).prompt.lastBoundary + 1 })
    else s
  | _, _ => s

/-- R233, R209. The copied slot is looked at for an idle cycle, up to 5 µs after the copy has ended. -/
def execEngineHandoverMove (d : CDie) (s : State) : Out := onC d.val (engineMove d.val) s

/-- The request that a test serves, if any, ends with its result, R420. -/
def testAnswers (d t u code : Nat) (s : State) : State :=
  let served := match (s.c d).bist.req with
    | some (8, _, _) => t == 0
    | some (9, x, _) => t == 1 + x / 8 && x % 8 == u
    | _ => false
  onlyIf served (fun s =>
    (modBist d (fun b => { b with req := none }) (s.put d F.BIST_REQST_RESULT code)).on d F.BIST_EVT_REQDONE) s

/-- The unit at the head of the tests passes its last slice or fails one: it leaves the tests. -/
def testOver (d : Nat) (s : State) : State :=
  refreshRot d (modBist d (fun b => { b with tests := b.tests.tail }) (s.put d F.BIST_ROTST_DONE 0))

/-- An in-service slice of the released unit at the head of the tests ends, R419, Table 15-4. -/
def inService (d code : Nat) (s : State) : State :=
  match (s.c d).bist.tests with
  | [] => s
  | (t, u) :: _ =>
    if code != 0 then
      let s := testOver d (testAnswers d t u code s)
      let s := s.on d F.BIST_EVT_SVCFAIL
      if t == 0 then retireUnit d u s else retireSlice d (t - 1) u s
    else
      let n := s.get d F.BIST_ROTST_DONE + 1
      if n < (if t == 0 then 10 else 6) then s.put d F.BIST_ROTST_DONE n
      else
        let s := testOver d (testAnswers d t u 0 s)
        let s := s.count d F.BIST_SVCCNT 1
        if t == 0 then s.modLoop d (fun l => { l with puTested := l.puTested.set u (s.now d + 1) })
        else slConst d (t - 1) u s

/-- A working slice of a group fails while the group has no understudy: the group fault, R169. -/
def groupFault (d g : Nat) (s : State) : State :=
  if s.flag d (F.ADC_AG_STAT_NO_US g) && !s.flag d (F.ADC_AG_STAT_GFAULT g) then
    let s := (s.on d (F.ADC_AG_STAT_GFAULT g)).off d (F.ADC_AG_STAT_RUN g)
    let s := overN 64 (fun e s => s.off d (F.ADC_AG_RES_FRESH g e)) s
    let s := s.put d (F.ADC_AG_STAT_SEQBUSY g) 0
    let s := s.modAg d g (fun x => { x with seqs := [] })
    latchFault d Fg.adcGroup g true s
  else s

/-- The in-service slice of this frame ends, R419: it began 10 µs (4,000 counts) after the boundary, one a frame; over 20
µs (8,000 counts) it fails with TIMEOUT. -/
def serviceSlice (d code : Nat) (s : State) : State :=
  let b := (s.c d).prompt.lastBoundary
  if (s.c d).bist.svcAt == b + 1 || decide (s.now d < b + 4000) then s
  else inService d (if b + 12000 < s.now d then 2 else code) (modBist d (fun x => { x with svcAt := b + 1 }) s)

/-- R419, R24, R169, R234. An in-service slice on C die d ends with a code of Table 15-3. With `work` below 4 it is a
working slice of group `work` that is found to have failed. -/
def execInServiceSlice (d : CDie) (code : Fin 6) (work : Fin 5) (s : State) : Out :=
  onC d.val (fun s => if work.val < 4 then groupFault d.val work.val s else serviceSlice d.val code.val s) s

/-! ### Requests -/

/-- The block that a start-up slice tests is running, R420. -/
def State.sliceBusy (s : State) (i x : Nat) : Bool :=
  if i < 2 then
    if x == 8 then (List.range 63).any (fun n => s.get i (F.LOOP_LE_CFG_MODE n) != 0)
    else if x == 9 then s.flag i F.PWM_AXEN_EN || (List.range 6).any (fun g => s.flag i (F.PWM_LG_CFG_EN g))
    else if x == 0xA then s.flag i F.FLUME_GSTAT_RUN
    else if x == 0xB then (List.range 4).any (fun n => s.flag i (F.FB_FB_CTRL_EN n) || !s.flag i (F.CAN_CAN_CTRL_HALT n))
    else false
  else (List.range 6).any (fun c => let st := s.ch (i - 2) c; st == Ch.on || st == Ch.softOff)

/-- A TYPE 2 request names a slice of a die of the part that BIST has not marked. -/
def State.sliceNamed (s : State) (d i x : Nat) : Bool :=
  s.hasDie i && decide (sliceId i 0 ≤ x) && decide (x < sliceId i 0 + slices i) &&
    !(if i == 1 then s.flag d F.BIST_MARK0_C1 || !s.runs 1 else if i < 2 then !s.runs i
      else s.bitOf d F.BIST_MARK1_D (i - 2) || !s.runsD (i - 2))

/-- Why a request is refused, Table 15-5 in its order; 0 when accepted. -/
def State.reqRefusal (s : State) (d t x i : Nat) : Nat :=
  if (s.c d).bist.req.isSome || s.flag d F.LOOP_GSTAT_COPYING || (t == 2 && s.sliceNamed d i x && s.sliceBusy i x) then 1
  else if t == 2 && s.lc d != 1 && s.lc d != 3 then 2
  else if (t == 0 && s.flag d F.LOOP_GSTAT_NO_US) ||
      (t == 1 && decide (x < 32) && s.flag d (F.ADC_AG_STAT_NO_US (x / 8))) then 3
  else if t == 3 || (t == 0 && decide (63 ≤ x)) ||
      (t == 1 && (decide (32 ≤ x) || s.bitOf d (F.ADC_AG_STAT_RETIRED (x / 8)) (x % 8))) ||
      (t == 2 && !s.sliceNamed d i x) then 4
  else if t == 2 && s.dev != Dev.standby then 5
  else 0

/-- A write of BIST_REQ, R420. -/
def bistReqWrite (d : Nat) (v : Word) (s : State) : State :=
  let s := s.setReg d F.BIST_REQ_TYPE.off (v &&& 0x73F03#32)
  if F.BIST_REQ_GO.ofWord v == 0 then s
  else
    let t := F.BIST_REQ_TYPE.ofWord v
    let x := F.BIST_REQ_INDEX.ofWord v
    let i := F.BIST_REQ_DIE.ofWord v
    let code := s.reqRefusal d t x i
    let s := s.put d F.BIST_REQST_CODE code
    if code != 0 then s.on d F.BIST_EVT_REQREF
    else
      let s := modBist d (fun b => { b with req := some (t, x, i), at_ := if t == 2 then b.at_.set i (s.now d) else b.at_ }) s
      if t == 1 && s.get d (F.ADC_AG_STAT_US (x / 8)) == x % 8 && !s.testing d (1 + x / 8) then
        let b := (s.c d).prompt.lastBoundary
        serving d 1 x (refreshRot d (modBist d (fun y =>
          { y with tests := y.tests ++ [(1 + x / 8, x % 8)], svcAt := b + 1 }) s))
      else s

/-- R420. A write of BIST_REQ. -/
def execBistRequest (d : CDie) (v : Word) (s : State) : Out :=
  onCW d.val (own 0x30018) (bistReqWrite d.val v) s

/-- A write of BIST_ROT that a two-key sequence releases: PERIOD from 1 to 3,600 s. -/
def bistRotWrite (d : Nat) (m : Master) (v : Word) (s : State) : State :=
  let p := F.BIST_ROT_PERIOD.ofWord v
  tkWriteIf (decide (1 ≤ p) && decide (p ≤ 3600)) (fun s => s.on d F.BIST_EVT_WRREF) d m (own F.BIST_ROT_PERIOD.off) d
    F.BIST_ROT_PERIOD.off v (protWrite d F.BIST_ROT_PERIOD.off v false) s

end Sys2Proof.Machine
end

