-- ==== Sys2Proof/Machine/CanOps.lean ====
section
/-! DEFINITION. CAN controllers: the record of a controller, its message RAM in memory, its event bits, its error counters
and the end of a frame (R453 to R455, R462), the cycle time (R463), and starting and stopping (R453). -/

namespace Sys2Proof.Machine

/-- A controller's record, and a change of it. -/
def State.can (s : State) (d n : Nat) : CanC := (s.c d).can.at n
def modCan (d n : Nat) (f : CanC → CanC) (s : State) : State := s.modC d (fun c => { c with can := c.can.mod n f })

/-- Bits of CAN_CANn_EVT, Table 17-5. -/
abbrev CanEv.q0new := 0
abbrev CanEv.q0lost := 2
abbrev CanEv.sent := 4
abbrev CanEv.teqnew := 5
abbrev CanEv.ttref := 6
abbrev CanEv.arddone := 7
abbrev CanEv.warn := 8
abbrev CanEv.passive := 9
abbrev CanEv.busoff := 10
abbrev CanEv.buson := 11
abbrev CanEv.naklim := 12
abbrev CanEv.ptmo := 13
abbrev CanEv.tterr := 14
abbrev CanEv.resevt := 15
abbrev CanEv.cfgerr := 16
abbrev CanEv.wrref := 17
abbrev CanEv.clrref := 18
abbrev CanEv.teqlost := 19

/-- An event bit set. -/
def canEvt (d n b : Nat) (s : State) : State := s.putBit d (F.CAN_CAN_EVT n) b true

/-- Modes of Table 17-2. -/
abbrev CanMode.normal := 0
abbrev CanMode.listen := 1
abbrev CanMode.restrict := 2
abbrev CanMode.loopInt := 3
abbrev CanMode.loopExt := 4
abbrev CanMode.ard := 5

def State.canMode (s : State) (d n : Nat) : Nat := s.get d (F.CAN_CAN_CTRL_MODE n)
def State.canHalted (s : State) (d n : Nat) : Bool := s.flag d (F.CAN_CAN_CTRL_HALT n)

/-- The controller is out of its block reset, clocked, and not on the backup oscillator (R72, R84). -/
def State.canLive (s : State) (d n : Nat) : Bool :=
  !s.bitOf d F.SYS_BRST_CAN n && s.bitOf d F.SYS_CLKGATE_CAN n && s.fabric d

/-- It takes part in the bus: started, synchronised and not bus-off. -/
def State.canOnBus (s : State) (d n : Nat) : Bool :=
  s.canLive d n && !s.canHalted d n && !s.flag d (F.CAN_CAN_STAT_OFF n) && s.flag d (F.CAN_CAN_STAT_ACTY n)

/-- The stage time counts of a nominal bit time: PRE × (1 + PH1 + PH2) periods of 12.5 ns. -/
def State.canNtu (s : State) (d n : Nat) : Nat :=
  5 * (s.get d (F.CAN_CAN_ARBT_PRE n) + 1) * (s.get d (F.CAN_CAN_ARBT_PH1 n) + s.get d (F.CAN_CAN_ARBT_PH2 n) + 3)

/-- TTSTAT.CTIME counts nominal bit times from the sync mark, R463. -/
def canTime (d n : Nat) (s : State) : State :=
  let k := (s.can d n).sync
  if k == 0 then s
  else s.put d (F.CAN_CAN_TTSTAT_CTIME n) ((s.now d - (k - 1)) / s.canNtu d n % 65536)

/-- The cycle times of the controllers of a die that have a sync mark. -/
def canClock (d : Nat) (s : State) : State := overL ((s.c d).can.map (·.1)) (canTime d) s

/-- The controller stops, R453: pending transmissions and FIFO contents are kept. -/
def canStop (d n : Nat) (s : State) : State :=
  let s := (s.on d (F.CAN_CAN_CTRL_HALT n)).put d (F.CAN_CAN_STAT_ACTY n) 0
  let s := s.put d (F.CAN_CAN_TTSTAT_STATE n) (b2n (s.flag d (F.CAN_CAN_TTCFG_ROLE n)))
  modCan d n (fun x => { x with haltReq := false, tx := none, sync := 0, window := 0, refDue := false }) s

/-- The frame in progress ends: the bus is idle, and a halt that waited takes effect. -/
def canFrameEnd (d n : Nat) (s : State) : State :=
  let s := modCan d n (fun x => { x with tx := none }) (s.put d (F.CAN_CAN_STAT_ACTY n) 1)
  if (s.can d n).haltReq then canStop d n s else s

/-- WARN, PASSIVE and RXPASS follow the counters, with their events and the error-passive fault (R462, R468). -/
def canFlags (d n : Nat) (s : State) : State :=
  let t := s.get d (F.CAN_CAN_ERRC_TXCNT n)
  let r := s.get d (F.CAN_CAN_ERRC_RXCNT n)
  let warn := decide (96 ≤ t) || decide (96 ≤ r)
  let passive := decide (128 ≤ t) || decide (128 ≤ r)
  let s := s.put d (F.CAN_CAN_ERRC_RXPASS n) (b2n (decide (128 ≤ r)))
  let s := if warn == s.flag d (F.CAN_CAN_STAT_WARN n) then s
    else canEvt d n CanEv.warn (s.put d (F.CAN_CAN_STAT_WARN n) (b2n warn))
  if passive == s.flag d (F.CAN_CAN_STAT_PASSIVE n) then s
  else
    let s := canEvt d n CanEv.passive (s.put d (F.CAN_CAN_STAT_PASSIVE n) (b2n passive))
    if passive then latchFault d Fg.can (8 * n) true s else endActive d Fg.can (8 * n) s

/-- The transmit counter above 255, R462: bus-off; the frame is given up, and what is pending stays. -/
def canBusOff (d n : Nat) (s : State) : State :=
  let s := (s.on d (F.CAN_CAN_STAT_OFF n)).put d (F.CAN_CAN_STAT_ACTY n) 0
  let s := canEvt d n CanEv.busoff (s.put d (F.CAN_CAN_STAT_RECSEQ n) 0)
  let s := modCan d n (fun x => { x with tx := none }) s
  let s := if (s.can d n).haltReq then canStop d n s else s
  latchFault d Fg.can (8 * n + 1) true s

/-- The transmit or the receive counter rises. RESTRICT leaves both as they are (Table 17-2). -/
def canRaise (d n : Nat) (sender : Bool) (k : Nat) (s : State) : State :=
  if s.canMode d n == CanMode.restrict then s
  else
    let s := if sender then s.put d (F.CAN_CAN_ERRC_TXCNT n) (min 256 (s.get d (F.CAN_CAN_ERRC_TXCNT n) + k))
      else s.put d (F.CAN_CAN_ERRC_RXCNT n) (min 255 (s.get d (F.CAN_CAN_ERRC_RXCNT n) + k))
    let s := canFlags d n s
    if sender && s.get d (F.CAN_CAN_ERRC_TXCNT n) == 256 then canBusOff d n s else s

/-- The transmit or the receive counter falls after a frame without error: by 1, and a receive counter above 127 takes a
value from 119 to 127, which ISO 11898-1 leaves open (a free value). -/
def canLower (d n : Nat) (sender : Bool) (s : State) : State :=
  if s.canMode d n == CanMode.restrict then s
  else if sender then canFlags d n (s.put d (F.CAN_CAN_ERRC_TXCNT n) (s.get d (F.CAN_CAN_ERRC_TXCNT n) - 1))
  else
    let r := s.get d (F.CAN_CAN_ERRC_RXCNT n)
    if 127 < r then canFlags d n ((s.put d (F.CAN_CAN_ERRC_RXCNT n) (119 + s.freeWord % 9)).drawn)
    else canFlags d n (s.put d (F.CAN_CAN_ERRC_RXCNT n) (r - 1))

/-- An error is noted: LASTERR, LASTERRD in a data phase, TOTAL (Table 17-5). -/
def canNote (d n code : Nat) (data : Bool) (s : State) : State :=
  let s := s.put d (F.CAN_CAN_STAT_LASTERR n) code
  let s := if data then s.put d (F.CAN_CAN_STAT_LASTERRD n) code else s
  s.count d (F.CAN_CAN_ERRC_TOTAL n) 1

/-! ### Transmission -/

/-- The RAM offset of the element a source sends. -/
def State.canElem (s : State) (d n src : Nat) : Nat :=
  if src == 0 then 0xC800 + 72 * ((s.can d n).fifo.headD 0) else if src == 1 then 0xFE00 else 0xFE48

/-- A source has something pending: the FIFO, or mailbox src − 1. -/
def State.canPends (s : State) (d n src : Nat) : Bool :=
  if src == 0 then !(s.can d n).fifo.isEmpty else s.bitOf d (F.CAN_CAN_MBCTRL_PEND n) (src - 1)

/-- TXFS follows the pending elements. -/
def canFree (d n : Nat) (s : State) : State :=
  let k := (s.can d n).fifo.length
  (s.put d (F.CAN_CAN_TXFS_FREE n) (192 - k)).put d (F.CAN_CAN_TXFS_FULL n) (b2n (decide (192 ≤ k)))

/-- A source is done with its present frame: the FIFO moves on, a mailbox is free. The next frame starts its count at 0. -/
def canDone (d n src : Nat) (s : State) : State :=
  let s := modCan d n (fun x =>
    { x with nak := x.nak.set src 0, nakHit := x.nakHit.set src false, sofs := x.sofs.set src 0 }) s
  if src == 0 then canFree d n (modCan d n (fun x => { x with fifo := x.fifo.drop 1 }) s)
  else if src == 3 then modCan d n (fun x => { x with refDue := false }) s
  else s.putBit d (F.CAN_CAN_MBCTRL_PEND n) (src - 1) false

/-- The identifier, EXT and REM of header word 0 as the frame is sent (R455, R461): a base identifier has 11 bits, and an FD
frame is a data frame. -/
def canSentId (w0 : Nat) (fden : Bool) : Nat :=
  let ext := bit w0 29
  let id := if ext then w0 % 2 ^ 29 else w0 % 2 ^ 11
  id + 2 ^ 29 * b2n ext + 2 ^ 30 * b2n (bit w0 30 && !(bit w0 31 && fden))

/-- Outcomes of a TX event, R461. -/
abbrev TxOut.sent := 0
abbrev TxOut.cancelled := 1
abbrev TxOut.cancelErr := 2
abbrev TxOut.nakAbort := 3

/-- Bits 26:14 of a stage time. -/
def canTs (t : Nat) : Nat := t / 2 ^ 14 % 2 ^ 13

/-- A TX event of R461 for header words w0, w1, stored when LOG is 1. A frame that never started has no start of frame: its TS
is a free value. -/
def canEvent (d n src w0 w1 sof1 outcome : Nat) (s : State) : State :=
  if !bit w1 17 then s
  else
    let ts := if sof1 == 0 then s.freeWord % 2 ^ 13 else canTs (sof1 - 1)
    let s := if sof1 == 0 then s.drawn else s
    let lev := s.get d (F.CAN_CAN_TEQST_LEVEL n)
    if 64 ≤ lev then canEvt d n CanEv.teqlost s
    else
      let at_ := canRam n (0x7C00 + 8 * ((s.get d (F.CAN_CAN_TEQST_RDIDX n) + lev) % 64))
      let s := s.wr32 d at_ (canSentId w0 (s.flag d (F.CAN_CAN_CTRL_FDEN n)))
      let s := s.wr32 d (at_ + 4) (src + 4 * outcome + 512 * (w1 / 512 % 256) + 2 ^ 19 * ts)
      canEvt d n CanEv.teqnew (s.put d (F.CAN_CAN_TEQST_LEVEL n) (lev + 1))

/-- The pending frame of a source is dropped with an outcome: its event, and the source moves on. -/
def canDropFrame (d n src outcome : Nat) (s : State) : State :=
  let a := canRam n (s.canElem d n src)
  canDone d n src (canEvent d n src (s.rd32 d a) (s.rd32 d (a + 4)) ((s.can d n).sofs.at src) outcome s)

/-- An error ends the attempt of the frame being sent: it stays pending, or is dropped after a cancel that came too late
(R459). -/
def canAttemptLost (d n : Nat) (s : State) : State :=
  match (s.can d n).tx with
  | some x =>
    let s := if x.drop then canDone d n x.src (canEvent d n x.src x.w0 x.w1 (x.sof + 1) TxOut.cancelErr s) else s
    canFrameEnd d n s
  | none => canFrameEnd d n s

/-- A bus error on the controller, R462: the frame ends, the counter of its part rises by `k`, and an error in a rate
detection ends the row of good frames (R465). -/
def canError (d n code k : Nat) (data : Bool) (s : State) : State :=
  let sender := (s.can d n).tx.isSome
  let s := canNote d n code data s
  let s := modCan d n (fun x => { x with ardGood := 0 }) (canAttemptLost d n s)
  canRaise d n sender k s

/-! ### Starting and stopping -/

/-- Words 0 and 1 of trigger i of the trigger memory, R464. -/
def State.trigW (s : State) (d n i w : Nat) : Nat := s.rd32 d (canRam n (0x7E00 + 8 * i + 4 * w))

/-- Triggers in use. -/
def State.trigN (s : State) (d n : Nat) : Nat := min 64 (s.get d (F.CAN_CAN_TTTRIG_N n))

/-- The trigger list may run: TMARK ascends and no TYPE is 7 (R464). -/
def State.trigOk (s : State) (d n : Nat) : Bool :=
  (List.range (s.trigN d n)).all (fun i =>
    s.trigW d n i 0 / 65536 % 8 != 7 &&
      (i == 0 || decide (s.trigW d n (i - 1) 0 % 65536 < s.trigW d n i 0 % 65536)))

/-- The controller follows a schedule: SLAVE or MASTER, R463. -/
def State.canSched (s : State) (d n : Nat) : Bool := decide (2 ≤ s.get d (F.CAN_CAN_TTCFG_ROLE n))

/-- 11 recessive bits have passed: the controller is synchronised, R453. -/
def canSync (d n : Nat) (s : State) : State :=
  if s.canLive d n && !s.canHalted d n && !s.flag d (F.CAN_CAN_STAT_OFF n) && !s.flag d (F.CAN_CAN_STAT_ACTY n) then
    s.put d (F.CAN_CAN_STAT_ACTY n) 1
  else s

/-- A write of HALT = 0, R453: refused for a bad trigger list (R464); it starts rate detection in ARD (R465). -/
def canStart (d n : Nat) (s : State) : State :=
  if s.canHalted d n then
    if s.canSched d n && !s.trigOk d n then canEvt d n CanEv.cfgerr s
    else
      let s := s.off d (F.CAN_CAN_CTRL_HALT n)
      let s := if s.flag d (F.CAN_CAN_TTCFG_ROLE n) then s.put d (F.CAN_CAN_TTSTAT_STATE n) 2 else s
      let s := s.off d (F.CAN_CAN_TTSTAT_MASTER n)
      let s := modCan d n (fun x =>
        { x with refs := 0, refSeen := false, arrived := [], window := 0, ardK := 0, ardPass := 0, ardGood := 0, ardAt := s.now d, trigDone := 0 }) s
      if s.canMode d n == CanMode.ard then (s.put d (F.CAN_CAN_ARDST_STATE n) 1).put d (F.CAN_CAN_ARDST_IDX n) 0 else s
  else modCan d n (fun x => { x with haltReq := false }) s

/-- A write of HALT = 1, R453: at the end of the frame in progress, or at once. -/
def canHalt (d n : Nat) (s : State) : State :=
  if decide (2 ≤ s.get d (F.CAN_CAN_STAT_ACTY n)) then modCan d n (fun x => { x with haltReq := true }) s
  else canStop d n s

/-- A write of CAN_CANn_CTRL, R453, Table 17-2: the RWL fields as the controller stood, then HALT. -/
def canCtrlWrite (d n : Nat) (v : Word) (s : State) : State :=
  let off := 0x240000 + 0x10000 * n
  let halted := s.canHalted d n
  let bad := decide (6 ≤ v.toNat / 16 % 8)
  let keep := mergeW v 0x71 (mergeW (s.reg d off) (if bad then 0 else 0x70) v)
  let s := if bad then canEvt d n CanEv.cfgerr s else s
  let s := plainWrite d off keep halted s
  if bit v.toNat 0 then (if halted then s else canHalt d n s) else canStart d n s

end Sys2Proof.Machine
end

