-- ==== Sys2Proof/Machine/Flume.lean ====
section
/-! DEFINITION. The flume engine (R435 to R445): channel states, the descriptor fetch and its checks, the data that a
descriptor writes, completion. What touches the bus is in FlumeMove.lean. -/

namespace Sys2Proof.Machine

/-- FLUME_FLn_STAT.STATE, Table 16-1. -/
abbrev Fls.idle := 0
abbrev Fls.run := 1
abbrev Fls.ended := 2
abbrev Fls.error := 3
abbrev Fls.aborted := 4

/-- Codes of Table 16-5. -/
abbrev Dcode.descAddr := 1
abbrev Dcode.descEcc := 2
abbrev Dcode.rsvd := 3
abbrev Dcode.mode := 4
abbrev Dcode.len := 5
abbrev Dcode.align := 6
abbrev Dcode.addr := 7
abbrev Dcode.overlap := 8
abbrev Dcode.bus := 9
abbrev Dcode.abort := 0xA

/-- A channel's record, and a change of it. -/
def State.fl (s : State) (d n : Nat) : FlC := (s.c d).flume.at n
def modFl (d n : Nat) (f : FlC → FlC) (s : State) : State := s.modC d (fun c => { c with flume := c.flume.mod n f })

/-- The state of a channel. -/
def State.flState (s : State) (d n : Nat) : Nat := s.get d (F.FLUME_FL_STAT_STATE n)

/-- A channel's state set; the global registers follow (R448). -/
def putFlState (d n st : Nat) (s : State) : State :=
  let s := s.put d (F.FLUME_FL_STAT_STATE n) st
  let s := s.putBit d F.FLUME_GSTAT_RUN n (st == Fls.run)
  let s := s.putBit d F.FLUME_GSTAT_ERR n (st == Fls.error)
  s.putBit d F.FLUME_GSTAT2_ENDED n (st == Fls.ended)

/-- The channel goes on to the descriptor at an address. -/
def toDesc (d n addr : Nat) (s : State) : State :=
  modFl d n (fun x => { x with desc := none }) (putFlState d n Fls.run (s.put d (F.FLUME_FL_CUR n) addr))

/-- A START or a start cue, Table 16-1; the two in one fabric cycle make one start. -/
def flumeStart (d n : Nat) (s : State) : State :=
  if s.flag d F.SYS_BRST_FLUME then s
  else if !s.flag d (F.FLUME_FL_CFG_EN n) then s.on d (F.FLUME_FL_EVT_WRREF n)
  else if s.flState d n == Fls.run then
    if (s.fl d n).startAt == some (s.now d) then s else s.on d (F.FLUME_FL_EVT_STARTDROP n)
  else modFl d n (fun x => { x with first := true, startAt := some (s.now d) }) (toDesc d n (s.get d (F.FLUME_FL_HEAD n) * 32) s)

/-- R435. A write of 1 to FLUME_FLn_CTRL.START, or the cue 0x70 + n. -/
def execFlumeStart (d : CDie) (n : Fin 16) (s : State) : Out :=
  onCW d.val (own (0x90000 + 0x40 * n.val)) (flumeStart d.val n.val) s

/-- The tail's NEXT word is read again, R445: a link follows, or the channel rests in ENDED with DBNOP. -/
def reread (d n : Nat) (s : State) : State :=
  let next := s.rd32 d (s.get d (F.FLUME_FL_CUR n) + 0x10)
  if next % 2 == 0 then toDesc d n (next - next % 32) s
  else putFlState d n Fls.ended (s.on d (F.FLUME_FL_EVT_DBNOP n))

/-- A doorbell, Table 16-1, R445. -/
def flumeDoorbell (d n : Nat) (s : State) : State :=
  if s.flag d F.SYS_BRST_FLUME then s
  else if !s.flag d (F.FLUME_FL_CFG_EN n) then s.on d (F.FLUME_FL_EVT_WRREF n)
  else if s.flState d n == Fls.run then s.on d (F.FLUME_FL_STAT_DBPEND n)
  else if s.flState d n == Fls.ended then reread d n s
  else s.on d (F.FLUME_FL_EVT_DBNOP n)

/-- R444, R445. A write of 1 to FLUME_FLn_DB. -/
def execFlumeDoorbell (d : CDie) (n : Fin 16) (s : State) : Out :=
  onCW d.val (own (0x9000C + 0x40 * n.val)) (flumeDoorbell d.val n.val) s

/-! ### Descriptors -/

/-- Fields of a descriptor, Tables 16-2 and 16-3. -/
def DescW.mode (x : DescW) : Nat := x.ctrl % 8
def DescW.crc (x : DescW) : Nat := x.ctrl / 16 % 4
def DescW.crcst (x : DescW) : Bool := bit x.ctrl 6
def DescW.crccont (x : DescW) : Bool := bit x.ctrl 7
def DescW.cue (x : DescW) : Bool := bit x.ctrl 8
def DescW.n (x : DescW) : Nat := x.len % 2 ^ 24
def DescW.esz (x : DescW) : Nat := 2 ^ (x.p0 % 4)
def DescW.ns (x : DescW) : Nat := x.p0 / 16 % 16 + 1
def DescW.stride (x : DescW) : Nat := x.p1 % 2 ^ 24

/-- Length of the stored CRC. -/
def DescW.crcLen (x : DescW) : Nat := if x.crcst then (if x.crc == 1 then 4 else if x.crc == 2 then 2 else 0) else 0

/-- The length of a blocked side: from its first block start to the end of its last block, R439. -/
def DescW.blocked (x : DescW) : Nat := (x.ns - 1) * x.stride + x.n / x.ns

/-- The footprints, R437: source (none for FILL) and destination with the stored CRC. -/
def DescW.srcFoot (x : DescW) : Option (Nat × Nat) :=
  if x.mode == 1 then none else some (x.src, if x.mode == 2 then x.blocked else x.n)
def DescW.dstFoot (x : DescW) : Nat × Nat :=
  (x.dst, max (if x.mode == 3 then x.blocked else x.n) (if x.crcst then x.n + x.crcLen else 0))

/-- A footprint lies wholly within one region of a list. -/
def within (rs : List (Nat × Nat)) (f : Nat × Nat) : Bool :=
  rs.any (fun r => decide (r.1 ≤ f.1) && decide (f.1 + f.2 ≤ r.2))

/-- The peer-die windows, R33. -/
def peerWindows : List (Nat × Nat) := (List.range 8).map (fun i => (0x60000000 + 0x1000000 * i, 0x61000000 + 0x1000000 * i))

/-- The regions of R437 for a source and for a destination, as (base, end + 1). -/
def dstRegions : List (Nat × Nat) := [(0x20000000, 0x20600000), (0x40000000, 0x41000000)] ++ peerWindows
def srcRegions : List (Nat × Nat) := [(0, 0x40000), (0x10000000, 0x10C00000)] ++ dstRegions

/-- A footprint outside plain memory is not made of aligned 32-bit words, R438. -/
def misaligned (f : Nat × Nat) : Bool := decide (0x40000000 ≤ f.1) && (f.1 % 4 != 0 || f.2 % 4 != 0)

/-- Two footprints share a byte, R440. -/
def meets (f g : Nat × Nat) : Bool := decide (f.1 < g.1 + g.2) && decide (g.1 < f.1 + f.2)

/-- The code with which a descriptor ends at its fetch, Table 16-5 in its order; 0 when it may run (R436 to R440). -/
def DescW.check (x : DescW) : Nat :=
  let rsvd := decide (2 ^ 24 ≤ x.len) || decide (2 ^ 9 ≤ x.ctrl) || x.ctrl / 8 % 2 != 0 || x.next / 2 % 16 != 0 ||
    decide (2 ^ 8 ≤ x.p0) || x.p0 / 4 % 4 != 0 || decide (2 ^ 24 ≤ x.p1)
  let inter := x.mode == 2 || x.mode == 3
  let plane := x.mode == 4 || x.mode == 5
  let badLen := x.n == 0 || (inter && (decide (x.ns < 2) || x.n % (x.ns * x.esz) != 0 || decide (x.stride < x.n / x.ns) ||
    x.stride % x.esz != 0)) || (plane && x.n % 64 != 0)
  let unit := if inter then x.esz else if plane then 4 else 1
  let sides := x.srcFoot.toList ++ [x.dstFoot]
  let beyond := match x.srcFoot with
    | some f => meets f x.dstFoot
    | none => false
  if rsvd then Dcode.rsvd
  else if decide (5 < x.mode) || x.crc == 3 then Dcode.mode
  else if badLen then Dcode.len
  else if x.src % unit != 0 && x.mode != 1 || x.dst % unit != 0 || sides.any misaligned then Dcode.align
  else if !(x.srcFoot.toList.all (within srcRegions)) || !(within dstRegions x.dstFoot) then Dcode.addr
  else if beyond && (x.mode != 0 || x.crc != 0) then Dcode.overlap
  else 0

/-- The words of the descriptor at an address. -/
def State.descAt (s : State) (d a : Nat) : DescW :=
  ⟨s.rd32 d a, s.rd32 d (a + 4), s.rd32 d (a + 8), s.rd32 d (a + 12), s.rd32 d (a + 16), s.rd32 d (a + 20),
    s.rd32 d (a + 24)⟩

/-- Word WB of the descriptor at CUR is written (R436); the prompt ring takes no write of the engine (R476). -/
def writeBack (d n v : Nat) (s : State) : State :=
  let a := s.get d (F.FLUME_FL_CUR n)
  if inRing a then s else s.wr32 d (a + 0x1C) v

/-- A channel ends with an error, R442; `wb`: its descriptor was fetched. -/
def flumeError (d n code : Nat) (wb : Bool) (s : State) : State :=
  let s := if wb then writeBack d n code s else s
  let s := (s.put d (F.FLUME_FL_STAT_CODE n) code).on d (F.FLUME_FL_EVT_ERR n)
  modFl d n (fun x => { x with desc := none }) (putFlState d n Fls.error s)

/-- The CRC register after bytes, by type, R441. -/
def crcRun (t reg : Nat) (bs : List Nat) : Nat :=
  if t == 1 then bs.foldl crc32Byte reg else bs.foldl (fun c b => (bitsMsb 8 b).foldl (crcMsbBit 16 0x1021) c) reg

/-- Where the running register starts, R441. -/
def FlC.crcStart (c : FlC) (x : DescW) : Nat :=
  if x.crccont && !c.first && c.crcType == x.crc then c.crcReg else if x.crc == 1 then 0xFFFFFFFF else 0xFFFF

/-- The descriptor at CUR is fetched and checked, R436 to R440; `ecc`: an uncorrectable error in the fetch. -/
def descFetch (d n : Nat) (ecc : Bool) (s : State) : State :=
  if s.flState d n == Fls.run && (s.fl d n).desc.isNone then
    let a := s.get d (F.FLUME_FL_CUR n)
    if a % 32 != 0 || !(decide (0x20000000 ≤ a) && decide (a + 32 ≤ 0x20600000)) then flumeError d n Dcode.descAddr false s
    else if ecc then flumeError d n Dcode.descEcc false s
    else
      let x := s.descAt d a
      let s := s.put d (F.FLUME_FL_REMAIN n) x.n
      if x.check != 0 then flumeError d n x.check true s
      else modFl d n (fun y => { y with desc := some x, moved := 0, held := [], crcReg := y.crcStart x }) s
  else s

/-- R436 to R440. A channel in RUN fetches the descriptor at FLUME_FLn_CUR. -/
def execDescriptorFetch (d : CDie) (n : Fin 16) (ecc : Bool) (s : State) : Out := onC d.val (descFetch d.val n.val ecc) s

/-! ### The data -/

/-- Bytes a to a + n of a list. -/
def sub (xs : List Nat) (a n : Nat) : List Nat := (xs.drop a).take n

/-- Byte k of a descriptor's data in ascending destination order (R439), from a reader of the source bytes by their offset in
the source footprint. -/
def DescW.byteAt (x : DescW) (rd : Nat → Nat) (k : Nat) : Nat :=
  let per := x.n / x.ns
  let g := k - k % 64
  let q := k % 64
  match x.mode with
  | 1 => x.src / 256 ^ ((x.dst + k) % 4) % 256
  | 2 => rd (k / x.esz % x.ns * x.stride + k / x.esz / x.ns * x.esz + k % x.esz)
  | 3 => rd ((k % per / x.esz * x.ns + k / per) * x.esz + k % x.esz)
  | 4 => bitsOf 8 (fun i => bit (rd (g + 2 * (q % 4 * 8 + i) + q / 4 / 8)) (q / 4 % 8))
  | 5 => bitsOf 8 (fun b => bit (rd (g + 4 * (q % 2 * 8 + b) + q / 2 / 8)) (q / 2 % 8))
  | _ => rd k

/-- Where byte k of the data goes: its offset from DST, contiguous or in blocks of LEN/NS bytes, R439. -/
def DescW.dstOff (x : DescW) (k : Nat) : Nat :=
  if x.mode == 3 then k / (x.n / x.ns) * x.stride + k % (x.n / x.ns) else k

/-- The byte of the data that an offset from DST holds; none: a gap between blocks, or an offset past the data. -/
def DescW.atOff (x : DescW) (o : Nat) : Option Nat :=
  if x.mode == 3 then
    let per := x.n / x.ns
    if o % x.stride < per ∧ o / x.stride < x.ns then some (o / x.stride * per + o % x.stride) else none
  else if o < x.n then some o else none

/-- A COPY that runs descending, R440. -/
def DescW.descends (x : DescW) : Bool :=
  x.mode == 0 && decide (x.src < x.dst) && (match x.srcFoot with
    | some f => meets f x.dstFoot
    | none => false)

/-- The final value of a running register. -/
def crcFinal (t reg : Nat) : Nat := if t == 1 then reg ^^^ 0xFFFFFFFF else reg

/-- The bytes of the stored CRC, little-endian. -/
def DescW.crcBytes (x : DescW) (v : Nat) : List Nat := (wordBytes v).take x.crcLen

/-- A descriptor completes once its data and its CRC are written, R442 steps 2 and 3, R441: WB, the count, the cue. -/
def descDone (d n : Nat) (x : DescW) (s : State) : State :=
  let reg := (s.fl d n).crcReg
  let s := writeBack d n 0x80000000 s
  let s := (s.count d (F.FLUME_FL_DCNT n) 1).put d (F.FLUME_FL_REMAIN n) 0
  let s := s.put d (F.FLUME_FL_STAT_CODE n) 0
  let s := if x.crc == 0 then s else s.put d (F.FLUME_FL_CRC n) (crcFinal x.crc reg)
  let s := modFl d n (fun y => { y with desc := none, first := false, crcType := x.crc }) s
  if x.cue then fireCue d (0xB0 + n) s else s

/-- The channel follows the NEXT word it latched, R445. -/
def follow (d n : Nat) (x : DescW) (s : State) : State :=
  if x.next % 2 == 0 then toDesc d n (x.next - x.next % 32) s
  else if s.flag d (F.FLUME_FL_STAT_DBPEND n) then reread d n (s.off d (F.FLUME_FL_STAT_DBPEND n))
  else putFlState d n Fls.ended s

/-- The final write of a channel's descriptor has been accepted, R442 step 1: its data are written and no CRC is stored. -/
def State.allMoved (s : State) (d n : Nat) : Bool :=
  match (s.fl d n).desc with
  | some x => !x.crcst && decide (x.n ≤ (s.fl d n).moved)
  | none => false

/-- An abort in RUN that comes after the final write, R443: completion stands and the channel stops. -/
def abortLate (d n : Nat) (x : DescW) (s : State) : State :=
  let s := putFlState d n Fls.aborted (descDone d n x s)
  (s.put d (F.FLUME_FL_STAT_ABRES n) 2).on d (F.FLUME_FL_EVT_LATE n)

/-- An abort in RUN that wins, R443: no further access; WB if the descriptor was fetched. -/
def abortWon (d n : Nat) (s : State) : State :=
  let s := if (s.fl d n).desc.isSome then writeBack d n (0x40000000 + Dcode.abort) s else s
  let s := (s.put d (F.FLUME_FL_STAT_ABRES n) 1).put d (F.FLUME_FL_STAT_CODE n) Dcode.abort
  modFl d n (fun x => { x with desc := none }) (putFlState d n Fls.aborted s)

/-- A write of 1 to ABORT, Table 16-1; `inRun` is what it does in RUN. -/
def flumeAbort (d n : Nat) (inRun : State → State) (s : State) : State :=
  if s.flag d F.SYS_BRST_FLUME then s
  else if !s.flag d (F.FLUME_FL_CFG_EN n) then s.on d (F.FLUME_FL_EVT_WRREF n)
  else
    let st := s.flState d n
    if st == Fls.run then inRun s
    else
      let s := s.put d (F.FLUME_FL_STAT_ABRES n) 3
      if st == Fls.ended || st == Fls.error then putFlState d n Fls.idle s else s

/-- An abort in RUN as the bursts stand, R443. -/
def abortNow (d n : Nat) (s : State) : State :=
  match (s.fl d n).desc with
  | some x => if s.allMoved d n then abortLate d n x s else abortWon d n s
  | none => abortWon d n s

/-- A write of a FLUME register at an offset of its block: an abort finds of the descriptor what its bursts have written. -/
def flumeWrite (d o : Nat) (v : Word) (s : State) : State :=
  let n := o / 0x40
  let off := 0x90000 + o
  if 0x400 ≤ o || s.flag d F.SYS_BRST_FLUME then s
  else if o % 0x40 == 0 then
    let s := onlyIf (bit v.toNat 0) (flumeStart d n) s
    onlyIf (bit v.toNat 1) (flumeAbort d n (abortNow d n)) s
  else if o % 0x40 == 0xC then onlyIf (bit v.toNat 0) (flumeDoorbell d n) s
  else plainWrite d off v (s.flState d n != Fls.run) s

/-- SYS_BRST.FLUME, R84, R435: the engine is reset; every channel is IDLE at once, with no write-back and no cue. -/
def flumeReset (d : Nat) (s : State) : State :=
  let lo := regKey d 0x90000
  let s := { s with regs := s.regs.filter (fun e => decide (e.1 < lo) || decide (lo + 0x10000 ≤ e.1)) }
  s.modC d (fun c => { c with flume := [] })

end Sys2Proof.Machine
end

