-- ==== Sys2Proof/Machine/Can.lean ====
section
/-! DEFINITION. The CAN FD controllers (R449 to R470): starting and stopping, reception, transmission, errors,
time-triggered operation, rate detection and partner supervision. -/

namespace Sys2Proof.Machine

/-! ### Starting and stopping -/

/-- A command that is a write to an offset of CANn; held in its block reset, the controller takes none (R84). -/
def onCanW (d n off : Nat) (f : State → State) (s : State) : Out :=
  onCW d (own (0x240000 + 0x10000 * n + off)) (fun s => if s.bitOf d F.SYS_BRST_CAN n then s else f s) s

/-- R453. A write of HALT = 1 to CAN_CANn_CTRL. -/
def execCanHalt (d : CDie) (n : Fin 4) (s : State) : Out :=
  onCanW d.val n.val 0 (canHalt d.val n.val) s

/-- R453, R464, R465. A write of HALT = 0 to CAN_CANn_CTRL; `bits`: 11 recessive bits follow it on the bus. -/
def execCanStart (d : CDie) (n : Fin 4) (bits : Bool) (s : State) : Out :=
  onCanW d.val n.val 0 (fun s =>
    let s := canStart d.val n.val s
    if bits then canSync d.val n.val s else s) s

/-! ### Bit timing -/

/-- Whether an arbitration-phase timing is accepted, R451. -/
def arbtOk (v : Nat) : Bool :=
  let sjw := v % 128 + 1
  let ph2 := v / 128 % 128 + 1
  let ph1 := v / 16384 % 256 + 1
  let pre := v / 4194304 % 512 + 1
  decide (2 ≤ ph2) && decide (2 ≤ ph1) && decide (sjw ≤ ph2) && decide (80 ≤ pre * (1 + ph1 + ph2))

/-- Whether a data-phase timing is accepted, R451. -/
def fdtOk (v : Nat) : Bool :=
  let pre := v % 32 + 1
  let ph1 := v / 256 % 32 + 1
  let ph2 := v / 65536 % 16 + 1
  let sjw := v / 16777216 % 16 + 1
  decide (sjw ≤ ph2) && decide (10 ≤ pre * (1 + ph1 + ph2))

/-- A write of ARBT or (`data`) FDT, R451. -/
def canTiming (d n : Nat) (data : Bool) (v : Word) (s : State) : State :=
  let off := (if data then 0x240010 else 0x24000C) + 0x10000 * n
  if s.canHalted d n && !(if data then fdtOk v.toNat else arbtOk v.toNat) then canEvt d n CanEv.cfgerr s
  else plainWrite d off v (s.canHalted d n) s

/-- R451. A write of CAN_CANn_ARBT, or with `data` of CAN_CANn_FDT. -/
def execCanBitTimingWrite (d : CDie) (n : Fin 4) (data : Bool) (v : Word) (s : State) : Out :=
  onCanW d.val n.val (if data then 0x10 else 0xC) (canTiming d.val n.val data v) s

/-! ### Partner entries -/

/-- The offset of a partner entry, and the entries of a controller whose word at offset o is listed with a test. -/
def ptOff (n f : Nat) : Nat := 0x241000 + 0x10000 * n + 0x10 * f
def State.ptWith (s : State) (d n o : Nat) (p : Word → Bool) : List Nat :=
  s.regs.filterMap (fun e =>
    let k := regKey d (ptOff n 0 + o)
    if k ≤ e.1 ∧ e.1 < k + 0x2000 ∧ (e.1 - k) % 16 = 0 ∧ p e.2 then some ((e.1 - k) / 16) else none)

/-- PTSUM and PTSCH follow the entries, R466, R467. -/
def ptRefresh (d n : Nat) (s : State) : State :=
  let tmo := s.ptWith d n 4 (fun w => (F.CAN_CAN_PT_STAT_TIMEOUT 0 0).ofWord w == 1)
  let sch := (s.ptWith d n 0 (fun w => (F.CAN_CAN_PT_CFG_EN 0 0).ofWord w == 1 && (F.CAN_CAN_PT_CFG_SCHEN 0 0).ofWord w == 1)).filter
    (fun f => s.flag d (F.CAN_CAN_PT_STAT_ALIVE n f))
  let s := s.put d (F.CAN_CAN_PTSUM_NTMO n) tmo.length
  let s := s.put d (F.CAN_CAN_PTSUM_FIRST n) (tmo.headD 0)
  let s := s.put d (F.CAN_CAN_PTSUM_ANY n) (b2n (!tmo.isEmpty))
  let s := s.put d (F.CAN_CAN_PTSCH_VALID n) (b2n (!sch.isEmpty))
  let min_ := sch.foldl (fun m f => min m (s.get d (F.CAN_CAN_PT_STAT_SCHEMA n f))) 255
  let s := s.put d (F.CAN_CAN_PTSCH_MIN n) (if sch.isEmpty then 0 else min_)
  if tmo.isEmpty then endActive d Fg.can (8 * n + 3) s else s

/-- A frame accepted for partner entry f, R466. -/
def ptFrame (d n f t : Nat) (data : List Nat) (s : State) : State :=
  if !s.flag d (F.CAN_CAN_PT_CFG_EN n f) then s
  else
    let s := s.put d (F.CAN_CAN_PT_LAST n f) (t % 2 ^ 32)
    let s := (s.count d (F.CAN_CAN_PT_STAT_COUNT n f) 1).on d (F.CAN_CAN_PT_STAT_ALIVE n f)
    let s := if s.flag d (F.CAN_CAN_PT_CFG_SCHEN n f) && !data.isEmpty then
      s.put d (F.CAN_CAN_PT_STAT_SCHEMA n f) (data.headD 0) else s
    ptRefresh d n (modCan d n (fun x => { x with lastAt := x.lastAt.set f (t + 1) }) s)

/-- An enabled entry is silent: its last frame lies more than TMO ms ago, or it has seen none since EN was set. -/
def State.ptSilent (s : State) (d n f : Nat) : Bool :=
  let k := (s.can d n).lastAt.at f
  k == 0 || decide (400000 * s.get d (F.CAN_CAN_PT_CFG_TMO n f) < s.now d - (k - 1))

/-- The check of an entry, R466: an entry already timed out does so again only after it has been alive. -/
def ptCheck (d n f : Nat) (s : State) : State :=
  if s.ptSilent d n f && (s.flag d (F.CAN_CAN_PT_STAT_ALIVE n f) || !s.flag d (F.CAN_CAN_PT_STAT_TIMEOUT n f)) then
    let s := (s.off d (F.CAN_CAN_PT_STAT_ALIVE n f)).on d (F.CAN_CAN_PT_STAT_TIMEOUT n f)
    let s := canEvt d n CanEv.ptmo (fireCue d (0xA3 + 4 * n) s)
    latchFault d Fg.can (8 * n + 3) true s
  else s

/-- A millisecond (400,000 counts) has passed since the last check of the partners, R466. -/
def State.partnersDue (s : State) (d n : Nat) : Bool :=
  let t := (s.can d n).checkAt
  t == 0 || decide (t + 400000 ≤ s.now d + 1)

/-- R466, R467. The supervisor of controller n checks every enabled entry, once per millisecond. -/
def execPartnerCheck (d : CDie) (n : Fin 4) (s : State) : Out :=
  onC d.val (fun s =>
    if s.canLive d.val n.val && s.partnersDue d.val n.val then
      let s := modCan d.val n.val (fun x => { x with checkAt := s.now d.val + 1 }) s
      let fs := s.ptWith d.val n.val 0 (fun w => (F.CAN_CAN_PT_CFG_EN 0 0).ofWord w == 1)
      ptRefresh d.val n.val (overL fs (ptCheck d.val n.val) s)
    else s) s

/-- A write of 1 to TIMEOUT, R466. -/
def ptClear (d n f : Nat) (s : State) : State :=
  if !s.flag d (F.CAN_CAN_PT_STAT_TIMEOUT n f) then s
  else if s.flag d (F.CAN_CAN_PT_STAT_ALIVE n f) then ptRefresh d n (s.off d (F.CAN_CAN_PT_STAT_TIMEOUT n f))
  else canEvt d n CanEv.clrref s

/-- R466. A write of 1 to CAN_CANn_PTf_STAT.TIMEOUT. -/
def execPartnerTimeoutClear (d : CDie) (n : Fin 4) (f : Fin 512) (s : State) : Out :=
  onCanW d.val n.val (0x1004 + 16 * f.val) (ptClear d.val n.val f.val) s

/-- A write of PTf_CFG, R466, Table 17-6: TMO = 0 is refused for that field, a write of 1 to EN restarts the entry. -/
def ptCfgWrite (d n f : Nat) (v : Word) (s : State) : State :=
  let s := if v.toNat % 65536 == 0 then canEvt d n CanEv.wrref s else s.put d (F.CAN_CAN_PT_CFG_TMO n f) (v.toNat % 65536)
  let s := (s.put d (F.CAN_CAN_PT_CFG_EN n f) (b2n (bit v.toNat 16))).put d (F.CAN_CAN_PT_CFG_SCHEN n f) (b2n (bit v.toNat 17))
  let s := if bit v.toNat 16 then
      let s := (s.off d (F.CAN_CAN_PT_STAT_ALIVE n f)).off d (F.CAN_CAN_PT_STAT_SCHEMA n f)
      let s := (s.off d (F.CAN_CAN_PT_STAT_COUNT n f)).off d (F.CAN_CAN_PT_LAST n f)
      modCan d n (fun x => { x with lastAt := x.lastAt.set f 0 }) s
    else s
  ptRefresh d n s

/-! ### Reception -/

/-- The number of data bytes a DLC stands for, R455. -/
def canLen (fd : Bool) (dlc : Nat) : Nat :=
  if dlc ≤ 8 then dlc else if fd then [12, 16, 20, 24, 32, 48, 64].getD (dlc - 9) 64 else 8

/-- A frame with its length, as a controller stores it. -/
structure RxFrame where
  ext : Bool
  rem : Bool
  fd : Bool
  brs : Bool
  esi : Bool
  id : Nat
  data : List Nat
  len : Nat

/-- A received frame: an RTR bit with FDF = 1 is ignored (Table 17-1), a remote frame has no data. -/
def rxOf (x : CanFrame) : RxFrame :=
  let rem := x.rem && !x.fd
  let len := canLen x.fd x.dlc.val
  ⟨x.ext, rem, x.fd, x.brs && x.fd, x.esi && x.fd, if x.ext then x.id.toNat else x.id.toNat % 2 ^ 11,
    if rem then [] else (List.range len).map (fun i => (x.data.getD i 0).toNat), len⟩

/-- Filter f matches a frame, R456. -/
def State.fltHits (s : State) (d n : Nat) (x : RxFrame) (f : Nat) : Bool :=
  let act := s.get d (F.CAN_CAN_FLT_ACTION n f)
  let a := s.rd32 d (canRam n (8 * f)) % 2 ^ 29
  let b := s.rd32 d (canRam n (8 * f + 4)) % 2 ^ 29
  let hit := match s.get d (F.CAN_CAN_FLT_KIND n f) with
    | 0 => x.id == a
    | 1 => Nat.land x.id b == Nat.land a b
    | 2 => decide (a ≤ x.id) && decide (x.id ≤ b)
    | _ => x.id == a || x.id == b
  act != 0 && act != 7 && s.flag d (F.CAN_CAN_FLT_EXT n f) == x.ext && hit

/-- Elements of RX FIFO m, and its RAM offset, Table 17-3. -/
def rxSize (m : Nat) : Nat := if m == 0 then 384 else 256
def rxBase (m : Nat) : Nat := if m == 0 then 0x1000 else 0x8000

/-- A frame stored in FIFO m, R455, R457; `flt`: the accepting filter, none for a frame that no filter accepts. -/
def rxStore (d n m t : Nat) (flt : Option Nat) (x : RxFrame) (s : State) : State :=
  let lev := s.get d (F.CAN_CAN_RQST_LEVEL n m)
  if rxSize m ≤ lev then canEvt d n (CanEv.q0lost + m) s
  else
    let a := canRam n (rxBase m + 72 * ((s.get d (F.CAN_CAN_RQST_RDIDX n m) + lev) % rxSize m))
    let s := s.wr32 d a (x.id + 2 ^ 29 * b2n x.ext + 2 ^ 30 * b2n x.rem + 2 ^ 31 * b2n x.fd)
    let s := s.wr32 d (a + 4) (x.len + 2 ^ 7 * b2n x.brs + 2 ^ 8 * b2n x.esi + 2 ^ 9 * flt.getD 0 +
      2 ^ 18 * b2n flt.isNone + 2 ^ 19 * canTs t)
    let s := s.wrBytes d (a + 8) x.data
    let s := s.put d (F.CAN_CAN_RQST_LEVEL n m) (lev + 1)
    let s := s.put d (F.CAN_CAN_RQST_FULL n m) (b2n (decide (rxSize m ≤ lev + 1)))
    let s := canEvt d n (CanEv.q0new + m) s
    if m == 0 then fireCue d (0xA1 + 4 * n) s else s

/-- The action of the accepting filter, R456. -/
def fltAct (d n f t : Nat) (x : RxFrame) (s : State) : State :=
  let act := s.get d (F.CAN_CAN_FLT_ACTION n f)
  if act == 1 then s
  else
    let s := modCan d n (fun c => { c with arrived := if c.arrived.contains f then c.arrived else f :: c.arrived }) s
    let s := if act == 2 || act == 5 then rxStore d n 0 t (some f) x s
      else if act == 3 || act == 6 then rxStore d n 1 t (some f) x s else s
    if 4 ≤ act then ptFrame d n f t x.data s else s

/-- A frame goes through the filters, R456. -/
def canFilter (d n t : Nat) (x : RxFrame) (s : State) : State :=
  if x.rem && s.flag d (F.CAN_CAN_FLTCFG_REMREJ n) then s
  else
    match (List.range (min 512 (s.get d (F.CAN_CAN_FLTCFG_USED n)))).find? (s.fltHits d n x) with
    | some f => fltAct d n f t x s
    | none =>
      let k := s.get d (F.CAN_CAN_FLTCFG_NOMATCH n)
      if k == 1 then rxStore d n 0 t none x s else if k == 2 then rxStore d n 1 t none x s else s

/-- A valid reference message, sent (`mine`) or received, with its cycle count and sync mark, R463, R464. -/
def canRef (d n cyc t : Nat) (mine : Bool) (s : State) : State :=
  let s := s.put d (F.CAN_CAN_TTSTAT_CYC n) (cyc % 64)
  let s := s.put d (F.CAN_CAN_TTSTAT_MASTER n) (b2n mine)
  let s := modCan d n (fun c => { c with
    sync := t + 1, refs := min 2 (c.refs + 1), refSeen := true, refDue := false, refAt := s.now d + 1, trigDone := 0 }) s
  let s := s.put d (F.CAN_CAN_TTSTAT_STATE n) (if 2 ≤ (s.can d n).refs then 3 else 2)
  fireCue d (0xA0 + 4 * n) (canEvt d n CanEv.ttref (canTime d n s))

/-- The frame is a reference message: its identifier but for the three lowest bits, and a cycle count to carry (R463). -/
def State.isRef (s : State) (d n : Nat) (x : RxFrame) : Bool :=
  s.flag d (F.CAN_CAN_TTCFG_ROLE n) && !x.rem && !x.data.isEmpty && x.ext == s.flag d (F.CAN_CAN_TTREF_XTD n) &&
    x.id / 8 == s.get d (F.CAN_CAN_TTREF_ID n) / 8

/-- Rate detection has found candidate k, R465: it is copied, and the controller stops. -/
def ardFound (d n k : Nat) (s : State) : State :=
  let s := s.setReg d (0x24000C + 0x10000 * n) (BitVec.ofNat 32 (s.get d (F.CAN_CAN_ARDA n k) % 2 ^ 31))
  let s := s.setReg d (0x240010 + 0x10000 * n) (BitVec.ofNat 32 (Nat.land (s.get d (F.CAN_CAN_ARDF n k)) 0x8F0F1F1F))
  let s := (s.put d (F.CAN_CAN_ARDST_STATE n) 2).put d (F.CAN_CAN_ARDST_IDX n) k
  canStop d n (canEvt d n CanEv.arddone s)

/-- Two consecutive good frames under the present candidate, R465. -/
def ardFrame (d n : Nat) (s : State) : State :=
  if s.canMode d n == CanMode.ard && s.get d (F.CAN_CAN_ARDST_STATE n) == 1 then
    let g := (s.can d n).ardGood + 1
    if 2 ≤ g then ardFound d n (s.can d n).ardK s else modCan d n (fun x => { x with ardGood := g }) s
  else s

/-- A frame received without error, R455 to R457, R463, R466. -/
def canReceive (d n t : Nat) (x : RxFrame) (s : State) : State :=
  let s := canLower d n false s
  let s := if s.isRef d n x then canRef d n (x.data.headD 0 % 64) t false s else s
  ardFrame d n (canFrameEnd d n (canFilter d n t x s))

/-- The controller can receive from the bus: not the transmitter of a frame, not in internal loopback; rate detection only
while it runs. -/
def State.canHears (s : State) (d n : Nat) : Bool :=
  s.canOnBus d n && (s.can d n).tx.isNone && s.canMode d n != CanMode.loopInt &&
    (s.canMode d n != CanMode.ard || s.get d (F.CAN_CAN_ARDST_STATE n) == 1)

/-- R456. The frame that CANn receives, from its start of frame on, has come without error. A controller with FDEN = 0
takes no FD frame. -/
def execCanFrameReceive (d : CDie) (n : Fin 4) (frame : CanFrame) (s : State) : Out :=
  onC d.val (fun s =>
    if s.canHears d.val n.val && s.get d.val (F.CAN_CAN_STAT_ACTY n.val) == 2 &&
        !(frame.fd && !s.flag d.val (F.CAN_CAN_CTRL_FDEN n.val)) then
      canReceive d.val n.val (s.can d.val n.val).busSof (rxOf frame) s
    else s) s

/-- A write of UPTO to a queue of `size` elements, R457: frees up to the index, or is refused. -/
def canRelease (d n : Nat) (lev rd : Fld) (size i : Nat) (s : State) : State :=
  let k := (i + size - s.get d rd) % size
  if decide (size ≤ i) || decide (s.get d lev ≤ k) then canEvt d n CanEv.wrref s
  else (s.put d lev (s.get d lev - (k + 1))).put d rd ((i + 1) % size)

/-- A write of CAN_CANn_RQmREL, R457. -/
def rxRelease (d n m i : Nat) (s : State) : State :=
  let s := canRelease d n (F.CAN_CAN_RQST_LEVEL n m) (F.CAN_CAN_RQST_RDIDX n m) (rxSize m) i s
  s.put d (F.CAN_CAN_RQST_FULL n m) (b2n (decide (rxSize m ≤ s.get d (F.CAN_CAN_RQST_LEVEL n m))))

/-- R457. A write of CAN_CANn_RQmREL.UPTO. -/
def execRxFifoRelease (d : CDie) (n : Fin 4) (m : Fin 2) (i : BitVec 9) (s : State) : Out :=
  onCanW d.val n.val (0x2C + 8 * m.val) (rxRelease d.val n.val m.val i.toNat) s

/-- A write of CAN_CANn_TEQREL, R461. -/
def teqRelease (d n i : Nat) (s : State) : State :=
  canRelease d n (F.CAN_CAN_TEQST_LEVEL n) (F.CAN_CAN_TEQST_RDIDX n) 64 i s

/-- R461. A write of CAN_CANn_TEQREL.UPTO. -/
def execTxEventRelease (d : CDie) (n : Fin 4) (i : BitVec 6) (s : State) : Out :=
  onCanW d.val n.val 0x58 (teqRelease d.val n.val i.toNat) s

/-! ### Transmission -/

/-- A write of 1 to TXFQ, R458. -/
def txQueue (d n : Nat) (s : State) : State :=
  if s.get d (F.CAN_CAN_TXFS_FREE n) == 0 then canEvt d n CanEv.wrref s
  else
    let p := s.get d (F.CAN_CAN_TXFS_PUT n)
    let s := modCan d n (fun x => { x with fifo := x.fifo ++ [p] }) s
    canFree d n (s.put d (F.CAN_CAN_TXFS_PUT n) ((p + 1) % 192))

/-- R458. A write of 1 to CAN_CANn_TXFQ. -/
def execTxFifoQueue (d : CDie) (n : Fin 4) (s : State) : Out :=
  onCanW d.val n.val 0x3C (txQueue d.val n.val) s

/-- A write of MBCTRL.REQ, R458. -/
def mbRequest (d n req : Nat) (s : State) : State :=
  overN 2 (fun k s =>
    if !bit req k then s
    else if s.bitOf d (F.CAN_CAN_MBCTRL_PEND n) k then canEvt d n CanEv.wrref s
    else s.putBit d (F.CAN_CAN_MBCTRL_PEND n) k true) s

/-- R458. A write of CAN_CANn_MBCTRL.REQ. -/
def execMailboxRequest (d : CDie) (n : Fin 4) (req : BitVec 2) (s : State) : Out :=
  onCanW d.val n.val 0x44 (mbRequest d.val n.val req.toNat) s

/-- The TXCST field of a source. -/
def txcst (n src : Nat) : Fld :=
  if src == 0 then F.CAN_CAN_TXCST_FIFO n else if src == 1 then F.CAN_CAN_TXCST_MB0 n else F.CAN_CAN_TXCST_MB1 n

/-- Every FIFO element of a list of indices is cancelled, with its event. -/
def cancelAll (d n : Nat) (xs : List Nat) (s : State) : State :=
  overL xs (fun i s =>
    let a := canRam n (0xC800 + 72 * i)
    let sof := if (s.can d n).fifo.headD 192 == i then (s.can d n).sofs.at 0 else 0
    canEvent d n 0 (s.rd32 d a) (s.rd32 d (a + 4)) sof TxOut.cancelled s) s

/-- A cancel of a source, R459; `won`: the transmission on the bus has won arbitration. -/
def txCancel (d n src : Nat) (won : Bool) (s : State) : State :=
  let onBus := match (s.can d n).tx with
    | some x => x.src == src
    | none => false
  if !s.canPends d n src then s.put d (txcst n src) 0
  else if onBus && won then
    let s := modCan d n (fun x => { x with tx := x.tx.map (fun t => { t with drop := true }) }) s
    let s := if src == 0 then
        let rest := (s.can d n).fifo.drop 1
        canFree d n (modCan d n (fun x => { x with fifo := x.fifo.take 1 }) (cancelAll d n rest s))
      else s
    s.put d (txcst n src) 2
  else
    let s := if src == 0 then
        let s := cancelAll d n (s.can d n).fifo s
        canDone d n 0 (modCan d n (fun x => { x with fifo := [] }) s)
      else canDropFrame d n src TxOut.cancelled s
    let s := if onBus then (modCan d n (fun x => { x with tx := none }) s).put d (F.CAN_CAN_STAT_ACTY n) 2 else s
    s.put d (txcst n src) 1

/-- A write of TXCAN, R459. -/
def txCancels (d n bits : Nat) (won : Bool) (s : State) : State :=
  overN 3 (fun src s => if bit bits src then txCancel d n src won s else s) s

/-- R459. A write of CAN_CANn_TXCAN; `won`: a transmission on the bus has won arbitration. -/
def execTxCancel (d : CDie) (n : Fin 4) (bits : BitVec 3) (won : Bool) (s : State) : Out :=
  onCanW d.val n.val 0x4C (txCancels d.val n.val bits.toNat won) s

/-- The sources that may start a frame now: a reference that waits; under a schedule what its window allows (R464); else
whatever is pending. Mailboxes stand first, the FIFO last (R458). -/
def State.canCands (s : State) (d n : Nat) : List Nat :=
  let c := s.can d n
  if c.refDue then [3]
  else
    let open_ := fun src => !s.canSched d n || (if src == 0 then c.window == 3 else c.window == src)
    [1, 2, 0].filter (fun src => open_ src && s.canPends d n src)

/-- The identifier of word 0 as it competes: 11 bits followed by 18 zeros, or 29 bits, R458. -/
def canKey (w0 : Nat) : Nat := if bit w0 29 then w0 % 2 ^ 29 else w0 % 2 ^ 11 * 2 ^ 18

/-- The first source of a list with the lowest identifier. -/
def lowest (key : Nat → Nat) : List Nat → Option Nat
  | [] => none
  | x :: xs => some (xs.foldl (fun b y => if key y < key b then y else b) x)

/-- The length an FD frame is sent with, R455. -/
def fdLen (n : Nat) : Nat := ([0, 1, 2, 3, 4, 5, 6, 7, 8, 12, 16, 20, 24, 32, 48, 64].find? (fun l => decide (n ≤ l))).getD 64

/-- The frame of a source as it is sent from the stage time t, R455, R463. -/
def State.canFrame (s : State) (d n src t : Nat) : CanTx :=
  if src == 3 then
    let id := Nat.lor (s.get d (F.CAN_CAN_TTREF_ID n)) (s.get d (F.CAN_CAN_TTCFG_PRIO n))
    let cyc := if (s.can d n).refs == 0 then 0 else (s.get d (F.CAN_CAN_TTSTAT_CYC n) + 1) % 64
    ⟨3, id + 2 ^ 29 * s.get d (F.CAN_CAN_TTREF_XTD n), 1, [cyc], t, false⟩
  else
    let a := canRam n (s.canElem d n src)
    let w0 := s.rd32 d a
    let w1 := s.rd32 d (a + 4)
    let fd := bit w0 31 && s.flag d (F.CAN_CAN_CTRL_FDEN n)
    let len := w1 % 128
    let sent := if fd then fdLen len else min 8 len
    let data := if bit w0 30 && !fd then [] else (s.rdBytes d (a + 8) (min len sent)) ++ List.replicate (sent - len) 0
    ⟨src, w0, w1, data, t, false⟩

/-- The frame is an FD frame, and it switches its rate, R455. -/
def State.txFd (s : State) (d n : Nat) (x : CanTx) : Bool := bit x.w0 31 && s.flag d (F.CAN_CAN_CTRL_FDEN n) && x.src != 3
def State.txBrs (s : State) (d n : Nat) (x : CanTx) : Bool :=
  s.txFd d n x && bit x.w1 7 && s.flag d (F.CAN_CAN_CTRL_RATESW n)

/-- The mode sends frames. -/
def State.canSends (s : State) (d n : Nat) : Bool :=
  let m := s.canMode d n
  m == CanMode.normal || m == CanMode.loopInt || m == CanMode.loopExt

/-- The frame of a source starts, R452, R458: `lost` in arbitration, `meas` the delay measured in an FD frame. -/
def txStart (d n src : Nat) (lost : Bool) (meas : Nat) (s : State) : State :=
  let x := s.canFrame d n src (s.now d)
  let s := modCan d n (fun c =>
    { c with sofs := c.sofs.set src (x.sof + 1), window := if c.window == 1 || c.window == 2 then 0 else c.window }) s
  if lost && s.canMode d n != CanMode.loopInt then s.put d (F.CAN_CAN_STAT_ACTY n) 2
  else
    let s := modCan d n (fun c => { c with tx := some x }) (s.put d (F.CAN_CAN_STAT_ACTY n) 3)
    if s.txFd d n x && s.flag d (F.CAN_CAN_FDT_SSPEN n) then
      let s := s.put d (F.CAN_CAN_SSP_MEAS n) meas
      if s.txBrs d n x && decide (127 < meas + s.get d (F.CAN_CAN_SSP_OFS n)) then
        canError d n (1 + s.freeWord % 2) 8 true s.drawn
      else s
    else s

/-- A start of frame at an idle controller. -/
def canSof (d n : Nat) (lost : Bool) (meas : Nat) (s : State) : State :=
  let cands := if s.canSends d n then s.canCands d n else []
  let s := modCan d n (fun x => { x with busSof := s.now d }) s
  match lowest (fun src => canKey (s.canFrame d n src 0).w0) cands with
  | some src => txStart d n src lost meas s
  | none => if s.canMode d n == CanMode.loopInt then s else s.put d (F.CAN_CAN_STAT_ACTY n) 2

/-- R452, R455, R458. A start of frame on the bus of CANn: the controller sends the candidate with the lowest identifier, which
may lose arbitration (`lost`); without a candidate it receives. `meas`: the transceiver's loop delay in CAN clock periods,
measured when the frame sent is an FD frame. -/
def execCanStartOfFrame (d : CDie) (n : Fin 4) (lost : Bool) (meas : Fin 128) (s : State) : Out :=
  onC d.val (fun s =>
    if s.canOnBus d.val n.val && s.get d.val (F.CAN_CAN_STAT_ACTY n.val) == 1 then canSof d.val n.val lost meas.val s
    else s) s

/-- The frame on the bus as its own receiver sees it in loopback. -/
def State.txSeen (s : State) (d n : Nat) (x : CanTx) : RxFrame :=
  let id := canSentId x.w0 (s.flag d (F.CAN_CAN_CTRL_FDEN n))
  let fd := s.txFd d n x
  ⟨bit id 29, bit id 30, fd, s.txBrs d n x, fd && (bit x.w1 8 || s.flag d (F.CAN_CAN_STAT_PASSIVE n)), id % 2 ^ 29, x.data,
    if bit id 30 then min 8 (x.w1 % 128) else x.data.length⟩

/-- The frame being sent completes, R458, R461, R463. -/
def txDone (d n : Nat) (x : CanTx) (s : State) : State :=
  let loop := s.canMode d n == CanMode.loopInt || s.canMode d n == CanMode.loopExt
  let seen := s.txSeen d n x
  let s := canEvt d n CanEv.sent s
  let s := fireCue d (0xA2 + 4 * n) s
  let s := canEvent d n x.src x.w0 x.w1 (x.sof + 1) TxOut.sent (canLower d n true s)
  let s := canDone d n x.src s
  let s := if x.src == 3 then canRef d n (x.data.headD 0) x.sof true s else s
  let s := if loop then canFilter d n x.sof seen s else s
  canFrameEnd d n s

/-- R461. The last bit of the end-of-frame of the frame that CANn sends. -/
def execCanFrameSent (d : CDie) (n : Fin 4) (s : State) : Out :=
  onC d.val (fun s =>
    match (s.can d.val n.val).tx with
    | some x => if s.canOnBus d.val n.val then txDone d.val n.val x s else s
    | none => s) s

/-- NAKLIM and NAKABT of a source, R460; a reference has none. -/
def State.nakLim (s : State) (d n src : Nat) : Nat :=
  if src == 0 then s.get d (F.CAN_CAN_TXFCFG_NAKLIM n) else if src == 1 then s.get d (F.CAN_CAN_MBCFG_NAKLIM0 n)
  else if src == 2 then s.get d (F.CAN_CAN_MBCFG_NAKLIM1 n) else 0
def State.nakAbt (s : State) (d n src : Nat) : Bool :=
  if src == 0 then s.flag d (F.CAN_CAN_TXFCFG_NAKABT n) else if src == 1 then s.flag d (F.CAN_CAN_MBCFG_NAKABT0 n)
  else s.flag d (F.CAN_CAN_MBCFG_NAKABT1 n)

/-- An attempt ends in an ACK error, R459, R460: the transmit counter rises only while the controller is not error-passive. -/
def ackError (d n : Nat) (x : CanTx) (s : State) : State :=
  let passive := s.flag d (F.CAN_CAN_STAT_PASSIVE n)
  let k := (s.can d n).nak.at x.src + 1
  let lim := s.nakLim d n x.src
  let hit := lim != 0 && decide (lim ≤ k) && !(s.can d n).nakHit.at x.src
  let s := canNote d n 6 false s
  let s := modCan d n (fun c => { c with nak := c.nak.set x.src k }) s
  let s := if hit then
      latchFault d Fg.can (8 * n + 2) false
        (canEvt d n CanEv.naklim (modCan d n (fun c => { c with nakHit := c.nakHit.set x.src true }) s))
    else s
  let s := if hit && s.nakAbt d n x.src && !x.drop then
      canFrameEnd d n (canDone d n x.src (canEvent d n x.src x.w0 x.w1 (x.sof + 1) TxOut.nakAbort s))
    else canAttemptLost d n s
  if passive then s else canRaise d n true 8 s

/-- R460. The attempt of the frame that CANn sends ends in an ACK error; in loopback the controller acknowledges itself. -/
def execCanAckError (d : CDie) (n : Fin 4) (s : State) : Out :=
  onC d.val (fun s =>
    match (s.can d.val n.val).tx with
    | some x =>
      if s.canOnBus d.val n.val && s.canMode d.val n.val == CanMode.normal then ackError d.val n.val x s else s
    | none => s) s

/-! ### Errors -/

/-- R449, R462. A bus error at CANn: its code of Table 17-5 (1 to 5; 6 is the ACK error's command), or 7 for a recessive
res bit, which is a protocol exception unless RESERR makes it a form error; in a data phase; and how ISO 11898-1 weighs
it: 0 by the controller's part (transmitter 8, receiver 1), 1 by 8 for either, 2 not at all. -/
def execCanErrorDetected (d : CDie) (n : Fin 4) (code : Fin 8) (data : Bool) (weigh : Fin 3) (s : State) : Out :=
  onC d.val (fun s =>
    let d := d.val
    let n := n.val
    if s.canOnBus d n && ((s.can d n).tx.isSome || s.canHears d n) && code.val != 0 && code.val != 6 then
      if code.val == 7 && !s.flag d (F.CAN_CAN_CTRL_RESERR n) then
        canFrameEnd d n (canEvt d n CanEv.resevt s)
      else
        let k := if weigh.val == 2 then 0 else if weigh.val == 1 || (s.can d n).tx.isSome then 8 else 1
        canError d n (if code.val == 7 then 5 else code.val) k data s
    else s) s

/-- R462. `seqs` more sequences of 11 recessive bits have passed at a bus-off controller; at the 128th it returns to
error-active. -/
def execCanBusOn (d : CDie) (n : Fin 4) (seqs : BitVec 8) (s : State) : Out :=
  onC d.val (fun s =>
    let d := d.val
    let n := n.val
    if s.flag d (F.CAN_CAN_STAT_OFF n) && s.canLive d n then
      let k := min 128 (s.get d (F.CAN_CAN_STAT_RECSEQ n) + seqs.toNat)
      let s := s.put d (F.CAN_CAN_STAT_RECSEQ n) k
      if k < 128 then s
      else
        let s := (s.put d (F.CAN_CAN_ERRC_TXCNT n) 0).put d (F.CAN_CAN_ERRC_RXCNT n) 0
        let s := canEvt d n CanEv.buson (s.off d (F.CAN_CAN_STAT_OFF n))
        let s := endActive d Fg.can (8 * n + 1) (canFlags d n s)
        if s.canHalted d n then s else s.put d (F.CAN_CAN_STAT_ACTY n) 1
    else s) s

/-! ### Time-triggered operation -/

/-- The effect of a trigger by TYPE, R464. -/
def ttAct (d n i : Nat) (s : State) : State :=
  let ty := s.trigW d n i 0 / 65536 % 8
  let f := s.trigW d n i 1 / 65536 % 512
  let c := s.can d n
  let master := s.get d (F.CAN_CAN_TTCFG_ROLE n) == 3
  let miss := fun (s : State) => latchFault d Fg.can (8 * n + 4) false (canEvt d n CanEv.tterr s)
  let open_ := fun w (s : State) => modCan d n (fun x => { x with window := w }) s
  let s := modCan d n (fun x => { x with window := 0, arrived := [] }) s
  match ty with
  | 0 => if master then modCan d n (fun x => { x with refDue := true }) s else s
  | 1 => if s.canPends d n 1 then open_ 1 s else s
  | 2 => if s.canPends d n 2 then open_ 2 s else s
  | 3 => open_ 3 s
  | 4 => if c.arrived.contains f then s else miss s
  | 5 =>
    let s := modCan d n (fun x => { x with refSeen := false }) s
    if c.refSeen then s
    else miss (modCan d n (fun x => { x with refs := 0 }) (s.put d (F.CAN_CAN_TTSTAT_STATE n) 2))
  | 6 => if master then modCan d n (fun x => { x with refDue := true }) s else s
  | _ => canEvt d n CanEv.cfgerr s

/-- R464. The cycle time reaches TMARK of trigger i, which acts in the basic cycles c with c mod 2^REP = CYCOFS. -/
def execTtTrigger (d : CDie) (n : Fin 4) (i : Fin 64) (s : State) : Out :=
  onC d.val (fun s =>
    let d := d.val
    let n := n.val
    let s := canTime d n s
    if s.canOnBus d n && s.canSched d n && decide (i.val < s.trigN d n) &&
        s.get d (F.CAN_CAN_TTSTAT_CTIME n) == s.trigW d n i.val 0 % 65536 && decide ((s.can d n).trigDone ≤ i.val) &&
        s.get d (F.CAN_CAN_TTSTAT_CYC n) % 2 ^ (s.trigW d n i.val 1 % 8) == s.trigW d n i.val 0 / 2 ^ 24 % 64 then
      ttAct d n i.val (modCan d n (fun x => { x with trigDone := i.val + 1 }) s)
    else s) s

/-! ### Rate detection -/

/-- R465. The window of the candidate that CANn listens with ends, WIN ms (400,000 counts each) after it began: the next
candidate, the next pass, or the end. -/
def execArdCandidateWindow (d : CDie) (n : Fin 4) (s : State) : Out :=
  onC d.val (fun s =>
    let d := d.val
    let n := n.val
    let c := s.can d n
    if !s.canHalted d n && s.canMode d n == CanMode.ard && s.get d (F.CAN_CAN_ARDST_STATE n) == 1 &&
        decide (c.ardAt + 400000 * s.get d (F.CAN_CAN_ARDCTRL_WIN n) ≤ s.now d) then
      let s := modCan d n (fun x => { x with ardGood := 0, ardAt := s.now d }) s
      if c.ardK < s.get d (F.CAN_CAN_ARDCTRL_NCAND n) then modCan d n (fun x => { x with ardK := c.ardK + 1 }) s
      else if c.ardPass + 1 < s.get d (F.CAN_CAN_ARDCTRL_ROUNDS n) then
        modCan d n (fun x => { x with ardK := 0, ardPass := c.ardPass + 1 }) s
      else canEvt d n CanEv.arddone (s.put d (F.CAN_CAN_ARDST_STATE n) 3)
    else s) s

/-! ### Registers -/

/-- R469. A read of CAN_CANn_ERRC by a core, kept as the die's read data; TOTAL clears. -/
def execCanErrorCountRead (d : CDie) (n : Fin 4) (s : State) : Out :=
  onC d.val (fun s =>
    let v := s.reg d.val (0x240008 + 0x10000 * n.val)
    (s.modSys d.val (fun y => { y with rdata := v })).off d.val (F.CAN_CAN_ERRC_TOTAL n.val)) s

/-- Cue destination 0x8C + n, R468. -/
def canStamp (d n : Nat) (s : State) : State := s.put d (F.CAN_CAN_TSCAP n) (s.now32 d)

/-- A write of a register of controller n at an offset of its window (below 0x8000). -/
def canWrite (d n o : Nat) (v : Word) (s : State) : State :=
  let off := 0x240000 + 0x10000 * n + o
  let w := v.toNat
  let halted := s.canHalted d n
  if s.bitOf d F.SYS_BRST_CAN n then s
  else if o == 0 then canCtrlWrite d n v s
  else if o == 0xC then canTiming d n false v s
  else if o == 0x10 then canTiming d n true v s
  else if o == 0x24 then
    let bad := w / 4096 % 4 == 3
    let s := if bad then canEvt d n CanEv.wrref s else s
    plainWrite d off (if bad then mergeW v 0x3000 (s.reg d off) else v) halted s
  else if o == 0x2C then rxRelease d n 0 (w % 512) s
  else if o == 0x34 then rxRelease d n 1 (w % 512) s
  else if o == 0x3C then onlyIf (bit w 0) (txQueue d n) s
  else if o == 0x44 then mbRequest d n (w % 4) s
  else if o == 0x4C then txCancels d n (w % 8) false s
  else if o == 0x58 then teqRelease d n (w % 64) s
  else if o == 0x60 then
    let s := plainWrite d off v halted s
    if halted then s.put d (F.CAN_CAN_TTSTAT_STATE n) (b2n (s.flag d (F.CAN_CAN_TTCFG_ROLE n))) else s
  else if 0x1000 ≤ o ∧ o < 0x3000 ∧ o % 16 = 0 then ptCfgWrite d n ((o - 0x1000) / 16) v s
  else if 0x1000 ≤ o ∧ o < 0x3000 ∧ o % 16 = 4 then onlyIf (bit w 1) (ptClear d n ((o - 0x1000) / 16)) s
  else plainWrite d off v halted s

/-- The RAM offset that an access of the page window sees (R454), by the page of its requester. -/
def State.canPage (s : State) (d n : Nat) (m : Master) (o : Nat) : Nat :=
  let page := if m.pairA then s.get d (F.CAN_CAN_RAMPAGE_PA n) else if m.pairB then s.get d (F.CAN_CAN_RAMPAGE_PB n)
    else match m with
      | .flume _ => s.get d (F.CAN_CAN_RAMPAGE_FL n)
      | _ => 0
  0x8000 * page + o % 0x8000

/-- SYS_BRST.CAN bit n, R453, R470: the controller is reset; every FIFO is empty and every pending transmission lost. -/
def canReset (d n : Nat) (s : State) : State :=
  let lo := regKey d (0x240000 + 0x10000 * n)
  let s := { s with regs := s.regs.filter (fun e => decide (e.1 < lo) || decide (lo + 0x10000 ≤ e.1)) }
  let s := modCan d n (fun _ => default) s
  overL [0, 1, 3] (fun k s => endActive d Fg.can (8 * n + k) s) s

end Sys2Proof.Machine
end

