-- ==== Sys2Proof/Machine/Prompt.lean ====
section
/-! DEFINITION. The prompt book and the frame statistics (R471 to R487): flushes, the clear of the logs, software records,
the operating time, and supervisory frames. -/

namespace Sys2Proof.Machine

/-! ### Records and flushes -/

/-- A code that the device or software may write: one of Table 18-3, one of R510, or a software code (R482). -/
def codeKnown (c : Nat) : Bool :=
  [0x0001, 0x0002, 0x0003, 0x0010, 0x0011, 0x0012, 0x0020, 0x0021, 0x0030, 0x0031, 0x0032, 0x0040, 0x0041, 0x0042, 0x0043,
    0x0050, 0x0051, 0x0052, 0x0060, 0x0061, 0x0070, 0x0071, 0x0072, 0x0080].contains c ||
    (decide (0x0100 ≤ c) && decide (c < 0x0200)) || decide (0xF000 ≤ c)

/-- A die records the events of its own blocks and of the D dies it owns, R474. -/
def State.recordsFor (s : State) (d src : Nat) : Bool := src == d || (decide (2 ≤ src) && s.owns d (src - 2))

/-- R471, R474 to R476, R482. An event of die `src` is recorded by C die d: written to the ring, merged, or dropped. -/
def execRecordWrite (d : CDie) (src : DieIx) (blk : Fin 32) (code : BitVec 16) (inst : Byte) (sev : Fin 5)
    (w0 w1 w2 w3 : Word) (s : State) : Out :=
  onC d.val (fun s =>
    if codeKnown code.toNat && s.recordsFor d.val src.val then
      recordEvent d.val ⟨code.toNat, blk.val, src.val, inst.toNat, sev.val, w0.toNat, w1.toNat, w2.toNat, w3.toNat⟩ s
    else s) s

/-- R477, R478. A flush trigger on C die d. -/
def execFlushStart (d : CDie) (s : State) : Out := onC d.val (flushStart d.val) s

/-- A write of PROMPT_CTRL, R477. -/
def promptCtrl (d : Nat) (v : Word) (s : State) : State := if bit v.toNat 0 then flushStart d s else s

/-- R477. A write of PROMPT_CTRL. -/
def execPromptCtrlFlush (d : CDie) (v : Word) (s : State) : Out :=
  onCW d.val (own 0x50000) (promptCtrl d.val v) s

/-- The oldest unflushed record is written to MRAM, R476, R478: to the main log, or with HOT to the last-gasp area. -/
def flushOne (d : Nat) (hot : Bool) (s : State) : State :=
  let ix := s.get d F.PROMPT_RING_OLDEST
  let a := ringAddr ix
  let s := if hot then
      let n := s.get d F.PROMPT_LGFILL
      let s := s.copyMem d a d (lgAddr n) 32
      let s := s.wrB d (lgAddr n + 13) (setBit (s.rdB d (a + 13)) 0 true)
      s.put d F.PROMPT_LGFILL (n + 1)
    else toMainLog d a s
  let s := s.put d F.PROMPT_RING_OLDEST ((ix + 1) % 8192)
  s.put d F.PROMPT_STAT_UNFL (s.get d F.PROMPT_STAT_UNFL - 1)

/-- The records of a running hot flush have room in the last-gasp area. -/
def State.lgRoom (s : State) (d : Nat) : Nat := 2048 - s.get d F.PROMPT_LGFILL

/-- A flush ends, R477: its duration and destination, and what R81 and R83 hang on a flush at PFAIL. -/
def flushEnd (d dest : Nat) (s : State) : State :=
  let p := (s.c d).prompt
  let s := (s.off d F.PROMPT_STAT_FLUSHING).on d F.PROMPT_EVT_FLUSHDONE
  let s := s.put d F.PROMPT_FLST_TIME (min 65535 ((s.now d - p.flushStart) / 400))
  s.put d F.PROMPT_FLST_DEST dest

/-- A flush at PFAIL is complete, R81 step 4, R83. -/
def pfFlushEnd (d : Nat) (s : State) : State :=
  let y := (s.c d).sys
  if y.pfFlush then
    let s := s.on d F.SYS_PFST_FLUSH_DONE
    let s := s.put d F.SYS_PFST_FLUSH_TIME (min 65535 ((s.now d - y.pfRise) / 400))
    let pf := s.flag d F.SYS_PFST_PFAIL
    s.modSys d (fun y => { y with pfFlush := false, mramRefuse := y.mramRefuse && pf })
  else s

/-- R477 to R479. A running flush of C die d ends with no records remaining. A hot flush that lacks room ends otherwise. -/
def execFlushDone (d : CDie) (s : State) : Out :=
  onC d.val (fun s =>
    let d := d.val
    let hot := (s.c d).prompt.flushHot
    if s.flag d F.PROMPT_STAT_FLUSHING && (!hot || decide (s.get d F.PROMPT_STAT_UNFL ≤ s.lgRoom d)) then
      let s := overN (s.get d F.PROMPT_STAT_UNFL) (fun _ s => flushOne d hot s) s
      pfFlushEnd d (flushEnd d (b2n hot) s)
    else s) s

/-- R478. A hot flush finds the last-gasp area full: it stops, and waits until the main log can take the rest. -/
def execLastGaspFull (d : CDie) (s : State) : Out :=
  onC d.val (fun s =>
    let d := d.val
    if s.flag d F.PROMPT_STAT_FLUSHING && (s.c d).prompt.flushHot && decide (s.lgRoom d < s.get d F.PROMPT_STAT_UNFL) then
      let s := overN (s.lgRoom d) (fun _ s => flushOne d true s) s
      let s := s.modPrompt d (fun p => { p with blockedAt := s.now d })
      ((flushEnd d 2 s).on d F.PROMPT_EVT_LGFULL).on d F.PROMPT_STAT_BLOCKED
    else s) s

/-- R478. A flush that waits starts again: after 100 µs (40,000 counts), or once the main log can take what the last-gasp
area could not. -/
def execFlushBlockedRetry (d : CDie) (s : State) : Out :=
  onC d.val (fun s =>
    let d := d.val
    if s.flag d F.PROMPT_STAT_BLOCKED && decide ((s.c d).prompt.blockedAt + 40000 ≤ s.now d) &&
        !(s.flushDest d == 1 && s.lgRoom d == 0) then
      flushStart d (s.off d F.PROMPT_STAT_BLOCKED)
    else s) s

/-- Why PROMPT_CLR is refused, R480. -/
def State.logRefusal (s : State) (d : Nat) : Nat :=
  if s.lc d == 2 then 1 else if s.flag d F.PROMPT_STAT_FLUSHING then 2 else if !s.nvmWindow d then 3
  else if (s.c d).sys.mramRefuse then 4 else 0

/-- The logs are emptied, or the clear is refused, R480. -/
def promptClr (d : Nat) (s : State) : State :=
  let code := s.logRefusal d
  let s := s.put d F.PROMPT_CLRST_CODE code
  if code != 0 then s.on d F.PROMPT_EVT_CLRREF
  else ((s.put d F.PROMPT_MLOG_MHEAD 0).put d F.PROMPT_MLOG_MCNT 0).put d F.PROMPT_LGFILL 0

/-- R480. A write of 1 to PROMPT_CLR.GO. -/
def execPromptClr (d : CDie) (m : Master) (s : State) : Out :=
  onC d.val (tkWrite d.val m (own F.PROMPT_CLR_GO.off) d.val F.PROMPT_CLR_GO.off 1#32 false (promptClr d.val)) s

/-- A write of PROMPT_SWREC, R481: a severity of 5 to 7 is refused, and with it the record. -/
def swrecWrite (d : Nat) (v : Word) (s : State) : State :=
  let w := v.toNat
  let bad := decide (5 ≤ w / 4096 % 8)
  let s := (s.put d F.PROMPT_SWREC_CODE (w % 4096)).put d F.PROMPT_SWREC_INST (w / 65536 % 256)
  if bad then s.on d F.PROMPT_EVT_WRREF
  else
    let s := s.put d F.PROMPT_SWREC_SEV (w / 4096 % 8)
    if bit w 15 then
      let p := fun k => s.get d (F.PROMPT_SWPAY k)
      recordEvent d ⟨0xF000 + w % 4096, Blk.software, d, w / 65536 % 256, w / 4096 % 8, p 0, p 1, p 2, p 3⟩ s
    else s

/-- R481. A write of PROMPT_SWREC. -/
def execSoftwareRecord (d : CDie) (v : Word) (s : State) : Out :=
  onCW d.val (own 0x50040) (swrecWrite d.val v) s

/-- OPTIME bits 31:0 are read, and bits 39:32 latched for the reading core, R473. -/
def optimeRead (d : Nat) (m : Master) (s : State) : State :=
  let t := s.opMs d
  s.modSys d (fun y => { y with
    rdata := BitVec.ofNat 32 t, opthi := y.opthi.set m.coreIx (BitVec.ofNat 32 (t / 2 ^ 32)) })

/-- R473. A read of PROMPT_OPTLO. -/
def execOptimeRead (d : CDie) (m : Master) (s : State) : Out := onC d.val (optimeRead d.val m) s

/-- R472. C0's save point, 60 s (2.4 × 10^10 counts) after the last one. -/
def execOptimeSave (s : State) : Out :=
  onC 0 (fun s => if (s.c 0).prompt.saveAt + 24000000000 ≤ s.now 0 then
      optimeSave 0 (s.modPrompt 0 (fun p => { p with saveAt := s.now 0 }))
    else s) s

/-! ### Supervisory frames -/

/-- The device changes how it is timed: the record FRAME_SRC of Table 18-3. -/
def frameSrc (d : Nat) (f : State → State) (s : State) : State :=
  let old := s.wd d F.PROMPT_FSTAT_FREE.off
  let s := f s
  if s.wd d F.PROMPT_FSTAT_FREE.off == old then s
  else note d Blk.prompt 0x0080 1 0 (s.wd d F.PROMPT_FSTAT_FREE.off) (s.wd d F.PROMPT_EVT_LOST.off) 0 s

/-- A boundary becomes due on a die, R484. -/
def frameDue (d cyc : Nat) (free loc : Bool) (s : State) : State :=
  let s := frameSrc d (fun s => (s.put d F.PROMPT_FSTAT_FREE (b2n free)).put d F.PROMPT_FSTAT_LOCAL (b2n loc)) s
  s.modPrompt d (fun p =>
    { p with lastTick := s.now d, due := true, dueCyc := cyc, dueFree := free, dueLocal := loc })

/-- A tick of C0, sent to C1 as a cross-die cue, R483, R484; `dropped`: crowded by other cues, it is dropped under R146. -/
def frameTick0 (cyc : Nat) (free dropped : Bool) (s : State) : State :=
  let s := frameDue 0 cyc free false s
  if s.runs 1 && s.linkC 0 then
    let lost := dropped && s.cueCrowded 1 0
    let s := cueNote 1 0 s
    if lost then s.on 1 F.PROMPT_EVT_TICKLOST else frameDue 1 cyc free false s
  else s

/-- The frame period in force on a die in fabric cycles: a new FPER takes effect after the next boundary, R483. -/
def State.framePeriod (s : State) (d : Nat) : Nat := 400 * (s.c d).prompt.fper.getD 1000

/-- The stage time of a die is a multiple of its frame period, and the die has not ticked in this cycle, R483. -/
def State.periodTick (s : State) (d : Nat) : Bool := s.now d % s.framePeriod d == 0 && !(s.c d).prompt.due

/-- Less than 100 µs (40,000 counts) after a stage time; 0: there is none yet. -/
def tooSoon (now since : Nat) : Bool := since != 0 && decide (now < since + 40000)

/-- The CAN cycle count of the controller that times the frames. -/
def State.frameCyc (s : State) : Nat := s.get 0 (F.CAN_CAN_TTSTAT_CYC (s.get 0 F.PROMPT_FCFG_CAN))

/-- R483, R484. The event that makes a tick of C0: with PERIOD a multiple of FPER, with CAN a valid reference message; its tick
reaches C1 unless `dropped`. On C1, whose link L0 is lost, a multiple of its own FPER. -/
def execFrameTick (d : CDie) (dropped : Bool) (s : State) : Out :=
  onC d.val (fun s =>
    let p := (s.c d.val).prompt
    if !s.fabric d.val then s
    else if d.val == 1 then
      if s.linkC 1 || !s.periodTick 1 || tooSoon (s.now 1) p.lastBoundary then s else frameDue 1 0 false true s
    else if s.flag 0 F.PROMPT_FCFG_SRC then
      if (s.can 0 (s.get 0 F.PROMPT_FCFG_CAN)).refAt != s.now 0 + 1 || (p.due && p.lastTick == s.now 0) then s
      else if tooSoon (s.now 0) p.lastTick then s.on 0 F.PROMPT_EVT_REFEARLY else frameTick0 s.frameCyc false dropped s
    else if !s.periodTick 0 || tooSoon (s.now 0) p.lastBoundary then s
    else frameTick0 0 false dropped s) s

/-- R483. No reference message within FTMO µs (400 counts each) of the previous tick: the device ticks by itself. -/
def execFrameRefTimeout (dropped : Bool) (s : State) : Out :=
  onC 0 (fun s =>
    if s.flag 0 F.PROMPT_FCFG_SRC && s.fabric 0 &&
        decide ((s.c 0).prompt.lastTick + 400 * s.get 0 F.PROMPT_FTMO ≤ s.now 0) then
      frameTick0 s.frameCyc true dropped (s.on 0 F.PROMPT_EVT_REFMISS)
    else s) s

/-- The statistics of a frame are latched and restart, R485. -/
def statsLatch (d : Nat) (s : State) : State :=
  let p := (s.c d).prompt
  let n := (s.get d F.PROMPT_FNUM + 1) % 2 ^ 32
  let s := s.put d F.PROMPT_FNUM n
  let s := (s.put d F.PROMPT_LIVE_SHDR_SEQ n).put d F.PROMPT_LIVE_SHDR_CYC p.dueCyc
  let s := (s.put d F.PROMPT_LIVE_SHDR_FREE (b2n p.dueFree)).put d F.PROMPT_LIVE_SHDR_LOCAL (b2n p.dueLocal)
  let s := s.put d F.PROMPT_LIVE_SLEN (min 131071 ((s.now d - p.lastBoundary) / 400))
  let s := overN 3 (fun b s =>
    if p.vcnt.at b == 0 then
      ((s.put d (F.PROMPT_LIVE_SB_V_VMIN b) 0x7FFF).put d (F.PROMPT_LIVE_SB_V_VMAX b) 0x8000).put d (F.PROMPT_LIVE_SB_VAVG b) 0
    else s) s
  let s := overL ((List.range 67).map (fun j => 0x50200 + 4 * j)) (fun off s =>
    (s.setReg d off (s.reg d (off + 0x200))).setReg d (off + 0x200) 0) s
  let s := overN 3 (fun b s => (s.put d (F.PROMPT_LIVE_SB_V_VMIN b) 0x7FFF).put d (F.PROMPT_LIVE_SB_V_VMAX b) 0x8000) s
  let s := s.put d F.PROMPT_LIVE_SD_TMAX (s.get d F.THERM_MAX_PKG)
  s.modPrompt d (fun p =>
    { p with vsum := [], vcnt := [], clampSub := [], lastBoundary := s.now d, due := false,
             fper := some (s.get d F.PROMPT_FPER) })

/-- The seconds left in an open acceptance window, R123. -/
def watchRemain (d : Nat) (s : State) : State :=
  if s.flag d F.LIB_STAT_WATCH then
    s.put d F.LIB_WATCH_REMAIN (s.get d F.LIB_WATCH_WIN - (s.now d - (s.c d).lib.watchFrom) / 400000000)
  else s

/-- Every D die of the part is reached by its owner, R362. -/
def State.allReached (s : State) : Bool :=
  (List.range 6).all (fun k => !s.hasD k || s.reaches (s.owner k) k)

/-- What a die does at its boundary: cue 0xD0, the statistics, the curtain rules of its axes (R358) and the frame load of its
orphan commands (R362). -/
def boundaryOn (d : Nat) (s : State) : State :=
  let s := fireCue d 0xD0 (statsLatch d s)
  let s := overN 6 (fun a s => if s.inCurtain d a then evalCurtain d a s else s) s
  let s := loadOrphans d s
  let s := if s.allReached then s.modSafe d (fun x => { x with orphLoads := min 2 (x.orphLoads + 1) }) else s
  watchRemain d s

/-- A write of a PROMPT register at an offset of its block by master m; R487. -/
def promptWrite (d : Nat) (m : Master) (o : Nat) (v : Word) (s : State) : State :=
  let off := 0x50000 + o
  if o == 0 then promptCtrl d v s
  else if o == 0x2C then tkWrite d m (own off) d off v false (onlyIf (bit v.toNat 0) (promptClr d)) s
  else if o == 0x40 then swrecWrite d v s
  else if o == 0x104 || o == 0x108 then
    let us := v.toNat % 2 ^ 17
    tkWriteIf (decide (100 ≤ us) && decide (us ≤ 100000)) (fun s => s.on d F.PROMPT_EVT_WRREF) d m (own off) d off v
      (protWrite d off v false) s
  else tkWrite d m (own off) d off v false (protWrite d off v false) s

end Sys2Proof.Machine
end

