-- ==== Sys2Proof/Machine/BlockWrite.lean ====
section
/-! DEFINITION. Writes of a C die's registers by block (R8, R84, R130, R411): the access rules and the effects that each block's
chapter gives a write. The libretto's loader writes through them too (R109). -/

namespace Sys2Proof.Machine

/-- A write of SYS_BRST: a block whose bit is 1 is held in reset (R84, R435, R453); a new bit is a
reset for the acceptance window (R123). -/
def brstWrite (d : Nat) (v : Word) (s : State) : State :=
  let old := s.wd d 0xC
  let s := plainWrite d 0xC v true s
  let s := onlyIf (s.wd d 0xC &&& old != s.wd d 0xC) watchCut s
  let s := overN 4 (fun n s => if s.bitOf d F.SYS_BRST_CAN n then canReset d n s else s) s
  let s := overN 4 (fun n s => if s.bitOf d F.SYS_BRST_FB n then fbReset d n s else s) s
  if s.flag d F.SYS_BRST_FLUME then flumeReset d s else s

/-- A write of W1C bits of which those in `stay` have their cause still present (end of Table 3-7). -/
def eventWrite (d off stay : Nat) (v : Word) (s : State) : State := plainWrite d off (v &&& ~~~ maskW stay) true s

/-- A write of a SYS register by master m, Table 3-7. -/
def sysWrite (d : Nat) (m : Master) (off : Nat) (v : Word) (s : State) : State :=
  let bad := fun (f : Fld) (b : Nat) => if s.flag d f then 0 else b
  match off with
  | 0x08 => tkWriteThen d m (own 8) d 8 v (fun s =>
      if bit v.toNat 0 then packageReset 8 s else if bit v.toNat 1 then dieReset d 16 false s else s) s
  | 0x0C => brstWrite d v s
  | 0x14 => eventWrite d off (bad F.SYS_CLKST_REF_OK 1 + bad F.SYS_CLKST_PLL_LOCK 2) v s
  | 0x24 => eventWrite d off
      (bad F.SYS_SUPST_VIOB_OK 1 + bad F.SYS_SUPST_VIOC_OK 2 + bad F.SYS_SUPST_VKEEP_OK 4) v s
  | 0x28 => tkWrite d m (own off) d off v false (protWrite d off v false) s
  | 0x2C => eventWrite d off (if s.flag d F.SYS_PFST_PFAIL then 2 else 0) v s
  | _ => plainWrite d off v true s

/-- The checkpoint register of pair p, and the pair of an offset that is one. -/
def cpPair (off : Nat) : Option Nat := if off = 0x20000 then some 0 else if off = 0x20100 then some 1 else none

/-- Master m may write this register of SAFE or CHK, R411: pair A its checkpoint register, SAFE_REQ and SAFE_FC_SWREP; a
checkpoint register is written by its own pair. -/
def safeMay (m : Master) (off : Nat) : Bool :=
  match cpPair off with
  | some p => if p == 0 then !m.pairB else !m.pairA
  | none => !m.pairA || off == 0x1800C || off == 0x1101C

/-- W1C bits of SAFE and CHK are cleared by pair B alone, R411. -/
def safeWord (d : Nat) (m : Master) (off : Nat) (v : Word) : Word :=
  match rowAt d off with
  | some r => if m.pairB then v else v &&& ~~~ maskW r.w1c
  | none => v

/-- A write of the fault-collection registers by master m. -/
def fcWrite (d : Nat) (m : Master) (off : Nat) (v : Word) (s : State) : State :=
  if off < 0x10400 then
    if off % 0x20 == 0 then fcCfgWrite d m ((off - 0x10000) / 0x20) v s else plainWrite d off v true s
  else if off == 0x11014 then faultClearWrite d m v s
  else if off == 0x11018 then faultInjectWrite d m v s
  else if off == 0x1101C then swrepWrite d v s
  else plainWrite d off v true s

/-- A write of a CHK register by master m. A write of a checkpoint register is a checkpoint of the issuing core. -/
def chkWrite (d : Nat) (m : Master) (off : Nat) (v : Word) (s : State) : State :=
  let p := (off - 0x20000) / 0x100
  let prot := tkWrite d m (own off) d off v false (protWrite d off v false)
  match cpPair off, m with
  | some _, .core k _ => checkpoint d k.val (v.toNat % 65536) (bit v.toNat 31) default false false false 0 s
  | some _, _ => s.on d F.CHK_ERR_WRREF
  | none, _ =>
    if off < 0x20200 then
      match off % 0x100 with
      | 0x04 => chkCfgWrite d m p v s
      | 0x08 => prot s
      | 0x28 => prot s
      | 0x2C => tkWrite d m (own off) d off v false (onlyIf (bit v.toNat 0) (resyncGo d p 0)) s
      | _ => plainWrite d off v true s
    else if 0x20410 ≤ off ∧ off < 0x2041C then benchRefresh d (prot s)
    else plainWrite d off v true s

/-- A write in the SAFE and CHK windows by master m, R411. -/
def safeChkWrite (d : Nat) (m : Master) (off : Nat) (v : Word) (s : State) : State :=
  if !safeMay m off then s.on d (if off < 0x20000 then F.SAFE_FC_ERR_WRREF else F.CHK_ERR_WRREF)
  else
    let v := safeWord d m off v
    if off < 0x18000 then fcWrite d m off v s
    else if off < 0x20000 then safeCurtWrite d m (off - 0x18000) v s
    else chkWrite d m off v s

/-- A write of a BIST or THERM register by master m. -/
def bistThermWrite (d : Nat) (m : Master) (off : Nat) (v : Word) (s : State) : State :=
  match off with
  | 0x30010 => bistRotWrite d m v s
  | 0x30018 => bistReqWrite d v s
  | 0x40034 => thermThWrite d m off v s
  | 0x40038 => thermThWrite d m off v s
  | 0x4003C => tkWrite d m (own off) d off v false (protWrite d off v false) s
  | 0x40070 => tkWrite d m (own off) d off v false (onlyIf (bit v.toNat 0) (thermAck d)) s
  | _ => plainWrite d off v true s

/-- A write of a CUE register: a changed route shows in CUE_INACTm, R147, R149. -/
def cueWrite (d off : Nat) (v : Word) (s : State) : State :=
  if off < 0x80400 then refreshInact d (plainWrite d off v true s)
  else if off = 0x80400 then fireCue d (0xCC + v.toNat % 4) s
  else plainWrite d off v true s

/-- A write of ADC_AGg_ENTe, R151: an input outside the group's reach, or one that another entry of the sequence's step
names, is ignored and reported; a libretto is refused at its load (RESOURCE). -/
def entWrite (d g e : Nat) (v : Word) (s : State) : State :=
  let f := F.ADC_AG_ENT_AIN g e
  let t := plainWrite d f.off v (!s.flag d (F.ADC_AG_STAT_RUN g)) s
  if s.loading || t.reg d f.off == s.reg d f.off then t
  else if !ainReach g (t.get d f) || t.entTwice d g e then s.on d (F.ADC_AG_EVT_WRREF g)
  else t

/-- A write of a converter register, Tables 7-8 to 7-10. -/
def adcWrite (d off : Nat) (v : Word) (s : State) : State :=
  if off < 0x110000 then
    let g := (off - 0x100000) / 0x4000
    let o := (off - 0x100000) % 0x4000
    if o == 0 then agCtrlWrite d g v s
    else if o == 0x20 then swtrigWrite d g v.toNat s
    else if 0x100 ≤ o ∧ o < 0x200 then entWrite d g ((o - 0x100) / 4) v s
    else plainWrite d off v (!s.flag d (F.ADC_AG_STAT_RUN g)) s
  else if off == 0x110000 then gctrlWrite d v.toNat s
  else if 0x111000 ≤ off ∧ off < 0x111600 then
    plainWrite d off v (!s.flag d (F.ADC_SH_CTRL_EN ((off - 0x111000) / 0x100))) s
  else plainWrite d off v true s

/-- A write of a FIELD register by master m: the RWP ones of an axis (0x3C, 0x6C) under two keys. -/
def fieldBlockWrite (d : Nat) (m : Master) (off : Nat) (v : Word) (s : State) : State :=
  if off < 0x186000 then
    let a := (off - 0x180000) / 0x1000
    let o := off % 0x1000
    if o == 0x3C || o == 0x6C then
      fieldStatus d a (tkWrite d m (own off) d off v (s.axStopped d a) (protWrite d off v (s.axStopped d a)) s)
    else fieldWrite d a o v s
  else if off < 0x186060 then
    let b := (off - 0x186000) / 0x20
    match (off - 0x186000) % 0x20 / 4 with
    | 0 => busWrite d m b 0 v s
    | 1 => busWrite d m b 1 v s
    | 2 => btempWrite d b v s
    | _ => s
  else s

/-- A write of a LOOP register by master m: the following-error limits of an engine under two keys. -/
def loopBlockWrite (d : Nat) (m : Master) (off : Nat) (v : Word) (s : State) : State :=
  if off < 0x150000 then
    let n := (off - 0x140000) / 0x400
    let o := off % 0x400
    if (o == 0x24 || o == 0x28) && n != 63 then
      let stop := s.get d (F.LOOP_LE_CFG_MODE n) == Lm.off
      tkWrite d m (own off) d off v stop (protWrite d off v stop) s
    else engWrite d n o v s
  else if off < 0x154000 then weirWrite d ((off - 0x150000) / 0x100) (off % 0x100) v s
  else if off < 0x160000 then loopWrite d off v s
  else if off < 0x170000 then progWrite d ((off - 0x160000) / 0x400) (off % 0x400) v s
  else s

/-- A write of a PWM register by master m: the trip settings of a pair and of an input under two keys. -/
def pwmWrite (d : Nat) (m : Master) (off : Nat) (v : Word) (s : State) : State :=
  if off < 0x1C1200 then
    let k := (off - 0x1C0000) / 0x100
    let o := off % 0x100
    if o == 0x24 then
      tkWrite d m (own off) d off v (s.pairStopped d k) (protWrite d off v (s.pairStopped d k)) s
    else pairWrite d k o v s
  else if 0x1C3000 ≤ off ∧ off < 0x1C4000 then
    if 0x1C30A0 ≤ off ∧ off < 0x1C30B0 then tkWrite d m (own off) d off v false (protWrite d off v false) s
    else pwmGlobalWrite d (off - 0x1C3000) v s
  else s

/-- A write of a feedback or CAN register by master m; message RAM through the page window of the requester (R454). -/
def fbCanWrite (d : Nat) (m : Master) (off : Nat) (v : Word) (s : State) : State :=
  if off < 0x204000 then fbWrite d ((off - 0x200000) / 0x1000) (off % 0x1000) v s
  else if 0x208000 ≤ off ∧ off < 0x208200 then emuWrite d ((off - 0x208000) / 0x100) (off % 0x100) v s
  else if 0x240000 ≤ off ∧ off < 0x280000 then
    let n := (off - 0x240000) / 0x10000
    let o := off % 0x10000
    if o < 0x8000 then canWrite d n o v s else canRamWrite d n (s.canPage d n m o) v.toNat s
  else s

/-- A write at an offset of C die d's own map (Table 1-5), windows and the HDR, LIB, NVM and SEC blocks apart; a reserved
register ignores it (R6). -/
def blockWrite (d : Nat) (m : Master) (off : Nat) (v : Word) (s : State) : State :=
  if off < 0x10000 then sysWrite d m off v s
  else if off < 0x30000 then safeChkWrite d m off v s
  else if off < 0x50000 then bistThermWrite d m off v s
  else if off < 0x60000 then promptWrite d m (off - 0x50000) v s
  else if 0x80000 ≤ off ∧ off < 0x90000 then cueWrite d off v s
  else if 0x90000 ≤ off ∧ off < 0xA0000 then flumeWrite d (off - 0x90000) v s
  else if 0x100000 ≤ off ∧ off < 0x140000 then adcWrite d off v s
  else if 0x140000 ≤ off ∧ off < 0x180000 then loopBlockWrite d m off v s
  else if 0x180000 ≤ off ∧ off < 0x1C0000 then fieldBlockWrite d m off v s
  else if 0x1C0000 ≤ off ∧ off < 0x200000 then pwmWrite d m off v s
  else if 0x200000 ≤ off ∧ off < 0x280000 then fbCanWrite d m off v s
  else if 0x2C0000 ≤ off ∧ off < 0x2C0600 then tmonWrite d m ((off - 0x2C0000) / 0x100) (off % 0x100) v s
  else if 0x2D0000 ≤ off ∧ off < 0x2D00C0 then dischWrite d m ((off - 0x2D0000) / 0x40) (off % 0x40) v s
  else s

end Sys2Proof.Machine
end

