-- ==== Sys2Proof/Machine/LoadRec.lean ====
section
/-! DEFINITION. The libretto's records executed (R109), the blocks an apply stops and releases (R119), the load checks that need
the configuration as it will stand (checks 10 to 12 of Table 5-6), the full apply, and the transfer of a reload (R126, R237). -/

namespace Sys2Proof.Machine

/-! ### Records -/

/-- Registers whose write starts or stops a block: a converter group, a load group, a feedback interface, an emulator, a CAN
controller. -/
def startReg (off : Nat) : Bool :=
  (decide (0x100000 ≤ off) && decide (off < 0x110000) && off % 0x4000 == 0) ||
    (decide (0x1C3020 ≤ off) && decide (off < 0x1C30A0) && off % 0x10 == 0) ||
    (decide (0x200000 ≤ off) && decide (off < 0x204000) && off % 0x1000 == 0) || off == 0x208000 || off == 0x208100 ||
    (decide (0x240000 ≤ off) && decide (off < 0x280000) && off % 0x10000 == 0)

/-- A word for a register that starts a block waits for the release of the blocks (R119); a later one replaces it. -/
def startLater (d off : Nat) (v : Word) (s : State) : State :=
  s.modLib d (fun l => { l with starts := Tab.ins off v l.starts })

/-- Where a loader's program word goes: the bank bit of the address is ignored. A full apply writes bank 0; a reload writes the
inactive bank (R237, R238). -/
def State.progAt (s : State) (d off : Nat) : Nat :=
  let n := (off - 0x160000) / 0x400
  off - off / 0x200 % 2 * 0x200 + (if (s.c d).lib.reloading then 0x200 * (1 - s.get d (F.LOOP_LE_STAT_BANK n)) else 0)

/-- A loader write of a program word. A full apply makes bank 0 the active bank of the engine (R238). -/
def loadProg (d off : Nat) (v : Word) (s : State) : State :=
  let n := (off - 0x160000) / 0x400
  let s := s.modLib d (fun l => { l with progs := if l.progs.contains n then l.progs else l.progs ++ [n] })
  let s := if (s.c d).lib.reloading then s else s.put d (F.LOOP_LE_STAT_BANK n) 0
  s.setReg d (s.progAt d off) v

/-- The loader writes with the rights of the safety master (R109: the signature stands for its two keys). -/
abbrev loaderMaster : Master := .core 2 true

/-- A loader write of one word at an address of C die d: a word of CAN message RAM (page 0, R454), a D die's register, a program
word, a start register, or a register of a block, with the effect of a write. A record that resets the die ends the
loader's work. -/
def loadWord (d addr : Nat) (v : Word) (s : State) : State :=
  if s.ld != some d then s
  else match canPageAt addr with
    | some (n, r) => canRamWrite d n r v.toNat s
    | none =>
      match target d addr with
      | none => s
      | some (i, off) =>
        if 2 ≤ i then
          onlyIf (s.runsD (i - 2) && s.linkD d (i - 2)) (drvAct (i - 2) (drvRegWrite d loaderMaster (i - 2) off v)) s
        else if 0x160000 ≤ off ∧ off < 0x170000 then loadProg d off v s
        else if startReg off then startLater d off v s
        else if off == F.HDR_OWNCFG_C1.off then plainWrite d off v true s
        else blockWrite d (if (cpPair off).isSome then .peer else loaderMaster) off v s

/-- The word that a MASK record reads at an address: a word that waits for the release of its block, if any. -/
def State.loaderSees (s : State) (d addr : Nat) : Word :=
  match canPageAt addr, target d addr with
  | some (n, r), _ => BitVec.ofNat 32 (s.canRamRead d n r)
  | none, some (i, off) =>
    if i < 2 ∧ 0x160000 ≤ off ∧ off < 0x170000 then s.reg d (s.progAt d off)
    else (if i < 2 then Tab.find off (s.c d).lib.starts else none).getD (s.reg i off)
  | none, none => 0

/-- The words of a BLOCK record, from die i's memory. -/
def loadBlock (d i : Nat) (keep : Nat → Bool) : Nat → Nat → Nat → State → State
  | 0, _, _, s => s
  | n + 1, addr, a, s =>
    loadBlock d i keep n (addr + 4) (a + 4) (onlyIf (keep addr) (loadWord d addr (BitVec.ofNat 32 (s.rd32 i a))) s)

/-- The records of a payload in die i's memory executed on die d, in order, R109, where an address is to be kept. -/
def runRecords (d i : Nat) (keep : Nat → Bool) : Nat → Nat → Nat → State → State
  | 0, _, _, s => s
  | n + 1, a, stop, s =>
    if stop ≤ a then s
    else
      let w := s.rd32 i a
      let addr := w - w % 4
      match w % 4 with
      | 0 =>
        runRecords d i keep n (a + 8) stop (onlyIf (keep addr) (loadWord d addr (BitVec.ofNat 32 (s.rd32 i (a + 4)))) s)
      | 1 =>
        let c := s.rd32 i (a + 4)
        runRecords d i keep n (a + 8 + 4 * c) stop (loadBlock d i keep c addr (a + 8) s)
      | 2 =>
        let v := mergeW (s.loaderSees d addr) (s.rd32 i (a + 4)) (BitVec.ofNat 32 (s.rd32 i (a + 8)))
        runRecords d i keep n (a + 12) stop (onlyIf (keep addr) (loadWord d addr v) s)
      | _ => s

/-- A section's records executed on die d at the addresses to keep; SINGLE and SETDEF hold none of their own. -/
def runKept (d : Nat) (keep : Nat → Bool) (x : Sect) (s : State) : State :=
  if x.kind == 0x0F || x.kind == 0x10 then s else runRecords d x.mem keep (x.len / 4) x.at_ (x.at_ + x.len) s

/-- A section executed on die d. -/
def runSect (d : Nat) (x : Sect) (s : State) : State := placeUnits d x (runKept d (fun _ => true) x s)

/-- The loader of die d executes records within f. -/
def whileLoading (d : Nat) (f : State → State) (s : State) : State :=
  { f { s with ld := some d } with ld := none }

/-! ### Stopping and releasing blocks -/

/-- A block that runs is stopped, and its start register's word is written again at the release. -/
def stopWith (d off : Nat) (runs : Bool) (stop : State → State) (s : State) : State :=
  if runs then stop (startLater d off (s.reg d off) s) else s

/-- Every block of die d that some words write stops for the apply, R119: converter groups, load groups, interfaces, emulators,
CAN controllers; a run of an engine is cut short. -/
def stopBlocks (d : Nat) (spans : List (Nat × Nat)) (s : State) : State :=
  let hits := fun lo n => spans.any (fun e => decide (e.1 < own (lo + n)) && decide (own lo < e.1 + 4 * e.2))
  let s := overN 4 (fun g s => stopWith d (0x100000 + 0x4000 * g) (hits (0x100000 + 0x4000 * g) 0x4000 &&
    s.flag d (F.ADC_AG_CTRL_EN g)) (agCtrlWrite d g 0) s) s
  let s := overN 8 (fun g s => stopWith d (0x1C3020 + 0x10 * g) (hits 0x1C0000 0x40000 && s.flag d (F.PWM_LG_CFG_EN g))
    (lgCfgWrite d g ((F.PWM_LG_CFG_EN g).into (s.reg d (F.PWM_LG_CFG_EN g).off) 0)) s) s
  let s := overN 2 (fun m s => stopWith d (0x208000 + 0x100 * m) (hits (0x208000 + 0x100 * m) 0x100 &&
    s.flag d (F.FB_EMU_CTRL_EN m)) (fun s => (s.off d (F.FB_EMU_CTRL_EN m)).off d (F.FB_EMU_STAT_RUN m)) s) s
  let s := overN 4 (fun n s => stopWith d (0x200000 + 0x1000 * n) (hits (0x200000 + 0x1000 * n) 0x1000 && s.fbRun d n)
    (fbStop d n) s) s
  let s := overN 4 (fun n s => stopWith d (0x240000 + 0x10000 * n) (hits (0x240000 + 0x10000 * n) 0x10000 && !s.canHalted d n)
    (canStop d n) s) s
  overN 63 (fun n s =>
    if (hits (0x140000 + 0x400 * n) 0x400 || hits (0x160000 + 0x400 * n) 0x400) && s.engRun d n then
      applyHeldW d n (engStop d n s)
    else s) s

/-- A start register of a stopped block takes a word. -/
def startWrite (d off : Nat) (v : Word) (s : State) : State :=
  if off < 0x110000 then agCtrlWrite d ((off - 0x100000) / 0x4000) v s
  else if off < 0x200000 then lgCfgWrite d ((off - 0x1C3020) / 0x10) v s
  else if off < 0x204000 then fbCtrlWrite d ((off - 0x200000) / 0x1000) v s
  else if off < 0x240000 then emuCtrlWrite d ((off - 0x208000) / 0x100) v s
  else canCtrlWrite d ((off - 0x240000) / 0x10000) v s

/-- An engine whose settings or active bank fail the check of R214 is released with MODE at OFF and CFGERR. -/
def engRelease (d n : Nat) (s : State) : State :=
  let mode := F.LOOP_LE_CFG_MODE n
  if s.get d mode == Lm.off || (s.get d mode != 3 && s.engineOk d n (s.get d (F.LOOP_LE_STAT_BANK n))) then s
  else (s.put d mode Lm.off).on d (F.LOOP_LE_EVT_CFGERR n)

/-- The blocks of a C die are released: the waiting words are written, in the order of the map. -/
def releaseBlocks (d : Nat) (s : State) : State :=
  let ws := (s.c d).lib.starts
  let s := s.modLib d (fun l => { l with starts := [], progs := [] })
  refreshFault d (ws.foldl (fun s w => startWrite d w.1 w.2 s) s)

/-! ### Reload -/

/-- The banks of the engines that a reload has written swap, R237; a bank that fails R214 refuses the swap. -/
def bankSwaps (d : Nat) (s : State) : State :=
  overL (s.c d).lib.progs (fun n s =>
    let bank := F.LOOP_LE_STAT_BANK n
    if s.engineOk d n (1 - s.get d bank) then s.put d bank (1 - s.get d bank)
    else s.on d (F.LOOP_LE_EVT_CFGERR n)) s

/-- The records of some sections executed on a C die as a reload, R237. -/
def runReload (d : Nat) (xs : List Sect) (s : State) : State :=
  let s := s.modLib d (fun l => { l with reloading := true, progs := [] })
  let s := whileLoading d (fun s => xs.foldl (fun s x => runSect d x s) s) s
  (bankSwaps d s).modLib d (fun l => { l with reloading := false })

/-- The NEW slots of an engine, R237: each takes the value last stored through OUT0, × 2^15, within its limits. -/
def newSlots (d n mask : Nat) (s : State) : State :=
  overN 16 (fun k s => onlyIf (bit mask k) (putSlot d n k (s.clampSlot d n k ((s.eng d n).out0 * 32768))) s) s

/-! ### Full apply -/

/-- A section of the layers, or the factory libretto's, executed on die d (R112, R119). -/
def runChosen (d : Nat) (l : Layers) (ys : List Sect) (kind tgt : Nat) (s : State) : State :=
  match chosen l ys d kind tgt with
  | some x => runSect d x s
  | none => if s.ld == some d && !ys.any (fun y => y.kind == kind && y.target == tgt) then factorySect d kind tgt s else s

/-- The records of a full apply on die d: sections in ascending order of TYPE and TARGET, those of the die (R119). -/
def runLayers (d : Nat) (l : Layers) (s : State) : State :=
  let ys := s.replacements l
  whileLoading d (fun s =>
    (List.range 0x12).foldl (fun s kind => targets.foldl (fun s tgt => runChosen d l ys kind tgt s) s) s) s

/-- The sections that a full apply executes on die d. -/
def State.appliedOn (s : State) (d : Nat) (l : Layers) : List Sect := chosenAll l (s.replacements l) d

/-- The C dies whose stores and configuration take part: both in dual control, C0 alone otherwise (R102, R115). -/
def State.libDies (s : State) : List Nat := if s.dual && s.runs 1 then [0, 1] else [0]

/-- A full apply of a slot's libretto over the user default on C die d, R119 (the image is checked and stored). A record that
resets the die ends it. -/
def applyOn (d slot source : Nat) (s : State) : State :=
  let l := s.layersOf d slot
  let ys := s.replacements l
  let s := clearReady d (s.put d F.LIB_STAT_STATE Ls.apply)
  let s := stopBlocks d ((s.appliedOn d l).flatMap (fun x => x.spans s)) s
  let s := runLayers d l s
  if !s.runs d then s
  else
    let s := noteApplied d slot source s
    let s := overN 6 (fun a s => putAxst d a (axisState s d a l ys) s) s
    let s := settingsResolve d (s.get d F.LIB_SCHEMA_LIB) (layered l 0x10 0xFF d) s
    let s := noteOffsets d (refreshInact d (refreshVersions d s))
    let s := overN 63 (engRelease d) (releaseBlocks d s)
    s.put d F.LIB_STAT_STATE Ls.idle

/-- A full apply of a chosen slot on the C dies, with the record LIB_APPLY and the static handovers; then the curtain rules and
orphan states are loaded (R119). The apply time is a free value within Table 4-3. -/
def applyAll (choose : NvC → Nat) (source : Nat) (s : State) : State :=
  let s := overL s.libDies (fun d s =>
    let slot := choose (s.n d)
    let t := s.freeWord % 2 ^ 24
    let s := (applyOn d slot source s.drawn).put d F.LIB_TAPPLY t
    let ver := if slot == 0 then 0 else imgVersion s d (slotAddr slot)
    recordEvent d ⟨0x0041, Blk.lib, d, 0, 0, ver, s.wd d F.LIB_STAT_STATE.off, t, 0⟩ s) s
  let s := staticHandovers s
  keepSync (overL s.libDies (fun d s => onlyIf (s.runs d) (loadOrphans d) s) s)

/-! ### Load checks on the configuration -/

/-- Some section writes LE63 (R210) or a marked block (R417); with the sections nested in it. -/
def sectsCode (s : State) (xs : List Sect) : Nat :=
  let ys := withNested s xs
  if ys.any (fun y => y.writes s le63) then Lc.resource
  else if ys.any (fun y => y.onMark s) then Lc.unusable
  else Lc.ok

/-- Check 10 of Table 5-6 on a configuration as an apply or transfer would leave it. -/
def State.fits (s : State) : Bool := s.libDies.all (fun d => s.configOk d) && s.packageOk s.libDies

/-- The converter entries that sections write name inputs within their groups' reach, R151. -/
def entsReach (t : State) (xs : List Sect) : Bool :=
  (withNested t xs).all (fun x => ((x.addrs t).filterMap entAt).all (fun e =>
    ainReach (e / 64) (t.get x.die (F.ADC_AG_ENT_AIN (e / 64) (e % 64)))))

/-- Checks 10 and 11 of Table 5-6 on layers: the configuration at the end of the apply on every C die that takes part, and the
sections' own (R113). -/
def layersCheck (s : State) (ls : Nat → Layers) : Nat :=
  let t := overL s.libDies (fun d s => runLayers d (ls d) s) s
  let xs := (ls 0).lib ++ (ls 0).user
  if !(t.fits && s.libDies.all (fun d => entsReach t (s.appliedOn d (ls d)))) then Lc.resource
  else if (ls 0).lib != [] && !fullOk (withNested s (ls 0).lib) then Lc.resource
  else sectsCode s xs

/-- The converter sequences and entries that the active libretto's sections of an axis write on a die (R170). -/
def State.axisUnits (s : State) (ax die : Nat) : List Nat :=
  match layered (s.layersOf 0 (s.n 0).active) 0x06 ax die with
  | some x => (x.addrs s).filterMap adcUnit
  | none => []

/-- Check 12 of Table 5-6, R125: every section is of the axis, every register it writes has a reload shadow, bits without
one keep their values, and converter units are the axis's own (R170). `t` is the state with the bundle's records executed.
-/
def scopeOk (s t : State) (ax : Nat) (xs : List Sect) : Bool :=
  xs.all (fun x => x.target == ax && decide (x.kind != 0x0F) && (x.addrs s).all (fun a =>
    match target x.die a with
    | none => false
    | some (i, off) =>
      let m := maskW (shadowMask i off)
      m != 0 && (s.reg i off ^^^ t.reg i off) &&& ~~~ m == 0 &&
        (match adcUnit a with
          | some u => (s.axisUnits ax x.die).contains u
          | none => true)))

/-- Checks 10 to 12 of Table 5-6 on a reload bundle. -/
def bundleCheck (s : State) (ax : Nat) (xs : List Sect) : Nat :=
  let t := overL s.libDies (fun d s => runReload d (xs.filter (fun x => x.die == d)) s) s
  if !(t.fits && entsReach t xs) then Lc.resource
  else if sectsCode s xs != Lc.ok then sectsCode s xs
  else if !scopeOk s t ax xs then Lc.reloadScope
  else Lc.ok

/-- The layers with an image of C0's SRAM as the libretto, or as the user default (STORE_UD). -/
def State.layersWith (s : State) (cmd a d : Nat) : Layers :=
  if cmd == Cmd.storeUd then ⟨[], imgSects s 0 a⟩ else ⟨imgSects s 0 a, s.sectsOf d (s.n d).userdef⟩

/-- Every check of Table 5-6 on the image at an address of C0's SRAM: the first failure's code, or 0. Both C dies verify it
(R115). -/
def loadCheck (s : State) (cmd ax a len : Nat) : Nat :=
  if !checkLen s cmd a len then Lc.tooLarge
  else
    let code := firstCode (s.libDies.map (fun d => imgCheck s d 0 cmd a))
    if code != Lc.ok then code
    else if cmd == Cmd.reload then bundleCheck s ax (imgSects s 0 a)
    else layersCheck s (s.layersWith cmd a)

/-- Checks 2 to 9 of Table 5-6 on every image of a slot, by each C die that takes part (R122). -/
def slotImages (s : State) (slotOf : NvC → Nat) : Nat :=
  firstCode (s.libDies.flatMap (fun d =>
    (s.imagesOf d (slotOf (s.n d))).mapIdx (fun j a => imgCheck s d d (if j == 0 then Cmd.load else Cmd.reload) a)))

/-- The further checks of a slot as it is applied: the user default under it (R113), and the configuration that the layers
give. -/
def slotBody (s : State) (slotOf : NvC → Nat) : Nat :=
  let user := firstCode (s.libDies.flatMap (fun d =>
    (s.imagesOf d (s.n d).userdef).map (fun a => imgCheck s d d Cmd.storeUd a)))
  if user != Lc.ok then user else layersCheck s (fun d => s.layersOf d (slotOf (s.n d)))

/-- Every check of a slot that is to be applied. -/
def slotCheck (s : State) (slotOf : NvC → Nat) : Nat := firstCode [slotImages s slotOf, slotBody s slotOf]

end Sys2Proof.Machine
end

