-- ==== Sys2Proof/Machine/Nvm.lean ====
section
/-! DEFINITION. Firmware images, update sessions, the copy at a start, recovery and settings (R488 to R505, R510 to R512). -/

namespace Sys2Proof.Machine

/-- Codes of Table 19-10. -/
abbrev Nc.ok := 0
abbrev Nc.busy := 1
abbrev Nc.nvmTemp := 2
abbrev Nc.pfailBlock := 3
abbrev Nc.range := 4
abbrev Nc.align := 5
abbrev Nc.writeFail := 6
abbrev Nc.format := 7
abbrev Nc.key := 8
abbrev Nc.sigFail := 9
abbrev Nc.hwType := 0xA
abbrev Nc.stepping := 0xB
abbrev Nc.unitId := 0xC
abbrev Nc.secVer := 0xD
abbrev Nc.hashFail := 0xE
abbrev Nc.index := 0xF
abbrev Nc.duplicate := 0x10
abbrev Nc.badState := 0x11
abbrev Nc.armed := 0x12
abbrev Nc.badCmd := 0x13
abbrev Nc.setInvalid := 0x14

/-- Session states of NVM_UPST. -/
abbrev Us.idle := 0
abbrev Us.open_ := 1
abbrev Us.complete := 2
abbrev Us.armed := 3
abbrev Us.held := 4

/-- Journal states of NVM_JRNL. -/
abbrev Js.idle := 0
abbrev Js.pending := 1
abbrev Js.copying := 2
abbrev Js.failed := 3

/-- The record of a C die's update engine, and a change of it. -/
def State.nvm (s : State) (d : Nat) : NvmC := (s.c d).nvm
def modNvm (d : Nat) (f : NvmC → NvmC) (s : State) : State := s.modC d (fun c => { c with nvm := f c.nvm })

/-! ### Images -/

/-- A little-endian field of a byte list, and a list of bytes as one number, most significant first. -/
def leAt (m : List Nat) (o n : Nat) : Nat := (sub m o n).foldr (fun b acc => b + 256 * acc) 0
def beNum (m : List Nat) : Nat := m.foldl (fun acc b => 256 * acc + b) 0

/-- Active firmware and staging, Table 19-1; the length of a manifest and of a chunk. -/
def fwActive : Nat := 0x10000000
def fwStaging : Nat := 0x10500000
def manifestLen : Nat := 40960
def chunkLen : Nat := 4096

/-- Fields of a manifest, Table 19-2. -/
def mfVersion (m : List Nat) : Nat := leAt m 0x08 4
def mfSecVer (m : List Nat) : Nat := leAt m 0x13 1
def mfChunks (m : List Nat) : Nat := leAt m 0x16 2
def mfPayload (m : List Nat) : Nat := leAt m 0x18 4
def mfKey (m : List Nat) : Nat := leAt m 0x34 1
def mfHash (m : List Nat) (i : Nat) : List Nat := sub m (0x100 + 32 * i) 32

/-- Check 1 of Table 19-3. -/
def mfFormatOk (m : List Nat) : Bool :=
  let n := mfChunks m
  let p := mfPayload m
  let a := leAt m 0x1C 4
  let b := leAt m 0x20 4
  leAt m 0 4 == 0x46575431 && leAt m 4 2 == 1 && leAt m 6 2 == 0x100 && (sub m 0x35 203).all (· == 0) &&
    n == (p + 4095) / 4096 && decide (1 ≤ n) && decide (n ≤ 1270) &&
    (sub m (0x100 + 32 * n) (32 * (1270 - n))).all (· == 0) && decide (leAt m 0x11 1 ≤ leAt m 0x12 1) &&
    decide (leAt m 0x15 1 ≤ leAt m 0x14 1) && a % 4 == 0 && b % 4 == 0 && decide (a < p) && decide (b < p)

/-- The signature over a manifest, R491. -/
def State.mfSigned (s : State) (d : Nat) (m : List Nat) : Bool :=
  let k := (s.n d).keys.at (mfKey m)
  Config.ecdsaOk k.x k.y (Config.sha256 (m.take 0x9FC0)) (sub m 0x9FC0 64)

/-- A manifest is checked in the order of Table 19-3; the first failure gives the code. -/
def State.mfCheck (s : State) (d : Nat) (m : List Nat) : Nat :=
  if !mfFormatOk m then Nc.format
  else if !s.keyOk d (mfKey m) 0 then Nc.key
  else if !s.mfSigned d m then Nc.sigFail
  else if leAt m 0x0C 2 != s.get d F.SEC_HWTYPE then Nc.hwType
  else if !s.stepsOk d (leAt m 0x0E 1) (leAt m 0x0F 1) then Nc.stepping
  else if !s.unitOk d (sub m 0x24 16) then Nc.unitId
  else if decide (mfSecVer m < s.get d F.SEC_SVN) then Nc.secVer
  else Nc.ok

/-- The manifest at an address, and the bytes of chunk i of an image. -/
def State.mfAt (s : State) (d base : Nat) : List Nat := s.rdBytes d base manifestLen
def State.chunkAt (s : State) (d base i : Nat) : List Nat := s.rdBytes d (base + 0xA000 + chunkLen * i) chunkLen

/-- The digest of chunk bytes equals entry i, R491. -/
def chunkOk (m : List Nat) (i : Nat) (bytes : List Nat) : Bool := (Config.sha256 bytes).toNat == beNum (mfHash m i)

/-- An image is verified, R492: its manifest, then every chunk. -/
def State.imageCheck (s : State) (d base : Nat) : Nat :=
  let m := s.mfAt d base
  let c := s.mfCheck d m
  if c != Nc.ok then c
  else if (List.range (mfChunks m)).all (fun i => chunkOk m i (s.chunkAt d base i)) then Nc.ok
  else Nc.hashFail

/-- The first chunk of an image whose digest differs; 0 when none does. -/
def State.badChunk (s : State) (d base : Nat) : Nat :=
  let m := s.mfAt d base
  ((List.range (mfChunks m)).find? (fun i => !chunkOk m i (s.chunkAt d base i))).getD 0

/-- NVM_ACTVER and NVM_ACTINFO show the active image. -/
def refreshActive (d : Nat) (s : State) : State :=
  let m := s.rdBytes d fwActive 0x40
  let s := (s.put d F.NVM_ACTVER (mfVersion m)).put d F.NVM_ACTINFO_PROTO (leAt m 0x10 1)
  let s := (s.put d F.NVM_ACTINFO_PEER_MIN (leAt m 0x11 1)).put d F.NVM_ACTINFO_PEER_MAX (leAt m 0x12 1)
  s.put d F.NVM_ACTINFO_SEC_VER (mfSecVer m)

/-! ### Sessions -/

/-- The session state of a die, and its change. -/
def State.upState (s : State) (d : Nat) : Nat := s.get d F.NVM_UPST_STATE
def putUp (d st : Nat) (s : State) : State := s.put d F.NVM_UPST_STATE st

/-- The bitmap: chunk i is present. -/
def State.upHas (s : State) (d i : Nat) : Bool := s.bitOf d (F.NVM_UPMAP (i / 32)) (i % 32)

/-- NVM_UPCNT, NVM_UPMISS and NVM_UPVER show the staged manifest and the bitmap. -/
def refreshUp (d : Nat) (s : State) : State :=
  let m := s.rdBytes d fwStaging 0x40
  let n := min 1270 (mfChunks m)
  let s := s.put d F.NVM_UPCNT_PRESENT (countBelow n (s.upHas d))
  let s := (s.put d F.NVM_UPCNT_NCHUNK n).put d F.NVM_UPVER (mfVersion m)
  s.put d F.NVM_UPMISS ((firstBelow n (fun i => !s.upHas d i)).getD 0x7FF)

/-- The bitmap is cleared. -/
def clearMap (d : Nat) (s : State) : State := overN 40 (fun j s => s.put d (F.NVM_UPMAP j) 0) s

/-- Every chunk of the staged manifest is present. -/
def State.upFull (s : State) (d : Nat) : Bool := s.get d F.NVM_UPMISS == 0x7FF

/-- A write to MRAM is refused now, R81, R432: NVM_TEMP, PFAIL_BLOCK, or 0. -/
def State.nvmRefusal (s : State) (d : Nat) : Nat :=
  if !s.nvmWindow d then Nc.nvmTemp else if (s.c d).sys.mramRefuse then Nc.pfailBlock else Nc.ok

/-- A refused command, R496: code, event and record; a refusal by NVM_TEMP or PFAIL_BLOCK is also a fault (R511). -/
def nvmRefuse (d op code at_ : Nat) (s : State) : State :=
  let s := s.put d F.NVM_ST_CODE code
  let s := if code == Nc.busy then s else s.put d F.NVM_ST_OP op
  let s := note d Blk.nvm 0x0105 1 0 code (s.get d F.NVM_ST_OP) at_ (s.on d F.NVM_EVT_REFUSED)
  if code == Nc.nvmTemp || code == Nc.pfailBlock then latchFault d Fg.nvm 3 false s else s

/-- A command starts, R496: BUSY until its outcome `code` stands. -/
def nvmBegin (d op ix code : Nat) (s : State) : State :=
  let s := (s.on d F.NVM_ST_BUSY).put d F.NVM_ST_OP op
  modNvm d (fun x => { x with busy := some (op, ix, code) }) s

/-- The session that a checked manifest opens, Table 19-4. -/
def openSession (d : Nat) (m : List Nat) (s : State) : State :=
  let same := s.upState d != Us.idle && Config.sha256 m == Config.sha256 (s.mfAt d fwStaging)
  let s := if same then s else clearMap d (s.wrBytes d fwStaging m)
  let s := (refreshUp d s).put d F.NVM_UPST_RESUMED (b2n same)
  let s := putUp d (if s.upFull d then Us.complete else Us.open_) s
  note d Blk.nvm 0x0100 0 0 (mfVersion m) (mfChunks m) (b2n same) s

/-- OPEN of a manifest: its refusal, or its outcome and its effect. -/
def updOpen (d : Nat) (m : List Nat) (s : State) : State :=
  let st := s.upState d
  let r := s.nvmRefusal d
  if s.flag d F.NVM_ST_BUSY then nvmRefuse d 3 Nc.busy 0 s
  else if st == Us.armed then nvmRefuse d 3 Nc.armed 0 s
  else if st == Us.held then nvmRefuse d 3 Nc.badState 0 s
  else if r != Nc.ok then nvmRefuse d 3 r 0 s
  else
    let c := s.mfCheck d m
    nvmBegin d 3 0 c (if c == Nc.ok then openSession d m s else s)

/-- The buffer at NVM_UPSRC cannot be read: not aligned, or not in SRAM. -/
def srcCode (a len : Nat) : Nat :=
  if a % 4 != 0 then Nc.align
  else if decide (a < 0x20000000) || decide (0x20600000 < a + len) then Nc.range
  else Nc.ok

/-- OPEN from the buffer. -/
def cmdOpen (d : Nat) (s : State) : State :=
  let a := s.get d F.NVM_UPSRC
  let c := srcCode a manifestLen
  if c != Nc.ok && !s.flag d F.NVM_ST_BUSY then nvmRefuse d 3 c a s else updOpen d (s.rdBytes d a manifestLen) s

/-- R496, R491, R492. NVM_UPCMD OPEN. -/
def execNvmUpdateOpen (d : CDie) (s : State) : Out :=
  onCW d.val (own 0x60100) (cmdOpen d.val) s

/-- CHUNK i with its bytes, R497: refusals, DUPLICATE, HASH_FAIL, or the chunk goes into staging. -/
def updChunk (d i : Nat) (bytes : List Nat) (s : State) : State :=
  let m := s.mfAt d fwStaging
  let r := s.nvmRefusal d
  if s.flag d F.NVM_ST_BUSY then nvmRefuse d 4 Nc.busy i s
  else if s.upState d != Us.open_ then nvmRefuse d 4 Nc.badState i s
  else if decide (mfChunks m ≤ i) then nvmRefuse d 4 Nc.index i s
  else if s.upHas d i then nvmBegin d 4 i Nc.duplicate s
  else if r != Nc.ok then nvmRefuse d 4 r i s
  else if !chunkOk m i bytes then nvmBegin d 4 i Nc.hashFail s
  else nvmBegin d 4 i Nc.ok (s.wrBytes d (fwStaging + 0xA000 + chunkLen * i) bytes)

/-- CHUNK from the buffer. -/
def cmdChunk (d i : Nat) (s : State) : State :=
  let a := s.get d F.NVM_UPSRC
  let c := srcCode a chunkLen
  if c != Nc.ok && !s.flag d F.NVM_ST_BUSY then nvmRefuse d 4 c a s else updChunk d i (s.rdBytes d a chunkLen) s

/-- R497. NVM_UPCMD CHUNK with its index. -/
def execNvmUpdateChunk (d : CDie) (i : BitVec 11) (s : State) : Out :=
  onCW d.val (own 0x60100) (cmdChunk d.val i.toNat) s

/-- RESUME of a HELD session, Table 19-4. -/
def updResume (d : Nat) (s : State) : State :=
  if s.flag d F.NVM_ST_BUSY then nvmRefuse d 5 Nc.busy 0 s
  else if s.upState d != Us.held then nvmRefuse d 5 Nc.badState 0 s
  else
    let m := s.mfAt d fwStaging
    let c := s.mfCheck d m
    let s := if c == Nc.ok then
        let s := (refreshUp d s).on d F.NVM_UPST_RESUMED
        putUp d (if s.upFull d then Us.complete else Us.open_) s
      else s
    nvmBegin d 5 0 c s

/-- R496. NVM_UPCMD RESUME. -/
def execNvmUpdateResume (d : CDie) (s : State) : Out :=
  onCW d.val (own 0x60100) (updResume d.val) s

/-- ABORT, Table 19-4: the bitmap and a copy request clear. -/
def updAbort (d : Nat) (s : State) : State :=
  let r := s.nvmRefusal d
  if s.flag d F.NVM_ST_BUSY then nvmRefuse d 6 Nc.busy 0 s
  else if s.upState d == Us.idle then nvmRefuse d 6 Nc.badState 0 s
  else if r != Nc.ok then nvmRefuse d 6 r 0 s
  else
    let s := refreshUp d (clearMap d (putUp d Us.idle s))
    let s := if s.get d F.NVM_JRNL_STATE == Js.pending then s.put d F.NVM_JRNL_STATE Js.idle else s
    nvmBegin d 6 0 Nc.ok (s.off d F.NVM_UPST_RESUMED)

/-- R496. NVM_UPCMD ABORT. -/
def execNvmUpdateAbort (d : CDie) (s : State) : Out :=
  onCW d.val (own 0x60100) (updAbort d.val) s

/-- A session is armed: the journal asks for the copy, Table 19-4. -/
def armSession (d : Nat) (s : State) : State :=
  let s := putUp d Us.armed (s.put d F.NVM_JRNL_STATE Js.pending)
  note d Blk.nvm 0x0102 1 0 (s.get d F.NVM_UPVER) (s.get d F.NVM_ACTVER) 0 s

/-- ARM, Table 19-4. -/
def updArm (d : Nat) (s : State) : State :=
  let r := s.nvmRefusal d
  if s.flag d F.NVM_ST_BUSY then nvmRefuse d 7 Nc.busy 0 s
  else if s.upState d != Us.complete then nvmRefuse d 7 Nc.badState 0 s
  else if r != Nc.ok then nvmRefuse d 7 r 0 s
  else nvmBegin d 7 0 Nc.ok (armSession d s)

/-- R496. A two-key write of 1 to NVM_UPARM.GO. -/
def execNvmUpdateArm (d : CDie) (m : Master) (s : State) : Out :=
  onC d.val (tkWrite d.val m (own F.NVM_UPARM_GO.off) d.val F.NVM_UPARM_GO.off 1#32 false (updArm d.val)) s

/-- The bitmap bit of a chunk is set by one word write, R497. -/
def chunkDone (d i : Nat) (s : State) : State :=
  let s := refreshUp d (s.putBit d (F.NVM_UPMAP (i / 32)) (i % 32) true)
  if s.upFull d then
    note d Blk.nvm 0x0101 0 0 (s.get d F.NVM_UPVER) 0 0 (putUp d Us.complete (s.on d F.NVM_EVT_COMPLETE))
  else s

/-- A write of higher order than the settings and the update chunks runs on C die d (R489): a prompt-book flush, or a store of
a libretto. -/
def State.nvmPaused (s : State) (d : Nat) : Bool :=
  s.flag d F.PROMPT_STAT_FLUSHING || (s.runs 0 && s.get 0 F.LIB_STAT_STATE == 2 && (d == 0 || !s.flag 0 F.HDR_RC_STATUS_SINGLE))

/-- R496, R497, R511. The NVM command that runs finishes, once no writer of higher order holds it up (R489): a settings write
has put its bytes in place, or the first `words` words of them when PFAIL or the window has ended it; a chunk's bit is set
unless one of these has; `bad`: a word read back differs after its write. -/
def execNvmCommandDone (d : CDie) (bad : Bool) (words : BitVec 12) (s : State) : Out :=
  onC d.val (fun s =>
    let d := d.val
    match (s.nvm d).busy with
    | none => s
    | some (op, ix, code) =>
      if code == Nc.ok && (op == 1 || op == 4) && s.nvmPaused d then s
      else
        let x := s.nvm d
        let len := if code == Nc.ok then x.wrLen else min x.wrLen (32 * words.toNat)
        let s := if op == 1 then s.copyMem d x.wrSrc d x.wrDst len else s
        let code := if code == Nc.ok && op != 2 && op != 5 && bad then Nc.writeFail else code
        let s := if op == 4 && code == Nc.ok then chunkDone d ix s else s
        let s := if code == Nc.writeFail then latchFault d Fg.nvm 0 false (s.on d F.NVM_EVT_WRFAIL) else s
        let s := if code == Nc.nvmTemp || code == Nc.pfailBlock then latchFault d Fg.nvm 3 false s else s
        let s := modNvm d (fun x => { x with busy := none }) s
        ((s.off d F.NVM_ST_BUSY).put d F.NVM_ST_CODE code).on d F.NVM_EVT_DONE) s

/-! ### Copy at start -/

/-- The window of R98: every C-die sensor. -/
def State.copyWindow (s : State) : Bool := (List.range 2).all (fun d => !s.runs d || s.nvmWindow d)

/-- A copy fails: COPY_FAILED, its record, and RECOVERY, R498. -/
def copyFail (d rcause code chunk : Nat) (s : State) : State :=
  let s := modNvm d (fun x => { x with copyAt := 0 }) (s.put d F.NVM_JRNL_STATE Js.failed)
  let s := recordRom d ⟨0x0104, Blk.nvm, d, 0, 3, code, chunk, s.get d F.NVM_UPVER, s.now32 d⟩ s
  enterRecovery d rcause s

/-- The time that a copy takes beside its units, 5 ms, and for a unit, 0.05 ms, in fabric counts (R498). -/
def copyLead : Nat := 2000000
def unitTime : Nat := 20000

/-- The ROM acts on the journal, R498 steps 1 to 3. -/
def copyBegin (d : Nat) (s : State) : State :=
  let now := s.now d
  if !s.copyWindow then modNvm d (fun x => { x with holdAt := now }) (s.put d F.HDR_RC_STATUS_HOLD 2)
  else
    let s := if s.get d F.HDR_RC_STATUS_HOLD == 2 then s.put d F.HDR_RC_STATUS_HOLD 0 else s
    let go := modNvm d (fun x => { x with copyAt := now + 1, unitAt := now + copyLead + unitTime })
    if s.get d F.NVM_JRNL_STATE == Js.pending then
      let c := s.imageCheck d fwStaging
      if c != Nc.ok then copyFail d 4 c (if c == Nc.hashFail then s.badChunk d fwStaging else 0) s
      else go ((s.put d F.NVM_JRNL_STATE Js.copying).modN d (fun v => { v with copyUnit := 0 }))
    else latchFault d Fg.nvm 1 false (go (s.count d F.NVM_JRNL_RESTARTS 1))

/-- A pending copy that this start has not yet begun. -/
def State.copyDue (s : State) (d : Nat) : Bool :=
  s.lc d != 4 && (s.get d F.NVM_JRNL_STATE == Js.pending || s.get d F.NVM_JRNL_STATE == Js.copying) && (s.nvm d).copyAt == 0

/-- A C die is starting, with its firmware not yet entered: its package has not reached STANDBY, or it rejoins a running
one. -/
def State.starting (s : State) (d : Nat) : Bool :=
  let st := s.get d F.SYS_DSTATE_STATE
  !(s.nvm d).entered && s.lc d != 4 &&
    (st == Dev.rollCall || st == Dev.bist || st == Dev.config || (d != s.lead && s.get d F.HDR_RC_STATUS_ROLE == 3))

/-- R498, R98. A start of C die d finds a copy pending: it begins, unless an NVM_TEMP hold is on (its rechecks go on then). -/
def execCopyAtStart (d : CDie) (s : State) : Out :=
  onC d.val (fun s =>
    if s.starting d.val && s.copyDue d.val && s.get d.val F.HDR_RC_STATUS_HOLD != 2 then copyBegin d.val s else s) s

/-- R98, R506. Every 100 µs of an NVM_TEMP hold the ROM checks the sensors again: within the window the erasures of a life-cycle
change are made and the copy starts. -/
def execNvmTempHoldRecheck (d : CDie) (s : State) : Out :=
  onC d.val (fun s =>
    let d := d.val
    let now := s.now d
    if (s.get d F.HDR_RC_STATUS_HOLD == 2 || (s.n d).eraseDue) && decide ((s.nvm d).holdAt + 40000 ≤ now) then
      let s := modNvm d (fun x => { x with holdAt := now }) s
      if s.copyWindow then
        let s := onlyIf (s.n d).eraseDue (lcErase d) s
        let s := s.put d F.HDR_RC_STATUS_HOLD 0
        if s.starting d && s.copyDue d then copyBegin d s else s
      else s
    else s) s

/-- The image is in place, R498 step 4. -/
def copyVerify (d : Nat) (s : State) : State :=
  let c := s.imageCheck d fwActive
  let ms := (s.now d + 1 - (s.nvm d).copyAt + 399999) / 400000
  let s := s.put d F.NVM_JRNL_COPYTIME (min 65535 ms)
  if c != Nc.ok then copyFail d 5 c (if c == Nc.hashFail then s.badChunk d fwActive else 0) s
  else
    let old := s.get d F.NVM_ACTVER
    let s := refreshActive d s
    let s := s.put d F.SEC_SVN (s.get d F.NVM_ACTINFO_SEC_VER)
    let s := putUp d Us.idle (s.put d F.NVM_JRNL_STATE Js.idle)
    let s := modNvm d (fun x => { x with copyAt := 0 }) s
    recordRom d ⟨0x0103, Blk.nvm, d, 0, 1, old, s.get d F.NVM_ACTVER, ms, s.get d F.SEC_SVN⟩ s

/-- R498 steps 3 and 4. A unit of the running copy completes when its time is over and the journal records the next; the copy
pauses while PFAIL is high and outside the window (R489). After the last unit the active image is verified. -/
def execCopyUnitDone (d : CDie) (s : State) : Out :=
  onC d.val (fun s =>
    let d := d.val
    if s.get d F.NVM_JRNL_STATE == Js.copying && (s.nvm d).copyAt != 0 && !s.flag d F.SYS_PFST_PFAIL &&
        s.nvmRefusal d == Nc.ok && decide ((s.nvm d).unitAt ≤ s.now d) then
      let u := (s.n d).copyUnit
      let next := s.now d + unitTime
      let s := modNvm d (fun x => { x with unitAt := next }) s
      let s := s.copyMem d (fwStaging + chunkLen * u) d (fwActive + chunkLen * u) chunkLen
      let s := s.modN d (fun v => { v with copyUnit := u + 1 })
      if u + 1 < 10 + mfChunks (s.rdBytes d fwStaging 0x40) then s else copyVerify d s
    else s) s

/-! ### Recovery -/

/-- Why the ROM of C die d enters RECOVERY at its start, R502, R87: BLANK, RCVY_N low, or an active image that fails its
verification with no copy pending; 0 for none. -/
def State.recoveryCause (s : State) (d : Nat) : Nat :=
  if s.lc d == 0 then 2
  else if !s.flag d F.HDR_RC_STRAP_RCVY_N then 1
  else if !s.copyDue d && (s.nvm d).copyAt == 0 && s.imageCheck d fwActive != Nc.ok then 3
  else 0

/-- R502, R87, R492. The boot ROM of C die d verifies what it would start: it enters RECOVERY for its cause, or the firmware
once no copy and no erasure is before it. -/
def execRecoveryEntry (d : CDie) (s : State) : Out :=
  onC d.val (fun s =>
    let c := s.recoveryCause d.val
    if !s.starting d.val then s
    else if c != 0 then enterRecovery d.val c s
    else if s.copyDue d.val || (s.nvm d.val).copyAt != 0 || (s.n d.val).eraseDue then s
    else modNvm d.val (fun x => { x with entered := true }) (refreshActive d.val s)) s

/-- The die serves the recovery service. -/
def State.recovering (s : State) (d : Nat) : Bool := s.get d F.SYS_DSTATE_STATE == Dev.recovery

/-- An answer of the service: the service byte OR 0x40, one NVM code, and what the service answers with, R502. -/
def answer (d byte code : Nat) (more : List Nat) (s : State) : State :=
  modNvm d (fun x => { x with answer := (byte + 0x40) :: code :: more }) s

/-- R502. Service IDENTIFY: hardware type, steppings by die index, unique ID, life cycle, security version and cause. -/
def execRecoveryIdentify (d : CDie) (s : State) : Out :=
  onC d.val (fun s =>
    let d := d.val
    if s.recovering d then
      let hw := s.get d F.SEC_HWTYPE
      let steps := (List.range 8).map (fun i => s.get d (F.HDR_RC_STEP_STEP i))
      answer d 1 Nc.ok ([hw % 256, hw / 256] ++ steps ++ s.uid d ++
        [s.wd d F.SEC_LC_STATE.off % 256, s.get d F.SEC_SVN, s.get d F.NVM_JRNL_RCAUSE]) s
    else s) s

/-- The code that a service's command ends with: that of the command that runs now, or the refusal. -/
def State.svcCode (s : State) (d : Nat) : Nat :=
  match (s.nvm d).busy with
  | some (_, _, c) => c
  | none => s.get d F.NVM_ST_CODE

/-- A service that runs a command of the update engine to its end and answers with its code. -/
def svcRun (d byte : Nat) (f : State → State) (s : State) : State :=
  let s := f (s.off d F.NVM_EVT_REFUSED)
  let c := s.svcCode d
  let s := match (s.nvm d).busy with
    | some (4, ix, 0) => chunkDone d ix s
    | _ => s
  let s := modNvm d (fun x => { x with busy := none }) (s.off d F.NVM_ST_BUSY)
  answer d byte c [] (s.put d F.NVM_ST_CODE c)

/-- R502. Service OPEN with its manifest: as OPEN, or as RESUME when the session is HELD. -/
def execRecoveryOpen (d : CDie) (manifest : List Byte) (s : State) : Out :=
  onC d.val (fun s =>
    let d := d.val
    if s.recovering d then
      svcRun d 2 (fun s => if s.upState d == Us.held then updResume d s
        else updOpen d ((manifest.map (·.toNat)).take manifestLen) s) s
    else s) s

/-- R502. Service CHUNK with its index and its bytes. -/
def execRecoveryChunk (d : CDie) (i : BitVec 16) (bytes : List Byte) (s : State) : Out :=
  onC d.val (fun s =>
    let d := d.val
    if s.recovering d then svcRun d 3 (updChunk d i.toNat ((bytes.map (·.toNat)).take chunkLen)) s else s) s

/-- R502. Service STATUS. -/
def execRecoveryStatus (d : CDie) (s : State) : Out :=
  onC d.val (fun s =>
    let d := d.val
    if s.recovering d then
      answer d 4 Nc.ok (wordBytes (s.wd d F.NVM_UPST_STATE.off) ++ wordBytes (s.wd d F.NVM_UPCNT_PRESENT.off) ++
        wordBytes (s.wd d F.NVM_UPMISS.off)) s
    else s) s

/-- The die is reset from the service: a package reset on C0. -/
def svcReset (d : Nat) (s : State) : State := if d == 0 then packageReset 0 s else dieReset d 0 false s

/-- R502. Service INSTALL: accepted in COMPLETE, it arms the session and resets the die. -/
def execRecoveryInstall (d : CDie) (s : State) : Out :=
  onC d.val (fun s =>
    let d := d.val
    if !s.recovering d then s
    else if s.upState d == Us.complete && s.nvmRefusal d == Nc.ok then svcReset d (armSession d (answer d 5 Nc.ok [] s))
    else answer d 5 (if s.upState d == Us.complete then s.nvmRefusal d else Nc.badState) [] s) s

/-- R502. Service RESET. -/
def execRecoveryReset (d : CDie) (s : State) : Out :=
  onC d.val (fun s => if s.recovering d.val then svcReset d.val (answer d.val 6 Nc.ok [] s) else s) s

/-! ### Settings -/

/-- The bank that a write or a COMMIT may use: the one that is not current; any while none is valid, R503. -/
def State.freeBanks (s : State) (d : Nat) : List Nat :=
  if s.get d F.NVM_SETST_VALID == 0 then [0, 1] else [1 - s.get d F.NVM_SETST_BANK]

/-- Why a settings write is refused, R503, R489. -/
def State.wrRefusal (s : State) (d : Nat) : Nat :=
  let src := s.get d F.NVM_WRSRC
  let dst := s.get d F.NVM_WRDST
  let len := s.get d F.NVM_WRLEN
  if s.flag d F.NVM_ST_BUSY then Nc.busy
  else if src % 4 != 0 || dst % 4 != 0 || len % 4 != 0 then Nc.align
  else if srcCode src len != Nc.ok || decide (126976 < len) then Nc.range
  else if !(s.freeBanks d).any (fun b => decide (bankAddr b ≤ dst) && decide (dst + len ≤ bankEnd b + 1)) then Nc.range
  else s.nvmRefusal d

/-- NVM_WRCMD.GO, R503. -/
def setWrite (d : Nat) (s : State) : State :=
  let r := s.wrRefusal d
  let dst := s.get d F.NVM_WRDST
  if r != Nc.ok then nvmRefuse d 1 r dst s
  else
    let src := s.get d F.NVM_WRSRC
    let len := s.get d F.NVM_WRLEN
    modNvm d (fun x => { x with wrSrc := src, wrDst := dst, wrLen := len }) (nvmBegin d 1 0 Nc.ok s)

/-- R503. A write of 1 to NVM_WRCMD.GO. -/
def execSettingsWrite (d : CDie) (s : State) : Out :=
  onCW d.val (own 0x6001C) (setWrite d.val) s

/-- The free bank that passes COMMIT: header and CRC valid, SEQ one above the current one. -/
def State.commitBank (s : State) (d : Nat) : Option Nat :=
  (s.freeBanks d).find? (fun b => s.bankOk d b &&
    (s.get d F.NVM_SETST_VALID == 0 || s.rd32 d (bankAddr b + 8) == (s.get d F.NVM_SETSEQ + 1) % 2 ^ 32))

/-- NVM_WRCMD.COMMIT, R503. -/
def setCommit (d : Nat) (s : State) : State :=
  if s.flag d F.NVM_ST_BUSY then nvmRefuse d 2 Nc.busy 0 s
  else
    match s.commitBank d with
    | none => nvmBegin d 2 0 Nc.setInvalid s
    | some b =>
      let s := refreshSettings d s
      let s := s.put d F.NVM_SETST_BANK b
      let s := (s.put d F.NVM_SETST_SCHEMA (s.rdLE d (bankAddr b + 4) 2)).put d F.NVM_SETSEQ (s.rd32 d (bankAddr b + 8))
      let s := note d Blk.nvm 0x0120 0 b b (s.get d F.NVM_SETSEQ) (s.get d F.NVM_SETST_SCHEMA) s
      nvmBegin d 2 b Nc.ok s

/-- R503. A write of 1 to NVM_WRCMD.COMMIT. -/
def execSettingsCommit (d : CDie) (s : State) : Out :=
  onCW d.val (own 0x6001C) (setCommit d.val) s

/-- A write of NVM_UPCMD, Table 19-4; an OP that the table does not list is BAD_CMD. -/
def upcmdWrite (d : Nat) (v : Word) (s : State) : State :=
  let w := v.toNat
  match w % 8 with
  | 0 => s
  | 1 => cmdOpen d s
  | 2 => cmdChunk d (w / 65536 % 2048) s
  | 3 => updResume d s
  | 4 => updAbort d s
  | _ => nvmRefuse d (s.get d F.NVM_ST_OP) Nc.badCmd 0 s

/-- A write of an NVM register at an offset of its block by master m. -/
def nvmWrite (d : Nat) (m : Master) (o : Nat) (v : Word) (s : State) : State :=
  let off := 0x60000 + o
  if o == 0x1C then onlyIf (bit v.toNat 1) (setCommit d) (onlyIf (bit v.toNat 0) (setWrite d) s)
  else if o == 0x100 then upcmdWrite d v s
  else if o == 0x114 then tkWrite d m (own off) d off v false (onlyIf (bit v.toNat 0) (updArm d)) s
  else plainWrite d off v false s

end Sys2Proof.Machine
end

