-- ==== Sys2Proof/Machine/Sec.lean ====
section
/-! DEFINITION. Keys, life cycle, debug authentication and the test access port (R493 to R495, R506 to R509, R513). -/

namespace Sys2Proof.Machine

/-- SEC_ST.CODE, Table 19-13. -/
abbrev Sx.ok := 0
abbrev Sx.badTransition := 1
abbrev Sx.noFwKey := 2
abbrev Sx.noImage := 3
abbrev Sx.noReturnAuth := 4
abbrev Sx.notValid := 5
abbrev Sx.lastFwKey := 6
abbrev Sx.inUse := 7
abbrev Sx.authFail := 8
abbrev Sx.locked := 9
abbrev Sx.slotUsed := 0xA

/-- A refused command writes its code to SEC_ST. -/
def secRefuse (d code : Nat) (s : State) : State := (s.put d F.SEC_ST_CODE code).on d F.SEC_EVT_REFUSED

/-- The state of a key slot: 0 EMPTY, 1 VALID, 2 REVOKED. -/
def State.keySt (s : State) (d slot : Nat) : Nat := s.get d F.SEC_KEYST / 4 ^ slot % 4
def putKeySt (d slot st : Nat) (s : State) : State :=
  let w := s.get d F.SEC_KEYST
  s.put d F.SEC_KEYST (w - s.keySt d slot * 4 ^ slot + st * 4 ^ slot)

/-! ### Keys -/

/-- The image at an address names a slot: a manifest has its magic and the slot. -/
def State.imgNames (s : State) (d base slot : Nat) : Bool :=
  s.rd32 d base == 0x46575431 && s.rdB d (base + 0x34) == slot

/-- A slot is in use, R494: by the active image of either C die, an ARMED staged image, or the ACTIVE or PREVIOUS libretto. -/
def State.keyInUse (s : State) (d slot : Nat) : Bool :=
  (List.range 2).any (fun e => s.runs e && (s.imgNames e fwActive slot ||
    (s.upState e == Us.armed && s.imgNames e fwStaging slot))) ||
    [(s.n d).active, (s.n d).prev].any (fun x => x != 0 && s.rdB d (slotAddr x + 0x30) == slot)

/-- Why a revocation is refused, R494. -/
def State.revokeRefusal (s : State) (d slot : Nat) : Nat :=
  if s.keySt d slot != 1 then Sx.notValid
  else if s.keyOk d slot 0 && (List.range 8).all (fun j => j == slot || !s.keyOk d j 0) then Sx.lastFwKey
  else if s.keyInUse d slot then Sx.inUse
  else Sx.ok

/-- A slot is revoked, or not; a session whose manifest names it becomes HELD, R494. -/
def revoke (d slot : Nat) (s : State) : State :=
  let c := s.revokeRefusal d slot
  if c != Sx.ok then secRefuse d c s
  else
    let s := putKeySt d slot 2 (s.put d F.SEC_ST_CODE Sx.ok)
    let st := s.upState d
    let s := if (st == Us.open_ || st == Us.complete) && s.imgNames d fwStaging slot then putUp d Us.held s else s
    note d Blk.sec 0x0111 1 slot slot (s.get d (F.SEC_KEYUSE slot)) 0 s

/-- A write of SEC_REVOKE that a two-key sequence releases. -/
def revokeWrite (d : Nat) (v : Word) (s : State) : State :=
  let slot := v.toNat % 8
  let s := s.put d F.SEC_REVOKE_SLOT slot
  if bit v.toNat 8 then revoke d slot s else s

/-- R494. A two-key write of SEC_REVOKE with SLOT and GO = 1. -/
def execSecRevoke (d : CDie) (m : Master) (slot : Fin 8) (s : State) : Out :=
  onC d.val (fun s =>
    let v := BitVec.ofNat 32 (slot.val + 256)
    tkWrite d.val m (own F.SEC_REVOKE_SLOT.off) d.val F.SEC_REVOKE_SLOT.off v false (revokeWrite d.val v) s) s

/-- The port of a C die, and a change of it. -/
def State.port (s : State) (d : Nat) : TapC := s.tap.at d
def modTap (d : Nat) (f : TapC → TapC) (s : State) : State := { s with tap := s.tap.mod d f }

/-- Instructions of R508. -/
abbrev Ti.idcode := 0x01
abbrev Ti.sample := 0x02
abbrev Ti.extest := 0x03
abbrev Ti.prov := 0x10
abbrev Ti.debug := 0x11
abbrev Ti.auth := 0x12
abbrev Ti.scan := 0x20
abbrev Ti.bypass := 0xFF

/-- A key is programmed through the PROV instruction, R493: 16 words of key data are its x and y, in byte order. -/
def keyProgram (d slot use_ : Nat) (data : List Nat) (s : State) : State :=
  let s := overN 16 (fun i s => s.put d (F.SEC_KEYDATA i) (data.getD i 0)) s
  let s := (s.put d F.SEC_KEYPROG_SLOT slot).put d F.SEC_KEYPROG_USE use_
  if s.keySt d slot != 0 then secRefuse d Sx.slotUsed s
  else
    let bytes := (List.range 16).flatMap (fun i => wordBytes (data.getD i 0))
    let k : KeySlot := ⟨BitVec.ofNat 256 (beNum (bytes.take 32)), BitVec.ofNat 256 (beNum (bytes.drop 32))⟩
    let s := s.modN d (fun v => { v with keys := v.keys.set slot k })
    (putKeySt d slot 1 (s.put d (F.SEC_KEYUSE slot) use_)).put d F.SEC_ST_CODE Sx.ok

/-- R493. SEC_KEYPROG.GO through the PROV instruction, in BLANK or MANUFACTURE. -/
def execKeyProgram (d : CDie) (slot : Fin 8) (use_ : BitVec 4) (data : List Word) (s : State) : Out :=
  atC d.val (fun s =>
    if (s.port d.val).ir == Ti.prov && decide (s.lc d.val ≤ 1) then
      keyProgram d.val slot.val use_.toNat (data.map (·.toNat)) s
    else s) s

/-! ### Life cycle -/

/-- Why a transition is refused, Table 19-9; `prov`: it is made through the PROV instruction. -/
def State.lcRefusal (s : State) (d target : Nat) (prov : Bool) : Nat :=
  let st := s.lc d
  if st == 0 && target == 1 && prov then
    if (List.range 8).any (fun j => s.keyOk d j 0) then Sx.ok else Sx.noFwKey
  else if st == 1 && target == 2 then
    if (List.range 2).all (fun e => !s.hasC e || s.imageCheck e fwActive == Nc.ok) then Sx.ok else Sx.noImage
  else if st == 2 && target == 3 && !prov then
    if s.flag d F.SEC_DBGST_RETOK then Sx.ok else Sx.noReturnAuth
  else if decide (1 ≤ st) && decide (st ≤ 3) && target == 4 && !prov then Sx.ok
  else Sx.badTransition

/-- A transition is requested: it is programmed on both C dies, R506. -/
def lcRequest (d target : Nat) (prov : Bool) (s : State) : State :=
  let c := s.lcRefusal d target prov
  if c != Sx.ok then secRefuse d c s
  else
    let s := overN 2 (fun e s => if s.hasC e then s.put e F.SEC_LC_PENDING target else s) s
    let s := (s.put d F.SEC_ST_CODE Sx.ok).on d F.SEC_EVT_LCREQ
    note d Blk.sec 0x0110 1 0 (s.lc d) target 0 s

/-- A write of SEC_LCCMD that a two-key sequence releases. -/
def lccmdWrite (d : Nat) (v : Word) (s : State) : State :=
  let s := s.put d F.SEC_LCCMD_TARGET (v.toNat % 8)
  if bit v.toNat 8 then lcRequest d (v.toNat % 8) false s else s

/-- R506. A two-key write of SEC_LCCMD with TARGET and GO = 1. -/
def execSecLccmd (d : CDie) (m : Master) (target : Fin 8) (s : State) : Out :=
  onC d.val (fun s =>
    let v := BitVec.ofNat 32 (target.val + 256)
    tkWrite d.val m (own F.SEC_LCCMD_TARGET.off) d.val F.SEC_LCCMD_TARGET.off v false (lccmdWrite d.val v) s) s

/-! ### Debug authentication -/

/-- What the signature covers: unique ID, nonce and request, R509. -/
def State.authMsg (s : State) (d : Nat) : List Nat :=
  s.uid d ++ (List.range 4).flatMap (fun i => wordBytes (s.get d (F.SEC_DBGCHAL i))) ++
    wordBytes (s.wd d F.SEC_DBGREQ_PAIRA.off)

/-- The slot whose key matches the response. -/
def State.authSlot (s : State) (d : Nat) : Option Nat :=
  let use_ := if s.flag d F.SEC_DBGREQ_RETURN then 3 else 2
  let sig := (List.range 16).flatMap (fun i => wordBytes (s.get d (F.SEC_DBGRESP i)))
  (List.range 8).find? (fun j => s.keyOk d j use_ &&
    (let k := (s.n d).keys.at j
     Config.ecdsaOk k.x k.y (Config.sha256 (s.authMsg d)) sig))

/-- An attempt, R509: a match opens what is requested, three failures lock; each attempt draws a new nonce. -/
def authenticate (d : Nat) (s : State) : State :=
  if s.lc d != 2 then s.on d F.SEC_EVT_WRREF
  else if s.flag d F.SEC_DBGST_LOCKED then secRefuse d Sx.locked s
  else
    let req := s.wd d F.SEC_DBGREQ_PAIRA.off
    match s.authSlot d with
    | some j =>
      let s := if s.flag d F.SEC_DBGREQ_RETURN then s.on d F.SEC_DBGST_RETOK
        else s.put d F.SEC_DBGST_OPEN (Nat.lor (s.get d F.SEC_DBGST_OPEN) (req % 4))
      let s := ((s.put d F.SEC_DBGST_SLOT j).put d F.SEC_ST_CODE Sx.ok).on d F.SEC_EVT_AUTHOK
      newNonce d (note d Blk.sec 0x0112 2 0 req j 0 s)
    | none =>
      let n := s.get d F.SEC_DBGST_FAILCNT + 1
      let s := s.put d F.SEC_DBGST_FAILCNT n
      let s := onlyIf (decide (3 ≤ n)) (fun s => s.on d F.SEC_DBGST_LOCKED) s
      let s := (secRefuse d Sx.authFail s).on d F.SEC_EVT_AUTHFAIL
      newNonce d (note d Blk.sec 0x0113 2 0 Sx.authFail n req s)

/-- R509. A write of 1 to SEC_DBGCMD.GO, by the safety master or over AUTH. -/
def execDebugAuth (d : CDie) (s : State) : Out :=
  onCW d.val (own 0x70160) (authenticate d.val) s

/-! ### Test access port -/

/-- The life-cycle state opens an instruction, R508. -/
def State.tapOpens (s : State) (d op : Nat) : Bool :=
  let lc := s.lc d
  if op == Ti.idcode then true
  else if op == Ti.sample then lc != 4
  else if op == Ti.extest then lc == 0 || lc == 1 || lc == 3
  else if op == Ti.prov then decide (lc ≤ 1)
  else if op == Ti.debug then lc == 1 || lc == 3 || (lc == 2 && s.flag d F.SEC_DBGST_OPEN)
  else if op == Ti.auth then lc == 2
  else if op == Ti.scan then lc == 1 || lc == 3
  else false

/-- An instruction is selected, BYPASS in place of one that is not open. -/
def tapSelect (d op : Nat) (s : State) : State :=
  modTap d (fun t => { t with ir := if s.tapOpens d op then op else Ti.bypass, drives := s.tapOpens d op && op == Ti.extest }) s

/-- IDCODE of a die: stepping letter, HW_TYPE, 0x4E7, 1. -/
def State.idcode (s : State) (d : Nat) : Nat := 0xB * 2 ^ 28 + s.get d F.SEC_HWTYPE * 2 ^ 12 + 0x4E7 * 2 + 1

/-- R508. JTAG instruction IDCODE on C die d; the identification is kept as the die's read data. -/
def execIdcode (d : CDie) (s : State) : Out :=
  atC d.val (fun s =>
    let s := tapSelect d.val Ti.idcode s
    s.modSys d.val (fun y => { y with rdata := BitVec.ofNat 32 (s.idcode d.val) })) s

/-- R508. JTAG instruction SAMPLE/PRELOAD: the boundary-scan cells sampled or loaded. -/
def execSamplePreload (d : CDie) (cells : List Bool) (s : State) : Out :=
  atC d.val (fun s =>
    let s := tapSelect d.val Ti.sample s
    if (s.port d.val).ir == Ti.sample then modTap d.val (fun t => { t with cells := cells }) s else s) s

/-- R508. JTAG instruction EXTEST: the boundary scan drives the terminals. -/
def execExtest (d : CDie) (s : State) : Out := atC d.val (tapSelect d.val Ti.extest) s

/-- R508, R506. JTAG instruction PROV, and a life-cycle transition requested through it. -/
def execProv (d : CDie) (target : Option Byte) (s : State) : Out :=
  atC d.val (fun s =>
    let s := tapSelect d.val Ti.prov s
    match target with
    | some t => if (s.port d.val).ir == Ti.prov then lcRequest d.val t.toNat true s else s
    | none => s) s

/-- R508. JTAG instruction DEBUG. -/
def execDebug (d : CDie) (s : State) : Out := atC d.val (tapSelect d.val Ti.debug) s

/-- R508. JTAG instruction AUTH. -/
def execAuth (d : CDie) (s : State) : Out := atC d.val (tapSelect d.val Ti.auth) s

/-- R508. JTAG instruction SCAN. -/
def execScan (d : CDie) (s : State) : Out := atC d.val (tapSelect d.val Ti.scan) s

/-- R508. JTAG instruction BYPASS. -/
def execBypass (d : CDie) (s : State) : Out := atC d.val (tapSelect d.val Ti.bypass) s

/-! ### Registers -/

/-- A write of a SEC register at an offset of its block by master m. -/
def secWrite (d : Nat) (m : Master) (o : Nat) (v : Word) (s : State) : State :=
  let off := 0x70000 + o
  if o == 0x4 then tkWrite d m (own off) d off v false (lccmdWrite d v) s
  else if o == 0x44 then tkWrite d m (own off) d off v false (revokeWrite d v) s
  else if 0x120 ≤ o ∧ o < 0x160 then s.setReg d off v
  else if o == 0x160 then onlyIf (bit v.toNat 0) (authenticate d) s
  else plainWrite d off v false s

end Sys2Proof.Machine
end

