-- ==== Sys2Proof/Machine/Handover.lean ====
section
/-! DEFINITION. Ownership of the D dies (R15 to R18, R140 to R145, R337, R361, R363): the handover message by message, the
switch at B, takeover and restoring takeover, and a link that retrains. -/

namespace Sys2Proof.Machine

/-! ### Retraining and restoring -/

/-- The C die that restores a D die, R337 step 3: the one that HDR_OWNCFG names, C0 outside dual control. -/
def State.restorer (s : State) (k : Nat) : Nat := if s.dual && s.bitOf s.lead F.HDR_OWNCFG_C1 k then 1 else 0

/-- The device is past its start, so that a D die reset is restored without a package roll call, R337. -/
def State.pastStart (s : State) : Bool := decide (Dev.config ≤ s.dev) && decide (s.dev ≤ Dev.lockdown)

/-- A restoring takeover of D die k by C die d begins, or waits for the end of another one. -/
def restoreBegin (d k : Nat) (s : State) : State :=
  if s.pastStart && s.restorer k == d && s.restorable d k then
    if (s.c d).hdr.ho.active then s.modHdr d (fun h => { h with restoreDue := setBit h.restoreDue k true })
    else takeMark d k true s
  else s

/-- Link end n of C die d has retrained by itself: the instance of fault collection is no longer active; ownership stays. -/
def retrain (d n : Nat) (s : State) : State := refreshLockout <|
  if s.flag d (F.HDR_L_STAT_UP n) then s
  else
    let s := endActive d Fg.link n (linkUp d n s)
    if n == 0 then s else restoreBegin d (n - 1) s

/-- R136, R337. A lost link of die i retrains: never restoring ownership. A D die that has reset outside a package reset is
then restored by the C die that the libretto names. -/
def execLinkRetrained (i : DieIx) (n : Fin 7) (s : State) : Out :=
  onLink i.val n.val (fun s =>
    let far := farEnd i.val n.val
    let up := if far < 2 then s.runs far && s.fabric far else s.runsD (far - 2)
    if i.val < 2 then (if up && s.fabric i.val then retrain i.val n.val s else s)
    else linkFresh i.val n.val s) s

/-- The slot whose libretto is applied, as LIB_STAT.SOURCE says; 0 for the factory libretto and for the user default alone. -/
def State.appliedSlot (s : State) (d : Nat) : Nat :=
  match s.get d F.LIB_STAT_SOURCE with
  | 2 => (s.n d).active
  | 3 => (s.n d).prev
  | _ => 0

/-- The user default lies under the applied libretto (not under the factory libretto alone, R122). -/
def State.appliedUser (s : State) (d : Nat) : Nat := if s.get d F.LIB_STAT_SOURCE == 0 then 0 else (s.n d).userdef

/-- Every record of the applied libretto that writes the DRV window of D die k, in the order of an apply (R119, R337 step
4), the UCODE section among them; the sections of both dies, as the restoring die holds them. -/
def replayDrv (d k : Nat) (s : State) : State :=
  let l : Layers := ⟨s.sectsOf d (s.appliedSlot d), s.sectsOf d (s.appliedUser d)⟩
  let ys := s.replacements l
  let inWindow := fun addr => decide (drvAddr k 0 ≤ addr) && decide (addr < drvAddr (k + 1) 0)
  let both := fun kind tgt => [0, 1].filterMap (fun e => chosen l ys e kind tgt)
  whileLoading d (fun s => (List.range 0x12).foldl (fun s kind => targets.foldl (fun s tgt =>
    (both kind tgt).foldl (fun s x => runKept d inWindow x s) s) s) s) s

/-! ### Takeover -/

/-- The axes of D die k enter their curtain states on the taker with cause TAKEOVER and the state of the orphan command,
R363. -/
def takeEnter (d k : Nat) (s : State) : State :=
  overL (s.axOf k) (fun a s =>
    let s := s.modAx d a (fun x => { x with takeover := setBit x.takeover k true })
    if s.inCurtain d a then raiseCause d a Cause.takeover s
    else
      let leg := ((List.range 3).find? (fun leg => s.legAx k leg == a)).getD 0
      let s := curtainBegin d a Cause.takeover s
      curtainAfter d a Cause.takeover (s.put d (F.SAFE_AX_STAT_STATE a) (s.get (dix k) F.DRV_D_ORPHAN / 4 ^ leg % 4))) s

/-- The code that refuses a TAKE of D die k by C die d, R140, R145; 0 when accepted. LINK_FAULT for a link that is down, last,
is a DESIGN CHOICE (log entry 52). -/
def State.takeRefusal (s : State) (d k : Nat) : Nat :=
  if !s.hasD k then Ho.noDie
  else if (s.c d).hdr.ho.active then Ho.busy
  else if !s.orphan k then Ho.notOrphan
  else if !s.linkD d k then Ho.linkFault
  else Ho.ok

/-- A TAKE of C die d: the clock is forwarded, TAKE is sent, and the axes enter their curtain states (R145, R363). -/
def takeTry (d k : Nat) (s : State) : State :=
  let code := s.takeRefusal d k
  if code == Ho.ok then takeEnter d k (takeMark d k false s)
  else (s.put d F.HDR_HO_STAT_CODE code).put d F.HDR_HO_STAT_DIE k

/-- Cause TAKEOVER of a D die's axes ends on both C dies, R363. -/
def takeoverDone (k : Nat) (s : State) : State :=
  overN 2 (fun d s => overL (s.axOf k) (fun a s =>
    let s := s.modAx d a (fun x => { x with takeover := setBit x.takeover k false })
    if (s.axCurt d a).takeover == 0 then dropCause d a Cause.takeover s else s) s) s

/-- The D die leaves its orphan state under its new owner, its legs under the orphan commands as curtain commands (R145,
R363), and the latches of trips whose C die has lost its link end (R342). Its stage time is reloaded by the TIME flits that
the taker has sent (R139). -/
def leaveOrphan (d k : Nat) (s : State) : State :=
  let i := dix k
  let s := setOwner k d s
  let s := s.put i F.DRV_D_CURTAIN (s.get i F.DRV_D_ORPHAN)
  let lost := fun b => !s.linkD (b % 8 / 4) k
  let s := s.modD k (fun x =>
    { x with takenBy := none, commit := none,
             legs := [0, 1, 2].foldl (fun m leg => m.mod leg (fun y =>
               { y with curtainHeld := y.orphanHeld, orphanHeld := none })) x.legs,
             sluice := bitsOf 24 (fun b => bit x.sluice b && !lost b) })
  overN 2 (fun e s => if s.runs e then refreshInact e s else s) (settle k s).syncOwn

/-- The takeover completes, R145, R337 step 5: HDR_OWN and DONE report it, and it is recorded. -/
def takeFinish (d k : Nat) (s : State) : State :=
  let s := (s.put d F.HDR_HO_STAT_STATE 0).put d F.HDR_HO_STAT_CODE Ho.ok
  let s := s.on d F.HDR_HO_STAT_DONE
  let s := recordEvent d ⟨0x0051, Blk.hdr, dix k, k, 2, k, d, s.wd d F.HDR_HO_STAT_STATE.off, s.now32 d⟩ s
  (hoEnd d s).syncOwn

/-- The rule of every axis of the D die that is in its curtain state is evaluated, and its state written to the die (R358,
R363). -/
def takeRule (d k : Nat) (s : State) : State :=
  overL (s.axOf k) (fun a s =>
    let s := evalCurtain d a s
    let st := s.get d (F.SAFE_AX_STAT_STATE a)
    if st == Cs.none || st == Cs.pending then s else writeOrphan d a st (writeCurtain d a st s)) s

/-- The CRC-32 of the microcode that C die d holds for D die k: its ROM copy of the baseline, or, where bank 1 is active, the
UCODE section of the applied libretto (R145, R332). -/
def State.takerCrc (s : State) (d k : Nat) : Nat :=
  if s.flag (dix k) F.DRV_D_UC_STAT_BANK then bankCrc (replayDrv d k s) k 1 else crc32 (s.rdBytes d 0x3F800 2048)

/-- The readback of a takeover's microcode CRC, R145, R337 steps 3 to 5; `ok`: it came back as the die holds it. -/
def takeAnswer (d : Nat) (ok : Bool) (s : State) : State :=
  let h := (s.c d).hdr.ho
  let k := h.die
  if !(h.active && h.taking) || (s.dd k).takenBy != some d || !s.linkD d k || !s.runsD k then s
  else if h.restoring then
    if ok then
      let s := leaveOrphan d k (lockUcode k (pushUcode d k s))
      let s := settle k (replayDrv d k s)
      takeFinish d k (takeRule d k (loadOrphans d (takeoverDone k s)))
    else if bit (s.c d).hdr.ucAgain k then
      let s := s.modHdr d (fun x => { x with ucDead := setBit x.ucDead k true })
      latchFault d Fg.link (k + 1) true (takeCancel d Ho.ucodeMismatch s)
    else s.modHdr d (fun x => { x with ucAgain := setBit x.ucAgain k true })
  else if ok && s.flag (dix k) F.DRV_D_STAT_UCODE && s.get (dix k) F.DRV_D_UC_CRC == s.takerCrc d k then
    let s := leaveOrphan d k s
    takeFinish d k (takeRule d k (takeoverDone k s))
  else takeCancel d Ho.ucodeMismatch s

/-- R138, R145. An RDRSP reaches C die d for core k: its read completes with the data, or with REMOTE_ERR and a bus error.
`k` = 4 is the readback of the microcode CRC in a takeover; `crcOk` says that it came back as the D die holds it. -/
def execRemoteReadResponse (d : CDie) (k : Fin 5) (machine crcOk : Bool) (s : State) : Out :=
  onC d.val (fun s =>
    if h : k.val < 4 then
      let r := (s.c d.val).hdr.reads.at k.val
      match r.active, r.rsp with
      | true, some (data, st) =>
        let s := readEnd d.val k.val s
        if st == 0 then s.modSys d.val (fun y => { y with rdata := BitVec.ofNat 32 data })
        else busTrap d.val (.core ⟨k.val, h⟩ machine) r.addr false (accErr d.val Acc.remoteErr r.die st r.addr false s)
      | _, _ => s
    else takeAnswer d.val crcOk s) s

/-- R145. The TAKE of C die d reaches D die k, which accepts the first one as an orphan and answers any later one with
NOT_ORPHAN. -/
def execTakeReceive (d : CDie) (k : DDie) (s : State) : Out :=
  onDC d.val k.val (fun s =>
      let h := (s.c d.val).hdr.ho
      if s.runs d.val && h.active && h.taking && !h.restoring && h.die == k.val && s.linkD d.val k.val then
        if s.orphan k.val && (s.dd k.val).takenBy.isNone then s.modD k.val (fun x => { x with takenBy := some d.val })
        else if (s.dd k.val).takenBy == some d.val then s
        else takeCancel d.val Ho.notOrphan (tellFlit (dix k.val) d.val Fl.own (ownPayload Own.notOrphan k.val 0) s)
      else s) s

/-! ### The command -/

/-- A write of HDR_HO_CMD that the safety master's two keys release: OP 1 HANDOVER, 2 TAKE; the register reads 0. -/
def hoCmd (d : Nat) (v : Word) (s : State) : State :=
  let k := F.HDR_HO_CMD_DIE.ofWord v
  match F.HDR_HO_CMD_OP.ofWord v with
  | 1 => hoTry d k false false s
  | 2 => takeTry d k s
  | _ => s

/-- A write of HDR_HO_CMD by a master. -/
def hoCmdWrite (d : Nat) (m : Master) (v : Word) (s : State) : State :=
  tkWrite d m (own F.HDR_HO_CMD_DIE.off) d F.HDR_HO_CMD_DIE.off v false (hoCmd d v) s

/-- R140, R141, R143. HANDOVER of D die k is written to HDR_HO_CMD of C die d. -/
def execHandover (d : CDie) (m : Master) (k : Fin 8) (s : State) : Out :=
  onC d.val (hoCmdWrite d.val m (BitVec.ofNat 32 (k.val + 16))) s

/-- R145, R363. TAKE of D die k is written to HDR_HO_CMD of C die d. -/
def execTake (d : CDie) (m : Master) (k : Fin 8) (s : State) : Out :=
  onC d.val (hoCmdWrite d.val m (BitVec.ofNat 32 (k.val + 32))) s

/-! ### Offer, ready, commit -/

/-- The axis of an engine's section is one of those. -/
def State.engOn (s : State) (d n : Nat) (as : List Nat) : Bool := as.any (fun a => (s.c d).loop.engAx.at n == a + 1)

/-- The twins on C die e of the owner's ACTIVE engines of some axes, as (engine, twin), R235. -/
def State.twins (s : State) (e : Nat) (as : List Nat) : List (Nat × Nat) :=
  ((List.range 64).filter (fun n =>
    s.get (1 - e) (F.LOOP_LE_CFG_MODE n) == Lm.active && s.engOn (1 - e) n as &&
      s.get e (F.LOOP_LE_CFG_MODE (s.get (1 - e) (F.LOOP_LE_TWIN n))) == Lm.standby)).map
    (fun n => (n, s.get (1 - e) (F.LOOP_LE_TWIN n)))

/-- Mirroring begins on C die e for some axes, R235, R301. -/
def mirrorBegin (e : Nat) (as : List Nat) (s : State) : State :=
  let s := (s.twins e as).foldl (fun s x =>
    (s.on e (F.LOOP_LE_STAT_MIRROR x.2)).modEng e x.2 (fun y =>
      { y with synced := false, matched := 0, mail := none, crcOwner := none, crcTwin := none })) s
  overL as (fun a s => overL (s.pairsOf e a) (fun p s => s.on e (F.PWM_PP_STAT_MIRROR p)) s) s

/-- R141, R143, R235, R272, R301. C die d receives the HO_OFFER of the owner: it mirrors the engines and the pairs of the
axes; a static handover needs no mirror. -/
def execHoOfferReceive (d : CDie) (s : State) : Out :=
  onC d.val (fun s =>
    let h := (s.c (1 - d.val)).hdr.ho
    if s.runs (1 - d.val) && h.active && !h.taking && !(s.c d.val).hdr.offer.active && s.linkC d.val then
      let s := s.modHdr d.val (fun x => { x with offer := ⟨true, h.die, h.static, h.b⟩ })
      if h.static then s else mirrorBegin d.val (s.mateAxes h.die) s
    else s) s

/-- The new owner is ready, R235 step 4, R143, R272. -/
def State.hoReady (s : State) (d : Nat) : Bool :=
  let h := (s.c d).hdr.ho
  let as := s.mateAxes h.die
  h.static || ((s.twins (1 - d) as).all (fun x => decide (2 ≤ ((s.c (1 - d)).eng.at x.2).matched)) &&
    as.all (fun a => !(s.phase d a == Ph.catch_ || s.phase d a == Ph.align || s.phase d a == Ph.engage)))

/-- R141. The owner, C die d, receives HO_READY, no later than B − 2 µs: it sends HO_COMMIT to the D dies. -/
def execHoReadyReceive (d : CDie) (s : State) : Out :=
  onC d.val (fun s =>
    let h := (s.c d.val).hdr.ho
    if h.active && !h.taking && s.get d.val F.HDR_HO_STAT_STATE == 1 && (s.c (1 - d.val)).hdr.offer.active &&
        s.linkC d.val && s.hoReady d.val && decide (s.now d.val + 800 ≤ h.b) then
      let s := tellFlit (1 - d.val) 0 Fl.own (ownPayload Own.ready h.die h.b) s
      let s := overL (s.mates h.die) (fun j s => tellFlit d.val (j + 1) Fl.own (ownPayload Own.commit j h.b) s) s
      s.put d.val F.HDR_HO_STAT_STATE 2
    else s) s

/-- R144. HO_READY has not come by B − 2 µs: the handover is cancelled. -/
def execHoReadyDeadline (d : CDie) (s : State) : Out :=
  onC d.val (fun s =>
    if (s.c d.val).hdr.ho.active && s.get d.val F.HDR_HO_STAT_STATE == 1 &&
        decide ((s.c d.val).hdr.ho.b < s.now d.val + 800) then hoCancel d.val Ho.readyLate s else s) s

/-- R141, R144. D die k receives the HO_COMMIT of its owner, by B − 500 ns: it is armed for B. -/
def execHoCommitReceive (k : DDie) (s : State) : Out :=
  onD k.val (fun s =>
    let d := s.owner k.val
    let h := (s.c d).hdr.ho
    let st := s.get d F.HDR_HO_STAT_STATE
    if s.reaches d k.val && s.runs d && h.active && !h.taking && (st == 2 || st == 3) && (s.mates h.die).contains k.val &&
        decide (s.now d + 200 ≤ h.b) then
      (s.modD k.val (fun x => { x with commit := some (1 - d, h.b, h.static) })).put d F.HDR_HO_STAT_STATE 3
    else s) s

/-- R144, R361. The owner, C die d, cancels its handover for a cause of R144, named by its code; the cause must hold. -/
def execHoCancel (d : CDie) (code : Fin 14) (s : State) : Out :=
  onC d.val (fun s =>
    let h := (s.c d.val).hdr.ho
    let as := s.mateAxes h.die
    let holds := match code.val with
      | 5 => as.any (fun a => s.inCurtain d.val a)
      | 6 => !h.static && !((s.mateGroups d.val h.die).all (fun g => s.isBoundary d.val g (h.b - s.now d.val)))
      | 7 => s.get d.val F.HDR_HO_STAT_STATE == 1 && decide (h.b < s.now d.val + 800)
      | 8 => !s.linkC d.val || (s.mates h.die).any (fun j => !s.linkD d.val j || !(s.link d.val (j + 1)).resend.isEmpty) ||
          !(s.link d.val 0).resend.isEmpty
      | 9 => (s.mates h.die).any (fun j => s.flag (dix j) F.DRV_D_STAT_LOCKOUT || s.flag (dix j) F.DRV_D_STAT_SLUICE ||
          s.flag (dix j) F.DRV_D_EVT_SC || s.flag (dix j) F.DRV_D_EVT_SHUNTFB)
      | 10 => as.any (fun a => (s.pairsOf d.val a).any (fun p => s.tripHeld d.val p))
      | 12 => h.static && as.any (fun a => s.enabled d.val a)
      | _ => false
    if holds then hoCancel d.val code.val s else s) s

/-- R361. The HO_CANCEL of C die d reaches D die k: it withdraws the HO_COMMIT that the die holds. -/
def execHoCancelReceive (d : CDie) (k : DDie) (s : State) : Out :=
  onDC d.val k.val (fun s =>
      if bit (s.c d.val).hdr.cancelDue k.val && s.linkD d.val k.val then
        let s := s.modHdr d.val (fun x => { x with cancelDue := setBit x.cancelDue k.val false })
        s.modD k.val (fun x => { x with commit := none })
      else s) s

/-! ### The switch -/

/-- D die k switches its PWM inputs, its clock and the destination of its SHUNT flits to C die e, and sends HO_DONE to both C
dies. -/
def switchTo (e k : Nat) (s : State) : State :=
  let s := setOwner k e s
  let s := overN 2 (fun d s => tellFlit (dix k) d Fl.own (ownPayload Own.done k 0) s) s
  let s := s.modD k (fun x =>
    { x with commit := none, doneDue0 := true, doneDue1 := true,
             chans := [0, 1, 2, 3, 4, 5].foldl (fun m c =>
               m.mod c (fun y => { y with line := s.lineAt e k c })) x.chans })
  settle k s

/-- FIELD and SAFE of an axis as the new owner holds them from its mirror, R272, R361, and the enable, R301. -/
def axisMoves (o e a : Nat) (s : State) : State :=
  let word := fun (f : Fld) (s : State) => s.setReg e f.off (s.reg o f.off)
  let s := word (F.FIELD_AX_STAT_PHASE a) s
  let s := word (F.FIELD_AX_CATCHST_SPEED a) s
  let s := word (F.FIELD_AX_CATCHAMP a) s
  let s := word (F.SAFE_AX_STAT_STATE a) s
  let s := word (F.SAFE_AX_CAUSE_LATCHED a) s
  let s := word (F.SAFE_AX_TENTRY a) s
  let s := s.putBit e F.SAFE_CSTAT_AXCUR a (s.inCurtain o a)
  let s := s.modAxr e a (fun _ => s.axr o a)
  let s := s.modAx e a (fun _ => s.axCurt o a)
  let s := s.putBit e F.PWM_AXEN_EN a (s.enabled o a)
  let p := (s.c o).pwm.enPend.at a
  s.modPwm e (fun x => { x with enPend := x.enPend.set a p })

/-- The former owner's part of an axis ends, R236, R301: its lines go off and its enable clears without a refusal. -/
def axisLeaves (o a : Nat) (s : State) : State :=
  let s := axisOff o a s
  let s := s.put o (F.FIELD_AX_STAT_PHASE a) Ph.idle
  let s := s.setReg o (F.SAFE_AX_STAT_STATE a).off 0
  let s := s.setReg o (F.SAFE_AX_CAUSE_LATCHED a).off 0
  let s := s.putBit o F.SAFE_CSTAT_AXCUR a false
  (s.modAxr o a (fun _ => default)).modAx o a (fun _ => default)

/-- The twins become ACTIVE and the former owner's engines STANDBY, R236. -/
def enginesMove (e : Nat) (as : List Nat) (s : State) : State :=
  (s.twins e as).foldl (fun s x =>
    let s := (s.put e (F.LOOP_LE_CFG_MODE x.2) Lm.active).off e (F.LOOP_LE_STAT_MIRROR x.2)
    let s := s.put (1 - e) (F.LOOP_LE_CFG_MODE x.1) Lm.standby
    let s := engStop (1 - e) x.1 s
    s.modEng (1 - e) x.1 (fun y => { y with ended := false })) s

/-- The D dies of a handover that hold its HO_COMMIT switch to C die e at B, and their axes move. -/
def switchAt (k e b : Nat) (st : Bool) (s : State) : State :=
  let o := 1 - e
  let as := s.mateAxes k
  let ks := (s.mates k).filter (fun j => (s.dd j).commit == some (e, b, st))
  let s := overL ks (switchTo e) s
  let s := if st then s else enginesMove e as s
  let s := overL as (fun a s => axisLeaves o a (axisMoves o e a s)) s
  let s := overL as (fun a s => overL (s.pairsOf e a) (fun p s => s.off e (F.PWM_PP_STAT_MIRROR p)) s) s
  overN 2 (fun d s => if s.runs d then refreshInact d s else s) s

/-- R17, R26, R141, R142, R147, R236, R301. The boundary B at D die k, once its stage time has come to it: the D dies of
the handover that hold its HO_COMMIT switch together; the axes move to the new owner. A D die without HO_COMMIT changes
nothing. -/
def execHandoverBoundary (k : DDie) (s : State) : Out :=
  onD k.val (fun s =>
    match (s.dd k.val).commit with
    | none => s
    | some (e, b, st) => if (s.dd k.val).stage.toNat < b then s else switchAt k.val e b st s) s

/-- HO_DONE of a D die not yet received by C die d. -/
def State.doneDue (s : State) (d k : Nat) : Bool := if d == 0 then (s.dd k).doneDue0 else (s.dd k).doneDue1

/-- The handover of D die k is complete at C die d: HDR_OWN, DONE and CODE report it (also after an HO_CANCEL that came too
late, R361); the former owner records it, and its command ends with the last D die. -/
def hoDone (d k : Nat) (s : State) : State :=
  let s := s.modD k (fun x => if d == 0 then { x with doneDue0 := false } else { x with doneDue1 := false })
  let e := s.owner k
  let s := (s.syncOwn.on d F.HDR_HO_STAT_DONE).put d F.HDR_HO_STAT_CODE Ho.ok
  if d == e then s.modHdr d (fun x => { x with offer := default })
  else
    let s := s.modHdr d (fun x => { x with cancelDue := setBit x.cancelDue k false })
    let s := recordEvent d ⟨0x0050, Blk.hdr, dix k, k, 0, k, 1 - e, e, s.wd d F.HDR_HO_TB.off⟩ s
    let h := (s.c d).hdr.ho
    if h.active && !h.taking && (s.mates h.die).contains k && !(s.mates h.die).any (fun j => s.doneDue d j) then hoEnd d s
    else s

/-- R141. C die d receives the HO_DONE of D die k. -/
def execHoDoneReceive (d : CDie) (k : DDie) (s : State) : Out :=
  onCD d.val k.val (fun s => if s.doneDue d.val k.val && s.linkD d.val k.val then hoDone d.val k.val s else s) s

end Sys2Proof.Machine
end

