-- ==== Sys2Proof/Machine/CueArrive.lean ====
section
/-! DEFINITION. The arrival of a cue at its destination (R146, R147, Tables 6-6 and 6-7). -/

namespace Sys2Proof.Machine

/-- What a destination of Table 6-7 does on C die d when its cue arrives; a destination at a D die works through its owner
alone, over an up link (R147). -/
def cueAct (d dst : Nat) (s : State) : State :=
  let atD := fun (k : Nat) (f : State → State) => if s.reaches d k then f s else s
  if dst < 0x10 then seqStart d (dst / 4) (dst % 4) s
  else if dst < 0x50 then engineTrigger d (dst - 0x10) 0 s
  else if dst < 0x62 then syncCue d (dst - 0x50) s
  else if dst < 0x6A then loadallArm d (dst - 0x62) s
  else if 0x70 ≤ dst ∧ dst < 0x80 then flumeStart d (dst - 0x70) s
  else if 0x80 ≤ dst ∧ dst < 0x88 then
    onlyIf (!(s.c d).sys.vioCLow) (fun s => s.modHdr d (fun h => { h with gpc := h.gpc.mod (dst - 0x80) (· + 1) })) s
  else if 0x88 ≤ dst ∧ dst < 0x8C then
    let n := dst - 0x88
    if s.bitOf d F.SYS_BRST_FB n || !s.bitOf d F.SYS_CLKGATE_FB n then s else latchCue d n s
  else if 0x8C ≤ dst ∧ dst < 0x90 then canStamp d (dst - 0x8C) s
  else if 0xA0 ≤ dst ∧ dst < 0xA0 + 8 * 6 then
    let k := (dst - 0xA0) / 8
    match (dst - 0xA0) % 8 with
    | 0 => atD k (shuntStart k)
    | 1 => atD k (voltStart k)
    | 2 => atD k (tcapArm k)
    | _ => s
  else s

/-- A cue that was late or dropped is counted and reported, R146, Table 14-3. -/
def cueLate (d : Nat) (s : State) : State :=
  latchFault d Fg.cueLate 0 false
    (((s.on d F.CUE_STAT_LATE).count d F.CUE_LATECNT 1).count d F.PROMPT_LIVE_SD_MISC_CUELATE 1)

/-- The first cue on its way to a destination. -/
def State.cueTo (s : State) (d dst : Nat) : Option CueDue := (s.c d).hdr.cues.find? (fun c => c.dst == dst)

/-- R133, R137, R146. The oldest cue on its way to destination `dst` of C die d arrives, not before its time. A cross-die cue
that comes after it, or waited for free slots, or is said to be `late`, and one with `bad` check bits, which drops it, are
counted. A cue within the die is neither. -/
def execCueArrival (d : CDie) (dst : Byte) (late bad : Bool) (s : State) : Out :=
  onC d.val (fun s =>
    match s.cueTo d.val dst.toNat with
    | none => s
    | some c =>
      if s.now d.val < c.due then s
      else
        let s := s.modHdr d.val (fun h => { h with cues := h.cues.erase c })
        let late := late || c.crowded || decide (c.due < s.now d.val)
        let s := onlyIf (c.cross && (late || bad)) (cueLate d.val) s
        if c.cross && bad then s else cueAct d.val dst.toNat s) s

end Sys2Proof.Machine
end

