-- ==== Sys2Proof/Machine/Tick.lean ====
section
/-! DEFINITION. One tick of the fabric clock (R27): the stage time and the operating time advance, and the PWM counts
(chapter 11), and the CAN cycle times follow (R463). Log entry 3. -/

namespace Sys2Proof.Machine

/-- µs with FIELD_AXa_STAT.TCLAMP = 1 (Table 18-4). -/
def clampCount (d : Nat) (s : State) : State :=
  overN 6 (fun a s =>
    if s.flag d (F.FIELD_AX_STAT_TCLAMP a) then
      let n := (s.c d).prompt.clampSub.at a + 1
      if n = 400 then
        (s.modPrompt d (fun p => { p with clampSub := p.clampSub.set a 0 })).count d (F.PROMPT_LIVE_SA_CLAMP a) 1
      else s.modPrompt d (fun p => { p with clampSub := p.clampSub.set a n })
    else s) s

/-- A fabric cycle of C die d; on the backup oscillator the stage time and the PWM stand still (R72). A die that its ROM holds
counts its stage time alone (R85, R87). -/
def tickC (d : Nat) (s : State) : State :=
  if s.hasC d && !(s.c d).sys.inReset then
    let s := s.modSys d (fun x => { x with opCounts := x.opCounts + 1 })
    if s.fabric d then
      let s := s.modSys d (fun x => { x with stage := x.stage + 1 })
      if s.romHeld d then s
      else benchRefresh d <| chopCycle d <| fieldCycle d <| loopCycle d <| stepsDue d <| overN 4 (fbCycle d) <| canClock d <|
        pwmCycle d (clampCount d (slotsOutC d s))
    else s
  else s

/-- A fabric cycle of D die k; the voltage set of VAUTO starts at a multiple of 1 µs (R160). -/
def tickD (k : Nat) (s : State) : State :=
  if s.runsD k then gateCycle k (voltAuto k (slotsOutD k (s.modD k (fun x => { x with stage := x.stage + 1 })))) else s

/-- A fabric cycle of the package. -/
def tick (s : State) : State := overN 6 tickD (overN 2 tickC s)

/-- n fabric cycles. -/
def ticks (n : Nat) (s : State) : State := overN n (fun _ s => tick s) s

end Sys2Proof.Machine
end

