-- ==== Sys2Proof/Machine/Cycles.lean ====
section
/-! DEFINITION. The commands of the PWM that let fabric cycles pass (R278, R279). -/

namespace Sys2Proof.Machine

/-- R279, R285, R294. Fabric cycles pass up to the aligned stage time at which a waiting group starts (the tick makes the
start). -/
def execLoadGroupStart (d : CDie) (g : Fin 8) (s : State) : Out :=
  onC d.val (fun s =>
    if (s.lg d.val g.val).waiting && s.fabric d.val then
      let m := Int.ofNat (s.startCarrier d.val g.val)
      let past := (Int.ofNat (s.now d.val) - Int.ofNat (s.get d.val (F.PWM_LG_CFG_ORG g.val))) % m
      ticks (m - past).toNat s
    else s) s

/-- R278, R280 to R292, R294. Fabric cycles pass up to the next group boundary of a running group (the tick makes every
effect of the cycles and of the boundary). -/
def execGroupBoundary (d : CDie) (g : Fin 8) (s : State) : Out :=
  onC d.val (fun s =>
    if (s.lg d.val g.val).running && s.fabric d.val then
      ticks (if (s.lg d.val g.val).restart then 1 else max 1 (s.toBoundary d.val g.val)) s
    else s) s

end Sys2Proof.Machine
end

