-- ==== Sys2Proof/Machine/Lib.lean ====
section
/-! DEFINITION. The configuration loader's commands and events (chapter 5): load, reload, rollback, acceptance, the store,
the apply at CONFIG, and the two-key sequence. -/

namespace Sys2Proof.Machine

/-- A load outcome: LIB_STAT.CODE, and LIB_RELST.CODE for a reload. -/
def libCode (cmd code : Nat) (s : State) : State :=
  let s := s.put 0 F.LIB_STAT_CODE code
  if cmd == Cmd.reload then s.put 0 F.LIB_RELST_CODE code else s

/-- The checks whose failure falls back to the next layer, R122. -/
def fallsBack (code : Nat) : Bool :=
  code == Lc.format || code == Lc.sigFail || code == Lc.sectCrc || code == Lc.sectInvalid

/-- Whether a command writes MRAM (R116). -/
def cmdStores (cmd : Nat) : Bool :=
  [Cmd.load, Cmd.reload, Cmd.rollback, Cmd.storeUd, Cmd.clearUd].contains cmd

/-- The code that refuses a command of Table 5-5, or 0 (R115 to R117, R124): NOT_ANCHOR, BAD_CMD, BUSY, NOT_STANDBY,
NVM_TEMP or PFAIL_BLOCK, NO_PREVIOUS, in this order. -/
def State.libRefusal (s : State) (d cmd : Nat) : Nat :=
  let st := s.get 0 F.LIB_STAT_STATE
  let dev := s.dev
  let here := dev == Dev.standby || (dev == Dev.config && (s.c 0).lib.held)
  if d != 0 then Lc.notAnchor
  else if cmd == 0 || 7 < cmd then Lc.badCmd
  else if st != Ls.idle && st != Ls.held && cmd != Cmd.abort then Lc.busy
  else if (cmd == Cmd.load || cmd == Cmd.rollback) && !here then Lc.notStandby
  else if cmd == Cmd.reload && !s.devActive then Lc.notStandby
  else if cmdStores cmd && s.mramCode != Lc.ok then s.mramCode
  else if cmd == Cmd.rollback && (s.n 0).prev == 0 then Lc.noPrevious
  else Lc.ok

/-- The verification of an image begins (STATE VERIFY). -/
def verifyBegin (cmd ax : Nat) (s : State) : State :=
  let s := overN 2 (fun d s => if s.runs d then s.put d F.LIB_STAT_STATE Ls.verify else s) s
  let s := s.modLib 0 (fun l => { l with cmd := cmd, cmdAx := ax, began := s.now 0 })
  if cmd == Cmd.reload then
    overN 2 (fun d s => if s.runs d then (s.put d F.LIB_RELST_AX ax).off d F.LIB_RELST_STAGED else s) s
  else s

/-- The acceptance window is armed for the next RUN entry, R123 (an ACCEPT_WIN of 0 opens none). -/
def watchArm (ofRollback : Bool) (s : State) : State :=
  overL s.libDies (fun d s => s.modLib d (fun l =>
    { l with watchArmed := s.flag d F.LIB_WATCH_WIN, watchOfRollback := ofRollback, watchAx := 6, revertDue := false })) s

/-- ROLLBACK accepted: the former PREVIOUS is checked, takes the role ACTIVE and is applied (R119). One that fails the checks of
R122 is no valid PREVIOUS (R124); a directory write that waits is made first. -/
def rollbackRun (s : State) : State :=
  let s := overL s.libDies dirWrite s
  let images := slotImages s (fun v => v.prev)
  let body := slotBody s (fun v => v.prev)
  if (s.n 0).prev == 0 || images != Lc.ok then libCode Cmd.rollback (if fallsBack images || images == Lc.ok then Lc.noPrevious else images) s
  else if body != Lc.ok then libCode Cmd.rollback body s
  else heldEnds (watchArm false (applyAll (fun v => v.active) 2 (overL s.libDies exchangeRoles s)))

/-- ACCEPT: an open window closes with acceptance at once; an armed one will not open. -/
def acceptRun (s : State) : State := overN 2 (fun d s => if s.runs d then watchClose d s else s) s

/-- ABORT: a verification, or a reload that is being stored or is staged, is cancelled (R117, R127). -/
def abortRun (s : State) : State :=
  let st := s.get 0 F.LIB_STAT_STATE
  let reload := (s.c 0).lib.cmd == Cmd.reload
  if st == Ls.staged then reloadCancel (s.get 0 F.LIB_RELST_AX) Lc.aborted s
  else if st == Ls.verify || (st == Ls.store && reload) then
    libRest (libCode (s.c 0).lib.cmd Lc.aborted s)
  else s

/-- CLEAR_UD: the USERDEF role is removed and its slot is empty (Table 5-14). -/
def clearUdRun (s : State) : State :=
  overL s.libDies (fun d s =>
    refreshVersions d (s.modN d (fun v =>
      { v with slotLen := v.slotLen.set v.userdef 0, userdef := 0 }))) s

/-- A command of Table 5-5 carried out or refused on C die d; AXSEL keeps what was written (Table 5-9). -/
def libCommand (d cmd ax : Nat) (s : State) : State :=
  let code := s.libRefusal d cmd
  if code == Lc.notAnchor then s.put d F.LIB_STAT_CODE code
  else
    let s := libCode cmd code (s.put d F.LIB_CMD_AXSEL ax)
    if code != Lc.ok then s
    else if cmd == Cmd.load || cmd == Cmd.reload || cmd == Cmd.storeUd then verifyBegin cmd ax s
    else if cmd == Cmd.rollback then rollbackRun s
    else if cmd == Cmd.accept then acceptRun s
    else if cmd == Cmd.abort then abortRun s
    else clearUdRun s

/-- A write of LIB_CMD, Table 5-13: on C1 NOT_ANCHOR; on C0 a command when a two-key sequence releases it, otherwise a
refusal shown by LIB_STAT.WRREF, and NOT_MASTER for a writer that is not the safety master. -/
def libCmdWrite (d : Nat) (m : Master) (v : Word) (s : State) : State :=
  let off := F.LIB_CMD_CMD.off
  let cmd := F.LIB_CMD_CMD.ofWord v
  if d != 0 && !(m.safety && s.tkReady d (own off)) then
    (tkDisturb d (own off) m s).put d F.LIB_STAT_CODE Lc.notAnchor
  else
    let s := tkWrite d m (own off) d off v false (libCommand d cmd (F.LIB_CMD_AXSEL.ofWord v)) s
    if m.safety then s else s.put d F.LIB_TK_STAT_CODE Tk.notMaster

/-- The word that a command and an axis make in LIB_CMD. -/
def cmdWord (cmd ax : Nat) : Word := BitVec.ofNat 32 (cmd + 16 * ax)

/-- R117. LOAD: the image at LIB_SRC is verified, stored as ACTIVE and applied. -/
def execLibLoad (d : CDie) (m : Master) (s : State) : Out := onC d.val (libCmdWrite d.val m (cmdWord 1 0)) s

/-- R117, R125. RELOAD: the bundle at LIB_SRC is verified for one axis and staged. -/
def execLibReload (d : CDie) (m : Master) (ax : Fin 8) (s : State) : Out :=
  onC d.val (libCmdWrite d.val m (cmdWord 2 ax.val)) s

/-- R117, R124. ROLLBACK: ACTIVE and PREVIOUS are exchanged and the new ACTIVE is applied. -/
def execLibRollback (d : CDie) (m : Master) (s : State) : Out := onC d.val (libCmdWrite d.val m (cmdWord 3 0)) s

/-- R117, R123. ACCEPT: the acceptance window ends at once with acceptance. -/
def execLibAccept (d : CDie) (m : Master) (s : State) : Out := onC d.val (libCmdWrite d.val m (cmdWord 4 0)) s

/-- R117, R127. ABORT: a verification or a staged reload that has not applied is cancelled. -/
def execLibAbort (d : CDie) (m : Master) (s : State) : Out := onC d.val (libCmdWrite d.val m (cmdWord 5 0)) s

/-- R117, R114. STORE_UD: the image at LIB_SRC is verified and stored as USERDEF. -/
def execLibStoreUd (d : CDie) (m : Master) (s : State) : Out := onC d.val (libCmdWrite d.val m (cmdWord 6 0)) s

/-- R117, R114. CLEAR_UD: USERDEF is erased. -/
def execLibClearUd (d : CDie) (m : Master) (s : State) : Out := onC d.val (libCmdWrite d.val m (cmdWord 7 0)) s

/-- The target slot of a store on a die, Table 5-14, emptied by the first directory write; a directory write that waits is made
before it. -/
def storeBegin (d cmd : Nat) (s : State) : State :=
  let s := dirWrite d s
  let v := s.n d
  let slot := if cmd == Cmd.storeUd then targetSlot v v.active v.prev else targetSlot v v.active v.userdef
  let s := s.modN d (fun v => { v with
    prev := if v.prev == slot then 0 else v.prev
    userdef := if v.userdef == slot then 0 else v.userdef
    slotLen := v.slotLen.set slot 0 })
  let s := refreshVersions d s
  (s.put d F.LIB_STAT_STATE Ls.store).modLib d (fun l => { l with cmd := cmd, slot := slot })

/-- R118, R115, R116. The load checks on the image at LIB_SRC are complete on the C dies that take part: the first failure's
code, or the store begins. -/
def execLibVerifyDone (s : State) : Out :=
  .next (if s.runs 0 && s.get 0 F.LIB_STAT_STATE == Ls.verify then
    let l := (s.c 0).lib
    let a := s.get 0 F.LIB_SRC
    let code := firstCode [loadCheck s l.cmd l.cmdAx a (s.get 0 F.LIB_LEN), s.mramCode]
    if code != Lc.ok then libRest (noteErrSect a code (libCode l.cmd code s))
    else overL s.libDies (fun d s => storeBegin d l.cmd s) s
  else s)

/-- The image in SRAM of C0 copied into a slot of a die; a reload puts the ACTIVE slot's contents before it. -/
def storeImage (d cmd : Nat) (s : State) : State :=
  let slot := (s.c d).lib.slot
  let v := s.n d
  let a := s.get 0 F.LIB_SRC
  let len := s.get 0 F.LIB_LEN
  let before := if cmd == Cmd.reload then v.slotLen.at v.active else 0
  let s := if cmd == Cmd.reload then s.copyMem d (slotAddr v.active) d (slotAddr slot) before else s
  let s := s.copyMem 0 a d (slotAddr slot + before) len
  s.modN d (fun v => { v with slotLen := v.slotLen.set slot (before + len) })

/-- A reload is staged on a die, R126: STAGED sets, and the axis reads RELOAD_STAGED. -/
def stageReload (d ax : Nat) (s : State) : State :=
  let s := s.put d F.LIB_STAT_STATE Ls.staged
  let s := (s.put d F.LIB_RELST_AX ax).on d F.LIB_RELST_STAGED
  (putAxst d ax 4 s).modLib d (fun l => { l with staged := true, xferAt := 0 })

/-- A LOAD stored: it takes its role, is applied and arms the acceptance window (R114, R119). -/
def loadStored (s : State) : State :=
  let s := overL s.libDies (fun d s => (rolesOfLoad d (s.c d).lib.slot s).modLib d (fun l => { l with slot := 0 })) s
  heldEnds (libRest (watchArm false (applyAll (fun v => v.active) 2 s)))

/-- R114, R116, R81, R119, R126. The MRAM store of the image completes: a LOAD is applied, a RELOAD is staged, STORE_UD
takes the role USERDEF. Where PFAIL, or the temperature, has ended the store, the target slot stays empty. -/
def execLibStoreDone (s : State) : Out :=
  .next (if s.runs 0 && s.get 0 F.LIB_STAT_STATE == Ls.store &&
      !s.libDies.any (fun d => s.flag d F.PROMPT_STAT_FLUSHING) then
    let l := (s.c 0).lib
    if s.mramCode != Lc.ok then libRest (libCode l.cmd s.mramCode s)
    else
      let s := overL s.libDies (fun d s => storeImage d l.cmd s) s
      if l.cmd == Cmd.reload then overL s.libDies (fun d s => stageReload d l.cmdAx s) s
      else if l.cmd == Cmd.storeUd then
        libRest (overL s.libDies (fun d s =>
          refreshVersions d (s.modN d (fun v => { v with userdef := (s.c d).lib.slot }))) s)
      else loadStored s
  else s)

/-- The LIB_VERSION and the section CRCs of a die's ACTIVE slot, which C0 compares at CONFIG (R115). -/
def State.activeKey (s : State) (d : Nat) : List Nat :=
  if (s.n d).active == 0 then []
  else s.rdBytes d (slotAddr (s.n d).active + 8) 4 ++ (s.sectsOf d (s.n d).active).flatMap (fun x => wordBytes x.crc)

/-- C0's ACTIVE slot must replace C1's, R115. -/
def State.storesDiffer (s : State) : Bool :=
  s.libDies == [0, 1] && (s.n 0).active != 0 && s.activeKey 0 != s.activeKey 1

/-- The code with which C1 refuses C0's ACTIVE image, which it verifies, or with which MRAM refuses its store; 0: none. -/
def State.agreeCode (s : State) : Nat :=
  let imgs := s.imagesOf 0 (s.n 0).active
  firstCode (imgs.mapIdx (fun j a => imgCheck s 1 0 (if j == 0 then Cmd.load else Cmd.reload) a) ++ [s.mramCode])

/-- C1's store brought into agreement with C0's at CONFIG, R115: a different ACTIVE is replaced by C0's. -/
def storesAgree (s : State) : State :=
  if s.storesDiffer && s.agreeCode == Lc.ok then
    let a := (s.n 0).active
    let len := (s.n 0).slotLen.at a
    let slot := targetSlot (s.n 1) (s.n 1).active (s.n 1).userdef
    let s := s.copyMem 0 (slotAddr a) 1 (slotAddr slot) len
    rolesOfLoad 1 slot (s.modN 1 (fun v => { v with slotLen := v.slotLen.set slot len }))
  else s

/-- A start is held, R122: LIB_STAT.STATE HELD with the code. -/
def holdStart (a code : Nat) (s : State) : State :=
  let s := overN 2 (fun d s => if s.runs d then s.modLib d (fun l => { l with held := true }) else s) s
  libRest (noteErrSect a code (s.put 0 F.LIB_STAT_CODE code))

/-- The start's apply of a choice that has passed its first checks: held by a further one that fails, applied otherwise. -/
def startApplied (choose : NvC → Nat) (source : Nat) (fb : Bool) (s : State) : State :=
  let s := overN 2 (fun d s => if s.runs d then s.put d F.LIB_STAT_FALLBACK (b2n fb) else s) s
  let code := slotBody s choose
  if code != Lc.ok then holdStart (slotAddr (choose (s.n 0))) code s
  else
    let s := applyAll choose source s
    overN 2 (fun d s => if s.runs d then s.modLib d (fun l => { l with revertDue := false }) else s) s

/-- USERDEF over the factory libretto, or the factory libretto alone. -/
def applyDefaults (fb : Bool) (s : State) : State :=
  startApplied (fun _ => 0) (if (s.n 0).userdef == 0 then 0 else 1) fb s

/-- The choice of layer at CONFIG, R122. An empty ACTIVE is no failed check: the defaults are applied. -/
def configPick (s : State) : State :=
  let v := s.n 0
  let ca := slotImages s (fun v => v.active)
  let cp := slotImages s (fun v => v.prev)
  if v.active == 0 then applyDefaults false s
  else if ca == Lc.ok then
    if s.storesDiffer then holdStart (slotAddr v.active) s.agreeCode s else startApplied (fun v => v.active) 2 false s
  else if !fallsBack ca then holdStart (slotAddr v.active) ca s
  else if v.prev == 0 then applyDefaults true s
  else if cp == Lc.ok then startApplied (fun v => v.prev) 3 true s
  else if !fallsBack cp then holdStart (slotAddr v.prev) cp s
  else applyDefaults true s

/-- C1 has rejoined, its start-up BIST has run, and its libretto is not yet applied (R104 step 5). -/
def State.rejoinApply (s : State) (d : Nat) : Bool :=
  s.runs d && (s.c d).nvm.entered && !(s.c d).lib.done && !(s.c d).bist.alone && s.get d F.HDR_RC_STATUS_PHASE == 5 && s.devActive

/-- The configuration of a rejoined die: the applied layer's sections for it (R104 step 5, R115). -/
def rejoinApplyOn (d : Nat) (s : State) : State :=
  let source := s.get (1 - d) F.LIB_STAT_SOURCE
  let v := s.n d
  let slot := if source == 2 then v.active else if source == 3 then v.prev else 0
  let s := if s.libDies.contains d then loadOrphans d (applyOn d slot source s.drawn) else s
  s.modLib d (fun l => { l with done := true })

/-- Firmware runs on every C die of the start: each that runs and is not in RECOVERY has verified its image (R492, Table
4-3). -/
def State.fwEntered (s : State) : Bool :=
  (List.range 2).all (fun d => !s.runs d || s.get d F.SYS_DSTATE_STATE == Dev.recovery || (s.c d).nvm.entered)

/-- R122, R119, R115, R417, R104. At CONFIG the stores are brought into agreement and the ACTIVE slot, or what R122 names in its
place, is applied; the device enters STANDBY when the converters are calibrated too. A die that has rejoined takes its
configuration later. -/
def execLibConfigApply (s : State) : Out :=
  .next (if s.runs 0 && s.dev == Dev.config && !s.rcIsHeld && s.get 0 F.LIB_STAT_STATE == Ls.idle && s.fwEntered then
    let s := configPick (storesAgree s)
    let s := onlyIf (s.anyMark && !s.flag 0 F.LIB_STAT_K4) (holdStart (slotAddr (s.n 0).active) Lc.unusable) s
    let s := overN 2 (fun d s => s.modLib d (fun l => { l with done := !(s.c 0).lib.held })) s
    configEnds s
  else overN 2 (fun d s => if s.rejoinApply d then rejoinApplyOn d s else s) s)

/-! ### Reload transfer and acceptance -/

/-- Every engine placed by the axis on a die is idle. -/
def State.enginesIdle (s : State) (d ax : Nat) : Bool :=
  (List.range 64).all (fun n => (s.c d).loop.engAx.at n != ax + 1 || s.engIdle d n)

/-- A handover of a D die that serves the axis is in progress (R127). -/
def State.axisMoving (s : State) (ax : Nat) : Bool :=
  (List.range 2).any (fun d => s.runs d && s.get d F.HDR_HO_STAT_STATE != 0 &&
    (s.mateAxes (s.c d).hdr.ho.die).contains ax)

/-- The bundle at the end of a slot: its sections for a die take effect, and the NEW slots of the engines whose programs it
writes are preset (R237). -/
def runBundle (d slot before : Nat) (news : SlotMap) (s : State) : State :=
  let s := runReload d ((imgSects s d (slotAddr slot + before)).filter (fun x => x.die == d)) s
  let ns := (s.c d).lib.progs
  (news.filter (fun e => e.1 == d && ns.contains e.2.1)).foldl (fun s e => newSlots d e.2.1 e.2.2 s) s

/-- A reload has changed DRIVE and ADT words of D dies: the old ones stay in force until the next line edge, R343. -/
def keepDrives (old s : State) : State :=
  overN 6 (fun k s =>
    let i := dix k
    let s := overN 6 (fun c s =>
      let off := (F.DRV_D_CH_DRIVE_SRCSTR c).off
      if s.reg i off == old.reg i off then s
      else s.modCh k c (fun h => { h with oldDrive := some (h.oldDrive.getD (old.reg i off)) })) s
    overN 3 (fun leg s =>
      let off := (F.DRV_D_LEG_ADT_EN leg).off
      if s.reg i off == old.reg i off then s
      else s.modLeg k leg (fun x => { x with oldAdt := some (x.oldAdt.getD (old.reg i off)) })) s) s

/-- The shadows of the axis transfer on a die, R126; the target slot becomes ACTIVE, or the directory write waits. -/
def transferOn (d ax : Nat) (news : SlotMap) (s : State) : State :=
  let slot := (s.c d).lib.slot
  let before := (s.n d).slotLen.at (s.n d).active
  let img := slotAddr slot + before
  let s := keepDrives s (releaseBlocks d (runBundle d slot before news (keepSeqs d s)))
  let s := (s.off d F.LIB_RELST_STAGED).on d F.LIB_RELST_APPLIED
  let s := s.put d F.LIB_RELST_CODE Lc.ok
  let s := putAxst d ax 1 (s.put d F.LIB_STAT_STATE Ls.idle)
  let s := s.put d F.LIB_WATCH_WIN (imgWin s d img)
  let ver := imgVersion s d img
  let s := dirTry d 1 s
  let s := s.modLib d (fun l => { l with staged := false, cmd := 0, xferAt := 0, watchOfRollback := false, watchAx := ax })
  let s := recordEvent d ⟨0x0043, Blk.lib, d, ax, 0, ax, ver, s.wd d F.LIB_RELST_AX.off, s.now32 d⟩ s
  watchOpen d (noteOffsets d (refreshInact d s))

/-- R126, R127. The transfer cycle of a staged reload: within 5 µs (2,000 counts) of the frame boundary, every engine of
the axis is idle, so every shadow of the axis transfers; otherwise the transfer waits. The slot map of the bundle is an
operand: its encoding is not in the spec. -/
def execReloadTransfer (news : SlotMap) (s : State) : Out :=
  .next (
    let ax := s.get 0 F.LIB_RELST_AX
    let at_ := (s.c 0).lib.xferAt
    if s.runs 0 && s.flag 0 F.LIB_RELST_STAGED && ax < 6 && at_ != 0 && s.now 0 < at_ + 2000 &&
        s.libDies.all (fun d => s.enginesIdle d ax) && !s.axisMoving ax then
      overL s.libDies (fun d s => transferOn d ax news s) s
    else s)

/-- R123. The acceptance window has run out, ACCEPT_WIN seconds of stage time after it opened: it closes with acceptance. -/
def execAcceptWindowExpiry (s : State) : Out :=
  .next (overN 2 (fun d s =>
    if s.runs d && s.flag d F.LIB_STAT_WATCH &&
        (s.c d).lib.watchFrom + 400000000 * s.get d F.LIB_WATCH_WIN ≤ s.now d then watchClose d s else s) s)

/-- The former PREVIOUS is applied after a rejection once the device is in STANDBY with no axis in its curtain state and
the directory write has succeeded, R124. -/
def revertIfDue (s : State) : State :=
  let l := (s.c 0).lib
  if s.runs 0 && l.revertDue && l.dirDue == 0 && 6 ≤ l.watchAx && s.dev == Dev.standby &&
      !(List.range 2).any (fun d => s.runs d && s.get d F.SAFE_CSTAT_AXCUR != 0) then
    let s := overN 2 (fun d s => s.modLib d (fun l => { l with revertDue := false })) s
    watchArm true (applyAll (fun v => v.active) 2 s)
  else s

/-- A rejected reload reverts its axis alone, R126: the sections of the axis in the new ACTIVE slot are executed again at
a frame boundary at which the axis runs or is in STANDBY. -/
def revertAxis (s : State) : State :=
  let l := (s.c 0).lib
  let ax := l.watchAx
  if s.runs 0 && l.revertDue && l.dirDue == 0 && ax < 6 && s.devActive && s.libDies.all (fun d => s.enginesIdle d ax) &&
      !(List.range 2).any (fun d => s.runs d && s.inCurtain d ax) then
    overL s.libDies (fun d s =>
      let s := runReload d ((s.appliedOn d (s.layersOf d (s.n d).active)).filter (fun x => x.target == ax && 3 ≤ x.kind)) s
      let s := releaseBlocks d s
      s.modLib d (fun l => { l with revertDue := false, watchAx := 6 })) s
  else s

/-- A directory write that MRAM refused is tried again, R124, R126. -/
def dirRetryAll (s : State) : State :=
  if s.mramCode == Lc.ok then overN 2 (fun d s => if s.runs d && (s.c d).lib.dirDue != 0 then dirWrite d s else s) s else s

/-- What the loader does at a frame boundary: it retries a refused directory write (R124, R126), applies what a rejection has
brought back, and lets a staged reload transfer, unless a handover moves its axis (R127). -/
def libBoundary (s : State) : State :=
  let s := revertAxis (revertIfDue (dirRetryAll s))
  if s.runs 0 && s.flag 0 F.LIB_RELST_STAGED then
    s.modLib 0 (fun l => { l with xferAt := if s.axisMoving (s.get 0 F.LIB_RELST_AX) then 0 else s.now 0 + 1 })
  else s

/-- R124, R126. At a supervisory frame the refused directory write of a rejection (an exchange) or of a transfer (the slot
becomes ACTIVE) is tried again. -/
def execDirectoryWriteRetry (s : State) : Out := .next (revertIfDue (dirRetryAll s))

/-! ### The two-key sequence -/

/-- A write of LIB_TK_ADDR, R128, R129: the safety master starts the sequence, also while ARMED; another writer's fails it
with NOT_MASTER. -/
def tkAddrWrite (d : Nat) (m : Master) (v : Word) (s : State) : State :=
  if m.safety then
    (s.off d F.LIB_TK_STAT_ARMED).modTk d (fun _ => { addr := v.toNat, keys := 0, armedAt := 0 })
  else (tkFail d Tk.notMaster s).on d F.LIB_STAT_WRREF

/-- The first key of a sequence, R128 step 3. -/
def State.tkKey (s : State) (d : Nat) : Nat := 0xA35C0000 + s.get d F.LIB_TK_STAT_SEQ

/-- The register at the target address has RWP bits and, in a DRV window, belongs to an owned D die (Table 5-8). -/
def State.tkTargetCode (s : State) (d : Nat) : Nat :=
  match target d (s.c d).lib.tk.addr with
  | none => Tk.notRwp
  | some (i, off) =>
    if 0x60000000 ≤ (s.c d).lib.tk.addr then Tk.notRwp
    else if 2 ≤ i ∧ !s.owns d (i - 2) then Tk.notOwner
    else match rowAt i off with
      | none => Tk.notRwp
      | some r => if r.rwp == 0 || (i < 2 && i != d) then Tk.notRwp else Tk.ok

/-- A write of LIB_TK_KEY, R128, R129. A key written while ARMED is a write other than the target's. -/
def tkKeyWrite (d : Nat) (m : Master) (v : Word) (s : State) : State :=
  let t := (s.c d).lib.tk
  if !m.safety then (tkFail d Tk.notMaster s).on d F.LIB_STAT_WRREF
  else if s.flag d F.LIB_TK_STAT_ARMED then tkFail d Tk.otherWrite s
  else if t.keys == 0 && v.toNat == s.tkKey d then s.modTk d (fun t => { t with keys := 1 })
  else if t.keys == 1 && v.toNat == 0xFFFFFFFF - s.tkKey d then
    (s.on d F.LIB_TK_STAT_ARMED).modTk d (fun t => { t with keys := 2, armedAt := s.now d })
  else tkFail d Tk.badKey s

/-- R128. The safety master writes the target address of a two-key sequence. -/
def execLibTkAddrWrite (d : CDie) (m : Master) (v : Word) (s : State) : Out := onC d.val (tkAddrWrite d.val m v) s

/-- R128. A key is written: the second correct key arms the sequence. -/
def execLibTkKeyWrite (d : CDie) (m : Master) (v : Word) (s : State) : Out := onC d.val (tkKeyWrite d.val m v) s

/-- R129. More than 1 µs has passed since the second key: the armed sequence fails with TIMEOUT. -/
def execTwoKeyTimeout (d : CDie) (s : State) : Out :=
  onC d.val (fun s =>
    if s.flag d.val F.LIB_TK_STAT_ARMED && (s.c d.val).lib.tk.armedAt + 400 < s.now d.val then tkFail d.val Tk.timeout s
    else s) s

end Sys2Proof.Machine
end

