-- ==== Sys2Proof/Machine/RegAccess.lean ====
section
/-! DEFINITION. Stores and loads at any address: register writes by block (R8, R84, R130, R411), the windows (R15, R33,
R138), replicated reads and protected stores of a core pair (R381 to R386). -/

namespace Sys2Proof.Machine

/-! ### Writes within a C die -/

/-- A write of an HDR or LIB register by master m. -/
def hdrLibWrite (d : Nat) (m : Master) (off : Nat) (v : Word) (s : State) : State :=
  match off with
  | 0xA0204 => tkWrite d m (own off) d off v false (protWrite d off v false) s
  | 0xA0210 => hoCmdWrite d m v s
  | 0xB0004 => libCmdWrite d m v s
  | 0xB0100 => tkAddrWrite d m v s
  | 0xB0104 => tkKeyWrite d m v s
  | _ => plainWrite d off v true s

/-- A write at an offset of C die d's own map (Table 1-5), windows apart; a reserved register ignores it (R6). -/
def ownWrite (d : Nat) (m : Master) (off : Nat) (v : Word) (s : State) : State :=
  if 0x60000 ≤ off ∧ off < 0x70000 then nvmWrite d m (off - 0x60000) v s
  else if 0x70000 ≤ off ∧ off < 0x80000 then secWrite d m (off - 0x70000) v s
  else if 0xA0000 ≤ off ∧ off < 0xC0000 then hdrLibWrite d m off v s
  else blockWrite d m off v s

/-! ### Stores -/

/-- The D die of a DRV window at an offset of a C die's map. -/
def drvAt (off : Nat) : Option Nat := if 0x280000 ≤ off ∧ off < 0x298000 then some ((off - 0x280000) / 0x4000) else none

/-- A write at an offset of C die d's map, its DRV windows included (the part has the die), issued at an address. -/
def mapWrite (d : Nat) (m : Master) (off addr : Nat) (v : Word) (s : State) : State :=
  match drvAt off with
  | some k => drvWrite d m k (off % 0x4000) addr v s
  | none => ownWrite d m off v s

/-- A store of C die d through the peer-die window of die index i, at an address (R33, R138): its own window aliases its
peripherals; a posted write to a die in reset is lost. -/
def peerStore (d : Nat) (m : Master) (addr : Nat) (v : Word) (s : State) : State :=
  let i := (addr - 0x60000000) / 0x1000000
  let off := addr % 0x1000000
  if i == d then if s.unmapped (own off) then busTrap d m addr true s else mapWrite d m off addr v s
  else if 2 ≤ i then (if off < 0x4000 then drvWrite d m (i - 2) off addr v s else drvStoreAt d (i - 2) off addr v id s)
  else if !s.peerOpen d then accErr d Acc.linkDown i 0 addr true s
  else
    let s := peerFlits d addr v s
    if !s.runs i then s
    else if s.unmapped (own off) then accErr d Acc.remoteErr i 1 addr true s
    else mapWrite i .peer off (own off) v s

/-- A store to the machine-timer block, R29: mtimecmp in halves, msip; mtime takes no write. -/
def timerStore (d off : Nat) (v : Word) (s : State) : State :=
  if off < 0x20 then
    let k := off / 8
    s.modSys d (fun y =>
      let old := y.mtimecmp.at k
      let new : BitVec 64 := if off % 8 == 0 then old.extractLsb' 32 32 ++ v else v ++ old.extractLsb' 0 32
      { y with mtimecmp := y.mtimecmp.set k new, mtip := y.mtip.set k (decide (new.toNat ≤ y.stage.toNat)) })
  else if 0x8000 ≤ off ∧ off < 0x8010 then
    s.modSys d (fun y => { y with msip := y.msip.set ((off - 0x8000) / 4) (bit v.toNat 0) })
  else s

/-- What an aligned 32-bit store of master m at an address does, Table 1-5. -/
def storeGo (d : Nat) (m : Master) (addr : Nat) (v : Word) (s : State) : State :=
  if s.unmapped addr then busTrap d m addr true s
  else if inSram addr then
    if inRing addr then busTrap d m addr true s else s.wr32 d addr v.toNat
  else if addr % 4 ≠ 0 then busTrap d m addr true s
  else if 0x60000000 ≤ addr then peerStore d m addr v s
  else if 0x40000000 ≤ addr then mapWrite d m (addr - 0x40000000) addr v s
  else if 0x10000000 ≤ addr then busTrap d m addr true s
  else if 0x0C000000 ≤ addr then plicWrite d (addr - 0x0C000000) v.toNat s
  else if 0x02000000 ≤ addr then timerStore d (addr - 0x02000000) v s
  else busTrap d m addr true s

/-- An armed sequence of the safety master meets a store of that master outside SRAM: its target's is refused if the target
admits no protected write; any other ends the sequence (R129). -/
def storeAt (d : Nat) (m : Master) (addr : Nat) (v : Word) (s : State) : State :=
  let ready := s.tkReady d addr
  if m.safety && ready && s.tkTargetCode d != Tk.ok then tkFail d (s.tkTargetCode d) s
  else if ready || inSram addr || addr == 0x400B0100 || addr == 0x400B0104 then storeGo d m addr v s
  else storeGo d m addr v (tkDisturb d addr m s)

/-! ### Loads -/

/-- The value that a read operation returns through the die's read data, with that data left as it was. -/
def viaRdata (d : Nat) (f : State → State) (s : State) : Nat × State :=
  let was := (s.c d).sys.rdata
  let t := f s
  ((t.c d).sys.rdata.toNat, returnData d was t)

/-- A register's word as a read returns it: WO bits read 0. -/
def State.shown (s : State) (d off : Nat) : Nat :=
  match rowAt d off with
  | some r => (s.reg d off &&& ~~~ maskW r.wo).toNat
  | none => 0

/-- A read of a feedback register: POSLO stores the others for the reading core, LSTAT clears NEW (R199, R200). -/
def fbLoad (d n o core : Nat) (s : State) : Nat × State :=
  let off := 0x200000 + 0x1000 * n + o
  let x := (s.fb d n).seen.at core
  match o with
  | 0x40 => viaRdata d (posRead d n core) s
  | 0x44 => (x.1, s)
  | 0x48 => (x.2.2.1, s)
  | 0x4C => (x.2.2.2, s)
  | 0x50 => (x.2.1, s)
  | 0x78 => (s.shown d off, s.off d (F.FB_FB_LSTAT_NEW n))
  | _ => (s.shown d off, s)

/-- A read at an offset of C die d's own map by master m, windows apart, with its side effects. -/
def ownLoad (d : Nat) (m : Master) (off : Nat) (s : State) : Nat × State :=
  let plain := (s.shown d off, s)
  if off < 0x10000 then
    if off == 0x30 then
      (s.now32 d, s.modSys d (fun y => { y with sthi := y.sthi.set m.coreIx (y.stage.extractLsb' 32 32) }))
    else if off == 0x34 then (((s.c d).sys.sthi.at m.coreIx).toNat, s)
    else plain
  else if off == 0x50018 then viaRdata d (optimeRead d m) s
  else if off == 0x5001C then (((s.c d).sys.opthi.at m.coreIx).toNat % 256, s)
  else if off == 0xB0020 then
    let s := watchRemain d s
    (s.shown d off, s)
  else if 0x100000 ≤ off ∧ off < 0x110000 then
    let g := (off - 0x100000) / 0x4000
    let o := off % 0x4000
    if o == 0x24 then viaRdata d (fifoRead d g) s
    else if 0x400 ≤ o ∧ o < 0x500 then viaRdata d (resRead d g ((o - 0x400) / 4)) s
    else plain
  else if 0x111000 ≤ off ∧ off < 0x111600 then
    let k := (off - 0x111000) / 0x100
    let o := off % 0x100
    if o == 0x70 then viaRdata d (shFifoRead d k) s
    else if 0x50 ≤ o ∧ o < 0x6C then viaRdata d (shResRead d k ((o - 0x50) / 4)) s
    else plain
  else if 0x200000 ≤ off ∧ off < 0x204000 then fbLoad d ((off - 0x200000) / 0x1000) (off % 0x1000) m.coreIx s
  else if 0x240000 ≤ off ∧ off < 0x280000 then
    let n := (off - 0x240000) / 0x10000
    let o := off % 0x10000
    if 0x8000 ≤ o then (s.canRamRead d n (s.canPage d n m o), s)
    else if o == 0x08 then (s.shown d off, s.off d (F.CAN_CAN_ERRC_TOTAL n))
    else if o == 0x68 then
      let s := canTime d n s
      (s.shown d off, s)
    else plain
  else plain

/-- A read of a register of D die k by C die d, whose address is reported if the link is down or the die, in reset, does not
answer (R15, R138). -/
def drvLoad (d k off addr : Nat) (s : State) : Option Nat × State :=
  if !s.hasD k then (none, s)
  else if !s.linkD d k then (none, accErr d Acc.linkDown (dix k) 0 addr false s)
  else if !s.runsD k then (none, accErr d Acc.timeout (dix k) 0 addr false s)
  else if 0x118 ≤ off ∧ off < 0x280 ∧ (off - 0x118) % 0x40 = 0 then
    let r := viaRdata d (telmaxRead d k ((off - 0x118) / 0x40)) s
    (some r.1, r.2)
  else if off < 0x4000 then (some (s.shown (dix k) off), s)
  else (some 0, s)

/-- A read at an offset of C die d's map, its DRV windows included. -/
def mapLoad (d : Nat) (m : Master) (off addr : Nat) (s : State) : Option Nat × State :=
  match drvAt off with
  | some k => drvLoad d k (off % 0x4000) addr s
  | none =>
    let r := ownLoad d m off s
    (some r.1, r.2)

/-- A read of C die d through a peer-die window (R33, R138). -/
def peerLoad (d : Nat) (m : Master) (addr : Nat) (s : State) : Option Nat × State :=
  let i := (addr - 0x60000000) / 0x1000000
  let off := addr % 0x1000000
  if i == d then if s.unmapped (own off) then (none, s) else mapLoad d m off addr s
  else if 2 ≤ i then drvLoad d (i - 2) off addr s
  else if !s.peerOpen d then (none, accErr d Acc.linkDown i 0 addr false s)
  else if !s.runs i then (none, accErr d Acc.timeout i 0 addr false s)
  else if s.unmapped (own off) then (none, accErr d Acc.remoteErr i 1 addr false s)
  else
    match mapLoad i .peer off (own off) s with
    | (some v, s) => (some v, s)
    | (none, s) => (none, accErr d Acc.remoteErr i 1 addr false s)

/-- A read of the machine-timer block, R29. -/
def State.timerLoad (s : State) (d off : Nat) : Nat :=
  let half := fun (t : BitVec 64) (hi : Bool) => if hi then t.toNat / 2 ^ 32 else t.toNat % 2 ^ 32
  if off < 0x20 then half ((s.c d).sys.mtimecmp.at (off / 8)) (off % 8 == 4)
  else if off = 0x7FF8 then s.now d % 2 ^ 32
  else if off = 0x7FFC then s.now d / 2 ^ 32
  else if 0x8000 ≤ off ∧ off < 0x8010 then b2n ((s.c d).sys.msip.at ((off - 0x8000) / 4))
  else 0

/-- A read of the PLIC by master m: claim is of the context of its address, R408. -/
def plicLoad (d off : Nat) (s : State) : Nat × State :=
  if off = 0x200004 then plicTake d 0 s
  else if off = 0x201004 then plicTake d 1 s
  else (s.plicRead d off, s)

/-- What an aligned 32-bit load of master m at an address answers; none: a bus error, not yet raised. -/
def loadRaw (d : Nat) (m : Master) (addr : Nat) (s : State) : Option Nat × State :=
  if s.unmapped addr then (none, s)
  else if addr % 4 ≠ 0 then (if regWindow addr then (none, s) else (some (s.rd32 d addr), s))
  else if 0x60000000 ≤ addr then peerLoad d m addr s
  else if 0x40000000 ≤ addr then mapLoad d m (addr - 0x40000000) addr s
  else if 0x10000000 ≤ addr then (some (s.rd32 d addr), s)
  else if 0x0C000000 ≤ addr then
    let r := plicLoad d (addr - 0x0C000000) s
    (some r.1, r.2)
  else if 0x02000000 ≤ addr then (some (s.timerLoad d (addr - 0x02000000)), s)
  else (some (s.rd32 d addr), s)

/-- A load of master m, with its bus error raised. -/
def loadAt (d : Nat) (m : Master) (addr : Nat) (s : State) : Option Nat × State :=
  match loadRaw d m addr s with
  | (some v, s) => (some v, s)
  | (none, s) => (none, busTrap d m addr false s)

/-! ### Commands -/

/-- R8. Master m of C die d writes a 32-bit register: field by field under its access codes, with the effects that its
block gives the write. -/
def execRegisterWrite (d : CDie) (m : Master) (addr : Word) (v : Word) (s : State) : Out :=
  onC d.val (storeAt d.val m addr.toNat v) s

/-- R84. A write of SYS_BRST. -/
def execBlockResetWrite (d : CDie) (v : Word) (s : State) : Out := onCW d.val (own 0xC) (brstWrite d.val v) s

/-- R130. The store of master m to the address that an armed two-key sequence names. -/
def execTwoKeyTargetWrite (d : CDie) (m : Master) (v : Word) (s : State) : Out :=
  onC d.val (fun s =>
    if s.flag d.val F.LIB_TK_STAT_ARMED then storeAt d.val m (s.c d.val).lib.tk.addr v s else s) s

/-- R138, R15. Master m of C die d writes through a DRV window or a peer-die window. -/
def execRemoteWrite (d : CDie) (m : Master) (addr : Word) (v : Word) (s : State) : Out :=
  onC d.val (fun s => if (windowDie addr.toNat).isSome then storeAt d.val m addr.toNat v s else s) s

/-- What the target of a remote read answers: data and status; none when it is in reset. -/
def remoteAnswer (d i off addr : Nat) (m : Master) (s : State) : Option (Nat × Nat) × State :=
  if i < 2 then
    if !s.runs i then (none, s)
    else if s.unmapped (own off) then (some (0, 1), s)
    else match mapLoad i (if i == d then m else .peer) off (own off) s with
      | (some v, s) => (some (v, 0), s)
      | (none, s) => (some (0, 1), s)
  else if !s.runsD (i - 2) then (none, s)
  else match drvLoad d (i - 2) off addr s with
    | (some v, t) => (some (v, 0), t)
    | (none, _) => (none, s)

/-- The RDRSP flit of a target: 32-bit data, 4-bit status (Table 6-1). -/
def answerFlit (d i : Nat) (r : Option (Nat × Nat)) (s : State) : State :=
  match r with
  | some (v, st) =>
    if i == d then s else sendFlit i (if i < 2 then 0 else d) Fl.rdrsp (v * 16 + st) s
  | none => s

/-- A core of C die d issues a read through a window: an RD flit goes out, and the target answers it. -/
def remoteRead (d : Nat) (k : Fin 4) (machine : Bool) (addr : Nat) (s : State) : State :=
  match windowDie addr with
  | none => s
  | some i =>
    if s.unmapped addr || addr % 4 != 0 then busTrap d (.core k machine) addr false s
    else if ((s.c d).hdr.reads.at k.val).active then s
    else
      let off := if 0x60000000 ≤ addr then addr % 0x1000000 else addr % 0x4000
      let up := if i == d then true else if i < 2 then s.peerOpen d else s.linkD d (i - 2)
      if !up then busTrap d (.core k machine) addr false (accErr d Acc.linkDown i 0 addr false s)
      else
        let n := if i < 2 then 0 else i - 1
        let s := if i == d then s
          else sendFlit d n Fl.rd (off / 4 % 4096) (if i < 2 then sendFlit d n Fl.rd (addr / 2 ^ 14) s else s)
        let r := remoteAnswer d i off addr (.core k machine) s
        let s := answerFlit d i r.1 r.2
        s.modHdr d (fun h => { h with reads := h.reads.set k.val ⟨true, i, addr, s.now d, r.1⟩ })

/-- R138, R15, R33. Core k of C die d reads through a DRV window or a peer-die window; the answer of a target that runs is
on its way (REMOTE_READ_RESPONSE), else the read times out. -/
def execRemoteRead (d : CDie) (k : Fin 4) (machine : Bool) (addr : Word) (s : State) : Out :=
  onC d.val (remoteRead d.val k machine addr.toNat) s

/-- A read of the leading core of a pair, R381. `csr` 0: a load at the address; 1: cycle or instret, of which `data` is
the core's; 2, 3: the lower and the upper half of the time CSR; 4: mhartid, which each core holds itself (R22, R383), so
that nothing is recorded for the other. -/
def replicatedRead (d : Nat) (core : Fin 4) (machine : Bool) (addr csr data lag : Nat) (s : State) : State :=
  if s.coreStalls d core.val then s
  else if csr == 4 then s.modSys d (fun y => { y with rdata := BitVec.ofNat 32 (hartId d core.val) })
  else if !s.delayRoom d core.val then s
  else
    let r : Option Nat × State :=
      match csr with
      | 0 => loadAt d (.core core machine) addr s
      | 1 => (some data, s)
      | 2 => (some (s.now32 d), s)
      | _ => (some (s.now d / 2 ^ 32), s)
    leads d core.val lag (match r.1 with
      | some v => readDone d core.val addr v r.2
      | none => onlyIf (!s.split d (pairOf core.val)) (record d core.val ⟨0, addr, 0⟩) r.2)

/-- R381. The leading core's read that leaves the core is taken once and recorded for the trailing core. -/
def execReplicatedRead (d : CDie) (core : Fin 4) (machine : Bool) (addr : Word) (csr : Fin 5) (data : Word)
    (lag : Fin 4097) (s : State) : Out :=
  onC d.val (replicatedRead d.val core machine addr.toNat csr.val data.toNat lag.val) s

/-- The bytes of a store that its byte enables name. -/
def storeBytes (d addr data be : Nat) (s : State) : State :=
  overN 4 (fun j s => if bit be j && !inRing addr then s.wrB d (addr + j) (data / 256 ^ j % 256) else s) s

/-- A core's store is performed at an address: a narrow one outside SRAM is a bus error (R5). -/
def storePerform (d : Nat) (m : Master) (data be addr : Nat) (s : State) : State :=
  if be % 16 == 15 then storeAt d m addr (BitVec.ofNat 32 data) s
  else if inSram addr then storeBytes d addr data be s
  else busTrap d m addr true s

/-- A store of a core, R384 to R386. `atomic`: its write is that of an atomic memory operation or a store-conditional. -/
def protectedStore (d : Nat) (core : Fin 4) (machine : Bool) (addr data be : Nat) (disagree : Bool) (ecc : Nat)
    (atomic : Bool) (s : State) : State :=
  let p := pairOf core.val
  let m := Master.core core machine
  if s.coreStalls d core.val then s
  else if s.split d p || addr == own 0x20000 + 0x100 * p then storePerform d m data be addr s
  else if s.stalled d p then s
  else if inSram addr && !atomic then sramStore d core.val addr data be (storePerform d m data be addr) s
  else ocbStore d core.val addr data be disagree ecc (fun a => storePerform d m data be a) s

/-- R383, R384, R385, R386, R395, R397. A core's copy of a store: held in the output compare buffer, or released by the
second copy and performed once. -/
def execProtectedStore (d : CDie) (core : Fin 4) (machine : Bool) (addr data : Word) (be : BitVec 4) (disagree : Bool)
    (ecc : Fin 3) (atomic : Bool) (s : State) : Out :=
  onC d.val (protectedStore d.val core machine addr.toNat data.toNat be.toNat disagree ecc.val atomic) s

end Sys2Proof.Machine
end

