-- ==== Sys2Proof/Machine/FlumeMove.lean ====
section
/-! DEFINITION. The accesses of the flume channels (R437 to R443, R446): the bursts in which they take turns, and the three
ends of a descriptor: completion, error, abort. -/

namespace Sys2Proof.Machine

/-! ### One burst -/

/-- Words read one after another by channel n, their numbers from an address given in order; none once one of them is a bus
error. -/
def flumeWords (d : Nat) (n : Fin 16) (a : Nat) : List Nat → State → Option (List (Nat × Nat)) × State
  | [], s => (some [], s)
  | i :: is, s =>
    match loadRaw d (.flume n) (a + 4 * i) s with
    | (none, s) => (none, s)
    | (some v, s) =>
      match flumeWords d n a is s with
      | (some vs, s) => (some ((i, v) :: vs), s)
      | (none, s) => (none, s)

/-- The bytes of words read, from word `lo` on for `k` words; a word not read gives zeros. -/
def bytesOfWords (lo k : Nat) (ws : List (Nat × Nat)) : List Nat :=
  (List.range k).flatMap (fun i => wordBytes ((ws.lookup (lo + i)).getD 0))

/-- A word of a source footprint holds a byte that the descriptor moves: the gaps between blocks are not read. -/
def DescW.needs (x : DescW) (i : Nat) : Bool :=
  x.mode != 2 || (List.range 4).any (fun b => decide ((4 * i + b) % max 1 x.stride < x.n / x.ns))

/-- The source lies in memory, where bytes are read as a burst needs them (R438). -/
def DescW.srcMem (x : DescW) : Bool := x.mode == 1 || decide (x.src < 0x40000000)

/-- Word numbers from lo on, in the direction of the move. -/
def DescW.wordsOf (x : DescW) (lo k : Nat) : List Nat :=
  let ws := (List.range k).map (fun i => lo + i)
  if x.descends then ws.reverse else ws

/-- The source bytes that a burst of bytes lo to lo + b needs, as (offset of the first, bytes): none at a bus error. A register
or window word is accessed exactly once (R438): a COPY reads the words of the burst, a shuffle its whole source at its first
burst. -/
def flumeSource (d : Nat) (n : Fin 16) (x : DescW) (lo b : Nat) (s : State) : Option (Nat × List Nat) × State :=
  if x.mode == 0 then
    let w := lo / 4
    let k := (lo + b + 3) / 4 - w
    match flumeWords d n x.src (x.wordsOf w k) s with
    | (some ws, s) => (some (4 * w, bytesOfWords w k ws), s)
    | (none, s) => (none, s)
  else if (s.fl d n.val).held.isEmpty then
    let k := (x.srcFoot.map (·.2)).getD 0 / 4
    match flumeWords d n x.src ((List.range k).filter x.needs) s with
    | (some ws, s) =>
      let bs := bytesOfWords 0 k ws
      (some (0, bs), modFl d n.val (fun y => { y with held := bs }) s)
    | (none, s) => (none, s)
  else (some (0, (s.fl d n.val).held), s)

/-- A byte stored to memory by the engine; the prompt ring takes none (R476). -/
def flumeByte (d a v : Nat) (s : State) : State := if inRing a then s else s.wrB d a v

/-- A register or window word stored by channel n at an offset from DST: the data bytes it holds, and `crc`, what a byte of the
stored CRC puts there (R441). -/
def flumeWord (d : Nat) (n : Fin 16) (x : DescW) (data : Nat → Nat) (crc : Nat → Option Nat) (w : Nat) (s : State) : State :=
  let byte := fun i => (crc (4 * w + i)).getD (((x.atOff (4 * w + i)).map data).getD 0)
  storeAt d (.flume n) (x.dst + 4 * w)
    (BitVec.ofNat 32 (byte 0 + 256 * byte 1 + 65536 * byte 2 + 16777216 * byte 3)) s

/-- The words of a register or window destination that a burst of bytes lo to lo + b finishes: each is written once, with the
burst of its last byte, and a word that holds a byte of the stored CRC with that (R438, R441). -/
def DescW.finishes (x : DescW) (lo b : Nat) : List Nat :=
  let first := x.dstOff lo / 4
  let last := if lo + b < x.n then x.dstOff (lo + b) / 4 else (x.dstOff (x.n - 1)) / 4 + 1
  let holds := fun w => (List.range 4).any (fun i => (x.atOff (4 * w + i)).isSome)
  let crcAt := fun w => decide (x.n < 4 * w + 4) && decide (4 * w < x.n + x.crcLen)
  (x.wordsOf first (last - first)).filter (fun w => holds w && !crcAt w)

/-- The data of a burst written, in the direction of the move (R440). -/
def flumePut (d : Nat) (n : Fin 16) (x : DescW) (lo b : Nat) (data : Nat → Nat) (s : State) : State :=
  if x.dst < 0x40000000 then
    let bs := (List.range b).map (fun i => (x.dst + x.dstOff (lo + i), data (lo + i)))
    bs.foldl (fun s e => flumeByte d e.1 e.2 s) s
  else (x.finishes lo b).foldl (fun s w => flumeWord d n x data (fun _ => none) w s) s

/-- The destination or the source window of a descriptor belongs to a die that the part lacks: its accesses are bus errors
(R32). -/
def State.flumeNowhere (s : State) (x : DescW) : Bool := s.unmapped x.dst || (x.mode != 1 && s.unmapped x.src)

/-- The reader of a descriptor's data bytes by their number, from its source in memory or from bytes at hand. -/
def State.flumeData (s : State) (d : Nat) (x : DescW) (at_ : Nat × List Nat) : Nat → Nat :=
  if x.srcMem then x.byteAt (fun o => s.rdB d (x.src + o)) else x.byteAt (fun o => at_.2.getD (o - at_.1) 0)

/-- A burst of channel n: up to 32 bytes more of its descriptor's data, `lim` bytes in all at most (R446), with the CRC over
them (R441); a bus error ends the descriptor (R438). -/
def flumeBurst (d : Nat) (n : Fin 16) (lim : Nat) (x : DescW) (s : State) : State :=
  let w := (s.fl d n.val).moved
  let b := min 32 (min lim x.n - w)
  let lo := if x.descends then x.n - w - b else w
  if s.flumeNowhere x then flumeError d n.val Dcode.bus true s
  else
    match (if x.srcMem then (some (0, []), s) else flumeSource d n x lo b s) with
    | (none, s) => flumeError d n.val Dcode.bus true s
    | (some at_, s) =>
      let data := s.flumeData d x at_
      let bs := (List.range b).map (fun i => data (lo + i))
      let s := modFl d n.val (fun y => { y with moved := w + b, crcReg := crcRun x.crc y.crcReg bs }) s
      flumePut d n x lo b (fun k => if lo ≤ k ∧ k < lo + b then bs.getD (k - lo) 0 else data k)
        (s.put d (F.FLUME_FL_REMAIN n.val) (x.n - (w + b)))

/-! ### Arbitration -/

/-- A channel in RUN has a descriptor in progress. -/
def State.flRuns (s : State) (d n : Nat) : Option DescW :=
  if s.flState d n == Fls.run then (s.fl d n).desc else none

/-- The descriptor in progress of a channel with data still to move. -/
def State.flWaits (s : State) (d n : Nat) : Option DescW :=
  match s.flRuns d n with
  | some x => if (s.fl d n).moved < x.n then some x else none
  | none => none

/-- The channel whose turn it is, R446: PRIO = 1 before PRIO = 0, channels of equal priority in round-robin order. -/
def State.flNext (s : State) (d : Nat) : Option Nat :=
  let turn := ((List.range 16).map (fun i => ((s.c d).flumeLast + 1 + i) % 16)).filter (fun m => (s.flWaits d m).isSome)
  match turn.find? (fun m => s.flag d (F.FLUME_FL_CFG_PRIO m)) with
  | some m => some m
  | none => turn.head?

/-- Bursts are served, at most k of them, until channel n has written `lim` bytes of its descriptor or has ended. -/
def flumeServe (d : Nat) (n : Fin 16) (lim : Nat) : Nat → State → State
  | 0, s => s
  | k + 1, s =>
    match s.flWaits d n.val, s.flNext d with
    | some _, some m =>
      if lim ≤ (s.fl d n.val).moved then s
      else
        match s.flWaits d m with
        | none => s
        | some x =>
          let c : Fin 16 := Fin.ofNat 16 m
          flumeServe d n lim k (flumeBurst d c (if c = n then lim else x.n) x
            (s.modC d (fun c => { c with flumeLast := m })))
    | _, _ => s

/-- The bursts that all channels together still have before them. -/
def State.flBursts (s : State) (d : Nat) : Nat :=
  ((List.range 16).map (fun m => match s.flWaits d m with
    | some x => (x.n - (s.fl d m).moved) / 32 + 1
    | none => 0)).foldl (· + ·) 0

/-- The engine serves its channels in turn until channel n has written `lim` bytes of its descriptor. -/
def flumeUpTo (d : Nat) (n : Fin 16) (lim : Nat) (s : State) : State := flumeServe d n lim (s.flBursts d) s

/-! ### The ends of a descriptor -/

/-- The stored CRC, little-endian at DST + LEN, R441. -/
def storeCrc (d : Nat) (n : Fin 16) (x : DescW) (s : State) : State :=
  if x.crcLen == 0 then s
  else
    let cs := x.crcBytes (crcFinal x.crc (s.fl d n.val).crcReg)
    if x.dst < 0x40000000 then
      (List.range x.crcLen).foldl (fun s i => flumeByte d (x.dst + x.n + i) (cs.getD i 0) s) s
    else
      let crc := fun o => if x.n ≤ o ∧ o < x.n + x.crcLen then some (cs.getD (o - x.n) 0) else none
      let w := x.n / 4
      overN ((x.n + x.crcLen + 3) / 4 - w)
        (fun i s => flumeWord d n x (s.flumeData d x (0, (s.fl d n.val).held)) crc (w + i) s) s

/-- The descriptor in progress of channel n completes, R441, R442, R445, once the bursts before its last one are served. -/
def descComplete (d : Nat) (n : Fin 16) (s : State) : State :=
  match s.flRuns d n.val with
  | none => s
  | some x =>
    let s := flumeUpTo d n x.n s
    if (s.flRuns d n.val).isNone then s else follow d n.val x (descDone d n.val x (storeCrc d n x s))

/-- R441, R442, R445, R446. The final write of the descriptor in progress has been accepted. -/
def execDescriptorComplete (d : CDie) (n : Fin 16) (s : State) : Out := onC d.val (descComplete d.val n) s

/-- R442, R438. A bus error or an uncorrectable error on a data read ends the descriptor in progress after `written` bytes. -/
def execDescriptorError (d : CDie) (n : Fin 16) (written : BitVec 24) (s : State) : Out :=
  onC d.val (fun s =>
    let s := flumeUpTo d.val n written.toNat s
    match s.flRuns d.val n.val with
    | none => s
    | some _ => flumeError d.val n.val Dcode.bus true s) s

/-- An abort of a channel in RUN, R443: its descriptor has written `written` bytes, or its final write has been accepted. -/
def flumeAbortRun (d : Nat) (n : Fin 16) (written : Nat) (accepted : Bool) (s : State) : State :=
  match s.flRuns d n.val with
  | none => abortWon d n.val s
  | some x =>
    let s := flumeUpTo d n (if accepted then x.n else written) s
    if (s.flRuns d n.val).isNone then flumeAbort d n.val (fun s => s) s
    else if accepted || s.allMoved d n.val then abortLate d n.val x (if accepted then storeCrc d n x s else s)
    else abortWon d n.val s

/-- R443. A write of 1 to FLUME_FLn_CTRL.ABORT: the descriptor in progress has written `written` bytes, or its final write
has been accepted. -/
def execFlumeAbort (d : CDie) (n : Fin 16) (written : BitVec 24) (accepted : Bool) (s : State) : Out :=
  onCW d.val (own (0x90000 + 0x40 * n.val)) (flumeAbort d.val n (flumeAbortRun d.val n written.toNat accepted)) s

end Sys2Proof.Machine
end

