-- ==== Sys2Proof/Machine/Frame.lean ====
section
/-! DEFINITION. The frame boundary (R484 to R486), with what the loader does at one (R124, R126). -/

namespace Sys2Proof.Machine

/-- A boundary falls on a die, R484: 8 fabric cycles after its tick. -/
def State.boundaryDue (s : State) (d : Nat) : Bool :=
  s.runs d && (s.c d).prompt.due && decide ((s.c d).prompt.lastTick + 8 ≤ s.now d)

/-- R484 to R486, R358, R362, R124, R126. The frame boundary, 8 fabric cycles after the tick, on every C die on which it is due;
what the loader does at one. -/
def execFrameBoundary (s : State) : Out :=
  .next (
    let due := (List.range 2).any s.boundaryDue
    let s := overN 2 (fun d s => if s.boundaryDue d then boundaryOn d s else s) s
    if due then libBoundary s else s)

end Sys2Proof.Machine
end

