-- ==== Sys2Proof/Machine/Dispatch.lean ====
section
/-! DEFINITION. One arm per command: the meaning it calls. -/

namespace Sys2Proof.Machine

def exec (ins : Instr) (s : State) : Host.Outcome State Fault Refusal :=
  match ins with
  | .registerWrite d m addr v => Sys2Proof.Machine.execRegisterWrite d m addr v s
  | .narrowOrMisalignedAccess d m addr size write => Sys2Proof.Machine.execNarrowOrMisalignedAccess d m addr size write s
  | .unmappedAccess d m addr write => Sys2Proof.Machine.execUnmappedAccess d m addr write s
  | .stageTimeRead d m => Sys2Proof.Machine.execStageTimeRead d m s
  | .msipWrite d k v => Sys2Proof.Machine.execMsipWrite d k v s
  | .machineTimerInterrupt d k => Sys2Proof.Machine.execMachineTimerInterrupt d k s
  | .suppliesInRange => Sys2Proof.Machine.execSuppliesInRange s
  | .supplyLow r => Sys2Proof.Machine.execSupplyLow r s
  | .supplyRecovered r => Sys2Proof.Machine.execSupplyRecovered r s
  | .clockLoss d ref => Sys2Proof.Machine.execClockLoss d ref s
  | .crystalReferenceOk d => Sys2Proof.Machine.execCrystalReferenceOk d s
  | .pllLock d => Sys2Proof.Machine.execPllLock d s
  | .resetNAssert low => Sys2Proof.Machine.execResetNAssert low s
  | .sysRstctrlPkg d m => Sys2Proof.Machine.execSysRstctrlPkg d m s
  | .sysRstctrlDie d m => Sys2Proof.Machine.execSysRstctrlDie d m s
  | .peerOrderedReset d => Sys2Proof.Machine.execPeerOrderedReset d s
  | .dDieReset k => Sys2Proof.Machine.execDDieReset k s
  | .blockResetWrite d v => Sys2Proof.Machine.execBlockResetWrite d v s
  | .resetRelease i anchor rcvyN romOk => Sys2Proof.Machine.execResetRelease i anchor rcvyN romOk s
  | .pfailRecognised => Sys2Proof.Machine.execPfailRecognised s
  | .pfailFall => Sys2Proof.Machine.execPfailFall s
  | .rollCallC1Answer ctl pos step => Sys2Proof.Machine.execRollCallC1Answer ctl pos step s
  | .dLinkTrainingStart => Sys2Proof.Machine.execDLinkTrainingStart s
  | .dDieAnswer k pos step drv => Sys2Proof.Machine.execDDieAnswer k pos step drv s
  | .answerWindowExpiry i => Sys2Proof.Machine.execAnswerWindowExpiry i s
  | .microcodeReadback k ok => Sys2Proof.Machine.execMicrocodeReadback k ok s
  | .timeAlignCheck => Sys2Proof.Machine.execTimeAlignCheck s
  | .versionWindowResolve peerOk => Sys2Proof.Machine.execVersionWindowResolve peerOk s
  | .thermalHoldRecheck => Sys2Proof.Machine.execThermalHoldRecheck s
  | .nvmTempHoldRecheck d => Sys2Proof.Machine.execNvmTempHoldRecheck d s
  | .readinessItemMet d item => Sys2Proof.Machine.execReadinessItemMet d item s
  | .libLoad d m => Sys2Proof.Machine.execLibLoad d m s
  | .libReload d m ax => Sys2Proof.Machine.execLibReload d m ax s
  | .libRollback d m => Sys2Proof.Machine.execLibRollback d m s
  | .libAccept d m => Sys2Proof.Machine.execLibAccept d m s
  | .libAbort d m => Sys2Proof.Machine.execLibAbort d m s
  | .libStoreUd d m => Sys2Proof.Machine.execLibStoreUd d m s
  | .libClearUd d m => Sys2Proof.Machine.execLibClearUd d m s
  | .libVerifyDone => Sys2Proof.Machine.execLibVerifyDone s
  | .libStoreDone => Sys2Proof.Machine.execLibStoreDone s
  | .libConfigApply => Sys2Proof.Machine.execLibConfigApply s
  | .reloadTransfer news => Sys2Proof.Machine.execReloadTransfer news s
  | .acceptWindowExpiry => Sys2Proof.Machine.execAcceptWindowExpiry s
  | .directoryWriteRetry => Sys2Proof.Machine.execDirectoryWriteRetry s
  | .libTkAddrWrite d m v => Sys2Proof.Machine.execLibTkAddrWrite d m v s
  | .libTkKeyWrite d m v => Sys2Proof.Machine.execLibTkKeyWrite d m v s
  | .twoKeyTargetWrite d m v => Sys2Proof.Machine.execTwoKeyTargetWrite d m v s
  | .twoKeyTimeout d => Sys2Proof.Machine.execTwoKeyTimeout d s
  | .flitReceive i n w => Sys2Proof.Machine.execFlitReceive i n w s
  | .nakReceive i n seq => Sys2Proof.Machine.execNakReceive i n seq s
  | .linkLost i n => Sys2Proof.Machine.execLinkLost i n s
  | .linkRetrained i n => Sys2Proof.Machine.execLinkRetrained i n s
  | .resetNoticeReceive k => Sys2Proof.Machine.execResetNoticeReceive k s
  | .remoteWrite d m addr v => Sys2Proof.Machine.execRemoteWrite d m addr v s
  | .remoteRead d k machine addr => Sys2Proof.Machine.execRemoteRead d k machine addr s
  | .remoteReadResponse d k machine crcOk => Sys2Proof.Machine.execRemoteReadResponse d k machine crcOk s
  | .remoteReadTimeout d k machine => Sys2Proof.Machine.execRemoteReadTimeout d k machine s
  | .timeLoad i n => Sys2Proof.Machine.execTimeLoad i n s
  | .timeSyncSend d => Sys2Proof.Machine.execTimeSyncSend d s
  | .timeSyncReceive i n t => Sys2Proof.Machine.execTimeSyncReceive i n t s
  | .handover d m k => Sys2Proof.Machine.execHandover d m k s
  | .take d m k => Sys2Proof.Machine.execTake d m k s
  | .hoOfferReceive d => Sys2Proof.Machine.execHoOfferReceive d s
  | .hoReadyReceive d => Sys2Proof.Machine.execHoReadyReceive d s
  | .hoReadyDeadline d => Sys2Proof.Machine.execHoReadyDeadline d s
  | .hoCommitReceive k => Sys2Proof.Machine.execHoCommitReceive k s
  | .handoverBoundary k => Sys2Proof.Machine.execHandoverBoundary k s
  | .hoDoneReceive d k => Sys2Proof.Machine.execHoDoneReceive d k s
  | .hoCancel d code => Sys2Proof.Machine.execHoCancel d code s
  | .hoCancelReceive d k => Sys2Proof.Machine.execHoCancelReceive d k s
  | .takeReceive d k => Sys2Proof.Machine.execTakeReceive d k s
  | .cueSourceEvent d src => Sys2Proof.Machine.execCueSourceEvent d src s
  | .cueArrival d dst late bad => Sys2Proof.Machine.execCueArrival d dst late bad s
  | .softwareCue d v => Sys2Proof.Machine.execSoftwareCue d v s
  | .adcSequenceStart d g q => Sys2Proof.Machine.execAdcSequenceStart d g q s
  | .adcSwtrigStop d g mask => Sys2Proof.Machine.execAdcSwtrigStop d g mask s
  | .adcStepSample d g q n => Sys2Proof.Machine.execAdcStepSample d g q n s
  | .adcConversionDone d g e u => Sys2Proof.Machine.execAdcConversionDone d g e u s
  | .adcBurstSample d g u => Sys2Proof.Machine.execAdcBurstSample d g u s
  | .adcFifoRead d g => Sys2Proof.Machine.execAdcFifoRead d g s
  | .adcResultRead d g e => Sys2Proof.Machine.execAdcResultRead d g e s
  | .shuntStart k => Sys2Proof.Machine.execShuntStart k s
  | .shuntConversionDone k c0 c1 c2 => Sys2Proof.Machine.execShuntConversionDone k c0 c1 c2 s
  | .voltageStart k auto => Sys2Proof.Machine.execVoltageStart k auto s
  | .voltageSetFlit k c0 c1 c2 => Sys2Proof.Machine.execVoltageSetFlit k c0 c1 c2 s
  | .shuntBurstModeWrite d k v => Sys2Proof.Machine.execShuntBurstModeWrite d k v s
  | .shuntFlitReceive d k => Sys2Proof.Machine.execShuntFlitReceive d k s
  | .shuntFifoRead d k => Sys2Proof.Machine.execShuntFifoRead d k s
  | .adcSelfCalibrationStart => Sys2Proof.Machine.execAdcSelfCalibrationStart s
  | .adcSelfCalibrationDone d fails dfails => Sys2Proof.Machine.execAdcSelfCalibrationDone d fails dfails s
  | .adcGctrlCal d => Sys2Proof.Machine.execAdcGctrlCal d s
  | .adcGctrlZcap d => Sys2Proof.Machine.execAdcGctrlZcap d s
  | .zcapAtStandby d => Sys2Proof.Machine.execZcapAtStandby d s
  | .zcapDeferredStart d a => Sys2Proof.Machine.execZcapDeferredStart d a s
  | .zcapDone d caps => Sys2Proof.Machine.execZcapDone d caps s
  | .rotationPoint d => Sys2Proof.Machine.execRotationPoint d s
  | .engineHandoverMove d => Sys2Proof.Machine.execEngineHandoverMove d s
  | .inServiceSlice d code work => Sys2Proof.Machine.execInServiceSlice d code work s
  | .fbEnable d n v => Sys2Proof.Machine.execFbEnable d n v s
  | .encoderEdge d n a b held => Sys2Proof.Machine.execEncoderEdge d n a b held s
  | .encoderIndex d n held => Sys2Proof.Machine.execEncoderIndex d n held s
  | .hallStateChange d n st held => Sys2Proof.Machine.execHallStateChange d n st held s
  | .excitationPeriodStart d n => Sys2Proof.Machine.execExcitationPeriodStart d n s
  | .observerUpdate d n sin cos => Sys2Proof.Machine.execObserverUpdate d n sin cos s
  | .serialFrameRequest d n ready => Sys2Proof.Machine.execSerialFrameRequest d n ready s
  | .serialFrameDone d n raw wait => Sys2Proof.Machine.execSerialFrameDone d n raw wait s
  | .positionLatch d n index => Sys2Proof.Machine.execPositionLatch d n index s
  | .latchStatusRead d n => Sys2Proof.Machine.execLatchStatusRead d n s
  | .positionRead d n m => Sys2Proof.Machine.execPositionRead d n m s
  | .fbFaultClear d n => Sys2Proof.Machine.execFbFaultClear d n s
  | .emuEnable d m v => Sys2Proof.Machine.execEmuEnable d m v s
  | .emuStep d m => Sys2Proof.Machine.execEmuStep d m s
  | .engineModeWrite d n v => Sys2Proof.Machine.execEngineModeWrite d n v s
  | .engineStart d n kind k ecc atStep => Sys2Proof.Machine.execEngineStart d n kind k ecc atStep s
  | .waitfResume d n => Sys2Proof.Machine.execWaitfResume d n s
  | .waitfTimeout d n => Sys2Proof.Machine.execWaitfTimeout d n s
  | .engineRunEnd d n => Sys2Proof.Machine.execEngineRunEnd d n s
  | .heldWriteApply d n => Sys2Proof.Machine.execHeldWriteApply d n s
  | .bankSwap d n => Sys2Proof.Machine.execBankSwap d n s
  | .channelSoftwareWrite d c v => Sys2Proof.Machine.execChannelSoftwareWrite d c v s
  | .mirrorChannelWrite d c v => Sys2Proof.Machine.execMirrorChannelWrite d c v s
  | .setpointWrite d k v => Sys2Proof.Machine.execSetpointWrite d k v s
  | .weirEvaluate d w => Sys2Proof.Machine.execWeirEvaluate d w s
  | .weirInputStale d w j => Sys2Proof.Machine.execWeirInputStale d w j s
  | .weirManualValueWrite d w v => Sys2Proof.Machine.execWeirManualValueWrite d w v s
  | .weirEnableWrite d w v => Sys2Proof.Machine.execWeirEnableWrite d w v s
  | .twinStart d t ecc atStep => Sys2Proof.Machine.execTwinStart d t ecc atStep s
  | .fieldStart d a => Sys2Proof.Machine.execFieldStart d a s
  | .fieldStop d a => Sys2Proof.Machine.execFieldStop d a s
  | .fieldDisable d a => Sys2Proof.Machine.execFieldDisable d a s
  | .fieldBadCmd d a op => Sys2Proof.Machine.execFieldBadCmd d a op s
  | .spsetWrite d a v => Sys2Proof.Machine.execSpsetWrite d a v s
  | .catchDone d a => Sys2Proof.Machine.execCatchDone d a s
  | .catchNoVoltage d a => Sys2Proof.Machine.execCatchNoVoltage d a s
  | .alignDone d a => Sys2Proof.Machine.execAlignDone d a s
  | .polarityTest d a => Sys2Proof.Machine.execPolarityTest d a s
  | .stopComplete d a => Sys2Proof.Machine.execStopComplete d a s
  | .reversalDone d a => Sys2Proof.Machine.execReversalDone d a s
  | .reversalTimeout d a => Sys2Proof.Machine.execReversalTimeout d a s
  | .gridLock d a => Sys2Proof.Machine.execGridLock d a s
  | .gridLoss d a => Sys2Proof.Machine.execGridLoss d a s
  | .batteryTempStale d b => Sys2Proof.Machine.execBatteryTempStale d b s
  | .busBatteryWrite d m b j v => Sys2Proof.Machine.execBusBatteryWrite d m b j v s
  | .loadGroupEnable d g v => Sys2Proof.Machine.execLoadGroupEnable d g v s
  | .loadGroupStart d g => Sys2Proof.Machine.execLoadGroupStart d g s
  | .groupBoundary d g => Sys2Proof.Machine.execGroupBoundary d g s
  | .syncCue d k => Sys2Proof.Machine.execSyncCue d k s
  | .loadallArm d g => Sys2Proof.Machine.execLoadallArm d g s
  | .axisEnable d a => Sys2Proof.Machine.execAxisEnable d a s
  | .axisDisable d a => Sys2Proof.Machine.execAxisDisable d a s
  | .tripAssert d n level held => Sys2Proof.Machine.execTripAssert d n level held s
  | .tripInactive d n level held => Sys2Proof.Machine.execTripInactive d n level held s
  | .tripClear d v => Sys2Proof.Machine.execTripClear d v s
  | .tripBlankingEnd d n => Sys2Proof.Machine.execTripBlankingEnd d n s
  | .pwmLineRise d k c gate => Sys2Proof.Machine.execPwmLineRise d k c gate s
  | .pwmLineFall d k c isns toff tsw => Sys2Proof.Machine.execPwmLineFall d k c isns toff tsw s
  | .tcapArm k => Sys2Proof.Machine.execTcapArm k s
  | .telmaxRead d k c => Sys2Proof.Machine.execTelmaxRead d k c s
  | .levelWrite d k c v vdrv vneg => Sys2Proof.Machine.execLevelWrite d k c v vdrv vneg s
  | .floatingRailCharged k leg => Sys2Proof.Machine.execFloatingRailCharged k leg s
  | .lockoutEntry k rail => Sys2Proof.Machine.execLockoutEntry k rail s
  | .lockoutRelease k => Sys2Proof.Machine.execLockoutRelease k s
  | .scDetection k c cur held => Sys2Proof.Machine.execScDetection k c cur held s
  | .shuntDetection k leg mv held => Sys2Proof.Machine.execShuntDetection k leg mv held s
  | .softOffEnd k c peak => Sys2Proof.Machine.execSoftOffEnd k c peak s
  | .shootAttempt k leg => Sys2Proof.Machine.execShootAttempt k leg s
  | .gateSenseHold k c kind => Sys2Proof.Machine.execGateSenseHold k c kind s
  | .adtEarlyRelease k c => Sys2Proof.Machine.execAdtEarlyRelease k c s
  | .ucodeCommit d k v => Sys2Proof.Machine.execUcodeCommit d k v s
  | .ucodeBankSwitch k => Sys2Proof.Machine.execUcodeBankSwitch k s
  | .sequencerEntry k e => Sys2Proof.Machine.execSequencerEntry k e s
  | .stoTorqueOff k a b held => Sys2Proof.Machine.execStoTorqueOff k a b held s
  | .stoRun k a b held => Sys2Proof.Machine.execStoRun k a b held s
  | .stoDiscrepancy k => Sys2Proof.Machine.execStoDiscrepancy k s
  | .sluiceActive k x n => Sys2Proof.Machine.execSluiceActive k x n s
  | .sluiceClear k x n => Sys2Proof.Machine.execSluiceClear k x n s
  | .fclrSc d m k ch => Sys2Proof.Machine.execFclrSc d m k ch s
  | .fclrShunt d m k legs => Sys2Proof.Machine.execFclrShunt d m k legs s
  | .fclrShoot d m k legs => Sys2Proof.Machine.execFclrShoot d m k legs s
  | .fclrStoDisc d m k => Sys2Proof.Machine.execFclrStoDisc d m k s
  | .fclrGstuck d m k legs => Sys2Proof.Machine.execFclrGstuck d m k legs s
  | .statusFlitReceive k => Sys2Proof.Machine.execStatusFlitReceive k s
  | .vdcLoss d b => Sys2Proof.Machine.execVdcLoss d b s
  | .vdcPlausibility d b => Sys2Proof.Machine.execVdcPlausibility d b s
  | .chopperFault d b => Sys2Proof.Machine.execChopperFault d b s
  | .curtainEntry d a j => Sys2Proof.Machine.execCurtainEntry d a j s
  | .curtainRuleEvaluate d a => Sys2Proof.Machine.execCurtainRuleEvaluate d a s
  | .shortSideSwitch d a => Sys2Proof.Machine.execShortSideSwitch d a s
  | .safeReqWrite d v => Sys2Proof.Machine.execSafeReqWrite d v s
  | .safeClrAx d m axes => Sys2Proof.Machine.execSafeClrAx d m axes s
  | .safeClrPkg d m axes => Sys2Proof.Machine.execSafeClrPkg d m axes s
  | .packageCurtain d => Sys2Proof.Machine.execPackageCurtain d s
  | .peerCurtainReceive d => Sys2Proof.Machine.execPeerCurtainReceive d s
  | .dischargeResistor d m b => Sys2Proof.Machine.execDischargeResistor d m b s
  | .dischargeWinding d m b a => Sys2Proof.Machine.execDischargeWinding d m b a s
  | .dischargeStop d m b => Sys2Proof.Machine.execDischargeStop d m b s
  | .dischargeVendReached d b => Sys2Proof.Machine.execDischargeVendReached d b s
  | .dischargeTimeout d b => Sys2Proof.Machine.execDischargeTimeout d b s
  | .dischargeOvercurrent d b => Sys2Proof.Machine.execDischargeOvercurrent d b s
  | .keepAutoDischarge k => Sys2Proof.Machine.execKeepAutoDischarge k s
  | .tmonCheck d a emf spd ang => Sys2Proof.Machine.execTmonCheck d a emf spd ang s
  | .tmonZeroCheck d a => Sys2Proof.Machine.execTmonZeroCheck d a s
  | .tmonViolClear d a => Sys2Proof.Machine.execTmonViolClear d a s
  | .tmonEnable d a v => Sys2Proof.Machine.execTmonEnable d a v s
  | .replicatedRead d core machine addr csr data lag => Sys2Proof.Machine.execReplicatedRead d core machine addr csr data lag s
  | .trailingRead d p addr lag disagree ecc => Sys2Proof.Machine.execTrailingRead d p addr lag disagree ecc s
  | .interruptAccept d core kind r trailing => Sys2Proof.Machine.execInterruptAccept d core kind r trailing s
  | .protectedStore d core machine addr data be disagree ecc atomic => Sys2Proof.Machine.execProtectedStore d core machine addr data be disagree ecc atomic s
  | .protectedStoreTimeout d p => Sys2Proof.Machine.execProtectedStoreTimeout d p s
  | .checkpointWrite d core id full ctx xMiss yMiss disagree ecc => Sys2Proof.Machine.execCheckpointWrite d core id full ctx xMiss yMiss disagree ecc s
  | .checkpointTimeout d p => Sys2Proof.Machine.execCheckpointTimeout d p s
  | .checkpointMiss d p => Sys2Proof.Machine.execCheckpointMiss d p s
  | .resyncGo d m p lines => Sys2Proof.Machine.execResyncGo d m p lines s
  | .debugAttach d core => Sys2Proof.Machine.execDebugAttach d core s
  | .faultLatch d g i act => Sys2Proof.Machine.execFaultLatch d g i act s
  | .faultDeferExpiry d g => Sys2Proof.Machine.execFaultDeferExpiry d g s
  | .faultClear d m v => Sys2Proof.Machine.execFaultClear d m v s
  | .faultInject d m v => Sys2Proof.Machine.execFaultInject d m v s
  | .softwareFaultReport d v => Sys2Proof.Machine.execSoftwareFaultReport d v s
  | .plicClaim d core => Sys2Proof.Machine.execPlicClaim d core s
  | .plicComplete d ctx i => Sys2Proof.Machine.execPlicComplete d ctx i s
  | .bistStart => Sys2Proof.Machine.execBistStart s
  | .bistSliceDone i code units => Sys2Proof.Machine.execBistSliceDone i code units s
  | .bistSliceTimeout i => Sys2Proof.Machine.execBistSliceTimeout i s
  | .bistRequest d v => Sys2Proof.Machine.execBistRequest d v s
  | .thermalSample i vals => Sys2Proof.Machine.execThermalSample i vals s
  | .hwShutdownLocal k => Sys2Proof.Machine.execHwShutdownLocal k s
  | .tmodSample k mv => Sys2Proof.Machine.execTmodSample k mv s
  | .shutdownRecordWrite d => Sys2Proof.Machine.execShutdownRecordWrite d s
  | .thermalAck d m => Sys2Proof.Machine.execThermalAck d m s
  | .flumeStart d n => Sys2Proof.Machine.execFlumeStart d n s
  | .flumeAbort d n written accepted => Sys2Proof.Machine.execFlumeAbort d n written accepted s
  | .flumeDoorbell d n => Sys2Proof.Machine.execFlumeDoorbell d n s
  | .descriptorFetch d n ecc => Sys2Proof.Machine.execDescriptorFetch d n ecc s
  | .descriptorComplete d n => Sys2Proof.Machine.execDescriptorComplete d n s
  | .descriptorError d n written => Sys2Proof.Machine.execDescriptorError d n written s
  | .canHalt d n => Sys2Proof.Machine.execCanHalt d n s
  | .canStart d n bits => Sys2Proof.Machine.execCanStart d n bits s
  | .canBitTimingWrite d n data v => Sys2Proof.Machine.execCanBitTimingWrite d n data v s
  | .canFrameReceive d n frame => Sys2Proof.Machine.execCanFrameReceive d n frame s
  | .rxFifoRelease d n m i => Sys2Proof.Machine.execRxFifoRelease d n m i s
  | .txFifoQueue d n => Sys2Proof.Machine.execTxFifoQueue d n s
  | .mailboxRequest d n req => Sys2Proof.Machine.execMailboxRequest d n req s
  | .txCancel d n bits won => Sys2Proof.Machine.execTxCancel d n bits won s
  | .canStartOfFrame d n lost meas => Sys2Proof.Machine.execCanStartOfFrame d n lost meas s
  | .canFrameSent d n => Sys2Proof.Machine.execCanFrameSent d n s
  | .canAckError d n => Sys2Proof.Machine.execCanAckError d n s
  | .canErrorDetected d n code data weigh => Sys2Proof.Machine.execCanErrorDetected d n code data weigh s
  | .canBusOn d n seqs => Sys2Proof.Machine.execCanBusOn d n seqs s
  | .txEventRelease d n i => Sys2Proof.Machine.execTxEventRelease d n i s
  | .ttTrigger d n i => Sys2Proof.Machine.execTtTrigger d n i s
  | .ardCandidateWindow d n => Sys2Proof.Machine.execArdCandidateWindow d n s
  | .partnerCheck d n => Sys2Proof.Machine.execPartnerCheck d n s
  | .partnerTimeoutClear d n f => Sys2Proof.Machine.execPartnerTimeoutClear d n f s
  | .canErrorCountRead d n => Sys2Proof.Machine.execCanErrorCountRead d n s
  | .recordWrite d src blk code inst sev w0 w1 w2 w3 => Sys2Proof.Machine.execRecordWrite d src blk code inst sev w0 w1 w2 w3 s
  | .flushStart d => Sys2Proof.Machine.execFlushStart d s
  | .promptCtrlFlush d v => Sys2Proof.Machine.execPromptCtrlFlush d v s
  | .flushDone d => Sys2Proof.Machine.execFlushDone d s
  | .flushBlockedRetry d => Sys2Proof.Machine.execFlushBlockedRetry d s
  | .lastGaspFull d => Sys2Proof.Machine.execLastGaspFull d s
  | .promptClr d m => Sys2Proof.Machine.execPromptClr d m s
  | .softwareRecord d v => Sys2Proof.Machine.execSoftwareRecord d v s
  | .optimeRead d m => Sys2Proof.Machine.execOptimeRead d m s
  | .optimeSave => Sys2Proof.Machine.execOptimeSave s
  | .frameTick d dropped => Sys2Proof.Machine.execFrameTick d dropped s
  | .frameRefTimeout dropped => Sys2Proof.Machine.execFrameRefTimeout dropped s
  | .frameBoundary => Sys2Proof.Machine.execFrameBoundary s
  | .nvmUpdateOpen d => Sys2Proof.Machine.execNvmUpdateOpen d s
  | .nvmUpdateChunk d i => Sys2Proof.Machine.execNvmUpdateChunk d i s
  | .nvmUpdateResume d => Sys2Proof.Machine.execNvmUpdateResume d s
  | .nvmUpdateAbort d => Sys2Proof.Machine.execNvmUpdateAbort d s
  | .nvmUpdateArm d m => Sys2Proof.Machine.execNvmUpdateArm d m s
  | .nvmCommandDone d bad words => Sys2Proof.Machine.execNvmCommandDone d bad words s
  | .copyAtStart d => Sys2Proof.Machine.execCopyAtStart d s
  | .copyUnitDone d => Sys2Proof.Machine.execCopyUnitDone d s
  | .recoveryEntry d => Sys2Proof.Machine.execRecoveryEntry d s
  | .recoveryIdentify d => Sys2Proof.Machine.execRecoveryIdentify d s
  | .recoveryOpen d manifest => Sys2Proof.Machine.execRecoveryOpen d manifest s
  | .recoveryChunk d i bytes => Sys2Proof.Machine.execRecoveryChunk d i bytes s
  | .recoveryStatus d => Sys2Proof.Machine.execRecoveryStatus d s
  | .recoveryInstall d => Sys2Proof.Machine.execRecoveryInstall d s
  | .recoveryReset d => Sys2Proof.Machine.execRecoveryReset d s
  | .settingsWrite d => Sys2Proof.Machine.execSettingsWrite d s
  | .settingsCommit d => Sys2Proof.Machine.execSettingsCommit d s
  | .secRevoke d m slot => Sys2Proof.Machine.execSecRevoke d m slot s
  | .secLccmd d m target => Sys2Proof.Machine.execSecLccmd d m target s
  | .keyProgram d slot use_ data => Sys2Proof.Machine.execKeyProgram d slot use_ data s
  | .debugAuth d => Sys2Proof.Machine.execDebugAuth d s
  | .idcode d => Sys2Proof.Machine.execIdcode d s
  | .samplePreload d cells => Sys2Proof.Machine.execSamplePreload d cells s
  | .extest d => Sys2Proof.Machine.execExtest d s
  | .prov d target => Sys2Proof.Machine.execProv d target s
  | .debug d => Sys2Proof.Machine.execDebug d s
  | .auth d => Sys2Proof.Machine.execAuth d s
  | .scan d => Sys2Proof.Machine.execScan d s
  | .bypass d => Sys2Proof.Machine.execBypass d s
  | .effectiveSetpointUpdate d => Sys2Proof.Machine.execEffectiveSetpointUpdate d s

end Sys2Proof.Machine
end

