-- ==== Sys2Proof/Safety.lean ====
section
/-! DEFINITION. What a safe run keeps: the canonical form of the state's tables, and the units a part contains. -/

namespace Sys2Proof.Machine

/-- Every table of the state is in its canonical form. -/
def State.tables (s : State) : Bool :=
  Tab.wf resetWord s.regs && Memory.wf s.mem && Tab.wf (fun _ => default) s.cdie && Tab.wf (fun _ => default) s.nv &&
    Tab.wf (fun _ => default) s.ddie && Tab.wf (fun _ => default) s.keep && Tab.wf (fun _ => default) s.tap

/-- The state is one between two commands: every table is in its canonical form, and no loader is executing records. -/
def State.wf (s : State) : Bool := s.tables && s.ld.isNone

end Sys2Proof.Machine
end

