-- ==== Sys2Proof/WellFormed.lean ====
section
/-! DEFINITION. Which commands are well formed for a part: the dies they name are dies of the part (Table 0-1), and the
data they carry fit the shape the spec gives them. -/

namespace Sys2Proof

/-- Whether a die index of R33 names a die of the part, Table 0-1. -/
def Part.hasDie (p : Part) (i : Nat) : Bool := if i < 2 then decide (i < p.ctl) else decide (i - 2 < p.drv)

/-- The die that monitors a rail, Table 3-1. -/
def Rail.units : Rail → List Nat
  | .vcore d => [d.val]
  | .vana d => [d.val]
  | .vioA d => [d.val]
  | .vioB d => [d.val]
  | .vioC d => [d.val]
  | .vdrv k => [2 + k.val]
  | .vkeep k => [2 + k.val]

/-- The dies at the two ends of link n of die i (R132): L0 of a C die is the other C die, L(1 + k) D die k; the links of a D
die are those to C0 and C1, and its other numbers name none (index 8 is no die). -/
def linkUnits (i n : Nat) : List Nat :=
  if i < 2 then [i, if n == 0 then 1 - i else n + 1] else [i, if n < 2 then n else 8]

/-- The dies a command needs, by index. -/
def Instr.units : Instr → List Nat
  | .registerWrite d _ _ _ => [d.val]
  | .narrowOrMisalignedAccess d _ _ _ _ => [d.val]
  | .unmappedAccess d _ _ _ => [d.val]
  | .stageTimeRead d _ => [d.val]
  | .msipWrite d _ _ => [d.val]
  | .machineTimerInterrupt d _ => [d.val]
  | .suppliesInRange => []
  | .supplyLow r => r.units
  | .supplyRecovered r => r.units
  | .clockLoss d _ => [d.val]
  | .crystalReferenceOk d => [d.val]
  | .pllLock d => [d.val]
  | .resetNAssert _ => []
  | .sysRstctrlPkg d _ => [d.val]
  | .sysRstctrlDie d _ => [d.val]
  | .peerOrderedReset d => [d.val]
  | .dDieReset k => [2 + k.val]
  | .blockResetWrite d _ => [d.val]
  | .resetRelease i _ _ _ => [i.val]
  | .pfailRecognised => []
  | .pfailFall => []
  | .rollCallC1Answer _ _ _ => [1]
  | .dLinkTrainingStart => []
  | .dDieAnswer k _ _ _ => [2 + k.val]
  | .answerWindowExpiry i => [i.val]
  | .microcodeReadback k _ => [2 + k.val]
  | .timeAlignCheck => []
  | .versionWindowResolve _ => []
  | .thermalHoldRecheck => []
  | .nvmTempHoldRecheck d => [d.val]
  | .readinessItemMet d _ => [d.val]
  | .libLoad d _ => [d.val]
  | .libReload d _ _ => [d.val]
  | .libRollback d _ => [d.val]
  | .libAccept d _ => [d.val]
  | .libAbort d _ => [d.val]
  | .libStoreUd d _ => [d.val]
  | .libClearUd d _ => [d.val]
  | .libVerifyDone => []
  | .libStoreDone => []
  | .libConfigApply => []
  | .reloadTransfer _ => []
  | .acceptWindowExpiry => []
  | .directoryWriteRetry => []
  | .libTkAddrWrite d _ _ => [d.val]
  | .libTkKeyWrite d _ _ => [d.val]
  | .twoKeyTargetWrite d _ _ => [d.val]
  | .twoKeyTimeout d => [d.val]
  | .flitReceive i n _ => linkUnits i.val n.val
  | .nakReceive i n _ => linkUnits i.val n.val
  | .linkLost i n => linkUnits i.val n.val
  | .linkRetrained i n => linkUnits i.val n.val
  | .resetNoticeReceive k => [2 + k.val]
  | .remoteWrite d _ _ _ => [d.val]
  | .remoteRead d _ _ _ => [d.val]
  | .remoteReadResponse d _ _ _ => [d.val]
  | .remoteReadTimeout d _ _ => [d.val]
  | .timeLoad i n => linkUnits i.val n.val
  | .timeSyncSend d => [d.val]
  | .timeSyncReceive i n _ => linkUnits i.val n.val
  | .handover d _ _ => [d.val]
  | .take d _ _ => [d.val]
  | .hoOfferReceive d => [d.val]
  | .hoReadyReceive d => [d.val]
  | .hoReadyDeadline d => [d.val]
  | .hoCommitReceive k => [2 + k.val]
  | .handoverBoundary k => [2 + k.val]
  | .hoDoneReceive d k => [d.val, 2 + k.val]
  | .hoCancel d _ => [d.val]
  | .hoCancelReceive d k => [d.val, 2 + k.val]
  | .takeReceive d k => [d.val, 2 + k.val]
  | .cueSourceEvent d _ => [d.val]
  | .cueArrival d _ _ _ => [d.val]
  | .softwareCue d _ => [d.val]
  | .adcSequenceStart d _ _ => [d.val]
  | .adcSwtrigStop d _ _ => [d.val]
  | .adcStepSample d _ _ _ => [d.val]
  | .adcConversionDone d _ _ _ => [d.val]
  | .adcBurstSample d _ _ => [d.val]
  | .adcFifoRead d _ => [d.val]
  | .adcResultRead d _ _ => [d.val]
  | .shuntStart k => [2 + k.val]
  | .shuntConversionDone k _ _ _ => [2 + k.val]
  | .voltageStart k _ => [2 + k.val]
  | .voltageSetFlit k _ _ _ => [2 + k.val]
  | .shuntBurstModeWrite d k _ => [d.val, 2 + k.val]
  | .shuntFlitReceive d k => [d.val, 2 + k.val]
  | .shuntFifoRead d k => [d.val, 2 + k.val]
  | .adcSelfCalibrationStart => []
  | .adcSelfCalibrationDone d _ _ => [d.val]
  | .adcGctrlCal d => [d.val]
  | .adcGctrlZcap d => [d.val]
  | .zcapAtStandby d => [d.val]
  | .zcapDeferredStart d _ => [d.val]
  | .zcapDone d _ => [d.val]
  | .rotationPoint d => [d.val]
  | .engineHandoverMove d => [d.val]
  | .inServiceSlice d _ _ => [d.val]
  | .fbEnable d _ _ => [d.val]
  | .encoderEdge d _ _ _ _ => [d.val]
  | .encoderIndex d _ _ => [d.val]
  | .hallStateChange d _ _ _ => [d.val]
  | .excitationPeriodStart d _ => [d.val]
  | .observerUpdate d _ _ _ => [d.val]
  | .serialFrameRequest d _ _ => [d.val]
  | .serialFrameDone d _ _ _ => [d.val]
  | .positionLatch d _ _ => [d.val]
  | .latchStatusRead d _ => [d.val]
  | .positionRead d _ _ => [d.val]
  | .fbFaultClear d _ => [d.val]
  | .emuEnable d _ _ => [d.val]
  | .emuStep d _ => [d.val]
  | .engineModeWrite d _ _ => [d.val]
  | .engineStart d _ _ _ _ _ => [d.val]
  | .waitfResume d _ => [d.val]
  | .waitfTimeout d _ => [d.val]
  | .engineRunEnd d _ => [d.val]
  | .heldWriteApply d _ => [d.val]
  | .bankSwap d _ => [d.val]
  | .channelSoftwareWrite d _ _ => [d.val]
  | .mirrorChannelWrite d _ _ => [d.val]
  | .setpointWrite d _ _ => [d.val]
  | .weirEvaluate d _ => [d.val]
  | .weirInputStale d _ _ => [d.val]
  | .weirManualValueWrite d _ _ => [d.val]
  | .weirEnableWrite d _ _ => [d.val]
  | .twinStart d _ _ _ => [d.val]
  | .fieldStart d _ => [d.val]
  | .fieldStop d _ => [d.val]
  | .fieldDisable d _ => [d.val]
  | .fieldBadCmd d _ _ => [d.val]
  | .spsetWrite d _ _ => [d.val]
  | .catchDone d _ => [d.val]
  | .catchNoVoltage d _ => [d.val]
  | .alignDone d _ => [d.val]
  | .polarityTest d _ => [d.val]
  | .stopComplete d _ => [d.val]
  | .reversalDone d _ => [d.val]
  | .reversalTimeout d _ => [d.val]
  | .gridLock d _ => [d.val]
  | .gridLoss d _ => [d.val]
  | .batteryTempStale d _ => [d.val]
  | .busBatteryWrite d _ _ _ _ => [d.val]
  | .loadGroupEnable d _ _ => [d.val]
  | .loadGroupStart d _ => [d.val]
  | .groupBoundary d _ => [d.val]
  | .syncCue d _ => [d.val]
  | .loadallArm d _ => [d.val]
  | .axisEnable d _ => [d.val]
  | .axisDisable d _ => [d.val]
  | .tripAssert d _ _ _ => [d.val]
  | .tripInactive d _ _ _ => [d.val]
  | .tripClear d _ => [d.val]
  | .tripBlankingEnd d _ => [d.val]
  | .pwmLineRise d k _ _ => [d.val, 2 + k.val]
  | .pwmLineFall d k _ _ _ _ => [d.val, 2 + k.val]
  | .tcapArm k => [2 + k.val]
  | .telmaxRead d k _ => [d.val, 2 + k.val]
  | .levelWrite d k _ _ _ _ => [d.val, 2 + k.val]
  | .floatingRailCharged k _ => [2 + k.val]
  | .lockoutEntry k _ => [2 + k.val]
  | .lockoutRelease k => [2 + k.val]
  | .scDetection k _ _ _ => [2 + k.val]
  | .shuntDetection k _ _ _ => [2 + k.val]
  | .softOffEnd k _ _ => [2 + k.val]
  | .shootAttempt k _ => [2 + k.val]
  | .gateSenseHold k _ _ => [2 + k.val]
  | .adtEarlyRelease k _ => [2 + k.val]
  | .ucodeCommit d k _ => [d.val, 2 + k.val]
  | .ucodeBankSwitch k => [2 + k.val]
  | .sequencerEntry k _ => [2 + k.val]
  | .stoTorqueOff k _ _ _ => [2 + k.val]
  | .stoRun k _ _ _ => [2 + k.val]
  | .stoDiscrepancy k => [2 + k.val]
  | .sluiceActive k x _ => [2 + k.val, x.val]
  | .sluiceClear k x _ => [2 + k.val, x.val]
  | .fclrSc d _ k _ => [d.val, 2 + k.val]
  | .fclrShunt d _ k _ => [d.val, 2 + k.val]
  | .fclrShoot d _ k _ => [d.val, 2 + k.val]
  | .fclrStoDisc d _ k => [d.val, 2 + k.val]
  | .fclrGstuck d _ k _ => [d.val, 2 + k.val]
  | .statusFlitReceive k => [2 + k.val]
  | .vdcLoss d _ => [d.val]
  | .vdcPlausibility d _ => [d.val]
  | .chopperFault d _ => [d.val]
  | .curtainEntry d _ _ => [d.val]
  | .curtainRuleEvaluate d _ => [d.val]
  | .shortSideSwitch d _ => [d.val]
  | .safeReqWrite d _ => [d.val]
  | .safeClrAx d _ _ => [d.val]
  | .safeClrPkg d _ _ => [d.val]
  | .packageCurtain d => [d.val]
  | .peerCurtainReceive d => [d.val]
  | .dischargeResistor d _ _ => [d.val]
  | .dischargeWinding d _ _ _ => [d.val]
  | .dischargeStop d _ _ => [d.val]
  | .dischargeVendReached d _ => [d.val]
  | .dischargeTimeout d _ => [d.val]
  | .dischargeOvercurrent d _ => [d.val]
  | .keepAutoDischarge k => [2 + k.val]
  | .tmonCheck d _ _ _ _ => [d.val]
  | .tmonZeroCheck d _ => [d.val]
  | .tmonViolClear d _ => [d.val]
  | .tmonEnable d _ _ => [d.val]
  | .replicatedRead d _ _ _ _ _ _ => [d.val]
  | .trailingRead d _ _ _ _ _ => [d.val]
  | .interruptAccept d _ _ _ _ => [d.val]
  | .protectedStore d _ _ _ _ _ _ _ _ => [d.val]
  | .protectedStoreTimeout d _ => [d.val]
  | .checkpointWrite d _ _ _ _ _ _ _ _ => [d.val]
  | .checkpointTimeout d _ => [d.val]
  | .checkpointMiss d _ => [d.val]
  | .resyncGo d _ _ _ => [d.val]
  | .debugAttach d _ => [d.val]
  | .faultLatch d _ _ _ => [d.val]
  | .faultDeferExpiry d _ => [d.val]
  | .faultClear d _ _ => [d.val]
  | .faultInject d _ _ => [d.val]
  | .softwareFaultReport d _ => [d.val]
  | .plicClaim d _ => [d.val]
  | .plicComplete d _ _ => [d.val]
  | .bistStart => []
  | .bistSliceDone i _ _ => [i.val]
  | .bistSliceTimeout i => [i.val]
  | .bistRequest d _ => [d.val]
  | .thermalSample i _ => [i.val]
  | .hwShutdownLocal k => [2 + k.val]
  | .tmodSample k _ => [2 + k.val]
  | .shutdownRecordWrite d => [d.val]
  | .thermalAck d _ => [d.val]
  | .flumeStart d _ => [d.val]
  | .flumeAbort d _ _ _ => [d.val]
  | .flumeDoorbell d _ => [d.val]
  | .descriptorFetch d _ _ => [d.val]
  | .descriptorComplete d _ => [d.val]
  | .descriptorError d _ _ => [d.val]
  | .canHalt d _ => [d.val]
  | .canStart d _ _ => [d.val]
  | .canBitTimingWrite d _ _ _ => [d.val]
  | .canFrameReceive d _ _ => [d.val]
  | .rxFifoRelease d _ _ _ => [d.val]
  | .txFifoQueue d _ => [d.val]
  | .mailboxRequest d _ _ => [d.val]
  | .txCancel d _ _ _ => [d.val]
  | .canStartOfFrame d _ _ _ => [d.val]
  | .canFrameSent d _ => [d.val]
  | .canAckError d _ => [d.val]
  | .canErrorDetected d _ _ _ _ => [d.val]
  | .canBusOn d _ _ => [d.val]
  | .txEventRelease d _ _ => [d.val]
  | .ttTrigger d _ _ => [d.val]
  | .ardCandidateWindow d _ => [d.val]
  | .partnerCheck d _ => [d.val]
  | .partnerTimeoutClear d _ _ => [d.val]
  | .canErrorCountRead d _ => [d.val]
  | .recordWrite d _ _ _ _ _ _ _ _ _ => [d.val]
  | .flushStart d => [d.val]
  | .promptCtrlFlush d _ => [d.val]
  | .flushDone d => [d.val]
  | .flushBlockedRetry d => [d.val]
  | .lastGaspFull d => [d.val]
  | .promptClr d _ => [d.val]
  | .softwareRecord d _ => [d.val]
  | .optimeRead d _ => [d.val]
  | .optimeSave => []
  | .frameTick d _ => [d.val]
  | .frameRefTimeout _ => []
  | .frameBoundary => []
  | .nvmUpdateOpen d => [d.val]
  | .nvmUpdateChunk d _ => [d.val]
  | .nvmUpdateResume d => [d.val]
  | .nvmUpdateAbort d => [d.val]
  | .nvmUpdateArm d _ => [d.val]
  | .nvmCommandDone d _ _ => [d.val]
  | .copyAtStart d => [d.val]
  | .copyUnitDone d => [d.val]
  | .recoveryEntry d => [d.val]
  | .recoveryIdentify d => [d.val]
  | .recoveryOpen d _ => [d.val]
  | .recoveryChunk d _ _ => [d.val]
  | .recoveryStatus d => [d.val]
  | .recoveryInstall d => [d.val]
  | .recoveryReset d => [d.val]
  | .settingsWrite d => [d.val]
  | .settingsCommit d => [d.val]
  | .secRevoke d _ _ => [d.val]
  | .secLccmd d _ _ => [d.val]
  | .keyProgram d _ _ _ => [d.val]
  | .debugAuth d => [d.val]
  | .idcode d => [d.val]
  | .samplePreload d _ => [d.val]
  | .extest d => [d.val]
  | .prov d _ => [d.val]
  | .debug d => [d.val]
  | .auth d => [d.val]
  | .scan d => [d.val]
  | .bypass d => [d.val]
  | .effectiveSetpointUpdate d => [d.val]

/-- A received frame has the shape of R455 and R456: no remote frame in the FD format, BRS and ESI only there, an 11-bit
identifier in the base format, and at most 64 data bytes, 8 in the classical format. -/
def CanFrame.wf (f : CanFrame) : Bool :=
  !(f.rem && f.fd) && (f.fd || (!f.brs && !f.esi)) && (f.ext || decide (f.id.toNat < 2048)) &&
    decide (f.data.length ≤ (if f.fd then 64 else 8))

/-- A captured context lists at most the registers of R390. -/
def CoreCtx.wf (c : CoreCtx) : Bool :=
  decide (c.x.length ≤ 31) && decide (c.f.length ≤ 32) && decide (c.csr.length ≤ 7)

/-- A slot map names C dies, engine slots E0 to E62 and the 16 state slots of an engine (R237). -/
def SlotMap.wf (m : SlotMap) : Bool := m.all (fun e => decide (e.1 < 2) && decide (e.2.1 < 63) && decide (e.2.2 < 65536))

/-- Captures name the four converter groups and the intakes of the six D dies, and one of 64 entries (R167). -/
def Captures.wf (c : Captures) : Bool := c.all (fun e => decide (e.1 < 10) && decide (e.2.1 < 64))

/-- What the data of a command must satisfy beyond the dies it names. -/
def Instr.dataOk : Instr → Bool
  | .narrowOrMisalignedAccess _ _ _ size _ => size == 1 || size == 2 || size == 4
  | .canFrameReceive _ _ f => f.wf
  | .checkpointWrite _ _ _ _ ctx _ _ _ _ => ctx.wf
  | .reloadTransfer m => m.wf
  | .zcapDone _ c => c.wf
  | .thermalSample i v => decide (v.length ≤ (if i.val < 2 then 8 else 6))
  | .tmodSample _ v => decide (v.length ≤ 6)
  | .keyProgram _ _ _ data => decide (data.length = 16)
  | .recoveryOpen _ m => decide (m.length ≤ 40960)
  | .recoveryChunk _ _ b => decide (b.length ≤ 4096)
  | .registerWrite _ _ _ _ => true
  | .unmappedAccess _ _ _ _ => true
  | .stageTimeRead _ _ => true
  | .msipWrite _ _ _ => true
  | .machineTimerInterrupt _ _ => true
  | .suppliesInRange => true
  | .supplyLow _ => true
  | .supplyRecovered _ => true
  | .clockLoss _ _ => true
  | .crystalReferenceOk _ => true
  | .pllLock _ => true
  | .resetNAssert _ => true
  | .sysRstctrlPkg _ _ => true
  | .sysRstctrlDie _ _ => true
  | .peerOrderedReset _ => true
  | .dDieReset _ => true
  | .blockResetWrite _ _ => true
  | .resetRelease _ _ _ _ => true
  | .pfailRecognised => true
  | .pfailFall => true
  | .rollCallC1Answer _ _ _ => true
  | .dLinkTrainingStart => true
  | .dDieAnswer _ _ _ _ => true
  | .answerWindowExpiry _ => true
  | .microcodeReadback _ _ => true
  | .timeAlignCheck => true
  | .versionWindowResolve _ => true
  | .thermalHoldRecheck => true
  | .nvmTempHoldRecheck _ => true
  | .readinessItemMet _ _ => true
  | .libLoad _ _ => true
  | .libReload _ _ _ => true
  | .libRollback _ _ => true
  | .libAccept _ _ => true
  | .libAbort _ _ => true
  | .libStoreUd _ _ => true
  | .libClearUd _ _ => true
  | .libVerifyDone => true
  | .libStoreDone => true
  | .libConfigApply => true
  | .acceptWindowExpiry => true
  | .directoryWriteRetry => true
  | .libTkAddrWrite _ _ _ => true
  | .libTkKeyWrite _ _ _ => true
  | .twoKeyTargetWrite _ _ _ => true
  | .twoKeyTimeout _ => true
  | .flitReceive _ _ _ => true
  | .nakReceive _ _ _ => true
  | .linkLost _ _ => true
  | .linkRetrained _ _ => true
  | .resetNoticeReceive _ => true
  | .remoteWrite _ _ _ _ => true
  | .remoteRead _ _ _ _ => true
  | .remoteReadResponse _ _ _ _ => true
  | .remoteReadTimeout _ _ _ => true
  | .timeLoad _ _ => true
  | .timeSyncSend _ => true
  | .timeSyncReceive _ _ _ => true
  | .handover _ _ _ => true
  | .take _ _ _ => true
  | .hoOfferReceive _ => true
  | .hoReadyReceive _ => true
  | .hoReadyDeadline _ => true
  | .hoCommitReceive _ => true
  | .handoverBoundary _ => true
  | .hoDoneReceive _ _ => true
  | .hoCancel _ _ => true
  | .hoCancelReceive _ _ => true
  | .takeReceive _ _ => true
  | .cueSourceEvent _ _ => true
  | .cueArrival _ _ _ _ => true
  | .softwareCue _ _ => true
  | .adcSequenceStart _ _ _ => true
  | .adcSwtrigStop _ _ _ => true
  | .adcStepSample _ _ _ _ => true
  | .adcConversionDone _ _ _ _ => true
  | .adcBurstSample _ _ _ => true
  | .adcFifoRead _ _ => true
  | .adcResultRead _ _ _ => true
  | .shuntStart _ => true
  | .shuntConversionDone _ _ _ _ => true
  | .voltageStart _ _ => true
  | .voltageSetFlit _ _ _ _ => true
  | .shuntBurstModeWrite _ _ _ => true
  | .shuntFlitReceive _ _ => true
  | .shuntFifoRead _ _ => true
  | .adcSelfCalibrationStart => true
  | .adcSelfCalibrationDone _ _ _ => true
  | .adcGctrlCal _ => true
  | .adcGctrlZcap _ => true
  | .zcapAtStandby _ => true
  | .zcapDeferredStart _ _ => true
  | .rotationPoint _ => true
  | .engineHandoverMove _ => true
  | .inServiceSlice _ _ _ => true
  | .fbEnable _ _ _ => true
  | .encoderEdge _ _ _ _ _ => true
  | .encoderIndex _ _ _ => true
  | .hallStateChange _ _ _ _ => true
  | .excitationPeriodStart _ _ => true
  | .observerUpdate _ _ _ _ => true
  | .serialFrameRequest _ _ _ => true
  | .serialFrameDone _ _ _ _ => true
  | .positionLatch _ _ _ => true
  | .latchStatusRead _ _ => true
  | .positionRead _ _ _ => true
  | .fbFaultClear _ _ => true
  | .emuEnable _ _ _ => true
  | .emuStep _ _ => true
  | .engineModeWrite _ _ _ => true
  | .engineStart _ _ _ _ _ _ => true
  | .waitfResume _ _ => true
  | .waitfTimeout _ _ => true
  | .engineRunEnd _ _ => true
  | .heldWriteApply _ _ => true
  | .bankSwap _ _ => true
  | .channelSoftwareWrite _ _ _ => true
  | .mirrorChannelWrite _ _ _ => true
  | .setpointWrite _ _ _ => true
  | .weirEvaluate _ _ => true
  | .weirInputStale _ _ _ => true
  | .weirManualValueWrite _ _ _ => true
  | .weirEnableWrite _ _ _ => true
  | .twinStart _ _ _ _ => true
  | .fieldStart _ _ => true
  | .fieldStop _ _ => true
  | .fieldDisable _ _ => true
  | .fieldBadCmd _ _ _ => true
  | .spsetWrite _ _ _ => true
  | .catchDone _ _ => true
  | .catchNoVoltage _ _ => true
  | .alignDone _ _ => true
  | .polarityTest _ _ => true
  | .stopComplete _ _ => true
  | .reversalDone _ _ => true
  | .reversalTimeout _ _ => true
  | .gridLock _ _ => true
  | .gridLoss _ _ => true
  | .batteryTempStale _ _ => true
  | .busBatteryWrite _ _ _ _ _ => true
  | .loadGroupEnable _ _ _ => true
  | .loadGroupStart _ _ => true
  | .groupBoundary _ _ => true
  | .syncCue _ _ => true
  | .loadallArm _ _ => true
  | .axisEnable _ _ => true
  | .axisDisable _ _ => true
  | .tripAssert _ _ _ _ => true
  | .tripInactive _ _ _ _ => true
  | .tripClear _ _ => true
  | .tripBlankingEnd _ _ => true
  | .pwmLineRise _ _ _ _ => true
  | .pwmLineFall _ _ _ _ _ _ => true
  | .tcapArm _ => true
  | .telmaxRead _ _ _ => true
  | .levelWrite _ _ _ _ _ _ => true
  | .floatingRailCharged _ _ => true
  | .lockoutEntry _ _ => true
  | .lockoutRelease _ => true
  | .scDetection _ _ _ _ => true
  | .shuntDetection _ _ _ _ => true
  | .softOffEnd _ _ _ => true
  | .shootAttempt _ _ => true
  | .gateSenseHold _ _ _ => true
  | .adtEarlyRelease _ _ => true
  | .ucodeCommit _ _ _ => true
  | .ucodeBankSwitch _ => true
  | .sequencerEntry _ _ => true
  | .stoTorqueOff _ _ _ _ => true
  | .stoRun _ _ _ _ => true
  | .stoDiscrepancy _ => true
  | .sluiceActive _ _ _ => true
  | .sluiceClear _ _ _ => true
  | .fclrSc _ _ _ _ => true
  | .fclrShunt _ _ _ _ => true
  | .fclrShoot _ _ _ _ => true
  | .fclrStoDisc _ _ _ => true
  | .fclrGstuck _ _ _ _ => true
  | .statusFlitReceive _ => true
  | .vdcLoss _ _ => true
  | .vdcPlausibility _ _ => true
  | .chopperFault _ _ => true
  | .curtainEntry _ _ _ => true
  | .curtainRuleEvaluate _ _ => true
  | .shortSideSwitch _ _ => true
  | .safeReqWrite _ _ => true
  | .safeClrAx _ _ _ => true
  | .safeClrPkg _ _ _ => true
  | .packageCurtain _ => true
  | .peerCurtainReceive _ => true
  | .dischargeResistor _ _ _ => true
  | .dischargeWinding _ _ _ _ => true
  | .dischargeStop _ _ _ => true
  | .dischargeVendReached _ _ => true
  | .dischargeTimeout _ _ => true
  | .dischargeOvercurrent _ _ => true
  | .keepAutoDischarge _ => true
  | .tmonCheck _ _ _ _ _ => true
  | .tmonZeroCheck _ _ => true
  | .tmonViolClear _ _ => true
  | .tmonEnable _ _ _ => true
  | .replicatedRead _ _ _ _ _ _ _ => true
  | .trailingRead _ _ _ _ _ _ => true
  | .interruptAccept _ _ _ _ _ => true
  | .protectedStore _ _ _ _ _ _ _ _ _ => true
  | .protectedStoreTimeout _ _ => true
  | .checkpointTimeout _ _ => true
  | .checkpointMiss _ _ => true
  | .resyncGo _ _ _ _ => true
  | .debugAttach _ _ => true
  | .faultLatch _ _ _ _ => true
  | .faultDeferExpiry _ _ => true
  | .faultClear _ _ _ => true
  | .faultInject _ _ _ => true
  | .softwareFaultReport _ _ => true
  | .plicClaim _ _ => true
  | .plicComplete _ _ _ => true
  | .bistStart => true
  | .bistSliceDone _ _ _ => true
  | .bistSliceTimeout _ => true
  | .bistRequest _ _ => true
  | .hwShutdownLocal _ => true
  | .shutdownRecordWrite _ => true
  | .thermalAck _ _ => true
  | .flumeStart _ _ => true
  | .flumeAbort _ _ _ _ => true
  | .flumeDoorbell _ _ => true
  | .descriptorFetch _ _ _ => true
  | .descriptorComplete _ _ => true
  | .descriptorError _ _ _ => true
  | .canHalt _ _ => true
  | .canStart _ _ _ => true
  | .canBitTimingWrite _ _ _ _ => true
  | .rxFifoRelease _ _ _ _ => true
  | .txFifoQueue _ _ => true
  | .mailboxRequest _ _ _ => true
  | .txCancel _ _ _ _ => true
  | .canStartOfFrame _ _ _ _ => true
  | .canFrameSent _ _ => true
  | .canAckError _ _ => true
  | .canErrorDetected _ _ _ _ _ => true
  | .canBusOn _ _ _ => true
  | .txEventRelease _ _ _ => true
  | .ttTrigger _ _ _ => true
  | .ardCandidateWindow _ _ => true
  | .partnerCheck _ _ => true
  | .partnerTimeoutClear _ _ _ => true
  | .canErrorCountRead _ _ => true
  | .recordWrite _ _ _ _ _ _ _ _ _ _ => true
  | .flushStart _ => true
  | .promptCtrlFlush _ _ => true
  | .flushDone _ => true
  | .flushBlockedRetry _ => true
  | .lastGaspFull _ => true
  | .promptClr _ _ => true
  | .softwareRecord _ _ => true
  | .optimeRead _ _ => true
  | .optimeSave => true
  | .frameTick _ _ => true
  | .frameRefTimeout _ => true
  | .frameBoundary => true
  | .nvmUpdateOpen _ => true
  | .nvmUpdateChunk _ _ => true
  | .nvmUpdateResume _ => true
  | .nvmUpdateAbort _ => true
  | .nvmUpdateArm _ _ => true
  | .nvmCommandDone _ _ _ => true
  | .copyAtStart _ => true
  | .copyUnitDone _ => true
  | .recoveryEntry _ => true
  | .recoveryIdentify _ => true
  | .recoveryStatus _ => true
  | .recoveryInstall _ => true
  | .recoveryReset _ => true
  | .settingsWrite _ => true
  | .settingsCommit _ => true
  | .secRevoke _ _ _ => true
  | .secLccmd _ _ _ => true
  | .debugAuth _ => true
  | .idcode _ => true
  | .samplePreload _ _ => true
  | .extest _ => true
  | .prov _ _ => true
  | .debug _ => true
  | .auth _ => true
  | .scan _ => true
  | .bypass _ => true
  | .effectiveSetpointUpdate _ => true

/-- A command is well formed for a part: every die it needs is there, and its data are in shape. -/
def Instr.wf (p : Part) (c : Instr) : Bool := c.units.all p.hasDie && c.dataOk

end Sys2Proof
end

