-- ==== Sys2Proof/Certificates/Slice0/Obligations.lean ====
section
/-! DEFINITION. The statements for the provers. Where one says what a command does, its conclusion is the next state that
exec answers: written out as the state before with the changes the rules give, or by what it holds. A statement that rests
on a choice of the model names the log entry. -/

open Sys2Proof Sys2Proof.Machine

/-- For every command c and every state s: step of s with c put at the front of its queue is exec of c on s, whose queue
is the rest. (00_scope.) -/
def Obligations.StepRunsFrontCommand : Prop :=
  ∀ (c : Instr) (s : State), step { s with pending := c :: s.pending } = exec c s

/-- A step on an empty queue answers the tick of the state; where no D die is out of reset and every C die out of reset is
held by its ROM on its fabric clock, that tick raises its stage time and its operating-time count by one and leaves every
register, every byte of memory, the part and the queue as they are. That an empty queue is one fabric cycle is the model's
choice, not a rule of the spec. Points the spec leaves open: log entry 3. (01_architecture.) -/
def Obligations.IdleStepIsATick : Prop :=
  (∀ s : State, s.pending = [] → step s = .next (tick s)) ∧
  (∀ s : State, s.pending = [] → (∀ k < 6, s.runsD k = false) →
    (∀ d < 2, s.hasC d = true → (s.c d).sys.inReset = false → s.romHeld d = true ∧ s.fabric d = true) →
    ∃ t, step s = .next t ∧ t.pending = [] ∧ t.part = s.part ∧ t.regs = s.regs ∧ t.mem = s.mem ∧
      (∀ d < 2, s.hasC d = true → (s.c d).sys.inReset = false →
        (t.c d).sys.stage = (s.c d).sys.stage + 1 ∧ (t.c d).sys.opCounts = (s.c d).sys.opCounts + 1))

/-- For every command c of the table, with any operands, and every state s, exec answers a next state; it is of the same
part and has the same queue. No command ends in a fault or a refusal. (That a command of a die in reset, or of one that
the part lacks, changes nothing is the model's choice.) Points the spec leaves open: log entry 4. (00_scope,
01_architecture.) -/
def Obligations.EveryCommandCompletes : Prop :=
  ∀ (c : Instr) (s : State), ∃ t, exec c s = .next t ∧ t.part = s.part ∧ t.pending = s.pending

/-- From every state whose tables are in canonical form, a step that answers a next state answers one whose tables are in
canonical form, of the same part, with the queue less its front command. (00_scope.) -/
def Obligations.EveryStepKeepsTheState : Prop :=
  ∀ s t : State, s.wf = true → step s = .next t → t.wf = true ∧ t.part = s.part ∧ t.pending = s.pending.tail

/-- State.reset meets the invariant of EveryStepKeepsTheState, nothing waits in its queue, and its memory lists nothing.
(00_scope.) -/
def Obligations.ResetIsCanonical : Prop :=
  State.reset.wf = true ∧ State.reset.pending = [] ∧ State.reset.mem = []

/-- In State.reset every register of a C die or a D die reads the value of its Reset column, but for SYS_RSTCAUSE, which
reads POR = 1 alone on each C die, and for the power-cycle count and the hardware types, whose values are choices of the
model (log entries 10 and 12); the hardware type on each C die is that of the part; the stage time of both C dies is 0.
(00_scope, 03_supplies_clocks_reset, 01_architecture.) -/
def Obligations.ResetRegistersHoldTheirResetValues : Prop :=
  (∀ i o, i < 8 → o < 0x1000000 → (i, o) ∉ [(0, 0x4), (0, 0x50020), (0, 0x7000C), (1, 0x4), (1, 0x7000C)] →
    State.reset.reg i o = (match rowAt i o with
      | some r => BitVec.ofNat 32 (r.reset + resetExtra i o)
      | none => 0)) ∧
  (∀ d < 2, State.reset.wd d 0x4 = 1 ∧ State.reset.get d F.SEC_HWTYPE = State.reset.part.hwType ∧
    (State.reset.c d).sys.stage = 0)

/-- STAGE_TIME_READ by core k answers stage-time bits 31:0 and latches bits 63:32 for that core alone: a read of SYS_STHI
by core k then answers them, what SYS_STHI holds for another core is unchanged, and so is every register and every byte of
memory. (R28.) -/
def Obligations.StageTimeReadLatches : Prop :=
  ∀ (s : State) (d : CDie) (k : Fin 4) (mm : Bool), s.runs d.val = true →
    ∃ t, exec (.stageTimeRead d (.core k mm)) s = .next t ∧
      (t.c d.val).sys.rdata = (s.c d.val).sys.stage.extractLsb' 0 32 ∧
      (loadAt d.val (.core k mm) 0x40000034 t).1 = some (s.now d.val / 2 ^ 32) ∧
      (∀ j : Fin 4, j ≠ k → ∀ b, (loadAt d.val (.core j b) 0x40000034 t).1 = (loadAt d.val (.core j b) 0x40000034 s).1) ∧
      t.regs = s.regs ∧ t.mem = s.mem

/-- OPTIME_READ by core k answers bits 31:0 of the operating time and latches bits 39:32 for that core alone: a read of
PROMPT_OPTHI by core k then answers them, and what it holds for another core is unchanged. (R473.) -/
def Obligations.OperatingTimeReadLatches : Prop :=
  ∀ (s : State) (d : CDie) (k : Fin 4) (mm : Bool), s.runs d.val = true →
    ∃ t, exec (.optimeRead d (.core k mm)) s = .next t ∧
      (t.c d.val).sys.rdata.toNat = s.opMs d.val % 2 ^ 32 ∧
      (loadAt d.val (.core k mm) 0x4005001C t).1 = some (s.opMs d.val / 2 ^ 32) ∧
      (∀ j : Fin 4, j ≠ k → ∀ b, (loadAt d.val (.core j b) 0x4005001C t).1 = (loadAt d.val (.core j b) 0x4005001C s).1) ∧
      t.regs = s.regs ∧ t.mem = s.mem

/-- For an address outside every region of Table 1-5, or in a DRV window or a peer-die window of a die that the part does
not contain, UNMAPPED_ACCESS by core k raises a bus error on core k with that address and direction, and on no other core;
no byte of memory changes. (R32.) -/
def Obligations.UnmappedAccessesRaiseBusErrors : Prop :=
  ∀ (s : State) (d : CDie) (k : Fin 4) (mm : Bool) (addr : Word) (write : Bool), s.runs d.val = true →
    let a := addr.toNat
    ((0x00040000 ≤ a ∧ a < 0x02000000) ∨ (0x02010000 ≤ a ∧ a < 0x0C000000) ∨ (0x10C00000 ≤ a ∧ a < 0x20000000) ∨
      (0x20600000 ≤ a ∧ a < 0x40000000) ∨ (0x400C0000 ≤ a ∧ a < 0x40100000) ∨ (0x402E0000 ≤ a ∧ a < 0x40300000) ∨
      (0x40310000 ≤ a ∧ a < 0x60000000) ∨ 0x68000000 ≤ a ∨
      (∃ j < 16, 0x40280000 + 0x4000 * j ≤ a ∧ a < 0x40280000 + 0x4000 * (j + 1) ∧ s.hasD j = false) ∨
      (∃ i < 8, 0x60000000 + 0x1000000 * i ≤ a ∧ a < 0x60000000 + 0x1000000 * (i + 1) ∧ s.hasDie i = false)) →
    ∃ t, exec (.unmappedAccess d (.core k mm) addr write) s = .next t ∧
      (t.c d.val).sys.busErr.at k.val = ⟨true, a, write, ((s.c d.val).sys.busErr.at k.val).count + 1⟩ ∧
      (∀ j, j ≠ k.val → (t.c d.val).sys.busErr.at j = (s.c d.val).sys.busErr.at j) ∧ t.mem = s.mem

/-- Over links that are up and with the D die running and no two-key sequence armed: REMOTE_WRITE of the owner through its
DRV window sends a WR flit and takes the register's effect on the D die; REMOTE_WRITE of a C die that is not the owner
changes nothing of any D die and reports NOT_OWNER with the die and the address; REMOTE_READ of either C die, by a core
that waits for no other, is answered with the register's data and no error. (R15.) -/
def Obligations.OnlyTheOwnerWritesADriverDie : Prop :=
  ∀ (s : State) (d : CDie) (m : Master) (k : DDie) (off : Nat) (v : Word), s.runs d.val = true →
    s.linkD d.val k.val = true → s.runsD k.val = true → off < 0x4000 → off % 4 = 0 →
    s.flag d.val F.LIB_TK_STAT_ARMED = false →
    let a := 0x40280000 + 0x4000 * k.val + off
    (s.owns d.val k.val = true → exec (.remoteWrite d m (BitVec.ofNat 32 a) v) s =
      .next (drvAct k.val (drvRegWrite d.val m k.val off v)
        (sendFlit d.val (k.val + 1) Fl.wr (off / 4 * 2 ^ 32 + v.toNat) s))) ∧
    (s.owns d.val k.val = false → ∃ t, exec (.remoteWrite d m (BitVec.ofNat 32 a) v) s = .next t ∧
      (∀ j o, 2 ≤ j → o < 0x1000000 → t.reg j o = s.reg j o) ∧ t.ddie = s.ddie ∧
      t.get d.val F.HDR_ACCERR_CODE = 1 ∧ t.get d.val F.HDR_ACCERR_DIE = 2 + k.val ∧ t.get d.val F.HDR_ACCADDR = a) ∧
    (∀ (c : Fin 4) (mm : Bool), ((s.c d.val).hdr.reads.at c.val).active = false → ∃ t x,
      exec (.remoteRead d c mm (BitVec.ofNat 32 a)) s = .next t ∧
      (t.c d.val).hdr.reads.at c.val = ⟨true, 2 + k.val, a, s.now d.val, some (x, 0)⟩)

/-- In every state that meets the invariant of EveryStepKeepsTheState, for every register row and every word written
outside a two-key sequence: RW bits, and RWL bits of a stopped block, take the written value; W1C bits clear where a 1 is
written; every other bit keeps its value, RWP bits among them; a protected bit that the write would have changed sets the
WRREF bit of its block; every other register keeps its value, but for that report. REGISTER_WRITE of the plain SYS
registers is that write. (00_scope.) -/
def Obligations.PlainWritesFollowTheAccessCodes : Prop :=
  ∀ (s : State) (i off : Nat) (v : Word) (stopped : Bool) (r : RegRow), s.wf = true → i < 8 → off < 0x1000000 →
    rowAt i off = some r →
    let t := plainWrite i off v stopped s
    let shut := maskW (r.rwp + (if stopped then 0 else r.rwl))
    let new := clearW (mergeW (s.reg i off) (r.rw + (if stopped then r.rwl else 0)) v) r.w1c v
    ((v ^^^ s.reg i off) &&& shut = 0 → t.reg i off = new ∧
      ∀ j o, o < 0x1000000 → (j ≠ i ∨ o ≠ off) → t.reg j o = s.reg j o) ∧
    ((v ^^^ s.reg i off) &&& shut ≠ 0 → ∀ f, wrrefOf i off = some f → f.off < 0x1000000 → f.lo = f.hi → f.hi < 32 →
      t.flag i f = true ∧ (f.off ≠ off → t.reg i off = new) ∧
      ∀ j o, o < 0x1000000 → (j ≠ i ∨ (o ≠ off ∧ o ≠ f.off)) → t.reg j o = s.reg j o) ∧
    t.mem = s.mem ∧
    (∀ (d : CDie) (m : Master), s.runs d.val = true → s.flag d.val F.LIB_TK_STAT_ARMED = false →
      off ∈ [0x10, 0x18, 0x1C, 0x20, 0x34, 0x38] → i = d.val → stopped = true →
      exec (.registerWrite d m (BitVec.ofNat 32 (0x40000000 + off)) v) s = .next t)

/-- In every state that meets the invariant of EveryStepKeepsTheState, and whatever stands armed: THERMAL_ACK, PROMPT_CLR,
NVM_UPDATE_ARM, SEC_REVOKE, SEC_LCCMD, SAFE_CLR_AX, SAFE_CLR_PKG, DISCHARGE_RESISTOR, DISCHARGE_WINDING, DISCHARGE_STOP,
SYS_RSTCTRL_PKG and SYS_RSTCTRL_DIE of a master that is not machine mode on pair B take no effect of their own: each is
the plain write of its register, in the state in which an armed sequence has met that write (R8, R20, R128, R129).
(01_architecture, 05_libretto.) -/
def Obligations.OnlyTheSafetyMasterCompletesProtectedWrites : Prop :=
  ∀ (s : State) (d : CDie) (m : Master), s.wf = true → s.runs d.val = true → m.safety = false →
    let after := fun (off : Nat) (v : Word) => Host.Outcome.next (φ := Fault) (ρ := Refusal)
      (plainWrite d.val off v false (tkDisturb d.val (own off) m s))
    exec (.thermalAck d m) s = after F.THERM_LACK_GO.off 1#32 ∧
    exec (.promptClr d m) s = after F.PROMPT_CLR_GO.off 1#32 ∧
    exec (.nvmUpdateArm d m) s = after F.NVM_UPARM_GO.off 1#32 ∧
    exec (.sysRstctrlPkg d m) s = after 8 1#32 ∧ exec (.sysRstctrlDie d m) s = after 8 2#32 ∧
    (∀ slot : Fin 8, exec (.secRevoke d m slot) s = after F.SEC_REVOKE_SLOT.off (BitVec.ofNat 32 (slot.val + 256))) ∧
    (∀ t : Fin 8, exec (.secLccmd d m t) s = after F.SEC_LCCMD_TARGET.off (BitVec.ofNat 32 (t.val + 256))) ∧
    (∀ ax : BitVec 6, exec (.safeClrAx d m ax) s = after 0x18004 (BitVec.ofNat 32 ax.toNat) ∧
      exec (.safeClrPkg d m ax) s = after 0x18004 (BitVec.ofNat 32 (256 + ax.toNat))) ∧
    (∀ b : Fin 3, exec (.dischargeResistor d m b) s = after (dcmdOff b.val) 1#32 ∧
      exec (.dischargeStop d m b) s = after (dcmdOff b.val) 3#32 ∧
      ∀ a : Fin 8, exec (.dischargeWinding d m b a) s = after (dcmdOff b.val) (BitVec.ofNat 32 (2 + 16 * a.val)))

/-- REGISTER_WRITE is also the store of a word: at an aligned address of SRAM below the record ring it reads back there,
least significant byte first, and every other byte of every die and every register keeps its value; into the ring it
raises a bus error on the issuing core and changes no byte of memory. Points the spec leaves open: log entry 13.
(01_architecture, 18_prompt_book_statistics.) -/
def Obligations.SramStoresReadBack : Prop :=
  ∀ (s : State) (d : CDie) (k : Fin 4) (mm : Bool) (addr v : Word), s.runs d.val = true →
    s.flag d.val F.LIB_TK_STAT_ARMED = false → addr.toNat % 4 = 0 →
    (0x20000000 ≤ addr.toNat → addr.toNat < 0x205C0000 → ∃ t,
      exec (.registerWrite d (.core k mm) addr v) s = .next t ∧ t.rd32 d.val addr.toNat = v.toNat ∧
      (loadAt d.val (.core k mm) addr.toNat t).1 = some v.toNat ∧
      (∀ e a, a < 0x100000000 → (e ≠ d.val ∨ a < addr.toNat ∨ addr.toNat + 4 ≤ a) → t.rdB e a = s.rdB e a) ∧
      t.regs = s.regs ∧ t.cdie = s.cdie ∧ t.ddie = s.ddie) ∧
    (0x205C0000 ≤ addr.toNat → addr.toNat < 0x20600000 → ∃ t,
      exec (.registerWrite d (.core k mm) addr v) s = .next t ∧ t.mem = s.mem ∧ t.regs = s.regs ∧
      (t.c d.val).sys.busErr.at k.val = ⟨true, addr.toNat, true, ((s.c d.val).sys.busErr.at k.val).count + 1⟩)

/-- REGISTER_WRITE is the aligned 32-bit store of its master at its address, with what an armed two-key sequence does to
it; for a plain SYS register with no sequence armed it is the write field by field (R8). NARROW_OR_MISALIGNED_ACCESS in a
register window raises a bus error on the issuing core and has no other effect (R5); UNMAPPED_ACCESS raises one where R32
does, and does nothing elsewhere. STAGE_TIME_READ returns the low half of the stage time and latches the high half for the
reading core (R28). MSIP_WRITE holds bit 0 of the value for its core (R29); MACHINE_TIMER_INTERRUPT presents the timer
interrupt of its core once mtime has reached its mtimecmp, and nothing before (R29). Points the spec leaves open: log
entries 13, 14. (00_scope, 01_architecture.) -/
def Obligations.RegisterAccessCommands : Prop :=
  (∀ (s : State) (d : CDie) (m : Master) (addr : Word) (v : Word), s.runs d.val = true →
    exec (.registerWrite d m addr v) s = .next (storeAt d.val m addr.toNat v s)) ∧
  (∀ (s : State) (d : CDie) (m : Master) (addr : Word) (size : Nat) (write : Bool), s.runs d.val = true →
    exec (.narrowOrMisalignedAccess d m addr size write) s = .next (
      if regWindow addr.toNat && (decide (size ≠ 4) || decide (addr.toNat % 4 ≠ 0)) then
        busTrap d.val m addr.toNat write s
      else s)) ∧
  (∀ (s : State) (d : CDie) (m : Master) (addr : Word) (write : Bool), s.runs d.val = true →
    exec (.unmappedAccess d m addr write) s = .next (if s.unmapped addr.toNat then busTrap d.val m addr.toNat write s else
      s)) ∧
  (∀ (s : State) (d : CDie) (m : Master), s.runs d.val = true →
    exec (.stageTimeRead d m) s = .next (
      let t := (s.c d.val).sys.stage
      s.modSys d.val (fun y =>
        { y with rdata := t.extractLsb' 0 32, sthi := y.sthi.set m.coreIx (t.extractLsb' 32 32) }))) ∧
  (∀ (s : State) (d : CDie) (k : Fin 4) (v : Word), s.runs d.val = true →
    exec (.msipWrite d k v) s = .next (
      let s := tkDisturb d.val (0x2008000 + 4 * k.val) .debug s
      s.modSys d.val (fun y => { y with msip := y.msip.set k.val (bit v.toNat 0) }))) ∧
  (∀ (s : State) (d : CDie) (k : Fin 4), s.runs d.val = true →
    exec (.machineTimerInterrupt d k) s = .next (
      s.modSys d.val (fun y =>
       if (y.mtimecmp.at k.val).toNat ≤ y.stage.toNat then { y with mtip := y.mtip.set k.val true } else y))) ∧
  (∀ (s : State) (d : CDie) (m : Master) (off : Nat) (v : Word), s.runs d.val = true →
    s.flag d.val F.LIB_TK_STAT_ARMED = false → off ∈ [0x10, 0x18, 0x1C, 0x20, 0x34, 0x38] →
    exec (.registerWrite d m (BitVec.ofNat 32 (own off)) v) s = .next (plainWrite d.val off v true s)) ∧
  (∀ (s : State) (d : CDie) (k : Fin 4) (mm : Bool) (addr : Word) (size : Nat) (write : Bool), s.runs d.val = true →
    regWindow addr.toNat = true → (size ≠ 4 ∨ addr.toNat % 4 ≠ 0) →
    exec (.narrowOrMisalignedAccess d (.core k mm) addr size write) s =
      .next (s.modSys d.val (fun y =>
        { y with busErr := y.busErr.mod k.val (fun b => ⟨true, addr.toNat, write, b.count + 1⟩) })))

/-- SUPPLIES_IN_RANGE gives every die of a device that is OFF a power-on reset and takes it into RESET, and does nothing
to any other device (R35). SUPPLY_LOW: VCORE and VANA give their C die a power-on reset, which also orphans the D dies it
owns and, of C0, stops the reference of C1; VIO_A puts every STO input of the package at torque off and holds the package
in reset; VIO_B and VIO_C of a running die clear their OK bit, note the dip, are recorded and latch their instance of the
supply fault, VIO_B with the inputs of bank B at 0, VIO_C with every TRIPn active; VDRV resets its D die; VKEEP resets its
keep-alive domain and is reported by every running C die (R53, R65, R66, R70). SUPPLY_RECOVERED ends the low condition of
its rail; VIO_B, VIO_C and VKEEP show it and end the active state of their fault, VIO_C with the trip inputs read again.
Points the spec leaves open: log entry 30. (01_architecture, 02_packages_terminals_electrical, 03_supplies_clocks_reset.)
-/
def Obligations.SupplyCommands : Prop :=
  (∀ (s : State),
    exec .suppliesInRange s = .next (
      if s.pkg.off then
        let s := { s with pkg := { s.pkg with off := false, inReset := true } }
        overN 2 (fun d s => if s.hasC d then putDev d Dev.reset (railsUp d (resetC d 0 true s)) else s)
          (overN 6 (fun k s => if s.hasD k then
            (resetD k false s).modD k (fun x => { x with vdrvLow := false, vkeepLow := false })
            else s) s)
      else s)) ∧
  (∀ (s : State) (d : CDie), s.hasC d.val = true →
    exec (.supplyLow (.vcore d)) s =
      .next (coreRailLow d.val (s.modSys d.val (fun y => { y with vcoreLow := true }))) ∧
    exec (.supplyLow (.vana d)) s =
      .next (coreRailLow d.val (s.modSys d.val (fun y => { y with vanaLow := true }))) ∧
    exec (.supplyLow (.vioA d)) s = .next (vioALow (s.modSys d.val (fun y => { y with vioALow := true }))) ∧
    exec (.supplyLow (.vioB d)) s =
      (let u := s.modSys d.val (fun y => { y with vioBLow := true })
       .next (if u.runs d.val then vioBLow d.val u else u)) ∧
    exec (.supplyLow (.vioC d)) s =
      (let u := s.modSys d.val (fun y => { y with vioCLow := true })
       .next (if u.runs d.val then vioCLow d.val u else u))) ∧
  (∀ (s : State) (k : DDie), s.hasD k.val = true →
    exec (.supplyLow (.vdrv k)) s = .next (dReset k.val (s.modD k.val (fun x => { x with vdrvLow := true }))) ∧
    exec (.supplyLow (.vkeep k)) s = .next (vkeepLowAt k.val s)) ∧
  (∀ (s : State) (d : CDie), s.hasC d.val = true →
    exec (.supplyRecovered (.vcore d)) s = .next (s.modSys d.val (fun y => { y with vcoreLow := false })) ∧
    exec (.supplyRecovered (.vana d)) s = .next (s.modSys d.val (fun y => { y with vanaLow := false })) ∧
    exec (.supplyRecovered (.vioA d)) s = .next (s.modSys d.val (fun y => { y with vioALow := false })) ∧
    exec (.supplyRecovered (.vioB d)) s =
      (let u := s.modSys d.val (fun y => { y with vioBLow := false })
       .next (if u.runs d.val then vioBUp d.val u else u)) ∧
    exec (.supplyRecovered (.vioC d)) s =
      (let u := s.modSys d.val (fun y => { y with vioCLow := false })
       .next (if u.runs d.val then vioCUp d.val u else u))) ∧
  (∀ (s : State) (k : DDie), s.hasD k.val = true →
    exec (.supplyRecovered (.vdrv k)) s = .next (s.modD k.val (fun x => { x with vdrvLow := false })) ∧
    exec (.supplyRecovered (.vkeep k)) s = .next (vkeepUpAt k.val s)) ∧
  (∀ s : State, s.pkg.off = true → ∃ t, exec .suppliesInRange s = .next t ∧
    t.pkg = { s.pkg with off := false, inReset := true } ∧
    ∀ d : CDie, s.hasC d.val = true → (t.c d.val).sys.inReset = true ∧ t.get d.val F.SYS_DSTATE_STATE = 1)

/-- CLOCK_LOSS of C die d, by its reference or its PLL: a die out of reset moves to its backup oscillator with the
reactions of R72, one in reset loses its lock, and its REF_OK with the reference (R514); a loss of C0's reference reaches
C1 too (R73). CRYSTAL_REFERENCE_OK sets REF_OK; PLL_LOCK sets PLL_LOCK on a valid reference of a die that is not on its
backup oscillator (R71). RESET_N_ASSERT low is a package reset, high ends the pin's state; SYS_RSTCTRL_PKG and
SYS_RSTCTRL_DIE reset the package or the die once a two-key sequence releases them; PEER_ORDERED_RESET resets a die whose
peer runs over a link that is up; D_DIE_RESET resets the D die if its owner reaches it (R74, R337). BLOCK_RESET_WRITE is
the write of SYS_BRST (R84). RESET_RELEASE: a C die in reset whose clocks and supplies are ready leaves it (C0 of a
package in reset with the straps sampled and its ROM run, another die to roll call or a rejoin), C0 that has just left
reset runs its ROM, and a D die leaves reset once VDRV is up (R85, R87, R104, R514). PFAIL_RECOGNISED takes the reactions
of R81 on every running C die: PFAIL, PF_SEEN and the refusal of MRAM writes set and FLUSH_DONE clears. PFAIL_FALL clears
PFAIL and its package cause, and the refusal of MRAM writes lasts as long as the flush (R83). Points the spec leaves open:
log entries 31, 32, 33. (01_architecture, 03_supplies_clocks_reset, 04_roll_call_startup.) -/
def Obligations.ClockAndResetCommands : Prop :=
  (∀ (s : State) (d : CDie) (ref : Bool), s.hasC d.val = true →
    exec (.clockLoss d ref) s = .next (
      let s := clockLost d.val ref s
      if d.val == 0 && ref then clockLost 1 true s else s)) ∧
  (∀ (s : State) (d : CDie), s.hasC d.val = true → exec (.crystalReferenceOk d) s = .next (s.on d.val F.SYS_CLKST_REF_OK)) ∧
  (∀ (s : State) (d : CDie), s.hasC d.val = true →
    exec (.pllLock d) s = .next (
      if s.flag d.val F.SYS_CLKST_REF_OK && !s.flag d.val F.SYS_CLKST_ON_BACKUP then s.on d.val F.SYS_CLKST_PLL_LOCK
      else s)) ∧
  (∀ (s : State) (low : Bool),
    exec (.resetNAssert low) s = .next (
      if low then packageReset 2 { s with pkg := { s.pkg with resetNLow := true } }
        else { s with pkg := { s.pkg with resetNLow := false } })) ∧
  (∀ (s : State) (d : CDie) (m : Master), s.runs d.val = true →
    exec (.sysRstctrlPkg d m) s = .next (tkWriteThen d.val m (own 8) d.val 8 1#32 (packageReset 8) s)) ∧
  (∀ (s : State) (d : CDie) (m : Master), s.runs d.val = true →
    exec (.sysRstctrlDie d m) s = .next (tkWriteThen d.val m (own 8) d.val 8 2#32 (dieReset d.val 16 false) s)) ∧
  (∀ (s : State) (d : CDie), s.runs d.val = true →
    exec (.peerOrderedReset d) s = .next (if s.runs (1 - d.val) && s.linkC (1 - d.val) then dieReset d.val 32 false s else
      s)) ∧
  (∀ (s : State) (k : DDie), s.runsD k.val = true →
    exec (.dDieReset k) s = .next (if s.reaches (s.owner k.val) k.val then dReset k.val s else s)) ∧
  (∀ (s : State) (d : CDie) (v : Word), s.runs d.val = true →
    exec (.blockResetWrite d v) s = .next (
      let s := tkDisturb d.val (own 0xC) .debug s
      brstWrite d.val v s)) ∧
  (∀ (s : State) (i : DieIx) (a r o : Bool), i.val < 2 → s.hasC i.val = true →
    ((s.c i.val).sys.inReset = true → s.mayRun i.val = true → s.pkg.resetNLow = false → s.pkg.off = false →
      (s.pkg.inReset = true → i.val = 0 → s.pkgMayRun = true →
        exec (.resetRelease i a r o) s = .next (releaseAnchor a r o s)) ∧
      (s.pkg.inReset = false → s.romHeld 0 = false → s.flag 0 F.BIST_MARK0_C1 = false →
        exec (.resetRelease i a r o) s = .next (releaseC i.val s))) ∧
    ((s.c i.val).sys.inReset = true → (s.mayRun i.val = false ∨ s.pkg.resetNLow = true ∨ s.pkg.off = true) →
      exec (.resetRelease i a r o) s = .next s) ∧
    ((s.c i.val).sys.inReset = false → i.val = 0 → s.dev = 2 → s.get 0 F.HDR_RC_STATUS_PHASE = 0 →
      (s.c 0).sys.romHold = false → exec (.resetRelease i a r o) s = .next (bootRom a r o s))) ∧
  (∀ (s : State) (k : DDie) (a r o : Bool) (i : DieIx), i.val = 2 + k.val → s.hasD k.val = true →
    exec (.resetRelease i a r o) s = .next (if (s.dd k.val).vdrvLow then s
      else keepSync (s.modD k.val (fun x => { x with inReset := false })))) ∧
  (∀ (s : State), exec .pfailRecognised s = .next (overN 2 (fun d s => if s.runs d then pfailOn d s else s) s)) ∧
  (∀ (s : State),
    exec .pfailFall s = .next (
      overN 2 (fun d s =>
        if s.runs d then
          let s := s.off d F.SYS_PFST_PFAIL
          let s := s.modSafe d (fun x => { x with pkgCause := setBit x.pkgCause 0 false })
          s.modSys d (fun y => { y with mramRefuse := y.pfFlush })
        else s) s)) ∧
  (∀ s : State, s.runs 0 = true → s.runs 1 = false → s.flag 0 F.SYS_PFCFG_REACT = true →
    (∀ b < 3, s.flag 0 (F.DISCH_BUS_CFG_PFDIS b) = false) → ∃ t, exec .pfailRecognised s = .next t ∧
      t.get 0 F.SYS_PFST_PFAIL = 1 ∧ t.get 0 F.SYS_PFST_PF_SEEN = 1 ∧ t.get 0 F.SYS_PFST_FLUSH_DONE = 0 ∧
      (t.c 0).sys.mramRefuse = true)

/-- ROLL_CALL_C1_ANSWER within C1's window marks C1 present and exchanges the identities, or marks a mismatch with code 2
(R89, R91). D_LINK_TRAINING_START, once C1 is settled, goes to phase 2, gives every D die to C0 and resets those that were
orphans (R75, R89, R16). D_DIE_ANSWER within its window marks the die present, brings its links up, takes its position and
stepping, and with the last answer ends step 4; a bad answer is a mismatch. ANSWER_WINDOW_EXPIRY, once its 5 ms have
passed, reports the missing die with code 1; of a D die it ends step 4 (R90). MICROCODE_READBACK takes a good readback and
begins the alignment with the last one, pushes a failed one once more, and holds CONFIG with code 3 at the second failure
(R89). TIME_ALIGN_CHECK holds CONFIG with code 4 if, 1 ms after the alignment began, a die is more than one count off, and
does nothing otherwise (R95). VERSION_WINDOW_RESOLVE agrees the lower protocol version or enters single control, fills TRC
and enters BIST (R89, R101, R499). READINESS_ITEM_MET sets the bit of an item whose condition holds on a C die past
STANDBY, and START_RDY with the last one (R94). Points the spec leaves open: log entries 34, 35, 36.
(04_roll_call_startup, 19_update_security.) -/
def Obligations.RollCallCommands : Prop :=
  (∀ (s : State) (ctl : Bool) (pos : DieIx) (step : Byte), s.hasC 1 = true →
    exec (.rollCallC1Answer ctl pos step) s = .next (
      if s.rolling && s.rcPhase == 1 && s.runs 1 && !s.bitOf 0 F.HDR_RC_DIEMAP_PRESENT 1 && !(s.c 0).hdr.c1Missing &&
          decide (s.now 0 ≤ (s.c 0).hdr.winC1 + rcWindow) then
        let s := s.putBit 0 F.HDR_RC_DIEMAP_PRESENT 1 true
        let s := s.put 0 (F.HDR_RC_STEP_STEP 1) step.toNat
        if !ctl || pos.val ≠ 1 || step.toNat ≠ 0xB0 then
          rcMismatch 1 s
        else
          let s := linkUp 1 0 (linkUp 0 0 s)
          let s := s.put 1 F.HDR_RC_DIEMAP_EXPECTED (s.get 0 F.HDR_RC_DIEMAP_EXPECTED)
          let s := s.put 1 F.HDR_RC_DIEMAP_PRESENT 3
          let s := (s.put 1 (F.HDR_RC_STEP_STEP 0) 0xB0).put 1 (F.HDR_RC_STEP_STEP 1) step.toNat
          let a := (s.protoOf 0).1
          let b := (s.protoOf 1).1
          let s := (s.put 0 F.HDR_RC_PROTO_OWN a).put 0 F.HDR_RC_PROTO_PEER b
          let s := (s.put 1 F.HDR_RC_PROTO_OWN b).put 1 F.HDR_RC_PROTO_PEER a
          lcReconcile (takeOptime s)
      else s)) ∧
  (∀ (s : State),
    exec .dLinkTrainingStart s = .next (
      if s.rolling && (s.rcPhase == 1 || (s.part.ctl == 1 && s.rcPhase == 2)) && s.c1Settled then
        let s := rcPhaseTo 2 s
        let now := s.now 0
        let s := s.modHdr 0 (fun h => { h with winD := now })
        let s := overN 6 (fun k s =>
          if s.hasD k then
            setOwner k 0 (if s.inOrphan k || s.orphan k || (s.dd k).noticeDue then resetD k false s else s)
          else s) s
        overN 2 (fun d s => if s.runs d then refreshInact d s else s) s.syncOwn
      else s)) ∧
  (∀ (s : State) (k : DDie) (pos : DieIx) (step : Byte) (drv : Bool), s.hasD k.val = true →
    exec (.dDieAnswer k pos step drv) s = .next (
      if s.rolling && s.rcPhase == 2 && s.runsD k.val && !s.bitOf 0 F.HDR_RC_DIEMAP_PRESENT (dix k.val) &&
          decide (s.now 0 ≤ (s.c 0).hdr.winD + rcWindow) then
        let bad := s.answerBad k.val pos.val step.toNat drv
        let s := overN 2 (fun d s =>
          if s.runs d then
            linkUp d (k.val + 1) ((s.putBit d F.HDR_RC_DIEMAP_PRESENT (dix k.val) true).put d
              (F.HDR_RC_STEP_STEP (dix k.val)) step.toNat)
          else s) s
        let s := s.put (dix k.val) F.DRV_D_ID_POS pos.val
        let s := refreshLockout (refreshVkeep s)
        let s := if bad then rcMismatch (dix k.val) s else s
        if s.allAnswered then identityEnd s else s
      else s)) ∧
  (∀ (s : State) (i : DieIx),
    exec (.answerWindowExpiry i) s = .next (
      if s.rolling && s.hasDie i.val && !s.bitOf 0 F.HDR_RC_DIEMAP_PRESENT i.val then
        if i.val == 1 && s.rcPhase == 1 && decide ((s.c 0).hdr.winC1 + rcWindow ≤ s.now 0) then
          rcCode Rc.dieMissing (s.modHdr 0 (fun h => { h with c1Missing := true }))
        else if 2 ≤ i.val && s.rcPhase == 2 && decide ((s.c 0).hdr.winD + rcWindow ≤ s.now 0) then
          identityEnd (rcCode Rc.dieMissing s)
        else s
      else s)) ∧
  (∀ (s : State) (k : DDie) (ok : Bool), s.hasD k.val = true →
    exec (.microcodeReadback k ok) s = .next (
      if s.rolling && s.rcPhase == 3 then
        if ok then
          let s := baselineUcode k.val s
          if (List.range s.part.drv).all (fun j => s.flag (dix j) F.DRV_D_STAT_UCODE) then timeAlignBegin s else s
        else if bit (s.c 0).hdr.ucAgain k.val then rcHeld (rcCode Rc.ucodeFail s)
        else s.modHdr 0 (fun h => { h with ucAgain := setBit h.ucAgain k.val true })
      else s)) ∧
  (∀ (s : State),
    exec .timeAlignCheck s = .next (
      if s.rolling && s.rcPhase == 4 && !s.aligned && decide ((s.c 0).hdr.alignAt + 400000 ≤ s.now 0) then
        rcHeld (rcCode Rc.timeAlignFail s)
      else s)) ∧
  (∀ (s : State) (peerOk : Bool),
    exec (.versionWindowResolve peerOk) s = .next (
      if s.rolling && s.rcPhase == 4 && s.aligned then
        let s :=
          if s.part.ctl == 1 then (s.put 0 F.HDR_RC_STATUS_PHASE 5).put 0 F.HDR_RC_PROTO_OWN (s.protoOf 0).1
          else
            let code := if !peerOk then Rc.peerImageFail else if s.versionsMeet then 0 else Rc.versionSplit
            let s := versionOn 0 code s
            if !s.runs 1 then s
            else
              let s := versionOn 1 code s
              if code == Rc.peerImageFail then enterRecovery 1 6 s else s
        let s := overN 2 (fun d s => if s.runs d then s.put d F.HDR_RC_TRC (s.rcMicros d) else s) s
        setDevice Dev.bist (overN 6 lockUcode s)
      else s)) ∧
  (∀ (s : State) (d : CDie) (item : Fin 5), s.runs d.val = true →
    exec (.readinessItemMet d item) s = .next (
      if decide (Dev.standby ≤ s.dev) && s.dev != Dev.recovery && s.readyIf d.val item.val then readyItem d.val item.val s
      else s)) ∧
  (∀ s : State, s.hasC 1 = true → s.rolling = true → s.rcPhase = 1 → s.runs 1 = true →
    s.bitOf 0 F.HDR_RC_DIEMAP_PRESENT 1 = false → (s.c 0).hdr.c1Missing = false →
    s.now 0 ≤ (s.c 0).hdr.winC1 + rcWindow → ∃ t, exec (.rollCallC1Answer true 1 0xB0#8) s = .next t ∧
      t.get 0 F.HDR_RC_DIEMAP_PRESENT = setBit (s.get 0 F.HDR_RC_DIEMAP_PRESENT) 1 true ∧
      t.get 0 (F.HDR_L_STAT_UP 0) = 1 ∧ t.get 1 (F.HDR_L_STAT_UP 0) = 1 ∧ t.get 1 F.HDR_RC_DIEMAP_PRESENT = 3 ∧
      t.get 1 (F.HDR_RC_STEP_STEP 1) = 0xB0) ∧
  (∀ (s : State) (ctl : Bool) (pos : DieIx) (step : Byte), s.hasC 1 = true → s.rolling = true → s.rcPhase = 1 →
    s.runs 1 = true → s.bitOf 0 F.HDR_RC_DIEMAP_PRESENT 1 = false → (s.c 0).hdr.c1Missing = false →
    s.now 0 ≤ (s.c 0).hdr.winC1 + rcWindow → s.get 0 F.HDR_RC_STATUS_CODE = 0 →
    (ctl = false ∨ pos.val ≠ 1 ∨ step.toNat ≠ 0xB0) → ∃ t, exec (.rollCallC1Answer ctl pos step) s = .next t ∧
      t.get 0 F.HDR_RC_DIEMAP_MISMATCH = setBit (s.get 0 F.HDR_RC_DIEMAP_MISMATCH) 1 true ∧
      t.get 0 F.HDR_RC_STATUS_CODE = 2) ∧
  (∀ s : State, s.rolling = true → s.rcPhase = 1 → s.c1Settled = true →
    (∀ k < 6, s.hasD k = true → s.inOrphan k = false ∧ s.orphan k = false ∧ (s.dd k).noticeDue = false) →
    ∃ t, exec .dLinkTrainingStart s = .next t ∧ t.get 0 F.HDR_RC_STATUS_PHASE = 2 ∧
      ∀ k < 6, s.hasD k = true → t.owns 0 k = true) ∧
  (∀ (s : State) (i : DieIx), i.val = 1 → s.hasDie 1 = true → s.rolling = true → s.rcPhase = 1 →
    s.bitOf 0 F.HDR_RC_DIEMAP_PRESENT 1 = false → s.get 0 F.HDR_RC_STATUS_CODE = 0 →
    (s.c 0).hdr.winC1 + rcWindow ≤ s.now 0 → ∃ t, exec (.answerWindowExpiry i) s = .next t ∧
      t.get 0 F.HDR_RC_STATUS_CODE = 1 ∧ (t.c 0).hdr.c1Missing = true)

/-- LIB_LOAD, LIB_RELOAD, LIB_ROLLBACK, LIB_ACCEPT, LIB_ABORT, LIB_STORE_UD and LIB_CLEAR_UD are the writes of LIB_CMD
with their command (and axis); released by the two keys on C0 (in a state that meets the invariant of
EveryStepKeepsTheState), each is carried out, or refused with its code, and the sequence completes with its record (R117,
R128, R130). LIB_TK_ADDR_WRITE by the safety master takes the address and disarms; LIB_TK_KEY_WRITE takes the first key,
arms at the second and fails a wrong key with BAD_KEY; another writer fails the sequence with NOT_MASTER and is refused
(R128, R129). TWO_KEY_TARGET_WRITE is the store to the address of an armed sequence: to SYS_PFCFG, in its time, it takes
the protected value. TWO_KEY_TIMEOUT fails an armed sequence with TIMEOUT once more than 1 µs has passed, and does nothing
before. Points the spec leaves open: log entries 16, 28, 37. (05_libretto.) -/
def Obligations.LoaderCommands : Prop :=
  (∀ (s : State) (d : CDie) (m : Master), s.runs d.val = true →
    exec (.libLoad d m) s = .next (libCmdWrite d.val m (cmdWord 1 0) s)) ∧
  (∀ (s : State) (d : CDie) (m : Master) (ax : Fin 8), s.runs d.val = true →
    exec (.libReload d m ax) s = .next (libCmdWrite d.val m (cmdWord 2 ax.val) s)) ∧
  (∀ (s : State) (d : CDie) (m : Master), s.runs d.val = true →
    exec (.libRollback d m) s = .next (libCmdWrite d.val m (cmdWord 3 0) s)) ∧
  (∀ (s : State) (d : CDie) (m : Master), s.runs d.val = true →
    exec (.libAccept d m) s = .next (libCmdWrite d.val m (cmdWord 4 0) s)) ∧
  (∀ (s : State) (d : CDie) (m : Master), s.runs d.val = true →
    exec (.libAbort d m) s = .next (libCmdWrite d.val m (cmdWord 5 0) s)) ∧
  (∀ (s : State) (d : CDie) (m : Master), s.runs d.val = true →
    exec (.libStoreUd d m) s = .next (libCmdWrite d.val m (cmdWord 6 0) s)) ∧
  (∀ (s : State) (d : CDie) (m : Master), s.runs d.val = true →
    exec (.libClearUd d m) s = .next (libCmdWrite d.val m (cmdWord 7 0) s)) ∧
  (∀ (s : State) (d : CDie) (m : Master) (v : Word), s.runs d.val = true →
    exec (.libTkAddrWrite d m v) s = .next (tkAddrWrite d.val m v s)) ∧
  (∀ (s : State) (d : CDie) (m : Master) (v : Word), s.runs d.val = true →
    exec (.libTkKeyWrite d m v) s = .next (tkKeyWrite d.val m v s)) ∧
  (∀ (s : State) (d : CDie) (m : Master) (v : Word), s.runs d.val = true →
    exec (.twoKeyTargetWrite d m v) s = .next (if s.flag d.val F.LIB_TK_STAT_ARMED then storeAt d.val m (s.c
      d.val).lib.tk.addr v s else s)) ∧
  (∀ (s : State) (d : CDie), s.runs d.val = true →
    exec (.twoKeyTimeout d) s = .next (
      if s.flag d.val F.LIB_TK_STAT_ARMED && (s.c d.val).lib.tk.armedAt + 400 < s.now d.val then tkFail d.val Tk.timeout s
      else s)) ∧
  (∀ (s : State) (m : Master), s.wf = true → s.runs 0 = true → m.safety = true → s.tkReady 0 0x400B0004 = true →
    let fin := fun (cmd ax : Nat) => Host.Outcome.next (φ := Fault) (ρ := Refusal)
      (tkDone 0 0x400B0004 (s.reg 0 0xB0004) (newWord 0 0xB0004 (s.reg 0 0xB0004) (cmdWord cmd ax)) (libCommand 0 cmd ax s))
    exec (.libLoad 0 m) s = fin 1 0 ∧ (∀ ax : Fin 8, exec (.libReload 0 m ax) s = fin 2 ax.val) ∧
    exec (.libRollback 0 m) s = fin 3 0 ∧ exec (.libAccept 0 m) s = fin 4 0 ∧ exec (.libAbort 0 m) s = fin 5 0 ∧
    exec (.libStoreUd 0 m) s = fin 6 0 ∧ exec (.libClearUd 0 m) s = fin 7 0) ∧
  (∀ (s : State) (d : CDie) (m : Master) (v : Word), s.runs d.val = true →
    (m.safety = true → exec (.libTkAddrWrite d m v) s = .next
      ((s.put d.val F.LIB_TK_STAT_ARMED 0).modTk d.val (fun _ => ⟨v.toNat, 0, 0⟩))) ∧
    (m.safety = false → exec (.libTkAddrWrite d m v) s = .next ((tkFail d.val Tk.notMaster s).put d.val F.LIB_STAT_WRREF 1))) ∧
  (∀ (s : State) (d : CDie) (m : Master) (v : Word), s.runs d.val = true → m.safety = true →
    s.flag d.val F.LIB_TK_STAT_ARMED = false →
    ((s.c d.val).lib.tk.keys = 0 → v.toNat = 0xA35C0000 + s.get d.val F.LIB_TK_STAT_SEQ →
      exec (.libTkKeyWrite d m v) s = .next (s.modTk d.val (fun t => { t with keys := 1 }))) ∧
    ((s.c d.val).lib.tk.keys = 1 → v.toNat = 0xFFFFFFFF - (0xA35C0000 + s.get d.val F.LIB_TK_STAT_SEQ) →
      exec (.libTkKeyWrite d m v) s = .next ((s.put d.val F.LIB_TK_STAT_ARMED 1).modTk d.val
        (fun t => { t with keys := 2, armedAt := s.now d.val }))) ∧
    ((s.c d.val).lib.tk.keys = 0 → v.toNat ≠ 0xA35C0000 + s.get d.val F.LIB_TK_STAT_SEQ →
      exec (.libTkKeyWrite d m v) s = .next (tkFail d.val Tk.badKey s)))

/-- LIB_VERIFY_DONE of a verification begins the store on the C dies that take part, or ends with the code of the first
failing check and its section (R115, R118). LIB_STORE_DONE of a store that no flush holds up stores the image: a LOAD
takes its role and is applied, a RELOAD is staged, a STORE_UD takes the role USERDEF; a store that MRAM refuses ends with
its code (R114, R116, R119). LIB_CONFIG_APPLY in CONFIG brings the stores into agreement, applies what R122 picks and ends
CONFIG, or holds the start for a marked unit; otherwise it applies a rejoined die (R104). RELOAD_TRANSFER transfers a
staged axis whose engines are idle within 5 µs of the frame boundary, and waits otherwise (R126). ACCEPT_WINDOW_EXPIRY
closes the window of a running C die once ACCEPT_WIN seconds have passed (R123). DIRECTORY_WRITE_RETRY makes the directory
writes that MRAM refused, and applies what a rejection has brought back (R124). Points the spec leaves open: log entries
37, 38, 39, 40, 43. (05_libretto.) -/
def Obligations.LoaderEvents : Prop :=
  (∀ (s : State),
    exec .libVerifyDone s = .next (
      if s.runs 0 && s.get 0 F.LIB_STAT_STATE == Ls.verify then
        let l := (s.c 0).lib
        let a := s.get 0 F.LIB_SRC
        let code := firstCode [loadCheck s l.cmd l.cmdAx a (s.get 0 F.LIB_LEN), s.mramCode]
        if code != Lc.ok then libRest (noteErrSect a code (libCode l.cmd code s))
        else overL s.libDies (fun d s => storeBegin d l.cmd s) s
      else s)) ∧
  (∀ (s : State),
    exec .libStoreDone s = .next (
      if s.runs 0 && s.get 0 F.LIB_STAT_STATE == Ls.store &&
          !s.libDies.any (fun d => s.flag d F.PROMPT_STAT_FLUSHING) then
        let l := (s.c 0).lib
        if s.mramCode != Lc.ok then libRest (libCode l.cmd s.mramCode s)
        else
          let s := overL s.libDies (fun d s => storeImage d l.cmd s) s
          if l.cmd == Cmd.reload then overL s.libDies (fun d s => stageReload d l.cmdAx s) s
          else if l.cmd == Cmd.storeUd then
            libRest (overL s.libDies (fun d s =>
              refreshVersions d (s.modN d (fun v => { v with userdef := (s.c d).lib.slot }))) s)
          else loadStored s
      else s)) ∧
  (∀ (s : State),
    exec .libConfigApply s = .next (
      if s.runs 0 && s.dev == Dev.config && !s.rcIsHeld && s.get 0 F.LIB_STAT_STATE == Ls.idle && s.fwEntered then
        let s := configPick (storesAgree s)
        let s := onlyIf (s.anyMark && !s.flag 0 F.LIB_STAT_K4) (holdStart (slotAddr (s.n 0).active) Lc.unusable) s
        let s := overN 2 (fun d s => s.modLib d (fun l => { l with done := !(s.c 0).lib.held })) s
        configEnds s
      else overN 2 (fun d s => if s.rejoinApply d then rejoinApplyOn d s else s) s)) ∧
  (∀ (s : State) (news : SlotMap),
    exec (.reloadTransfer news) s = .next (
      
      let ax := s.get 0 F.LIB_RELST_AX
      let at_ := (s.c 0).lib.xferAt
      if s.runs 0 && s.flag 0 F.LIB_RELST_STAGED && ax < 6 && at_ != 0 && s.now 0 < at_ + 2000 &&
          s.libDies.all (fun d => s.enginesIdle d ax) && !s.axisMoving ax then
        overL s.libDies (fun d s => transferOn d ax news s) s
      else s)) ∧
  (∀ (s : State),
    exec .acceptWindowExpiry s = .next (
      overN 2 (fun d s =>
        if s.runs d && s.flag d F.LIB_STAT_WATCH &&
            (s.c d).lib.watchFrom + 400000000 * s.get d F.LIB_WATCH_WIN ≤ s.now d then watchClose d s else s) s)) ∧
  (∀ (s : State), exec .directoryWriteRetry s = .next (revertIfDue (dirRetryAll s))) ∧
  (∀ s : State, s.runs 0 = true → s.runs 1 = false → s.flag 0 F.LIB_STAT_WATCH = true →
    (s.c 0).lib.watchFrom + 400000000 * s.get 0 F.LIB_WATCH_WIN ≤ s.now 0 →
    exec .acceptWindowExpiry s = .next (watchClose 0 s))

/-- At a link end of a die that runs: FLIT_RECEIVE asks again for a bad flit, and takes a good one: IDLE takes no effect,
NAK is obeyed, any other is delivered once, in its order (R134, R135). NAK_RECEIVE resends from the named flit, counts the
retry and cancels a handover for which it comes too late (R135, R144). LINK_LOST where a cause of R136 holds is reported
by a C die, and makes a D die an orphan whose owner is at the other end. LINK_RETRAINED brings the link up again at a C
die, where the far die can be reached, and restores a D die that has reset outside a package reset (R136, R337). TIME_LOAD
loads the named time once the count, corrected by the link's delay, has reached it, and a C die that rejoins goes on
(R139, R104). TIME_SYNC_SEND, 1 µs after the last on a running fabric clock, sends a TIME flit to every owned D die and
from C0 to C1. TIME_SYNC_RECEIVE does nothing within one count, and otherwise reloads the stage time and sets SLIP (R139).
RESET_NOTICE_RECEIVE gives its D die the notice of R75. Points the spec leaves open: log entries 45, 46.
(03_supplies_clocks_reset, 06_headrace_cue_matrix.) -/
def Obligations.HeadraceLinkCommands : Prop :=
  (∀ (s : State) (i : DieIx) (n : Fin 7) (w : BitVec 64), s.hasLink i.val n.val = true → s.dieRuns i.val = true →
    let u := s.modLink i.val n.val (fun l => { l with goodAt := (s.stageOf i.val).toNat })
    (flitOk w.toNat = false → exec (.flitReceive i n w) s = .next (flitBad i.val n.val s)) ∧
    (flitOk w.toNat = true → flitType w.toNat = Fl.idle → exec (.flitReceive i n w) s = .next u) ∧
    (flitOk w.toNat = true → flitType w.toNat = Fl.nak →
      exec (.flitReceive i n w) s = .next (nakGot i.val n.val (flitPayload w.toNat % 16) u)) ∧
    (flitOk w.toNat = true → flitType w.toNat ≠ Fl.idle → flitType w.toNat ≠ Fl.nak →
      exec (.flitReceive i n w) s = .next
        (if flitSeq w.toNat == (u.link i.val n.val).rxSeq then deliver i.val n.val w.toNat u else u))) ∧
  (∀ (s : State) (i : DieIx) (n : Fin 7) (seq : Fin 16), s.hasLink i.val n.val = true → s.dieRuns i.val = true →
    exec (.nakReceive i n seq) s = .next (nakGot i.val n.val seq.val s)) ∧
  (∀ (s : State) (i : DieIx) (n : Fin 7), s.hasLink i.val n.val = true → s.dieRuns i.val = true →
    exec (.linkLost i n) s = .next (
      if !s.lossHolds i.val n.val then s
      else if i.val < 2 then linkLostAt i.val n.val s
      else if s.owner (i.val - 2) == n.val then orphanEntry (i.val - 2) s
      else s)) ∧
  (∀ (s : State) (i : DieIx) (n : Fin 7), s.hasLink i.val n.val = true → s.dieRuns i.val = true →
    exec (.linkRetrained i n) s = .next (
      let far := farEnd i.val n.val
      let up := if far < 2 then s.runs far && s.fabric far else s.runsD (far - 2)
      if i.val < 2 then (if up && s.fabric i.val then retrain i.val n.val s else s)
      else linkFresh i.val n.val s)) ∧
  (∀ (s : State) (i : DieIx) (n : Fin 7), s.hasLink i.val n.val = true → s.dieRuns i.val = true →
    ((s.link i.val n.val).timeT = none → exec (.timeLoad i n) s = .next s) ∧
    (∀ v, (s.link i.val n.val).timeT = some v → s.timeReached i.val n.val v = false → exec (.timeLoad i n) s = .next s) ∧
    (∀ v, (s.link i.val n.val).timeT = some v → s.timeReached i.val n.val v = true → 2 ≤ i.val →
      exec (.timeLoad i n) s = .next ((setStage i.val (BitVec.ofNat 64 v) s).modLink i.val n.val
        (fun l => { l with timeT := none }))) ∧
    (∀ v, (s.link i.val n.val).timeT = some v → s.timeReached i.val n.val v = true → i.val < 2 →
      ∃ t, exec (.timeLoad i n) s = .next t ∧
        let u := (setStage i.val (BitVec.ofNat 64 v) s).modLink i.val n.val (fun l => { l with timeT := none })
        (n.val ≠ 0 ∨ u.get i.val F.HDR_RC_STATUS_ROLE ≠ 3 → t = u))) ∧
  (∀ (s : State) (d : CDie), s.runs d.val = true →
    exec (.timeSyncSend d) s = .next (
      if s.fabric d.val && decide ((s.c d.val).hdr.syncAt + 400 ≤ s.now d.val) then
        let t := s.now d.val % 2 ^ 43
        let now := s.now d.val
        let s := s.modHdr d.val (fun h => { h with syncAt := now })
        let s := overN 6 (fun k s =>
          if s.owns d.val k && s.linkD d.val k then sendFlit d.val (k + 1) Fl.time t s else s) s
        if d.val == 0 && s.hasC 1 && s.linkC 0 then sendFlit 0 0 Fl.time t s else s
      else s)) ∧
  (∀ (s : State) (i : DieIx) (n : Fin 7) (t : BitVec 43), s.hasLink i.val n.val = true → s.dieRuns i.val = true →
    exec (.timeSyncReceive i n t) s = .next (timeSync i.val n.val t.toNat s)) ∧
  (∀ (s : State) (k : DDie), s.runsD k.val = true → exec (.resetNoticeReceive k) s = .next (noticeGot k.val s))

/-- REMOTE_WRITE through a DRV or peer-die window is the store to that address; REMOTE_READ issues a core's read through
one (R33, R138). REMOTE_READ to a D die whose link is down reports LINK_DOWN and raises a bus error. REMOTE_READ_RESPONSE
gives the core its data, or reports REMOTE_ERR and raises a bus error; for index 4 it answers a takeover's readback (R138,
R145). REMOTE_READ_TIMEOUT of a read under way reports TIMEOUT and raises a bus error on its core. CUE_SOURCE_EVENT fires
its source: a source of a D die at its owner alone, a cue terminal not while its bank is low (R146, R147, R53);
SOFTWARE_CUE fires the source 0xCC + its value (R149). CUE_ARRIVAL takes the oldest due cue to its destination off its way
and acts there; a cross-die cue that is late or bad is counted, and a bad one is dropped (R137, R146). Points the spec
leaves open: log entries 48, 55, 44. (01_architecture, 06_headrace_cue_matrix.) -/
def Obligations.RemoteAndCueCommands : Prop :=
  (∀ (s : State) (d : CDie) (m : Master) (addr : Word) (v : Word), s.runs d.val = true →
    exec (.remoteWrite d m addr v) s = .next (if (windowDie addr.toNat).isSome then storeAt d.val m addr.toNat v s else s)) ∧
  (∀ (s : State) (d : CDie) (k : Fin 4) (machine : Bool) (addr : Word), s.runs d.val = true →
    exec (.remoteRead d k machine addr) s = .next (remoteRead d.val k machine addr.toNat s)) ∧
  (∀ (s : State) (d : CDie) (c : Fin 4) (mm : Bool) (k : DDie), s.runs d.val = true → s.hasD k.val = true →
    s.linkD d.val k.val = false → ((s.c d.val).hdr.reads.at c.val).active = false →
    exec (.remoteRead d c mm (BitVec.ofNat 32 (drvAddr k.val 0))) s =
      .next (busTrap d.val (.core c mm) (drvAddr k.val 0) false
        (accErr d.val Acc.linkDown (dix k.val) 0 (drvAddr k.val 0) false s))) ∧
  (∀ (s : State) (d : CDie) (c : Fin 5) (mm ok : Bool), s.runs d.val = true →
    (c.val = 4 → exec (.remoteReadResponse d c mm ok) s = .next (takeAnswer d.val ok s)) ∧
    (∀ k : Fin 4, c.val = k.val → let r := (s.c d.val).hdr.reads.at k.val
      ((r.active = false ∨ r.rsp = none) → exec (.remoteReadResponse d c mm ok) s = .next s) ∧
      (∀ x, r.active = true → r.rsp = some (x, 0) → exec (.remoteReadResponse d c mm ok) s =
        .next ((readEnd d.val k.val s).modSys d.val (fun y => { y with rdata := BitVec.ofNat 32 x }))) ∧
      (∀ x e, r.active = true → r.rsp = some (x, e) → e ≠ 0 → exec (.remoteReadResponse d c mm ok) s =
        .next (busTrap d.val (.core k mm) r.addr false (accErr d.val Acc.remoteErr r.die e r.addr false
          (readEnd d.val k.val s)))))) ∧
  (∀ (s : State) (d : CDie) (k : Fin 4) (machine : Bool), s.runs d.val = true →
    exec (.remoteReadTimeout d k machine) s = .next (
      let r := (s.c d.val).hdr.reads.at k.val
      if r.active then
        busTrap d.val (.core k machine) r.addr false
          (readEnd d.val k.val (accErr d.val Acc.timeout r.die 0 r.addr false s))
      else s)) ∧
  (∀ (s : State) (d : CDie) (src : Byte), s.runs d.val = true →
    exec (.cueSourceEvent d src) s = .next (
      match cueSrcDie src.toNat with
      | none => if cueSrcGpc src.toNat && (s.c d.val).sys.vioCLow then s else fireCue d.val src.toNat s
      | some k => if s.owns d.val k then fireCue d.val src.toNat s else s)) ∧
  (∀ (s : State) (d : CDie) (v : Fin 4), s.runs d.val = true →
    exec (.softwareCue d v) s = .next (
      let s := tkDisturb d.val (own F.CUE_SWTRIG.off) .debug s
      fireCue d.val (0xCC + v.val) s)) ∧
  (∀ (s : State) (d : CDie) (dst : Byte) (late bad : Bool), s.runs d.val = true →
    (s.cueTo d.val dst.toNat = none → exec (.cueArrival d dst late bad) s = .next s) ∧
    (∀ c, s.cueTo d.val dst.toNat = some c → s.now d.val < c.due → exec (.cueArrival d dst late bad) s = .next s) ∧
    (∀ c, s.cueTo d.val dst.toNat = some c → c.due ≤ s.now d.val →
      let u := s.modHdr d.val (fun h => { h with cues := h.cues.erase c })
      (c.cross = false → exec (.cueArrival d dst late bad) s = .next (cueAct d.val dst.toNat u)) ∧
      (c.cross = true → bad = true → exec (.cueArrival d dst late bad) s = .next (cueLate d.val u)) ∧
      (c.cross = true → bad = false → (late = true ∨ c.crowded = true ∨ c.due < s.now d.val) →
        exec (.cueArrival d dst late bad) s = .next (cueAct d.val dst.toNat (cueLate d.val u)))))

/-- HANDOVER and TAKE are the writes of HDR_HO_CMD with their operation and die; released by the two keys (in a state that
meets the invariant of EveryStepKeepsTheState) they start, or are refused with their code (R140, R145). HO_OFFER_RECEIVE
takes the offer of the owner and begins the mirror, none for a static handover; HO_READY_RECEIVE by B − 2 µs sends
HO_COMMIT; HO_READY_DEADLINE past it cancels with READY_LATE (R141, R143, R144). HO_COMMIT_RECEIVE by B − 500 ns arms the
D die for B. HANDOVER_BOUNDARY switches a D die that holds a commit once its stage time has come to B, and does nothing to
another (R141, R142). HO_DONE_RECEIVE reports completion. HO_CANCEL cancels for a cause that holds, and does nothing for
one that does not (R144); HO_CANCEL_RECEIVE withdraws the commit (R361). TAKE_RECEIVE accepts the first TAKE of an orphan,
and answers any other with NOT_ORPHAN (R145). Points the spec leaves open: log entries 49, 50, 52, 53. (05_libretto,
06_headrace_cue_matrix, 13_dc_link_safe_states.) -/
def Obligations.HandoverCommands : Prop :=
  (∀ (s : State) (d : CDie) (m : Master) (k : Fin 8), s.runs d.val = true →
    exec (.handover d m k) s = .next (hoCmdWrite d.val m (BitVec.ofNat 32 (k.val + 16)) s)) ∧
  (∀ (s : State) (d : CDie) (m : Master) (k : Fin 8), s.runs d.val = true →
    exec (.take d m k) s = .next (hoCmdWrite d.val m (BitVec.ofNat 32 (k.val + 32)) s)) ∧
  (∀ (s : State) (d : CDie), s.runs d.val = true →
    exec (.hoOfferReceive d) s = .next (
      let h := (s.c (1 - d.val)).hdr.ho
      if s.runs (1 - d.val) && h.active && !h.taking && !(s.c d.val).hdr.offer.active && s.linkC d.val then
        let s := s.modHdr d.val (fun x => { x with offer := ⟨true, h.die, h.static, h.b⟩ })
        if h.static then s else mirrorBegin d.val (s.mateAxes h.die) s
      else s)) ∧
  (∀ (s : State) (d : CDie), s.runs d.val = true →
    exec (.hoReadyReceive d) s = .next (
      let h := (s.c d.val).hdr.ho
      if h.active && !h.taking && s.get d.val F.HDR_HO_STAT_STATE == 1 && (s.c (1 - d.val)).hdr.offer.active &&
          s.linkC d.val && s.hoReady d.val && decide (s.now d.val + 800 ≤ h.b) then
        let s := tellFlit (1 - d.val) 0 Fl.own (ownPayload Own.ready h.die h.b) s
        let s := overL (s.mates h.die) (fun j s => tellFlit d.val (j + 1) Fl.own (ownPayload Own.commit j h.b) s) s
        s.put d.val F.HDR_HO_STAT_STATE 2
      else s)) ∧
  (∀ (s : State) (d : CDie), s.runs d.val = true →
    exec (.hoReadyDeadline d) s = .next (
      if (s.c d.val).hdr.ho.active && s.get d.val F.HDR_HO_STAT_STATE == 1 &&
          decide ((s.c d.val).hdr.ho.b < s.now d.val + 800) then hoCancel d.val Ho.readyLate s else s)) ∧
  (∀ (s : State) (k : DDie), s.runsD k.val = true →
    exec (.hoCommitReceive k) s = .next (
      let d := s.owner k.val
      let h := (s.c d).hdr.ho
      let st := s.get d F.HDR_HO_STAT_STATE
      if s.reaches d k.val && s.runs d && h.active && !h.taking && (st == 2 || st == 3) && (s.mates h.die).contains k.val &&
          decide (s.now d + 200 ≤ h.b) then
        (s.modD k.val (fun x => { x with commit := some (1 - d, h.b, h.static) })).put d F.HDR_HO_STAT_STATE 3
      else s)) ∧
  (∀ (s : State) (k : DDie), s.runsD k.val = true →
    exec (.handoverBoundary k) s = .next (
      match (s.dd k.val).commit with
      | none => s
      | some (e, b, st) => if (s.dd k.val).stage.toNat < b then s else switchAt k.val e b st s)) ∧
  (∀ (s : State) (d : CDie) (k : DDie), s.runs d.val = true → s.hasD k.val = true →
    exec (.hoDoneReceive d k) s = .next (if s.doneDue d.val k.val && s.linkD d.val k.val then hoDone d.val k.val s else s)) ∧
  (∀ (s : State) (d : CDie) (code : Fin 14), s.runs d.val = true →
    exec (.hoCancel d code) s = .next (
      let h := (s.c d.val).hdr.ho
      let as := s.mateAxes h.die
      let holds := match code.val with
        | 5 => as.any (fun a => s.inCurtain d.val a)
        | 6 => !h.static && !((s.mateGroups d.val h.die).all (fun g => s.isBoundary d.val g (h.b - s.now d.val)))
        | 7 => s.get d.val F.HDR_HO_STAT_STATE == 1 && decide (h.b < s.now d.val + 800)
        | 8 => !s.linkC d.val || (s.mates h.die).any (fun j => !s.linkD d.val j || !(s.link d.val (j + 1)).resend.isEmpty) ||
            !(s.link d.val 0).resend.isEmpty
        | 9 => (s.mates h.die).any (fun j => s.flag (dix j) F.DRV_D_STAT_LOCKOUT || s.flag (dix j) F.DRV_D_STAT_SLUICE ||
            s.flag (dix j) F.DRV_D_EVT_SC || s.flag (dix j) F.DRV_D_EVT_SHUNTFB)
        | 10 => as.any (fun a => (s.pairsOf d.val a).any (fun p => s.tripHeld d.val p))
        | 12 => h.static && as.any (fun a => s.enabled d.val a)
        | _ => false
      if holds then hoCancel d.val code.val s else s)) ∧
  (∀ (s : State) (d : CDie) (k : DDie), s.hasC d.val = true → s.runsD k.val = true →
    exec (.hoCancelReceive d k) s = .next (
      if bit (s.c d.val).hdr.cancelDue k.val && s.linkD d.val k.val then
        let s := s.modHdr d.val (fun x => { x with cancelDue := setBit x.cancelDue k.val false })
        s.modD k.val (fun x => { x with commit := none })
      else s)) ∧
  (∀ (s : State) (d : CDie) (k : DDie), s.hasC d.val = true → s.runsD k.val = true →
    exec (.takeReceive d k) s = .next (
      let h := (s.c d.val).hdr.ho
      if s.runs d.val && h.active && h.taking && !h.restoring && h.die == k.val && s.linkD d.val k.val then
        if s.orphan k.val && (s.dd k.val).takenBy.isNone then s.modD k.val (fun x => { x with takenBy := some d.val })
        else if (s.dd k.val).takenBy == some d.val then s
        else takeCancel d.val Ho.notOrphan (tellFlit (dix k.val) d.val Fl.own (ownPayload Own.notOrphan k.val 0) s)
      else s)) ∧
  (∀ (s : State) (d : CDie) (m : Master) (k : Fin 8), s.wf = true → s.runs d.val = true → m.safety = true →
    s.tkReady d.val 0x400A0210 = true →
    let fin := fun (v : Nat) (u : State) => Host.Outcome.next (φ := Fault) (ρ := Refusal)
      (tkDone d.val 0x400A0210 (s.reg d.val 0xA0210) (newWord d.val 0xA0210 (s.reg d.val 0xA0210) (BitVec.ofNat 32 v)) u)
    (s.hoRefusal d.val k.val = 0 → exec (.handover d m k) s = fin (k.val + 16) (hoStart d.val k.val false false s)) ∧
    (s.hoRefusal d.val k.val ≠ 0 → exec (.handover d m k) s = fin (k.val + 16)
      ((s.put d.val F.HDR_HO_STAT_CODE (s.hoRefusal d.val k.val)).put d.val F.HDR_HO_STAT_DIE k.val)))

/-- ADC_SEQUENCE_START of an enabled group begins a sequence with its entries, step 0 at once, or is dropped with OVERRUN
while it, a burst or a calibration or capture has the group (R152, R154). ADC_SWTRIG_STOP ends the running bursts it names
(R155). ADC_STEP_SAMPLE takes the entries of its step once its edge has come and slices are free for them (R153).
ADC_CONVERSION_DONE corrects, scales and writes the result with tag, FRESH, SAT, CLIP and LATE (R156, R162, R166).
ADC_BURST_SAMPLE of a running burst puts its result into the FIFO, or loses it with FIFO_OVF when that is full, and ends
the burst at BCOUNT samples (R155). ADC_FIFO_READ returns and removes the oldest result; ADC_RESULT_READ returns the
result and clears FRESH (R155, R172). Points the spec leaves open: log entries 22, 56. (07_adc.) -/
def Obligations.ConverterCommands : Prop :=
  (∀ (s : State) (d : CDie) (g : Fin 4) (q : Fin 4), s.runs d.val = true →
    exec (.adcSequenceStart d g q) s = .next (seqStart d.val g.val q.val s)) ∧
  (∀ (s : State) (d : CDie) (g : Fin 4) (mask : Fin 16), s.runs d.val = true →
    exec (.adcSwtrigStop d g mask) s = .next (
      let s := tkDisturb d.val (own (0x100020 + 0x4000 * g.val)) .debug s
      swtrigWrite d.val g.val (16 * mask.val) s)) ∧
  (∀ (s : State) (d : CDie) (g : Fin 4) (q : Fin 4) (n : Fin 16), s.runs d.val = true →
    exec (.adcStepSample d g q n) s = .next (stepSample d.val g.val q.val n.val s)) ∧
  (∀ (s : State) (d : CDie) (g : Fin 4) (e : Fin 64) (code : BitVec 14), s.runs d.val = true →
    exec (.adcConversionDone d g e code) s = .next (convDone d.val g.val e.val code.toNat s)) ∧
  (∀ (s : State) (d : CDie) (g : Fin 4) (code : BitVec 14), s.runs d.val = true →
    exec (.adcBurstSample d g code) s = .next (burstSample d.val g.val code.toNat s)) ∧
  (∀ (s : State) (d : CDie) (g : Fin 4), s.runs d.val = true → exec (.adcFifoRead d g) s = .next (fifoRead d.val g.val s)) ∧
  (∀ (s : State) (d : CDie) (g : Fin 4) (e : Fin 64), s.runs d.val = true →
    exec (.adcResultRead d g e) s = .next (resRead d.val g.val e.val s)) ∧
  (∀ (s : State) (d : CDie) (g q : Fin 4), s.runs d.val = true → s.flag d.val (F.ADC_AG_CTRL_EN g.val) = true →
    s.flag d.val (F.ADC_AG_STAT_GFAULT g.val) = false → s.get d.val (F.ADC_AG_SEQ_CFG_LEN g.val q.val) ≠ 0 →
    s.fabric d.val = true → (s.seqBusy d.val g.val q.val = true ∨ s.flag d.val (F.ADC_AG_STAT_CALBUSY g.val) = true) →
    exec (.adcSequenceStart d g q) s = .next (s.putBit d.val (F.ADC_AG_EVT_OVERRUN g.val) q.val true)) ∧
  (∀ (s : State) (d : CDie) (g : Fin 4) (code : BitVec 14) (q : Nat), s.runs d.val = true → s.fabric d.val = true →
    s.burstSeq d.val g.val = some q → 128 ≤ (s.ag d.val g.val).fifo.length → ∃ t,
      exec (.adcBurstSample d g code) s = .next t ∧ t.flag d.val (F.ADC_AG_EVT_FIFO_OVF g.val) = true ∧
      (t.ag d.val g.val).fifo = (s.ag d.val g.val).fifo) ∧
  (∀ (s : State) (d : CDie) (g : Fin 4), s.runs d.val = true → ∃ t, exec (.adcFifoRead d g) s = .next t ∧
    (t.c d.val).sys.rdata = s.reg d.val (F.ADC_AG_FIFO_VALUE g.val).off ∧
    (t.ag d.val g.val).fifo = (s.ag d.val g.val).fifo.drop 1) ∧
  (∀ (s : State) (d : CDie) (g : Fin 4) (e : Fin 64), s.runs d.val = true → exec (.adcResultRead d g e) s =
    .next ((s.modSys d.val (fun y => { y with rdata := s.reg d.val (F.ADC_AG_RES_VALUE g.val e.val).off })).put d.val
      (F.ADC_AG_RES_FRESH g.val e.val) 0))

/-- SHUNT_START raises the tag and converts, or begins a burst in BURST mode; less than 100 ns after the last accepted
start, during a burst or a capture it is dropped and counted (R157, R160, R161). SHUNT_CONVERSION_DONE frames the flit of
a set, or of up to three samples of a burst, for the owner at the sampling instant (R158, R159). VOLTAGE_START begins a
voltage set, or is dropped and counted while one runs; the automatic one at a multiple of 1 µs under VAUTO.
VOLTAGE_SET_FLIT sends VPH0 to VPH2, then VDC (R160). SHUNT_BURST_MODE_WRITE is the store to SHCCTRL through the DRV
window: MODE = BURST is refused while a served axis runs, and EN = 0 ends what converts (R160, R161). SHUNT_FLIT_RECEIVE
takes the first flit to its C die off its way, and an enabled intake takes it in (R159, R174). SHUNT_FIFO_READ returns and
removes the oldest burst result (R174). Points the spec leaves open: log entries 22, 57. (07_adc.) -/
def Obligations.ShuntCommands : Prop :=
  (∀ (s : State) (k : DDie), s.runsD k.val = true → exec (.shuntStart k) s = .next (shuntStart k.val s)) ∧
  (∀ (s : State) (k : DDie) (c0 c1 c2 : BitVec 12), s.runsD k.val = true →
    exec (.shuntConversionDone k c0 c1 c2) s = .next (shuntDone k.val c0.toNat c1.toNat c2.toNat s)) ∧
  (∀ (s : State) (k : DDie) (auto : Bool), s.runsD k.val = true →
    exec (.voltageStart k auto) s = .next (if auto then voltAuto k.val s else voltStart k.val s)) ∧
  (∀ (s : State) (k : DDie) (c0 c1 c2 : BitVec 12), s.runsD k.val = true →
    exec (.voltageSetFlit k c0 c1 c2) s = .next (voltFlit k.val c0.toNat c1.toNat c2.toNat s)) ∧
  (∀ (s : State) (d : CDie) (k : DDie) (v : Word), s.runs d.val = true → s.hasD k.val = true →
    exec (.shuntBurstModeWrite d k v) s = .next (
      let s := tkDisturb d.val (drvAddr k.val F.DRV_D_SHCCTRL_EN.off) .debug s
      drvStore d.val k.val F.DRV_D_SHCCTRL_EN.off v (shcctrlWrite k.val v) s)) ∧
  (∀ (s : State) (d : CDie) (k : DDie), s.runs d.val = true → s.hasD k.val = true →
    exec (.shuntFlitReceive d k) s = .next (shFlit d.val k.val s)) ∧
  (∀ (s : State) (d : CDie) (k : DDie), s.runs d.val = true → exec (.shuntFifoRead d k) s = .next (shFifoRead d.val k.val s)) ∧
  (∀ (s : State) (k : DDie), s.runsD k.val = true → s.flag (dix k.val) F.DRV_D_SHCCTRL_EN = true →
    s.orphan k.val = false → s.flag (dix k.val) F.DRV_D_SHCSTAT_BURST = false → s.shCapturing k.val = false →
    ((s.dd k.val).shunt.iAt = 0 → s.flag (dix k.val) F.DRV_D_SHCCTRL_MODE = false →
      exec (.shuntStart k) s = .next ((s.put (dix k.val) F.DRV_D_SHCSTAT_ITAG
        ((s.get (dix k.val) F.DRV_D_SHCSTAT_ITAG + 1) % 16)).modShunt k.val
          (fun x => { x with iBusy := true, iAt := (s.dd k.val).stage.toNat + 1 }))) ∧
    ((s.dd k.val).shunt.iAt ≠ 0 → (s.dd k.val).stage.toNat + 1 < (s.dd k.val).shunt.iAt + 40 →
      exec (.shuntStart k) s = .next ((shDrop k.val s).modShunt k.val (fun x => { x with iDropped := true, bDropped := true })))) ∧
  (∀ (s : State) (k : DDie), s.runsD k.val = true → s.flag (dix k.val) F.DRV_D_SHCCTRL_EN = true →
    s.orphan k.val = false → s.flag (dix k.val) F.DRV_D_SHCSTAT_BURST = false →
    (s.dd k.val).shunt.vBusy = false → exec (.voltageStart k false) s = .next ((s.put (dix k.val)
      F.DRV_D_SHCSTAT_VTAG ((s.get (dix k.val) F.DRV_D_SHCSTAT_VTAG + 1) % 16)).modShunt k.val
        (fun x => { x with vBusy := true, vHalf := false, vAt := (s.dd k.val).stage.toNat + 1 }))) ∧
  (∀ (s : State) (d : CDie) (k : DDie), s.runs d.val = true → ∃ t,
    exec (.shuntFifoRead d k) s = .next t ∧ (t.c d.val).sys.rdata = s.reg d.val (F.ADC_SH_FIFO_VALUE k.val).off ∧
    (t.c d.val).adc.shFifo.at k.val = ((s.c d.val).adc.shFifo.at k.val).drop 1)

/-- ADC_SELF_CALIBRATION_START in CONFIG begins the calibration of every running C die. ADC_SELF_CALIBRATION_DONE of a
running one takes the fail masks, retires failed slices, writes the constants, sets CALDONE unless a failure holds CONFIG,
and lets CONFIG end (R164, R99). ADC_GCTRL_CAL and ADC_GCTRL_ZCAP start, or are refused with their code (R165, R167,
R173). ZCAP_AT_STANDBY starts a capture in STANDBY while RDY_OFFS is 0 and no converter is busy. ZCAP_DEFERRED_START takes
an axis whose gates are off into the capture. ZCAP_DONE takes the offsets measured; with no axis left it ends the capture,
with ZCAPDONE and RDY_OFFS where every channel is within its limit, and with a record otherwise (R94, R167). Points the
spec leaves open: log entries 58, 59. (04_roll_call_startup, 07_adc.) -/
def Obligations.CalibrationCommands : Prop :=
  (∀ (s : State),
    exec .adcSelfCalibrationStart s = .next (
      if s.dev == Dev.config && s.runs 0 && !s.rcIsHeld then
        overN 2 (fun d s => if s.runs d then calBegin d s else s) s
      else s)) ∧
  (∀ (s : State) (d : CDie) (fails : BitVec 32) (dfails : BitVec 6), s.runs d.val = true →
    exec (.adcSelfCalibrationDone d fails dfails) s = .next (
      if s.flag d.val F.ADC_GSTAT_CALBUSY then
        let s := (s.put d.val F.ADC_GSTAT_CALFAIL 0).put d.val F.ADC_GSTAT_DCALFAIL 0
        let s := overN 4 (fun g s => groupCalDone d.val g (fails.toNat / 256 ^ g % 256) s) s
        let s := overN 6 (fun k s =>
          if s.owns d.val k then
            shuntCalDone k (bit dfails.toNat k) (s.putBit d.val F.ADC_GSTAT_DCALFAIL k (bit dfails.toNat k))
          else s) s
        let s := s.off d.val F.ADC_GSTAT_CALBUSY
        let failed := s.flag d.val F.ADC_GSTAT_CALFAIL || s.flag d.val F.ADC_GSTAT_DCALFAIL
        let s := if failed then s.put d.val F.ADC_GSTAT_CODE 5 else s
        let s := if failed && !s.flag d.val F.LIB_STAT_K4 then s else s.on d.val F.ADC_GSTAT_CALDONE
        configEnds s
      else s)) ∧
  (∀ (s : State) (d : CDie), s.runs d.val = true →
    exec (.adcGctrlCal d) s = .next (
      let s := tkDisturb d.val (own 0x110000) .debug s
      gctrlWrite d.val 1 s)) ∧
  (∀ (s : State) (d : CDie), s.runs d.val = true →
    exec (.adcGctrlZcap d) s = .next (
      let s := tkDisturb d.val (own 0x110000) .debug s
      gctrlWrite d.val 2 s)) ∧
  (∀ (s : State) (d : CDie), s.runs d.val = true →
    exec (.zcapAtStandby d) s = .next (if s.dev == Dev.standby && !s.flag d.val F.HDR_RC_STATUS_RDY_OFFS && !s.convBusy
      d.val then zcapBegin d.val s else s)) ∧
  (∀ (s : State) (d : CDie) (a : Axis), s.runs d.val = true →
    exec (.zcapDeferredStart d a) s = .next (
      if s.flag d.val F.ADC_GSTAT_ZCAPBUSY && bit (s.c d.val).adc.zWait a.val && !s.axisGatesOn d.val a.val then
        let s := s.modAdc d.val (fun x => { x with zWait := setBit x.zWait a.val false })
        let s := if (s.c d.val).adc.zWait == 0 then s.put d.val F.ADC_GSTAT_CODE 0 else s
        zRoundBegin d.val (setBit (s.c d.val).adc.zRound a.val true) s
      else s)) ∧
  (∀ (s : State) (d : CDie) (caps : Captures), s.runs d.val = true →
    exec (.zcapDone d caps) s = .next (
      if s.flag d.val F.ADC_GSTAT_ZCAPBUSY && (s.c d.val).adc.zRound != 0 then
        let s := zRoundEnd d.val (caps.foldl (fun s x => zCapture d.val x.1 x.2.1 x.2.2 s) s)
        if (s.c d.val).adc.zWait != 0 then s
        else
          let s := s.off d.val F.ADC_GSTAT_ZCAPBUSY
          if (s.c d.val).adc.zBad then
            note d.val Blk.adc 0x0072 2 0 (s.wd d.val F.ADC_GSTAT_CODE.off) 0 0 s
          else
            let s := (s.on d.val F.ADC_GSTAT_ZCAPDONE).modAdc d.val (fun x => { x with zOk := true })
            if decide (Dev.standby ≤ s.dev) && s.dev != Dev.recovery then readyItem d.val 0 s else s
      else s)) ∧
  (∀ s : State, s.dev = 4 → s.runs 0 = true → s.runs 1 = false → s.rcIsHeld = false →
    exec .adcSelfCalibrationStart s = .next (calBegin 0 s)) ∧
  (∀ (s : State) (d : CDie), s.runs d.val = true → s.flag d.val F.ADC_GSTAT_CALBUSY = true → s.dev ≠ 4 → ∃ t,
    exec (.adcSelfCalibrationDone d 0 0) s = .next t ∧ t.get d.val F.ADC_GSTAT_CALBUSY = 0 ∧
    t.get d.val F.ADC_GSTAT_CALDONE = 1 ∧ t.get d.val F.ADC_GSTAT_CALFAIL = 0 ∧ t.get d.val F.ADC_GSTAT_DCALFAIL = 0) ∧
  (∀ (s : State) (d : CDie), s.runs d.val = true → s.flag d.val F.LIB_TK_STAT_ARMED = false →
    (s.calRefusal d.val = 0 → exec (.adcGctrlCal d) s = .next (calBegin d.val (s.put d.val F.ADC_GSTAT_CODE 0))) ∧
    (s.calRefusal d.val ≠ 0 → exec (.adcGctrlCal d) s = .next (s.put d.val F.ADC_GSTAT_CODE (s.calRefusal d.val))) ∧
    (s.zcapRefusal d.val = 0 → exec (.adcGctrlZcap d) s = .next (zcapBegin d.val s)) ∧
    (s.zcapRefusal d.val ≠ 0 → exec (.adcGctrlZcap d) s = .next (s.put d.val F.ADC_GSTAT_CODE (s.zcapRefusal d.val))))

/-- BIST_START in BIST begins, or waits in a thermal hold with a sensor at 150 °C or more (R97, R414).
THERMAL_HOLD_RECHECK, 100 µs after the last reading, goes on below 135 °C. BIST_SLICE_DONE ends the slice that runs on its
die with a code of Table 15-3; BIST_SLICE_TIMEOUT fails a slice past its budget with TIMEOUT, and does nothing before
(R414). ROTATION_POINT, once PERIOD has passed, serves the next targets or skips them (R418, R168, R233).
ENGINE_HANDOVER_MOVE looks at the copied slot for an idle cycle (R233). IN_SERVICE_SLICE, once a frame from 10 µs after
its boundary, ends a slice of the unit under test, or names a working group's slice that has failed (R419, R169).
BIST_REQUEST is accepted, or refused with its code and REQREF (R420). Points the spec leaves open: log entries 105, 106.
(04_roll_call_startup, 07_adc, 09_loop_fabric, 15_bist_thermal.) -/
def Obligations.SelfTestCommands : Prop :=
  (∀ (s : State),
    exec .bistStart s = .next (
      if s.runs 0 && s.dev == Dev.bist && s.get 0 F.BIST_STAT_PHASE == 0 && s.get 0 F.HDR_RC_STATUS_HOLD == 0 then
        if s.anyAt 150 then modBist 0 (fun b => { b with holdAt := s.now 0 }) (s.put 0 F.HDR_RC_STATUS_HOLD 1) else bistBegin s
      else s)) ∧
  (∀ (s : State),
    exec .thermalHoldRecheck s = .next (
      if s.runs 0 && s.dev == Dev.bist && s.get 0 F.HDR_RC_STATUS_HOLD == 1 &&
          decide ((s.c 0).bist.holdAt + 40000 ≤ s.now 0) then
        if s.anyAt 135 then modBist 0 (fun b => { b with holdAt := s.now 0 }) s
        else bistBegin (s.put 0 F.HDR_RC_STATUS_HOLD 0)
      else s)) ∧
  (∀ (s : State) (i : DieIx) (code : Fin 6) (units : BitVec 64), s.hasDie i.val = true →
    exec (.bistSliceDone i code units) s = .next (sliceDone i.val code.val units.toNat s)) ∧
  (∀ (s : State) (i : DieIx), s.hasDie i.val = true →
    exec (.bistSliceTimeout i) s = .next (if s.sliceLate i.val then sliceOver i.val 2 (2 ^ 64 - 1) s else s)) ∧
  (∀ (s : State) (d : CDie), s.runs d.val = true →
    exec (.rotationPoint d) s = .next (if s.rotDue d.val then rotateFrom d.val 5 s else s)) ∧
  (∀ (s : State) (d : CDie), s.runs d.val = true → exec (.engineHandoverMove d) s = .next (engineMove d.val s)) ∧
  (∀ (s : State) (d : CDie) (code : Fin 6) (work : Fin 5), s.runs d.val = true →
    exec (.inServiceSlice d code work) s = .next (if work.val < 4 then groupFault d.val work.val s else serviceSlice d.val
      code.val s)) ∧
  (∀ (s : State) (d : CDie) (v : Word), s.runs d.val = true →
    exec (.bistRequest d v) s = .next (
      let s := tkDisturb d.val (own 0x30018) .debug s
      bistReqWrite d.val v s)) ∧
  (∀ s : State, s.runs 0 = true → s.dev = 3 → s.get 0 F.BIST_STAT_PHASE = 0 → s.get 0 F.HDR_RC_STATUS_HOLD = 0 →
    s.anyAt 150 = false → exec .bistStart s = .next (bistBegin s)) ∧
  (∀ s : State, s.runs 0 = true → s.dev = 3 → s.get 0 F.HDR_RC_STATUS_HOLD = 1 → s.anyAt 135 = false →
    (s.c 0).bist.holdAt + 40000 ≤ s.now 0 →
    exec .thermalHoldRecheck s = .next (bistBegin (s.put 0 F.HDR_RC_STATUS_HOLD 0))) ∧
  (∀ (s : State) (d : CDie) (t u : Nat) (xs : List (Nat × Nat)), s.runs d.val = true →
    (s.c d.val).bist.tests = (t, u) :: xs → s.get d.val F.BIST_ROTST_DONE + 1 < (if t = 0 then 10 else 6) →
    let b := (s.c d.val).prompt.lastBoundary
    (s.c d.val).bist.svcAt ≠ b + 1 → b + 4000 ≤ s.now d.val → s.now d.val ≤ b + 12000 →
    exec (.inServiceSlice d 0 4) s = .next ((modBist d.val (fun x => { x with svcAt := b + 1 }) s).put d.val
      F.BIST_ROTST_DONE (s.get d.val F.BIST_ROTST_DONE + 1)))

/-- On an interface that runs its clock and is not in block reset: FB_ENABLE is the write of CTRL with EN = 1: a
well-configured interface starts, otherwise CFGERR sets (R206). ENCODER_EDGE and HALL_STATE_CHANGE take the levels of A, B
and Z once they have stood longer than FILT fabric cycles (low while VIO_B is low): a count, QERR on a double change,
HALLERR on an invalid state (R180, R181, R183). ENCODER_INDEX takes an accepted rising Z: ZIDX, its cue, ZMODE and ZLATCH
(R182, R199). EXCITATION_PERIOD_START takes a new N and AMP where (stage time / 400) mod N is 0 (R184). OBSERVER_UPDATE
takes a resolver's samples into its sums, and updates angle, speed and status when 1 µs has passed (R185, R191 to R198).
SERIAL_FRAME_REQUEST starts a frame in SERIAL mode, or is dropped with SERBUSY or TIMEOUT (R188). SERIAL_FRAME_DONE, once
the frame's clocks have run, takes the position, or sets TIMEOUT, CRCERR or ERRBIT and drops the frame (R187, R189).
Points the spec leaves open: log entries 60, 62, 63, 64, 67. (08_position_feedback.) -/
def Obligations.FeedbackCommands : Prop :=
  (∀ (s : State) (d : CDie) (n : Fin 4) (v : Word), s.runs d.val = true →
    exec (.fbEnable d n v) s = .next (onlyIf (!s.bitOf d.val F.SYS_BRST_FB n.val) (fbCtrlWrite d.val n.val (v ||| 1#32))
      (tkDisturb d.val (own (0x200000 + 0x1000 * n.val)) .debug s))) ∧
  (∀ (s : State) (d : CDie) (n : Fin 4) (a b : Bool) (held : BitVec 8), s.runs d.val = true →
    exec (.encoderEdge d n a b held) s = .next (
      if s.bitOf d.val F.SYS_BRST_FB n.val || !s.bitOf d.val F.SYS_CLKGATE_FB n.val then s else
      levelsAt d.val n.val held.toNat (s.get d.val (F.FB_FB_STAT_HALL n.val) / 4 * 4 + b2n a + 2 * b2n b) s)) ∧
  (∀ (s : State) (d : CDie) (n : Fin 4) (held : BitVec 8), s.runs d.val = true →
    exec (.encoderIndex d n held) s = .next (
      if s.bitOf d.val F.SYS_BRST_FB n.val || !s.bitOf d.val F.SYS_CLKGATE_FB n.val then s else
      indexAt d.val n.val held.toNat s)) ∧
  (∀ (s : State) (d : CDie) (n : Fin 4) (st : Fin 8) (held : BitVec 8), s.runs d.val = true →
    exec (.hallStateChange d n st held) s = .next (
      if s.bitOf d.val F.SYS_BRST_FB n.val || !s.bitOf d.val F.SYS_CLKGATE_FB n.val then s else
      levelsAt d.val n.val held.toNat st.val s)) ∧
  (∀ (s : State) (d : CDie) (n : Fin 4), s.runs d.val = true →
    exec (.excitationPeriodStart d n) s = .next (
      if s.bitOf d.val F.SYS_BRST_FB n.val || !s.bitOf d.val F.SYS_CLKGATE_FB n.val then s else
      excPeriod d.val n.val s)) ∧
  (∀ (s : State) (d : CDie) (n : Fin 4) (sin cos : BitVec 14), s.runs d.val = true →
    exec (.observerUpdate d n sin cos) s = .next (
      if s.bitOf d.val F.SYS_BRST_FB n.val || !s.bitOf d.val F.SYS_CLKGATE_FB n.val then s else
      observerUpdate d.val n.val sin cos s)) ∧
  (∀ (s : State) (d : CDie) (n : Fin 4) (ready : Bool), s.runs d.val = true →
    exec (.serialFrameRequest d n ready) s = .next (
      if s.bitOf d.val F.SYS_BRST_FB n.val || !s.bitOf d.val F.SYS_CLKGATE_FB n.val then s else
      if s.fbMode d.val n.val != Fbm.serial then s
      else
        let st := setBit (s.get d.val (F.FB_FB_STAT_HALL n.val)) 1 (ready && !(s.c d.val).sys.vioBLow)
        serialRequest d.val n.val (fbLevels d.val n.val st s))) ∧
  (∀ (s : State) (d : CDie) (n : Fin 4) (raw : BitVec 64) (wait : Byte), s.runs d.val = true →
    exec (.serialFrameDone d n raw wait) s = .next (
      if s.bitOf d.val F.SYS_BRST_FB n.val || !s.bitOf d.val F.SYS_CLKGATE_FB n.val then s else
      serialDone d.val n.val raw.toNat wait.toNat s)) ∧
  (∀ (s : State) (d : CDie) (n : Fin 4) (held : Byte), s.runs d.val = true → s.bitOf d.val F.SYS_BRST_FB n.val = false →
    s.bitOf d.val F.SYS_CLKGATE_FB n.val = true → held.toNat ≤ s.get d.val (F.FB_FB_CFG_FILT n.val) →
    (∀ a b : Bool, exec (.encoderEdge d n a b held) s = .next s) ∧ exec (.encoderIndex d n held) s = .next s ∧
    ∀ st : Fin 8, exec (.hallStateChange d n st held) s = .next s) ∧
  (∀ (s : State) (d : CDie) (n : Fin 4), s.runs d.val = true → s.bitOf d.val F.SYS_BRST_FB n.val = false →
    s.bitOf d.val F.SYS_CLKGATE_FB n.val = true → s.fbRun d.val n.val = true → s.fbMode d.val n.val = Fbm.serial →
    (s.c d.val).sys.vioBLow = false → (s.fb d.val n.val).frameAt.isSome = true → ∃ t,
    exec (.serialFrameRequest d n true) s = .next t ∧ t.get d.val (F.FB_FB_EVT_SERBUSY n.val) = 1 ∧
    (t.fb d.val n.val).frameAt = (s.fb d.val n.val).frameAt)

/-- POSITION_LATCH latches the reported position, angle and speed with their time, SEQ and source, and requests a serial
frame, or joins the latch of the same fabric cycle; the one of an index needs ZLATCH (R199, R188). LATCH_STATUS_READ
returns LSTAT and clears NEW (R199). POSITION_READ shows the position at its instant, stores POSHI, FRAC, ANGLE and SPD
for the reading core and returns POSLO (R200). FB_FAULT_CLEAR clears FAULT and VALID, or is refused with CLRREF while
CONSEC is not 0 (R195). EMU_ENABLE starts an emulator with lines and a running source, or sets CFGERR (R201, R206).
EMU_STEP steps its output toward the target, one edge in 100 ns, shows the backlog, and sets SRCFAULT for a source that is
not valid (R201 to R203). Points the spec leaves open: log entries 65, 66. (08_position_feedback.) -/
def Obligations.LatchAndEmulatorCommands : Prop :=
  (∀ (s : State) (d : CDie) (n : Fin 4) (index : Bool), s.runs d.val = true →
    exec (.positionLatch d n index) s = .next (
      if s.bitOf d.val F.SYS_BRST_FB n.val || !s.bitOf d.val F.SYS_CLKGATE_FB n.val then s else
      if index then (if s.flag d.val (F.FB_FB_CFG_ZLATCH n.val) then posLatch d.val n.val 2 s else s)
      else latchCue d.val n.val (tkDisturb d.val (own (0x200000 + 0x1000 * n.val)) .debug s))) ∧
  (∀ (s : State) (d : CDie) (n : Fin 4), s.runs d.val = true →
    exec (.latchStatusRead d n) s = .next ((returnData d.val (s.reg d.val (F.FB_FB_LSTAT_SEQ n.val).off) s).off d.val
      (F.FB_FB_LSTAT_NEW n.val))) ∧
  (∀ (s : State) (d : CDie) (n : Fin 4) (m : Master), s.runs d.val = true →
    exec (.positionRead d n m) s = .next (posRead d.val n.val m.coreIx s)) ∧
  (∀ (s : State) (d : CDie) (n : Fin 4), s.runs d.val = true →
    exec (.fbFaultClear d n) s = .next (onlyIf (!s.bitOf d.val F.SYS_BRST_FB n.val) (fbEvtWrite d.val n.val
      (F.FB_FB_EVT_FAULT n.val).mask) (tkDisturb d.val (own (0x200010 + 0x1000 * n.val)) .debug s))) ∧
  (∀ (s : State) (d : CDie) (m : Fin 2) (v : Word), s.runs d.val = true →
    exec (.emuEnable d m v) s = .next (
      let s := tkDisturb d.val (own (0x208000 + 0x100 * m.val)) .debug s
      emuCtrlWrite d.val m.val (v ||| 1#32) s)) ∧
  (∀ (s : State) (d : CDie) (m : Fin 2), s.runs d.val = true → exec (.emuStep d m) s = .next (emuStep d.val m.val s)) ∧
  (∀ (s : State) (d : CDie) (n : Fin 4), s.runs d.val = true → s.bitOf d.val F.SYS_BRST_FB n.val = false →
    s.bitOf d.val F.SYS_CLKGATE_FB n.val = true → s.fbRun d.val n.val = true → s.fbMode d.val n.val ≠ Fbm.serial →
    s.flag d.val F.LIB_TK_STAT_ARMED = false →
    ((s.fb d.val n.val).latchAt ≠ s.now d.val + 1 → ∃ t, exec (.positionLatch d n false) s = .next t ∧
      t.get d.val (F.FB_FB_LSTAT_NEW n.val) = 1 ∧ t.get d.val (F.FB_FB_LSTAT_SRC n.val) = 1 ∧
      t.get d.val (F.FB_FB_LSTAT_SEQ n.val) = (s.get d.val (F.FB_FB_LSTAT_SEQ n.val) + 1) % 256 ∧
      t.get d.val (F.FB_FB_LSTLO n.val) = s.now d.val % 2 ^ 32) ∧
    ((s.fb d.val n.val).latchAt = s.now d.val + 1 → exec (.positionLatch d n false) s =
      .next (s.put d.val (F.FB_FB_LSTAT_SRC n.val) (s.get d.val (F.FB_FB_LSTAT_SRC n.val) ||| 1)))) ∧
  (∀ (s : State) (d : CDie) (n : Fin 4), s.runs d.val = true → s.bitOf d.val F.SYS_BRST_FB n.val = false →
    s.flag d.val F.LIB_TK_STAT_ARMED = false → s.flag d.val (F.FB_FB_EVT_FAULT n.val) = true →
    s.get d.val (F.FB_FB_ERRCNT_CONSEC n.val) ≠ 0 → ∃ t, exec (.fbFaultClear d n) s = .next t ∧
      t.get d.val (F.FB_FB_EVT_FAULT n.val) = s.get d.val (F.FB_FB_EVT_FAULT n.val) ∧
      t.get d.val (F.FB_FB_EVT_CLRREF n.val) = 1) ∧
  (∀ (s : State) (d : CDie) (m : Fin 2), s.runs d.val = true → s.flag d.val (F.FB_EMU_STAT_RUN m.val) = true →
    s.flag d.val (F.FB_FB_STAT_VALID (s.get d.val (F.FB_EMU_CTRL_SRC m.val))) = false →
    exec (.emuStep d m) s = .next (s.put d.val (F.FB_EMU_EVT_SRCFAULT m.val) 1))

/-- ENGINE_MODE_WRITE is the write of CFG: the other fields while MODE is OFF, and a MODE that passes the checks; one that
does not sets CFGERR (R214). ENGINE_START, where its trigger fits TRIG and TRIGD, the timer is due, or CTRL.START is
written, starts an idle ACTIVE engine: held writes, snapshots and presets, and the run; on a running one it counts an
overrun (R219, R220). ENGINE_RUN_END ends a run that has executed END or LEN steps (R212). WAITF_RESUME goes on with a new
snapshot where the stalled port has become fresh within WAITTMO; WAITF_TIMEOUT ends the run once the stall has lasted
WAITTMO cycles, and does nothing before (R221). HELD_WRITE_APPLY makes the held writes of an idle engine, unless HOLDK
holds them (R222). BANK_SWAP asks for a swap in STANDBY or with MODE OFF, and is refused with WRREF otherwise (R238).
TWIN_START runs a standby twin on the owner's snapshots (R235); a run that meets a memory error ends as R211 says. Points
the spec leaves open: log entries 69, 70. (09_loop_fabric.) -/
def Obligations.EngineCommands : Prop :=
  (∀ (s : State) (d : CDie) (n : Fin 63) (v : Word), s.runs d.val = true →
    exec (.engineModeWrite d n v) s = .next (
      let s := tkDisturb d.val (own (F.LOOP_LE_CFG_MODE n.val).off) .debug s
      engCfgWrite d.val n.val v s)) ∧
  (∀ (s : State) (d : CDie) (n : Fin 64) (kind : Fin 5) (k : Fin 8) (ecc : Fin 3) (atStep : Fin 129), s.runs d.val = true →
    exec (.engineStart d n kind k ecc atStep) s = .next (
      let s := onlyIf (kind.val == 4) (tkDisturb d.val (own (F.LOOP_LE_CTRL_START n.val).off) .debug) s
      if s.trigDue d.val n.val kind.val k.val then engineStartEcc d.val n.val ecc.val atStep.val s else s)) ∧
  (∀ (s : State) (d : CDie) (n : Fin 64), s.runs d.val = true →
    exec (.engineRunEnd d n) s = .next (if s.engRun d.val n.val && (s.eng d.val n.val).ended then runEnd d.val n.val s else
      s)) ∧
  (∀ (s : State) (d : CDie) (n : Fin 64), s.runs d.val = true →
    exec (.waitfResume d n) s = .next (
      let w := s.stepNow d.val n.val
      if s.flag d.val (F.LOOP_LE_STAT_WAIT n.val) && !s.waitfOver d.val n.val && s.fresh d.val n.val (w.a % 8) then
        waitfTake d.val n.val w s
      else s)) ∧
  (∀ (s : State) (d : CDie) (n : Fin 64), s.runs d.val = true →
    exec (.waitfTimeout d n) s = .next (if s.waitfOver d.val n.val then waitfEnd d.val n.val s else s)) ∧
  (∀ (s : State) (d : CDie) (n : Fin 64), s.runs d.val = true →
    exec (.heldWriteApply d n) s = .next (applyHeldW d.val n.val s)) ∧
  (∀ (s : State) (d : CDie) (n : Fin 63), s.runs d.val = true →
    exec (.bankSwap d n) s = .next (
      let s := tkDisturb d.val (own (F.LOOP_LE_CTRL_SWAP n.val).off) .debug s
      swapWrite d.val n.val s)) ∧
  (∀ (s : State) (d : CDie) (t : Fin 64) (ecc : Fin 3) (atStep : Fin 129), s.runs d.val = true →
    exec (.twinStart d t ecc atStep) s = .next (twinStart d.val t.val ecc.val atStep.val s)) ∧
  (∀ (s : State) (d : CDie) (n : Fin 64) (k : Fin 8) (e : Fin 3) (a : Fin 129), s.runs d.val = true →
    s.flag d.val F.LIB_TK_STAT_ARMED = false → n.val < 63 → s.get d.val (F.LOOP_LE_CFG_MODE n.val) = 1 →
    s.fabric d.val = true → s.flag d.val (F.LOOP_LE_EVT_ECCFAULT n.val) = false → s.engIdle d.val n.val = false →
    (s.eng d.val n.val).startAt ≠ s.now d.val + 1 →
    exec (.engineStart d n 4 k e a) s = .next (overrun d.val n.val s)) ∧
  (∀ (s : State) (d : CDie) (n : Fin 63) (v : Word), s.runs d.val = true → s.flag d.val F.LIB_TK_STAT_ARMED = false →
    s.loading = false → (F.LOOP_LE_CFG_MODE n.val).ofWord v = 3 → ∃ t, exec (.engineModeWrite d n v) s = .next t ∧
    t.get d.val (F.LOOP_LE_EVT_CFGERR n.val) = 1 ∧
    t.get d.val (F.LOOP_LE_CFG_MODE n.val) = s.get d.val (F.LOOP_LE_CFG_MODE n.val)) ∧
  (∀ (s : State) (d : CDie) (n : Fin 63), s.runs d.val = true → s.flag d.val F.LIB_TK_STAT_ARMED = false →
    s.dev ≠ Dev.standby → s.get d.val (F.LOOP_LE_CFG_MODE n.val) ≠ 0 → exec (.bankSwap d n) s =
      .next (s.on d.val (F.LOOP_LE_EVT_WRREF n.val)))

/-- CHANNEL_SOFTWARE_WRITE stores to a channel whose writer is software, visible in the next fabric cycle, and is refused
with WRREF for any other (R223, R224). MIRROR_CHANNEL_WRITE stores to a channel whose writer is the peer, over a link that
is up (R224). SETPOINT_WRITE sets the setpoint and raises its update count (R241). WEIR_EVALUATE evaluates a weir whose
evaluation is due (R226). WEIR_INPUT_STALE marks an input stale once STALE µs have passed since its last Y: STALE sets,
and the weir evaluates in the next cycle (R229). WEIR_MANUAL_VALUE_WRITE writes MAN.VALUE, and the weir evaluates in the
next cycle (R230). WEIR_ENABLE_WRITE writes CFG, and refuses an EN that would complete a loop or a tree of more than four
levels (R228). Points the spec leaves open: log entries 72, 69. (09_loop_fabric.) -/
def Obligations.WeirAndChannelCommands : Prop :=
  (∀ (s : State) (d : CDie) (c : Byte) (v : Word), s.runs d.val = true →
    exec (.channelSoftwareWrite d c v) s = .next (
      let s := tkDisturb d.val (own (F.LOOP_CH_VAL_VALUE c.toNat).off) .debug s
      chValWrite d.val c.toNat v s)) ∧
  (∀ (s : State) (d : CDie) (c : Byte) (v : BitVec 16), s.runs d.val = true →
    exec (.mirrorChannelWrite d c v) s = .next (if s.get d.val (F.LOOP_CH_CFG_WRITER c.toNat) == 0x7E && s.linkC d.val then
      chStore d.val c.toNat v.toNat s else s)) ∧
  (∀ (s : State) (d : CDie) (k : Fin 32) (v : Word), s.runs d.val = true →
    exec (.setpointWrite d k v) s = .next (
      let s := tkDisturb d.val (own (0x159000 + 4 * k.val)) .debug s
      spWrite d.val k.val v s)) ∧
  (∀ (s : State) (d : CDie) (w : Fin 64), s.runs d.val = true → exec (.weirEvaluate d w) s = .next (weirTurn d.val w.val s)) ∧
  (∀ (s : State) (d : CDie) (w : Fin 64) (j : Fin 4), s.runs d.val = true →
    exec (.weirInputStale d w j) s = .next (weirStaleAt d.val w.val j.val s)) ∧
  (∀ (s : State) (d : CDie) (w : Fin 64) (v : Word), s.runs d.val = true →
    exec (.weirManualValueWrite d w v) s = .next (
      let s := tkDisturb d.val (own (0x150004 + 0x100 * w.val)) .debug s
      weirWrite d.val w.val 4 v s)) ∧
  (∀ (s : State) (d : CDie) (w : Fin 64) (v : Word), s.runs d.val = true →
    exec (.weirEnableWrite d w v) s = .next (
      let s := tkDisturb d.val (own (0x150000 + 0x100 * w.val)) .debug s
      weirCfgWrite d.val w.val v s)) ∧
  (∀ (s : State) (d : CDie) (c : Byte) (v : Word), s.runs d.val = true → s.flag d.val F.LIB_TK_STAT_ARMED = false →
    s.get d.val (F.LOOP_CH_CFG_WRITER c.toNat) ≠ 0x7F → exec (.channelSoftwareWrite d c v) s =
      .next (s.on d.val F.LOOP_GEVT_WRREF)) ∧
  (∀ (s : State) (d : CDie) (w : Fin 64) (v : Word), s.runs d.val = true → s.flag d.val F.LIB_TK_STAT_ARMED = false →
    let en := F.LOOP_WR_CFG_EN w.val
    let man := fun (t : State) => onlyIf (t.flag d.val (F.LOOP_WR_CFG_MANEN w.val) &&
      !s.flag d.val (F.LOOP_WR_CFG_MANEN w.val)) (weirMan d.val w.val) t
    en.ofWord v = 1 → s.flag d.val en = false → s.loading = false →
    (man (plainWrite d.val en.off v true s)).treeOk d.val = false → exec (.weirEnableWrite d w v) s =
      .next ((plainWrite d.val en.off (en.into v 0) true s).on d.val (F.LOOP_WR_EVT_WRREF w.val)))

/-- WEIR_EVALUATE of an enabled weir whose evaluation is due and whose manual station does not act answers a next state in
which OUT.VALUE is the lowest of the values with which its enabled inputs take part, and 0x7FFF (full scale) and EMPTY
with no input enabled; SEL names the lowest of the inputs with that value (R226, R229). Points the spec leaves open: log
entry 72. (09_loop_fabric.) -/
def Obligations.WeirSelectsTheLowestInput : Prop :=
  ∀ (s : State) (d : CDie) (w : Fin 64), s.runs d.val = true → s.flag d.val (F.LOOP_WR_CFG_EN w.val) = true →
    (s.c d.val).loop.weirDue.contains w.val = true → s.flag d.val (F.LOOP_WR_CFG_MANEN w.val) = false →
    ∃ t, exec (.weirEvaluate d w) s = .next t ∧
      ((∀ j < 4, s.weirIn d.val w.val j = false) →
        t.geti d.val (F.LOOP_WR_OUT_VALUE w.val) = 0x7FFF ∧ t.get d.val (F.LOOP_WR_OUT_EMPTY w.val) = 1) ∧
      (∀ j < 4, s.weirIn d.val w.val j = true →
        (∀ i < 4, s.weirIn d.val w.val i = true → s.weirY d.val w.val j ≤ s.weirY d.val w.val i) →
        (∀ i < j, s.weirIn d.val w.val i = true → s.weirY d.val w.val j < s.weirY d.val w.val i) →
        t.geti d.val (F.LOOP_WR_OUT_VALUE w.val) = s.weirY d.val w.val j ∧
        t.get d.val (F.LOOP_WR_OUT_SEL w.val) = j ∧ t.get d.val (F.LOOP_WR_OUT_EMPTY w.val) = 0)

/-- FIELD_START, FIELD_STOP, FIELD_DISABLE and FIELD_BAD_CMD are the writes of CMD with their value: START of an IDLE axis
that passes its checks begins the catch or engages, and otherwise reports its code; STOP of a running axis enters
STOPPING; DISABLE turns the axis off; any other value is refused with BAD_CMD; in a curtain every one is refused with
AXIS_CURTAIN; the second command of one fabric cycle is not acted on (R260, R261). SPSET_WRITE takes the setpoint; in a
motor's RUN or REVERSING one against the direction of the speed reverses the axis, or is refused with code 3 where there
is no energy path (R265, R266). GRID_LOCK of a LINE3 axis whose PLL has been within LOCKTOL for 100 ms sets LOCK;
GRID_LOSS after 1 ms beyond it clears LOCK and, in RUN, latches GRIDLOSS (R258). BATTERY_TEMP_STALE, TMO × 10 ms after the
last temperature, marks the bus and its axes stale (R269). BUS_BATTERY_WRITE is the two-key write of BATT, BCFG and
refuses limits that R276 refuses. Points the spec leaves open: log entries 78, 80, 24. (10_field_control.) -/
def Obligations.FieldCommands : Prop :=
  (∀ (s : State) (d : CDie) (a : Axis), s.runs d.val = true →
    exec (.fieldStart d a) s = .next (
      let s := tkDisturb d.val (own (0x180000 + 0x1000 * a.val)) .debug s
      fieldCommand d.val a.val 1 s)) ∧
  (∀ (s : State) (d : CDie) (a : Axis), s.runs d.val = true →
    exec (.fieldStop d a) s = .next (
      let s := tkDisturb d.val (own (0x180000 + 0x1000 * a.val)) .debug s
      fieldCommand d.val a.val 2 s)) ∧
  (∀ (s : State) (d : CDie) (a : Axis), s.runs d.val = true →
    exec (.fieldDisable d a) s = .next (
      let s := tkDisturb d.val (own (0x180000 + 0x1000 * a.val)) .debug s
      fieldCommand d.val a.val 3 s)) ∧
  (∀ (s : State) (d : CDie) (a : Axis) (op : Fin 5), s.runs d.val = true →
    exec (.fieldBadCmd d a op) s = .next (
      let s := tkDisturb d.val (own (0x180000 + 0x1000 * a.val)) .debug s
      fieldCommand d.val a.val (if op.val = 0 then 0 else op.val + 3) s)) ∧
  (∀ (s : State) (d : CDie) (a : Axis) (v : Word), s.runs d.val = true →
    exec (.spsetWrite d a v) s = .next (
      let s := tkDisturb d.val (own (0x18001C + 0x1000 * a.val)) .debug s
      spsetWrite d.val a.val v s)) ∧
  (∀ (s : State) (d : CDie) (a : Axis), s.runs d.val = true →
    exec (.gridLock d a) s = .next (
      if s.axType d.val a.val == 3 && (s.axr d.val a.val).gridGood == 100000 then
        endActive d.val Fg.grid a.val (fieldStatus d.val a.val (s.on d.val (F.FIELD_AX_GRIDST_LOCK a.val)))
      else s)) ∧
  (∀ (s : State) (d : CDie) (a : Axis), s.runs d.val = true →
    exec (.gridLoss d a) s = .next (
      if s.axType d.val a.val == 3 && s.flag d.val (F.FIELD_AX_GRIDST_LOCK a.val) && (s.axr d.val a.val).gridBad == 1000 then
        let s := s.off d.val (F.FIELD_AX_GRIDST_LOCK a.val)
        if s.phase d.val a.val == Ph.run then
          latchFault d.val Fg.grid a.val true (s.on d.val (F.FIELD_AX_EVT_GRIDLOSS a.val))
        else s
      else s)) ∧
  (∀ (s : State) (d : CDie) (b : Fin 3), s.runs d.val = true →
    exec (.batteryTempStale d b) s = .next (
      if s.flag d.val (F.FIELD_BUS_BCFG_EN b.val) && decide ((s.c d.val).loop.battAt.at b.val +
          s.get d.val (F.FIELD_BUS_BCFG_TMO b.val) * 4000000 ≤ s.now d.val + 1) then
        let s := s.on d.val (F.FIELD_BUS_BST_STALE b.val)
        let s := overN 6 (fun a s =>
          if s.axType d.val a != 0 && s.get d.val (F.FIELD_AX_CFG_BUS a) == b.val then s.on d.val (F.FIELD_AX_EVT_BSTALE a)
          else s) s
        battRefresh d.val b.val s
      else s)) ∧
  (∀ (s : State) (d : CDie) (m : Master) (b : Fin 3) (j : Fin 2) (v : Word), s.runs d.val = true →
    exec (.busBatteryWrite d m b j v) s = .next (busWrite d.val m b.val j.val v s)) ∧
  (∀ (s : State) (d : CDie) (a : Axis), s.runs d.val = true → s.flag d.val F.LIB_TK_STAT_ARMED = false →
    (s.axr d.val a.val).cmdAt ≠ s.now d.val + 1 →
    let u := (s.put d.val (F.FIELD_AX_CMD_OP a.val) 0).modAxr d.val a.val (fun x =>
      { x with cmdAt := s.now d.val + 1, cmdPhase := s.phase d.val a.val })
    (s.phase d.val a.val = Ph.curtain → exec (.fieldStart d a) s = .next (fieldReport d.val a.val 0x07 1 u) ∧
      exec (.fieldStop d a) s = .next (fieldReport d.val a.val 0x07 2 u) ∧
      exec (.fieldDisable d a) s = .next (fieldReport d.val a.val 0x07 3 u)) ∧
    (s.phase d.val a.val = Ph.idle → exec (.fieldStop d a) s = .next (fieldReport d.val a.val 0x05 2 u)) ∧
    (s.phase d.val a.val ≠ Ph.curtain →
      ∀ op : Fin 5, exec (.fieldBadCmd d a op) s =
        .next (fieldReport d.val a.val 0x08 (if op.val = 0 then 0 else op.val + 3) u))) ∧
  (∀ (s : State) (d : CDie) (a : Axis) (v : Word), s.runs d.val = true → s.flag d.val F.LIB_TK_STAT_ARMED = false →
    (s.axr d.val a.val).cmdAt ≠ s.now d.val + 1 → s.spRuled d.val a.val (s.phase d.val a.val) = true →
    s.against d.val a.val (sx16 v.toNat) (s.speed d.val a.val) = true → s.epath d.val a.val = false →
    exec (.spsetWrite d a v) s = .next (fieldReport d.val a.val 0x03 7 s))

/-- CATCH_DONE of an axis whose catch is complete goes on to ALIGN, reversal or ENGAGE with the speed and angle found, or
refuses the start (R262 to R265). CATCH_NO_VOLTAGE refuses the start with code 4, 10 µs into a voltage catch with no VPH
set (R263). ALIGN_DONE engages an aligned axis (R256). POLARITY_TEST with both pulses measured sets POLOK and keeps the
polarity (R254). STOP_COMPLETE disables an axis that has stood still for 10 ms (R260). REVERSAL_DONE returns to RUN once
the speed has the sign of SPSET and exceeds STILL (R266). REVERSAL_TIMEOUT holds the setpoint at 0 with REVTMO and code 9
once REVTMO ms have passed (R267). EFFECTIVE_SETPOINT_UPDATE moves every axis one step (R247). Points the spec leaves
open: log entries 24, 77. (10_field_control.) -/
def Obligations.FieldPhases : Prop :=
  (∀ (s : State) (d : CDie) (a : Axis), s.runs d.val = true →
    exec (.catchDone d a) s = .next (if s.catchOver d.val a.val then catchDone d.val a.val s else s)) ∧
  (∀ (s : State) (d : CDie) (a : Axis), s.runs d.val = true →
    exec (.catchNoVoltage d a) s = .next (
      let x := s.axr d.val a.val
      if s.phase d.val a.val == Ph.catch_ && x.catchV && x.catchSets.isEmpty && decide (x.catchAt + 4000 ≤ s.now d.val) then
        startRefused d.val a.val 0x04 s else s)) ∧
  (∀ (s : State) (d : CDie) (a : Axis), s.runs d.val = true →
    exec (.alignDone d a) s = .next (if s.alignOver d.val a.val then alignDone d.val a.val s else s)) ∧
  (∀ (s : State) (d : CDie) (a : Axis), s.runs d.val = true → exec (.polarityTest d a) s = .next (polarity d.val a.val s)) ∧
  (∀ (s : State) (d : CDie) (a : Axis), s.runs d.val = true →
    exec (.stopComplete d a) s = .next (
      let x := s.axr d.val a.val
      if s.phase d.val a.val == Ph.stopping && x.stopT.isNone && x.stillAt != 0 && s.still d.val a.val &&
          decide (x.stillAt + 4000000 ≤ s.now d.val + 1) then fieldDisable d.val a.val s
      else s)) ∧
  (∀ (s : State) (d : CDie) (a : Axis), s.runs d.val = true →
    exec (.reversalDone d a) s = .next (
      let sp := s.geti d.val (F.FIELD_AX_SPSET a.val)
      let v := s.speed d.val a.val
      if s.phase d.val a.val == Ph.reversing && decide (sp ≠ 0) && decide (v ≠ 0) && decide (0 < sp) == decide (0 < v) &&
          s.get d.val (F.FIELD_AX_CATCH_STILL a.val) < absQ15 v then
        fieldStatus d.val a.val
          ((s.put d.val (F.FIELD_AX_STAT_PHASE a.val) Ph.run).on d.val (F.FIELD_AX_EVT_REVDONE a.val))
      else s)) ∧
  (∀ (s : State) (d : CDie) (a : Axis), s.runs d.val = true →
    exec (.reversalTimeout d a) s = .next (
      let x := s.axr d.val a.val
      if s.phase d.val a.val == Ph.reversing && !x.effHeld &&
          decide (x.since + s.get d.val (F.FIELD_AX_REV_REVTMO a.val) * 400000 < s.now d.val) then
        let s := s.modAxr d.val a.val (fun x => { x with eff := 0, effHeld := true })
        spSource d.val a.val
          ((s.put d.val (F.FIELD_AX_CMDST_CODE a.val) 0x09).on d.val (F.FIELD_AX_EVT_REVTMO a.val))
      else s)) ∧
  (∀ (s : State) (d : CDie), s.runs d.val = true → exec (.effectiveSetpointUpdate d) s = .next (overN 6 (effStep d.val) s)) ∧
  (∀ (s : State) (d : CDie) (a : Axis), s.runs d.val = true → s.phase d.val a.val = Ph.reversing →
    0 < s.geti d.val (F.FIELD_AX_SPSET a.val) → 0 < s.speed d.val a.val →
    s.get d.val (F.FIELD_AX_CATCH_STILL a.val) < absQ15 (s.speed d.val a.val) →
    exec (.reversalDone d a) s = .next (fieldStatus d.val a.val
      ((s.put d.val (F.FIELD_AX_STAT_PHASE a.val) Ph.run).on d.val (F.FIELD_AX_EVT_REVDONE a.val)))) ∧
  (∀ (s : State) (d : CDie) (a : Axis), s.runs d.val = true →
    (s.axr d.val a.val).since + s.get d.val (F.FIELD_AX_REV_REVTMO a.val) * 400000 ≥ s.now d.val →
    exec (.reversalTimeout d a) s = .next s)

/-- LOAD_GROUP_ENABLE is the write of a group's CFG: EN = 1 arms the start of a sound group and is refused with WRREF for
another; EN = 0 stops a running one (R277, R279). LOAD_GROUP_START and GROUP_BOUNDARY let fabric cycles pass up to the
aligned start or the next boundary (R278 to R294). SYNC_CUE restarts a running group with SYNCEN (R279). LOADALL_ARM sets
the group's bit (R285). AXIS_ENABLE takes a request that passes Table 11-4, and otherwise reports its code with ENREF;
AXIS_DISABLE turns an enabled axis off (R293, R295). TRIP_ASSERT and TRIP_INACTIVE take an accepted level of a trip input:
it latches, is blanked, or ends (R296, R297). TRIP_CLEAR clears the named latches whose input is inactive, and refuses the
others (R298). TRIP_BLANKING_END latches a trip that is still active (R299). Points the spec leaves open: log entries 81,
83, 3. (11_pwm.) -/
def Obligations.PwmCommands : Prop :=
  (∀ (s : State) (d : CDie) (g : Fin 8) (v : Word), s.runs d.val = true →
    exec (.loadGroupEnable d g v) s = .next (
      let s := tkDisturb d.val (own (F.PWM_LG_CFG_EN g.val).off) .debug s
      lgCfgWrite d.val g.val v s)) ∧
  (∀ (s : State) (d : CDie) (g : Fin 8), s.runs d.val = true →
    exec (.loadGroupStart d g) s = .next (
      if (s.lg d.val g.val).waiting && s.fabric d.val then
        let m := Int.ofNat (s.startCarrier d.val g.val)
        let past := (Int.ofNat (s.now d.val) - Int.ofNat (s.get d.val (F.PWM_LG_CFG_ORG g.val))) % m
        ticks (m - past).toNat s
      else s)) ∧
  (∀ (s : State) (d : CDie) (g : Fin 8), s.runs d.val = true →
    exec (.groupBoundary d g) s = .next (
      if (s.lg d.val g.val).running && s.fabric d.val then
        ticks (if (s.lg d.val g.val).restart then 1 else max 1 (s.toBoundary d.val g.val)) s
      else s)) ∧
  (∀ (s : State) (d : CDie) (k : Fin 18), s.runs d.val = true → exec (.syncCue d k) s = .next (syncCue d.val k.val s)) ∧
  (∀ (s : State) (d : CDie) (g : Fin 8), s.runs d.val = true → exec (.loadallArm d g) s = .next (loadallArm d.val g.val s)) ∧
  (∀ (s : State) (d : CDie) (a : Axis), s.runs d.val = true →
    exec (.axisEnable d a) s = .next (
      let s := tkDisturb d.val (own F.PWM_AXEN_EN.off) .debug s
      axisEnableWrite d.val a.val s)) ∧
  (∀ (s : State) (d : CDie) (a : Axis), s.runs d.val = true →
    exec (.axisDisable d a) s = .next (
      let s := tkDisturb d.val (own F.PWM_AXEN_EN.off) .debug s
      axisDisableWrite d.val a.val s)) ∧
  (∀ (s : State) (d : CDie) (n : Fin 4) (level : Bool) (held : BitVec 8), s.runs d.val = true →
    exec (.tripAssert d n level held) s = .next (
      if s.tripLevel d.val n.val level && s.tripAccepts d.val n.val held.toNat &&
          !((s.c d.val).pwm.trips.at n.val).active then tripActive d.val n.val s
      else s)) ∧
  (∀ (s : State) (d : CDie) (n : Fin 4) (level : Bool) (held : BitVec 8), s.runs d.val = true →
    exec (.tripInactive d n level held) s = .next (if !s.tripLevel d.val n.val level && s.tripAccepts d.val n.val
      held.toNat then tripInactive d.val n.val s else s)) ∧
  (∀ (s : State) (d : CDie) (v : Word), s.runs d.val = true →
    exec (.tripClear d v) s = .next (
      let s := tkDisturb d.val (own 0x1C30B4) .debug s
      tripClrWrite d.val v s)) ∧
  (∀ (s : State) (d : CDie) (n : Fin 4), s.runs d.val = true → exec (.tripBlankingEnd d n) s = .next (blankEnd d.val n.val s)) ∧
  (∀ (s : State) (d : CDie) (g : Fin 8) (v : Word), s.runs d.val = true → s.flag d.val F.LIB_TK_STAT_ARMED = false →
    s.flag d.val (F.PWM_LG_CFG_EN g.val) = false → (F.PWM_LG_CFG_EN g.val).ofWord v = 1 →
    let u := plainWrite d.val (F.PWM_LG_CFG_EN g.val).off ((F.PWM_LG_CFG_EN g.val).into v 0) true s
    (u.groupOk d.val g.val = true → exec (.loadGroupEnable d g v) s = .next
      ((u.on d.val (F.PWM_LG_CFG_EN g.val)).modLg d.val g.val (fun x => { x with waiting := true }))) ∧
    (u.groupOk d.val g.val = false → exec (.loadGroupEnable d g v) s = .next (u.on d.val F.PWM_GEVT_WRREF))) ∧
  (∀ (s : State) (d : CDie) (a : Axis), s.runs d.val = true → s.flag d.val F.LIB_TK_STAT_ARMED = false →
    s.enabled d.val a.val = false → s.enCheck d.val a.val ≠ 0 →
    exec (.axisEnable d a) s = .next
      (((s.put d.val F.PWM_ENST_CODE (s.enCheck d.val a.val)).put d.val F.PWM_ENST_AX a.val).on d.val F.PWM_GEVT_ENREF) ∧
    exec (.axisDisable d a) s = .next s) ∧
  (∀ (s : State) (d : CDie) (n : Fin 4) (level : Bool) (held : Byte), s.runs d.val = true →
    s.tripLevel d.val n.val level = true → s.tripAccepts d.val n.val held.toNat = true →
    ((s.c d.val).pwm.trips.at n.val).active = false → s.blanking d.val n.val = false → exec (.tripAssert d n level held) s =
      .next (tripLatch d.val n.val ((s.putBit d.val F.PWM_TRIPST_ACTIVE n.val true).modTrip
        d.val n.val (fun x => { x with active := true, blanked := false }))))

/-- PWM_LINE_RISE from the owner, as its pair drives the line, releases a channel that nothing holds, holds it while the
other gate reads high, and latches SHOOT with the other line high (R306, R327, R328). PWM_LINE_FALL turns a following
channel off and takes the sense current and turn-off times (R306, R330, R331). TCAP_ARM arms a capture (R331). TELMAX_READ
over a link that is up returns the largest sample and clears it, and is reported otherwise (R345). SHOOT_ATTEMPT latches
SHOOT where lines are not ignored (R327). GATE_SENSE_HOLD is what the gate-off comparator of the other channel reads:
above VGOFF; below it, which lets a held turn-on go; or a hold of 1 µs, which latches GSTUCK (R328). ADT_EARLY_RELEASE,
under its conditions, releases the incoming channel early and counts it (R329). Points the spec leaves open: log entry 87.
(12_gate_drive_protection.) -/
def Obligations.GateLineCommands : Prop :=
  (∀ (s : State) (d : CDie) (k : DDie) (c : Fin 6) (gate : Bool), s.hasC d.val = true → s.runsD k.val = true →
    exec (.pwmLineRise d k c gate) s = .next (drvAct k.val (lineRise d.val k.val c.val gate) s)) ∧
  (∀ (s : State) (d : CDie) (k : DDie) (c : Fin 6) (isns : BitVec 11) (toff tsw : BitVec 16), s.hasC d.val = true → s.runsD
    k.val = true →
    exec (.pwmLineFall d k c isns toff tsw) s = .next (drvAct k.val (lineFall d.val k.val c.val isns.toNat toff.toNat
      tsw.toNat) s)) ∧
  (∀ (s : State) (k : DDie), s.runsD k.val = true → exec (.tcapArm k) s = .next (tcapArm k.val s)) ∧
  (∀ (s : State) (d : CDie) (k : DDie) (c : Fin 6), s.runs d.val = true → s.hasD k.val = true →
    exec (.telmaxRead d k c) s = .next (
      if s.linkD d.val k.val then telmaxRead d.val k.val c.val s
      else accErr d.val Acc.linkDown (dix k.val) 0 (drvAddr k.val (F.DRV_D_CH_TELMAX c.val).off) false s)) ∧
  (∀ (s : State) (k : DDie) (leg : Fin 3), s.runsD k.val = true →
    exec (.shootAttempt k leg) s = .next (
      drvAct k.val (fun s =>
        let s := (s.modCh k.val (hsCh leg.val) (fun h => { h with line := true })).modCh k.val (lsCh leg.val)
          (fun h => { h with line := true })
        if s.linesIgnored k.val leg.val then s else shootLatch k.val leg.val s) s)) ∧
  (∀ (s : State) (k : DDie) (c : Fin 6) (kind : Fin 3), s.runsD k.val = true →
    exec (.gateSenseHold k c kind) s = .next (drvAct k.val (gateSense k.val c.val kind.val) s)) ∧
  (∀ (s : State) (k : DDie) (c : Fin 6), s.runsD k.val = true →
    exec (.adtEarlyRelease k c) s = .next (drvAct k.val (adtRelease k.val c.val) s)) ∧
  (∀ (s : State) (d : CDie) (k : DDie) (c : Fin 6) (gate : Bool), s.hasC d.val = true → s.runsD k.val = true →
    s.owner k.val ≠ d.val → exec (.pwmLineRise d k c gate) s = .next s) ∧
  (∀ (s : State) (d : CDie) (k : DDie) (c : Fin 6), s.runs d.val = true → s.hasD k.val = true →
    s.linkD d.val k.val = false → exec (.telmaxRead d k c) s = .next (accErr d.val Acc.linkDown (dix k.val) 0
      (drvAddr k.val (F.DRV_D_CH_TELMAX c.val).off) false s))

/-- FLOATING_RAIL_CHARGED ends the charge hold of a used leg (R314). LOCKOUT_ENTRY of a watched rail that is low locks the
die out; LOCKOUT_RELEASE, with every rail back, releases it with every channel off (R315, R316). SC_DETECTION and
SHUNT_DETECTION of an enabled detector, once the level has stood for its filter, latch and begin soft turn-offs (R317 to
R322). SOFT_OFF_END ends one at its time with its peak (R319). STO_TORQUE_OFF and STO_RUN take a level of the STO inputs
that has stood for STOFILT × 2 µs: torque off forces every channel off, run releases them; with bank A low both read
torque off (R338, R340). STO_DISCREPANCY latches once they have differed for longer than DISC ms (R339). SLUICE_ACTIVE of
an active trip latches the masked legs, SLUICE_CLEAR clears what the die's own C die has accepted (R341, R342).
STATUS_FLIT_RECEIVE takes a due STATUS flit to the owner (R343). Points the spec leaves open: log entries 86, 98, 91.
(12_gate_drive_protection.) -/
def Obligations.GateProtectionCommands : Prop :=
  (∀ (s : State) (k : DDie) (leg : Fin 3), s.runsD k.val = true →
    exec (.floatingRailCharged k leg) s = .next (drvAct k.val (railCharged k.val leg.val) s)) ∧
  (∀ (s : State) (k : DDie) (rail : Fin 5), s.runsD k.val = true →
    exec (.lockoutEntry k rail) s = .next (drvAct k.val (railLow k.val rail.val) s)) ∧
  (∀ (s : State) (k : DDie), s.runsD k.val = true →
    exec (.lockoutRelease k) s = .next (drvAct k.val (lockoutRelease k.val) s)) ∧
  (∀ (s : State) (k : DDie) (c : Fin 6) (cur : BitVec 11) (held : BitVec 8), s.runsD k.val = true →
    exec (.scDetection k c cur held) s = .next (drvAct k.val (scDetect k.val c.val cur.toNat held.toNat) s)) ∧
  (∀ (s : State) (k : DDie) (leg : Fin 3) (mv : BitVec 10) (held : BitVec 8), s.runsD k.val = true →
    exec (.shuntDetection k leg mv held) s = .next (drvAct k.val (shuntDetect k.val leg.val mv.toNat held.toNat) s)) ∧
  (∀ (s : State) (k : DDie) (c : Fin 6) (peak : BitVec 11), s.runsD k.val = true →
    exec (.softOffEnd k c peak) s = .next (drvAct k.val (softEnd k.val c.val peak.toNat) s)) ∧
  (∀ (s : State) (k : DDie) (a b : Bool) (held : BitVec 16), s.runsD k.val = true →
    exec (.stoTorqueOff k a b held) s = .next (if s.stoAccepts k.val held.toNat then drvAct k.val (stoTorqueOff k.val a b)
      s else s)) ∧
  (∀ (s : State) (k : DDie) (a b : Bool) (held : BitVec 16), s.runsD k.val = true →
    exec (.stoRun k a b held) s = .next (if s.bankALow || !s.stoAccepts k.val held.toNat then s else drvAct k.val (stoRun
      k.val a b) s)) ∧
  (∀ (s : State) (k : DDie), s.runsD k.val = true →
    exec (.stoDiscrepancy k) s = .next (drvAct k.val (stoDiscrepancy k.val) s)) ∧
  (∀ (s : State) (k : DDie) (x : CDie) (n : Fin 4), s.hasC x.val = true → s.runsD k.val = true →
    exec (.sluiceActive k x n) s = .next (if s.sluiceLine x.val n.val then drvAct k.val (sluiceActive k.val x.val n.val) s
      else s)) ∧
  (∀ (s : State) (k : DDie) (x : CDie) (n : Fin 4), s.hasC x.val = true → s.runsD k.val = true →
    exec (.sluiceClear k x n) s = .next (drvAct k.val (sluiceClear k.val x.val n.val) s)) ∧
  (∀ (s : State) (k : DDie), s.runsD k.val = true →
    exec (.statusFlitReceive k) s = .next (
      let d := s.owner k.val
      if (s.dd k.val).statusDue && s.owns d k.val && s.runs d && s.linkD d k.val then statusAt d k.val s else s)) ∧
  (∀ (s : State) (k : DDie) (leg : Fin 3), s.runsD k.val = true → s.legUnused k.val leg.val = false →
    ((s.dd k.val).legs.at leg.val).measured = false → s.flag (dix k.val) F.DRV_D_LOCKST_VDRV = false →
    exec (.floatingRailCharged k leg) s = .next (drvAct k.val (fun _ =>
        settle k.val ((s.modLeg k.val leg.val (fun x => { x with measured := true })).putBit (dix k.val) F.DRV_D_LOCKST_FLT
          leg.val false)) s)) ∧
  (∀ (s : State) (k : DDie) (leg : Fin 3) (mv : BitVec 10) (held : Byte), s.runsD k.val = true →
    (s.flag (dix k.val) (F.DRV_D_LEG_SHCMP_EN leg.val) = false ∨
      mv.toNat < 2 * s.get (dix k.val) (F.DRV_D_LEG_SHCMP_SHTH leg.val) ∨
      held.toNat ≤ s.get (dix k.val) (F.DRV_D_LEG_SHCMP_SHFILT leg.val)) →
    exec (.shuntDetection k leg mv held) s = .next s) ∧
  (∀ (s : State) (k : DDie) (a b : Bool) (held : BitVec 16), s.runsD k.val = true →
    held.toNat < 2 * s.get (dix k.val) F.DRV_D_STOCFG_STOFILT →
    exec (.stoTorqueOff k a b held) s = .next s ∧ exec (.stoRun k a b held) s = .next s)

/-- After SLUICE_ACTIVE of trip n of Cx, active and not blanked there, at D die k, the latch bit of trip line j of a leg
is set if it was set before, or if j is the line that went active and SLMASK selects it for that leg; no latch clears, and
a latched leg reads 1 in SLST.LATCH (R341). (12_gate_drive_protection.) -/
def Obligations.SluiceLatchHoldsTheLegs : Prop :=
  ∀ (s : State) (k : DDie) (x : CDie) (n : Fin 4), s.runsD k.val = true → s.hasC x.val = true →
    s.sluiceLine x.val n.val = true → ∃ t, exec (.sluiceActive k x n) s = .next t ∧
      (∀ leg < 3, ∀ j < 8, bit (t.dd k.val).sluice (8 * leg + j) = (bit (s.dd k.val).sluice (8 * leg + j) ||
        (j == 4 * x.val + n.val && s.bitOf (dix k.val) F.DRV_D_SLMASK (8 * leg + j)))) ∧
      (∀ leg < 3, s.bitOf (dix k.val) F.DRV_D_SLMASK (8 * leg + 4 * x.val + n.val) = true →
        t.bitOf (dix k.val) F.DRV_D_SLST_LATCH leg = true)

/-- When STO_A, or STO_B, or both, low for their filter time, read torque off, every channel of the die is FORCED_OFF in
the state after the command, whatever it did before: whatever its line, its commands, and any soft turn-off (R338). Points
the spec leaves open: log entry 85. (12_gate_drive_protection.) -/
def Obligations.StoForcesEveryChannelOff : Prop :=
  ∀ (s : State) (k : DDie) (a b : Bool) (held : BitVec 16), s.runsD k.val = true → (a = true ∨ b = true) →
    2 * s.get (dix k.val) F.DRV_D_STOCFG_STOFILT ≤ held.toNat →
    ∃ t, exec (.stoTorqueOff k a b held) s = .next t ∧ ∀ c < 6, t.ch k.val c = Ch.forcedOff

/-- UCODE_COMMIT and LEVEL_WRITE are the stores of UC_CTRL and CHc_LVL through the DRV window, which need the owner and
its link (R15, R138): a COMMIT at a stopped die checks bank 1 (R335); levels in range are taken and others set CFGERR at a
stopped die (R308). UCODE_BANK_SWITCH switches the bank of a die with every channel off and no entry running (R335).
SEQUENCER_ENTRY starts the named entry where it is the first that is due (R333, R334). FCLR_SC, FCLR_SHUNT, FCLR_SHOOT,
FCLR_STO_DISC and FCLR_GSTUCK are the two-key writes of FCLR with their bits (R344). Points the spec leaves open: log
entries 89, 90, 88. (12_gate_drive_protection.) -/
def Obligations.SequencerAndLevelCommands : Prop :=
  (∀ (s : State) (d : CDie) (k : DDie) (v : Word), s.runs d.val = true → s.hasD k.val = true →
    exec (.ucodeCommit d k v) s = .next (
      let s := tkDisturb d.val (drvAddr k.val F.DRV_D_UC_CTRL_COMMIT.off) .debug s
      drvStore d.val k.val F.DRV_D_UC_CTRL_COMMIT.off v (drvAct k.val (ucCommit k.val v)) s)) ∧
  (∀ (s : State) (k : DDie), s.runsD k.val = true → exec (.ucodeBankSwitch k) s = .next (ucSwitch k.val s)) ∧
  (∀ (s : State) (k : DDie) (e : Fin 7), s.runsD k.val = true →
    exec (.sequencerEntry k e) s = .next (drvAct k.val (seqStartEntry k.val e.val) s)) ∧
  (∀ (s : State) (d : CDie) (k : DDie) (c : Fin 6) (v : Word) (vdrv vneg : Byte), s.runs d.val = true → s.hasD k.val = true
    →
    exec (.levelWrite d k c v vdrv vneg) s = .next (
      drvStore d.val k.val (F.DRV_D_CH_LVL_VON c.val).off v (fun s =>
          drvAct k.val (levelWrite k.val c.val v)
            (s.modD k.val (fun x => { x with lastVdrv := vdrv.toNat, lastVneg := vneg.toNat }))) (tkDisturb d.val (drvAddr k.val (F.DRV_D_CH_LVL_VON c.val).off) .debug s))) ∧
  (∀ (s : State) (d : CDie) (m : Master) (k : DDie) (ch : BitVec 6), s.runs d.val = true →
    exec (.fclrSc d m k ch) s = .next (fclrStore d.val m k.val (BitVec.ofNat 32 ch.toNat) s)) ∧
  (∀ (s : State) (d : CDie) (m : Master) (k : DDie) (legs : BitVec 3), s.runs d.val = true →
    exec (.fclrShunt d m k legs) s = .next (fclrStore d.val m k.val (BitVec.ofNat 32 (legs.toNat * 0x100)) s)) ∧
  (∀ (s : State) (d : CDie) (m : Master) (k : DDie) (legs : BitVec 3), s.runs d.val = true →
    exec (.fclrShoot d m k legs) s = .next (fclrStore d.val m k.val (BitVec.ofNat 32 (legs.toNat * 0x1000)) s)) ∧
  (∀ (s : State) (d : CDie) (m : Master) (k : DDie), s.runs d.val = true →
    exec (.fclrStoDisc d m k) s = .next (fclrStore d.val m k.val 0x10000#32 s)) ∧
  (∀ (s : State) (d : CDie) (m : Master) (k : DDie) (legs : BitVec 3), s.runs d.val = true →
    exec (.fclrGstuck d m k legs) s = .next (fclrStore d.val m k.val (BitVec.ofNat 32 (legs.toNat * 0x20000)) s)) ∧
  (∀ (s : State) (k : DDie), s.runsD k.val = true → (s.dd k.val).ucCommit = true → s.allOff k.val = true →
    (s.dd k.val).seq = none → (s.dd k.val).seqDue = [] → ∃ t, exec (.ucodeBankSwitch k) s = .next t ∧
      t.get (dix k.val) F.DRV_D_UC_STAT_BANK = 1 ∧ (t.dd k.val).ucCommit = false) ∧
  (∀ (s : State) (d : CDie) (k : DDie) (c : Fin 6) (v : Word) (vd vn : Byte), s.runs d.val = true → s.hasD k.val = true →
    s.flag d.val F.LIB_TK_STAT_ARMED = false → s.owns d.val k.val = false →
    exec (.levelWrite d k c v vd vn) s = .next (accErr d.val Acc.notOwner (dix k.val) 0
      (drvAddr k.val (F.DRV_D_CH_LVL_VON c.val).off) true s) ∧
    exec (.ucodeCommit d k v) s = .next (accErr d.val Acc.notOwner (dix k.val) 0
      (drvAddr k.val F.DRV_D_UC_CTRL_COMMIT.off) true s))

/-- CURTAIN_ENTRY of a cause of Table 13-1 that holds puts an axis whose D die the C die owns into its curtain state, or
records a further cause (R354). CURTAIN_RULE_EVALUATE evaluates the rule of an axis in its curtain state and writes a
change (R355, R358). SHORT_SIDE_SWITCH writes a new side that has waited 5 µs (R358). SAFE_REQ_WRITE takes the six bits:
the axes asked for enter, the others lose that cause (R354). SAFE_CLR_AX and SAFE_CLR_PKG are the two-key writes of
SAFE_CLR, with the clears that R359 and R360 refuse or accept. PACKAGE_CURTAIN of a package fault that the C die sees, and
PEER_CURTAIN_RECEIVE of one on its way over L0, bring every axis into its curtain state (R360). Points the spec leaves
open: log entries 94, 96, 95. (13_dc_link_safe_states.) -/
def Obligations.CurtainCommands : Prop :=
  (∀ (s : State) (d : CDie) (a : Axis) (j : Fin 10), s.runs d.val = true →
    exec (.curtainEntry d a j) s = .next (if s.causeHolds d.val a.val j.val then enterCurtain d.val a.val j.val s else s)) ∧
  (∀ (s : State) (d : CDie) (a : Axis), s.runs d.val = true →
    exec (.curtainRuleEvaluate d a) s = .next (evalCurtain d.val a.val s)) ∧
  (∀ (s : State) (d : CDie) (a : Axis), s.runs d.val = true →
    exec (.shortSideSwitch d a) s = .next (sideSwitch d.val a.val s)) ∧
  (∀ (s : State) (d : CDie) (v : Word), s.runs d.val = true →
    exec (.safeReqWrite d v) s = .next (
      let s := tkDisturb d.val (own 0x1800C) .debug s
      safeReqWrite d.val v s)) ∧
  (∀ (s : State) (d : CDie) (m : Master) (axes : BitVec 6), s.runs d.val = true →
    exec (.safeClrAx d m axes) s = .next (safeClrWrite d.val m (BitVec.ofNat 32 axes.toNat) s)) ∧
  (∀ (s : State) (d : CDie) (m : Master) (axes : BitVec 6), s.runs d.val = true →
    exec (.safeClrPkg d m axes) s = .next (safeClrWrite d.val m (BitVec.ofNat 32 (256 + axes.toNat)) s)) ∧
  (∀ (s : State) (d : CDie), s.runs d.val = true →
    exec (.packageCurtain d) s = .next (if s.seesPackage d.val then packageCurtain d.val s else s)) ∧
  (∀ (s : State) (d : CDie), s.runs d.val = true →
    exec (.peerCurtainReceive d) s = .next (
      if (s.c d.val).safe.peerDue && s.linkC d.val then
        curtainAll d.val (s.modSafe d.val (fun x => { x with peerDue := false }))
      else s)) ∧
  (∀ (s : State) (d : CDie) (a : Axis) (j : Fin 10), s.runs d.val = true → s.causeHolds d.val a.val j.val = true →
    s.home d.val a.val = true → s.inCurtain d.val a.val = false → exec (.curtainEntry d a j) s =
      .next (curtainAfter d.val a.val j.val (evalCurtain d.val a.val (curtainBegin d.val a.val j.val s)))) ∧
  (∀ (s : State) (d : CDie) (a : Axis), s.runs d.val = true → s.inCurtain d.val a.val = false →
    exec (.curtainRuleEvaluate d a) s = .next s) ∧
  (∀ (s : State) (d : CDie) (m : Master) (ax : BitVec 6), s.wf = true → s.runs d.val = true → m.safety = true →
    s.tkReady d.val (own 0x18004) = true →
    let fin := fun (v : Word) => Host.Outcome.next (φ := Fault) (ρ := Refusal) (tkDone d.val (own 0x18004)
      (s.reg d.val 0x18004) (newWord d.val 0x18004 (s.reg d.val 0x18004) v) (clrApply d.val v s))
    exec (.safeClrAx d m ax) s = fin (BitVec.ofNat 32 ax.toNat) ∧
    exec (.safeClrPkg d m ax) s = fin (BitVec.ofNat 32 (256 + ax.toNat)))

/-- After a complete two-key write of SAFE_CLR.AX that names axis 0 alone (in a state that meets the invariant of
EveryStepKeepsTheState), for an axis in its curtain state: if no refusal of Table 13-2 applies, its latched and active
causes are 0, its state is 0, its phase is IDLE, and CLRST.CODE is 0; if a cause is active, the axis keeps its state and
phase, CLRST names CAUSE_ACTIVE and the axis, and CLRREF is set (R359). Points the spec leaves open: log entry 95.
(13_dc_link_safe_states.) -/
def Obligations.AClearedAxisFollowsAgain : Prop :=
  ∀ (s : State) (d : CDie) (m : Master), s.wf = true → s.runs d.val = true → s.inCurtain d.val 0 = true →
    m.safety = true → s.tkReady d.val (own 0x18004) = true → ∃ t, exec (.safeClrAx d m 1) s = .next t ∧
      (s.clrRefusal d.val 0 false = 0 →
        t.get d.val (F.SAFE_AX_CAUSE_LATCHED 0) = 0 ∧ t.get d.val (F.SAFE_AX_CAUSE_ACTIVE 0) = 0 ∧
        t.get d.val (F.SAFE_AX_STAT_STATE 0) = 0 ∧ t.phase d.val 0 = Ph.idle ∧ t.get d.val F.SAFE_CLRST_CODE = 0) ∧
      (s.clrRefusal d.val 0 false = Cc.causeActive →
        t.get d.val (F.SAFE_AX_STAT_STATE 0) = s.get d.val (F.SAFE_AX_STAT_STATE 0) ∧
        t.phase d.val 0 = s.phase d.val 0 ∧ t.get d.val F.SAFE_CLRST_CODE = 1 ∧ t.get d.val F.SAFE_CLRST_AX = 0 ∧
        t.flag d.val F.SAFE_CEVT_CLRREF = true)

/-- VDC_LOSS of an enabled bus with no result for 10 µs sets VDCLOSS, clears VDCOK and brings its axes into their curtain
states; VDC_PLAUSIBILITY of two measurements beyond VPLAUS for 100 µs sets VPLAUS with its fault (R349). CHOPPER_FAULT,
once duty has been high and current low for FTIME × 10 µs, declares the chopper faulty (R353). KEEP_AUTO_DISCHARGE of an
armed domain with VDRV low starts the resistor (R367). DISCHARGE_RESISTOR, DISCHARGE_WINDING and DISCHARGE_STOP are the
two-key writes of DCMD with their OP and axis: the discharge starts or ends, or is refused with its code and DREF (R366,
R368, R369). DISCHARGE_VEND_REACHED ends a resistor discharge, or a winding discharge below VEND, as DONE;
DISCHARGE_TIMEOUT after TMAX ms as TIMEOUT; DISCHARGE_OVERCURRENT a resistor discharge as FAULT. Points the spec leaves
open: log entries 92, 93. (13_dc_link_safe_states.) -/
def Obligations.BusCommands : Prop :=
  (∀ (s : State) (d : CDie) (b : Fin 3), s.runs d.val = true → exec (.vdcLoss d b) s = .next (vdcLoss d.val b.val s)) ∧
  (∀ (s : State) (d : CDie) (b : Fin 3), s.runs d.val = true → exec (.vdcPlausibility d b) s = .next (vdcPlaus d.val b.val s)) ∧
  (∀ (s : State) (d : CDie) (b : Fin 3), s.runs d.val = true →
    exec (.chopperFault d b) s = .next (chopperFault d.val b.val s)) ∧
  (∀ (s : State) (k : DDie), s.hasD k.val = true →
    exec (.keepAutoDischarge k) s = .next (
      let x := s.ka k.val
      if x.armed && !x.vkeepLow && !x.running && (s.dd k.val).vdrvLow then
        let s := s.modK k.val (fun x => { x with running := true, keepDis := true })
        overN 2 (fun d s => if s.runs d then overN 3 (fun b s =>
          if s.get d (F.DISCH_BUS_CFG_DDIE b) == k.val && s.flag d (F.DISCH_BUS_CFG_EN b) then
            (s.put d (F.DISCH_BUS_STAT_STATE b) Ds.resistor).modDisT d b (s.now d)
          else s) s else s) s
      else s)) ∧
  (∀ (s : State) (d : CDie) (m : Master) (b : Fin 3), s.runs d.val = true →
    exec (.dischargeResistor d m b) s = .next (dcmdWrite d.val m b.val 1#32 s)) ∧
  (∀ (s : State) (d : CDie) (m : Master) (b : Fin 3) (a : Fin 8), s.runs d.val = true →
    exec (.dischargeWinding d m b a) s = .next (dcmdWrite d.val m b.val (BitVec.ofNat 32 (2 + 16 * a.val)) s)) ∧
  (∀ (s : State) (d : CDie) (m : Master) (b : Fin 3), s.runs d.val = true →
    exec (.dischargeStop d m b) s = .next (dcmdWrite d.val m b.val 3#32 s)) ∧
  (∀ (s : State) (d : CDie) (b : Fin 3), s.runs d.val = true →
    exec (.dischargeVendReached d b) s = .next (
      let st := s.get d.val (F.DISCH_BUS_STAT_STATE b.val)
      let below := decide (s.geti d.val (F.DISCH_BUS_STAT_VDC b.val) < s.geti d.val (F.DISCH_BUS_DIS_VEND b.val))
      if st == Ds.resistor || (st == Ds.winding && below) then
        dischargeStop d.val b.val Ds.done (s.on d.val (F.DISCH_BUS_EVT_DDONE b.val))
      else s)) ∧
  (∀ (s : State) (d : CDie) (b : Fin 3), s.runs d.val = true →
    exec (.dischargeTimeout d b) s = .next (
      if s.discharging d.val b.val && decide ((s.c d.val).safe.disFrom.at b.val +
          400000 * s.get d.val (F.DISCH_BUS_DIS_TMAX b.val) ≤ s.now d.val) then
        dischargeStop d.val b.val Ds.timeout (s.on d.val (F.DISCH_BUS_EVT_DTMO b.val))
      else s)) ∧
  (∀ (s : State) (d : CDie) (b : Fin 3), s.runs d.val = true →
    exec (.dischargeOvercurrent d b) s = .next (
      if s.get d.val (F.DISCH_BUS_STAT_STATE b.val) == Ds.resistor then
        dischargeEnd d.val b.val Ds.fault (s.on d.val (F.DISCH_BUS_EVT_DOC b.val))
      else s)) ∧
  (∀ (s : State) (d : CDie) (b : Fin 3), s.runs d.val = true → s.discharging d.val b.val = false →
    exec (.dischargeVendReached d b) s = .next s ∧
      exec (.dischargeTimeout d b) s = .next s ∧ exec (.dischargeOvercurrent d b) s = .next s) ∧
  (∀ (s : State) (d : CDie) (b : Fin 3), s.runs d.val = true →
    s.get d.val (F.DISCH_BUS_STAT_STATE b.val) = Ds.resistor → exec (.dischargeOvercurrent d b) s =
      .next (dischargeEnd d.val b.val Ds.fault (s.on d.val (F.DISCH_BUS_EVT_DOC b.val)))) ∧
  (∀ (s : State) (d : CDie) (m : Master) (b : Fin 3), s.wf = true → s.runs d.val = true → m.safety = true →
    s.tkReady d.val (own (dcmdOff b.val)) = true → s.dischRefusal d.val b.val 1 0 = 0 →
    exec (.dischargeResistor d m b) s = .next (tkDone d.val (own (dcmdOff b.val)) (s.reg d.val (dcmdOff b.val))
      (newWord d.val (dcmdOff b.val) (s.reg d.val (dcmdOff b.val)) 1#32) (resistorStart d.val b.val
        ((s.put d.val (F.DISCH_BUS_DST_CODE b.val) 0).put d.val (F.DISCH_BUS_DCMD_AX b.val) 0))))

/-- TMON_CHECK of an enabled monitor, 10 µs after the last, compares the torque of the measured currents with the torque
requested, shows whether the check is active and outside, and reports a violation once TREACT has passed (R372, R373).
TMON_ZERO_CHECK, 1 ms after RDY_OFFS, passes an axis whose currents have stayed within ZTOL, or sets ZFAIL and clears
RDY_TMON (R374). TMON_VIOL_CLEAR clears VIOL and its cause, or is refused with CLRREF while OUT is 1 (R375). TMON_ENABLE
is the write of CFG: an EN of a monitor that is not independent is refused with CFGERR (R371). Points the spec leaves
open: log entry 97. (13_dc_link_safe_states.) -/
def Obligations.TorqueMonitorCommands : Prop :=
  (∀ (s : State) (d : CDie) (a : Axis) (emf spd ang : BitVec 16), s.runs d.val = true →
    exec (.tmonCheck d a emf spd ang) s = .next (tmonCheck d.val a.val emf.toNat spd.toNat ang.toNat s)) ∧
  (∀ (s : State) (d : CDie) (a : Axis), s.runs d.val = true → exec (.tmonZeroCheck d a) s = .next (tmonZero d.val a.val s)) ∧
  (∀ (s : State) (d : CDie) (a : Axis), s.runs d.val = true →
    exec (.tmonViolClear d a) s = .next (
      let s := tkDisturb d.val (own (F.TMON_AX_EVT_VIOL a.val).off) .debug s
      tmonEvtWrite d.val a.val 1#32 s)) ∧
  (∀ (s : State) (d : CDie) (a : Axis) (v : Word), s.runs d.val = true →
    exec (.tmonEnable d a v) s = .next (
      let s := tkDisturb d.val (own (F.TMON_AX_CFG_EN a.val).off) .debug s
      tmonCfgWrite d.val a.val v s)) ∧
  (∀ (s : State) (d : CDie) (a : Axis) (emf sp an : BitVec 16), s.runs d.val = true →
    s.flag d.val (F.TMON_AX_CFG_EN a.val) = false → exec (.tmonCheck d a emf sp an) s = .next s) ∧
  (∀ (s : State) (d : CDie) (a : Axis) (v : Word), s.runs d.val = true → s.flag d.val F.LIB_TK_STAT_ARMED = false →
    s.loading = false → (F.TMON_AX_CFG_EN a.val).ofWord v = 1 →
    let u := plainWrite d.val (F.TMON_AX_CFG_EN a.val).off v (!s.flag d.val (F.TMON_AX_CFG_EN a.val)) s
    (u.tmonOk d.val a.val = true → exec (.tmonEnable d a v) s = .next u) ∧
    (u.tmonOk d.val a.val = false → exec (.tmonEnable d a v) s = .next ((u.put d.val (F.TMON_AX_CFG_EN a.val)
      (b2n (s.flag d.val (F.TMON_AX_CFG_EN a.val)))).on d.val (F.TMON_AX_EVT_CFGERR a.val))))

/-- REPLICATED_READ of the leading core of a pair is taken once and recorded for the trailing core; with the delay
registers full it waits (R381). TRAILING_READ takes the oldest result; a differing address latches MISMATCH (R381).
INTERRUPT_ACCEPT of a presented interrupt records it with its count, and the trailing core takes the same trap at the same
count (R382). PROTECTED_STORE of a pair holds the first copy in the output compare buffer, performs the equal second one
once, and latches OCB for a differing one; in SRAM the store is performed for each core (R383 to R386).
PROTECTED_STORE_TIMEOUT latches TIMEOUT once the second copy is later than WIN (R384). Points the spec leaves open: log
entries 100, 101. (14_redundant_execution_faults.) -/
def Obligations.RedundantAccessCommands : Prop :=
  (∀ (s : State) (d : CDie) (core : Fin 4) (machine : Bool) (addr : Word) (csr : Fin 5) (data : Word) (lag : Fin 4097),
    s.runs d.val = true →
    exec (.replicatedRead d core machine addr csr data lag) s = .next (replicatedRead d.val core machine addr.toNat csr.val
      data.toNat lag.val s)) ∧
  (∀ (s : State) (d : CDie) (p : Fin 2) (addr : Word) (lag : Fin 4097) (disagree : Bool) (ecc : Fin 3), s.runs d.val = true
    →
    exec (.trailingRead d p addr lag disagree ecc) s = .next (trailingRead d.val p.val addr.toNat lag.val disagree ecc.val
      s)) ∧
  (∀ (s : State) (d : CDie) (core : Fin 4) (kind : Fin 3) (r : Word) (trailing : Bool), s.runs d.val = true →
    exec (.interruptAccept d core kind r trailing) s = .next (interruptAccept d.val core (kind.val + 1) r.toNat trailing s)) ∧
  (∀ (s : State) (d : CDie) (core : Fin 4) (machine : Bool) (addr data : Word) (be : BitVec 4) (disagree : Bool) (ecc : Fin
    3) (atomic : Bool), s.runs d.val = true →
    exec (.protectedStore d core machine addr data be disagree ecc atomic) s = .next (protectedStore d.val core machine
      addr.toNat data.toNat be.toNat disagree ecc.val atomic s)) ∧
  (∀ (s : State) (d : CDie) (p : Fin 2), s.runs d.val = true →
    exec (.protectedStoreTimeout d p) s = .next (ocbTimeout d.val p.val s)) ∧
  (∀ (s : State) (d : CDie) (p : Fin 2) (addr : Word) (lag : Fin 4097) (e : DqEnt) (es : List DqEnt), s.runs d.val = true →
    (s.chk d.val p.val).delay = e :: es → e.trap = 0 →
    let u := ((modChk d.val p.val (fun x => { x with delay := es }) s).modSys d.val (fun y =>
      { y with rdata := BitVec.ofNat 32 e.data })).put d.val (F.CHK_P_STAT_LAG p.val) lag.val
    (e.addr = addr.toNat → exec (.trailingRead d p addr lag false 0) s = .next u) ∧
    (e.addr ≠ addr.toNat → exec (.trailingRead d p addr lag false 0) s = .next (ckLatch d.val p.val 0 u))) ∧
  (∀ (s : State) (d : CDie) (core : Fin 4) (mm : Bool) (addr data : Word) (be : BitVec 4), s.runs d.val = true →
    s.coreStalls d.val core.val = false → s.split d.val (pairOf core.val) = true →
    exec (.protectedStore d core mm addr data be false 0 false) s =
      .next (storePerform d.val (.core core mm) data.toNat be.toNat addr.toNat s))

/-- CHECKPOINT_WRITE of the first core of a pair waits for the peer; of the second it compares ID and digest, and the
contexts where one is full (R387, R388, R390). CHECKPOINT_TIMEOUT latches TIMEOUT once the second core is later than WIN
(R389); CHECKPOINT_MISS latches CPMISS once CPMAX µs have passed without a checkpoint (R391). RESYNC_GO under two keys
starts the resynchronisation or refuses it with its code (R393). DEBUG_ATTACH to a core of a pair that debug may open
splits the pair (R398). Points the spec leaves open: log entries 100, 101. (14_redundant_execution_faults.) -/
def Obligations.CheckpointCommands : Prop :=
  (∀ (s : State) (d : CDie) (core : Fin 4) (id : BitVec 16) (full : Bool) (ctx : CoreCtx) (xMiss yMiss : Bool) (disagree :
    Bool) (ecc : Fin 3), s.runs d.val = true →
    exec (.checkpointWrite d core id full ctx xMiss yMiss disagree ecc) s = .next (
      let s := tkDisturb d.val (own (0x20000 + 0x100 * pairOf core.val)) .debug s
      checkpoint d.val core.val id.toNat full ctx xMiss yMiss disagree ecc.val s)) ∧
  (∀ (s : State) (d : CDie) (p : Fin 2), s.runs d.val = true →
    exec (.checkpointTimeout d p) s = .next (checkpointTimeout d.val p.val s)) ∧
  (∀ (s : State) (d : CDie) (p : Fin 2), s.runs d.val = true →
    exec (.checkpointMiss d p) s = .next (checkpointMiss d.val p.val s)) ∧
  (∀ (s : State) (d : CDie) (m : Master) (p : Fin 2) (lines : BitVec 16), s.runs d.val = true →
    exec (.resyncGo d m p lines) s = .next (
      tkWrite d.val m (own (F.CHK_P_RSCMD_GO p.val).off) d.val (F.CHK_P_RSCMD_GO p.val).off 1#32 false
        (resyncGo d.val p.val lines.toNat) s)) ∧
  (∀ (s : State) (d : CDie) (core : Fin 4), s.runs d.val = true →
    exec (.debugAttach d core) s = .next (debugAttach d.val core.val s)) ∧
  (∀ (s : State) (d : CDie) (p : Fin 2), s.runs d.val = true →
    ((s.chk d.val p.val).cp = none → exec (.checkpointTimeout d p) s = .next s) ∧
    (s.split d.val p.val = true → exec (.checkpointMiss d p) s = .next s) ∧
    (s.split d.val p.val = false → (s.chk d.val p.val).cpAt + s.get d.val (F.CHK_P_CPMAX p.val) * 400 ≤ s.now d.val →
      exec (.checkpointMiss d p) s = .next (ckLatch d.val p.val 3 (modChk d.val p.val (fun x =>
        { x with cpAt := s.now d.val }) s)))) ∧
  (∀ (s : State) (d : CDie) (m : Master) (p : Fin 2) (lines : BitVec 16), s.wf = true → s.runs d.val = true →
    m.safety = true → let off := (F.CHK_P_RSCMD_GO p.val).off
    s.tkReady d.val (own off) = true → exec (.resyncGo d m p lines) s = .next (tkDone d.val (own off) (s.reg d.val off)
      (newWord d.val off (s.reg d.val off) 1#32) (resyncGo d.val p.val lines.toNat s))) ∧
  (∀ (s : State) (d : CDie) (core : Fin 4), s.runs d.val = true → s.debugOpen d.val (pairOf core.val) = false →
    exec (.debugAttach d core) s = .next s)

/-- With the first core of a pair waiting at a checkpoint, no two-key sequence armed, and a clean second arrival without a
full context: the drill is counted; if the ID or the digest differs, the missed ID is that of the first arrival and the
pair's MISMATCH instance latches; if both agree, the checkpoint is counted, MATCH names its ID, and nothing latches (R388,
R395, R396). Points the spec leaves open: log entry 100. (14_redundant_execution_faults.) -/
def Obligations.AMismatchedCheckpointLatches : Prop :=
  ∀ (s : State) (d : CDie) (core : Fin 4) (id : BitVec 16) (ctx : CoreCtx) (e : CpEnt), s.runs d.val = true →
    s.flag d.val F.LIB_TK_STAT_ARMED = false →
    s.split d.val (pairOf core.val) = false → (s.chk d.val (pairOf core.val)).held = false →
    (s.chk d.val (pairOf core.val)).cp = some e → e.core ≠ core.val → e.full = false →
    let p := pairOf core.val
    let dg := [id.toNat % 256, id.toNat / 256 % 256].foldl crc32Byte (s.digest d.val core.val)
    let w := modChk d.val p (fun x => { x with cp := none }) (modChk d.val p (fun x => { x with cpAt := s.now d.val })
      (putDigest d.val core.val digPreset s))
    let n := w.get d.val F.CHK_DRILLCNT
    let u := (w.put d.val F.CHK_CMPST_LANE (n % 32)).put d.val F.CHK_DRILLCNT (n + 1)
    (e.id ≠ id.toNat ∨ e.digest ≠ dg → exec (.checkpointWrite d core id false ctx false false false 0) s =
      .next (ckLatch d.val p 0 (u.put d.val (F.CHK_P_LASTID_MISS p) e.id))) ∧
    (e.id = id.toNat → e.digest = dg → exec (.checkpointWrite d core id false ctx false false false 0) s =
      .next ((u.count d.val (F.CHK_P_CPCNT p) 1).put d.val (F.CHK_P_LASTID_MATCH p) id.toNat))

/-- FAULT_LATCH collects an instance, with its reaction or a deferral (R401 to R403). FAULT_DEFER_EXPIRY, once a deferral
has lasted FTT × 10 µs, takes the deferred reactions, and does nothing before (R403). FAULT_CLEAR and FAULT_INJECT are the
two-key writes of CLR and INJ (R405, R406). SOFTWARE_FAULT_REPORT is the write of SWREP: with GO it collects an instance
of group SW (R406). PLIC_CLAIM of the leading core returns the best pending source and puts it in service (R408).
PLIC_COMPLETE of an enabled source ends it; of another it is ignored. Points the spec leaves open: log entries 99, 102.
(14_redundant_execution_faults.) -/
def Obligations.FaultCollectionCommands : Prop :=
  (∀ (s : State) (d : CDie) (g : Fin 32) (i : Fin 64) (act : Bool), s.runs d.val = true →
    exec (.faultLatch d g i act) s = .next (collect d.val g.val i.val (act || decide (g.val ≤ 4)) s)) ∧
  (∀ (s : State) (d : CDie) (g : Fin 32), s.runs d.val = true →
    exec (.faultDeferExpiry d g) s = .next (deferExpiry d.val g.val s)) ∧
  (∀ (s : State) (d : CDie) (m : Master) (v : Word), s.runs d.val = true →
    exec (.faultClear d m v) s = .next (faultClearWrite d.val m v s)) ∧
  (∀ (s : State) (d : CDie) (m : Master) (v : Word), s.runs d.val = true →
    exec (.faultInject d m v) s = .next (faultInjectWrite d.val m v s)) ∧
  (∀ (s : State) (d : CDie) (v : Word), s.runs d.val = true →
    exec (.softwareFaultReport d v) s = .next (
      let s := tkDisturb d.val (own 0x1101C) .debug s
      swrepWrite d.val v s)) ∧
  (∀ (s : State) (d : CDie) (core : Fin 4), s.runs d.val = true →
    exec (.plicClaim d core) s = .next (plicClaim d.val core.val s)) ∧
  (∀ (s : State) (d : CDie) (ctx : Fin 2) (i : Byte), s.runs d.val = true →
    exec (.plicComplete d ctx i) s = .next (
      let s := tkDisturb d.val (0xC200004 + 0x1000 * ctx.val) .debug s
      plicFinish d.val ctx.val i.toNat s)) ∧
  (∀ (s : State) (d : CDie) (g : Fin 32), s.runs d.val = true → s.deferring d.val g.val = false →
    exec (.faultDeferExpiry d g) s = .next s) ∧
  (∀ (s : State) (d : CDie) (v : Word), s.runs d.val = true → s.flag d.val F.LIB_TK_STAT_ARMED = false →
    F.SAFE_FC_SWREP_GO.ofWord v = 1 → exec (.softwareFaultReport d v) s =
      .next (collect d.val Fg.sw (F.SAFE_FC_SWREP_INST.ofWord v) false
        (s.put d.val F.SAFE_FC_SWREP_INST (F.SAFE_FC_SWREP_INST.ofWord v)))) ∧
  (∀ (s : State) (d : CDie) (x : Fin 2) (i : Byte), s.runs d.val = true → s.flag d.val F.LIB_TK_STAT_ARMED = false →
    ((s.plic d.val).enable.at (256 * x.val + i.toNat) = true → exec (.plicComplete d x i) s =
      .next (modPlic d.val (fun y => { y with claimed := y.claimed.set i.toNat 0 }) s)) ∧
    ((s.plic d.val).enable.at (256 * x.val + i.toNat) = false → exec (.plicComplete d x i) s = .next s))

/-- THERMAL_SAMPLE is the sampling of a die's sensors, at a C die on it, at a D die on the die itself: readings, flags and
events, the derate, and the shutdown that a cause brings (R422 to R427). HW_SHUTDOWN_LOCAL, with the die's comparator at
HWSHUT, brings the loaded orphan command of each leg into force as its leg command (R428). TMOD_SAMPLE puts the millivolts
of every used leg into the registers of the C dies (R425). SHUTDOWN_RECORD_WRITE stores a waiting record within the write
window, or in the last-gasp way, and does nothing with no record (R429). THERMAL_ACK is the two-key write of LACK.GO: the
record is acknowledged, or the refusal reported (R431). Points the spec leaves open: log entries 103, 104.
(15_bist_thermal.) -/
def Obligations.ThermalCommands : Prop :=
  (∀ (s : State) (k : DDie), s.runsD k.val = true →
    exec (.hwShutdownLocal k) s = .next (
      if (s.dd k.val).hot then
         drvAct k.val (fun s => settle k.val (overN 3 (fun leg s =>
           curtainLeg k.val leg (s.get (dix k.val) F.DRV_D_ORPHAN / 4 ^ leg % 4) s) s)) s
       else s)) ∧
  (∀ (s : State) (k : DDie) (mv : Readings), s.runsD k.val = true → exec (.tmodSample k mv) s = .next (tmodSample k.val mv s)) ∧
  (∀ (s : State) (d : CDie), s.runs d.val = true → exec (.shutdownRecordWrite d) s = .next (thermTry d.val s)) ∧
  (∀ (s : State) (d : CDie) (m : Master), s.runs d.val = true →
    exec (.thermalAck d m) s = .next (tkWrite d.val m (own F.THERM_LACK_GO.off) d.val F.THERM_LACK_GO.off 1#32 false
      (thermAck d.val) s)) ∧
  (∀ (s : State) (i : DieIx) (vals : Readings),
    (i.val < 2 → s.runs i.val = true → exec (.thermalSample i vals) s = .next (thermalSample i.val vals s)) ∧
    (2 ≤ i.val → s.runsD (i.val - 2) = true → exec (.thermalSample i vals) s = .next (thermalSample i.val vals s))) ∧
  (∀ (s : State) (k : DDie), s.runsD k.val = true → (s.dd k.val).hot = false → exec (.hwShutdownLocal k) s = .next s) ∧
  (∀ (s : State) (d : CDie), s.runs d.val = true → (s.c d.val).therm.pend = none →
    exec (.shutdownRecordWrite d) s = .next s) ∧
  (∀ (s : State) (d : CDie) (m : Master), s.wf = true → s.runs d.val = true → m.safety = true →
    s.tkReady d.val (own F.THERM_LACK_GO.off) = true → s.ackRefusal d.val ≠ 0 →
    exec (.thermalAck d m) s = .next (tkDone d.val (own F.THERM_LACK_GO.off) (s.reg d.val F.THERM_LACK_GO.off)
      (newWord d.val F.THERM_LACK_GO.off (s.reg d.val F.THERM_LACK_GO.off) 1#32)
      ((s.put d.val F.THERM_LACKST_CODE (s.ackRefusal d.val)).on d.val F.THERM_EVT_ACKREF)))

/-- FLUME_START of an enabled channel that does not run makes it fetch at HEAD; of a running one it sets STARTDROP; of a
disabled one WRREF (R435). FLUME_DOORBELL reads the tail again in ENDED, pends in RUN and is a no-operation elsewhere
(R444). DESCRIPTOR_FETCH of a channel in RUN holds a descriptor that Table 16-5 lets run, and ends the channel with its
code otherwise (R436 to R440). The data move in bursts of 32 bytes, the channels taking their turns by PRIO and round
robin (R446). DESCRIPTOR_COMPLETE serves the bursts that are left, stores the CRC, completes and follows NEXT (R441, R442,
R445). DESCRIPTOR_ERROR ends the channel with BUS after `written` bytes. FLUME_ABORT in RUN wins after `written` bytes or,
after the last write, comes late; outside RUN it answers ABRES 3 (R443). Points the spec leaves open: log entry 107.
(16_flume_dma.) -/
def Obligations.FlumeCommands : Prop :=
  (∀ (s : State) (d : CDie) (n : Fin 16), s.runs d.val = true →
    exec (.flumeStart d n) s = .next (
      let s := tkDisturb d.val (own (0x90000 + 0x40 * n.val)) .debug s
      flumeStart d.val n.val s)) ∧
  (∀ (s : State) (d : CDie) (n : Fin 16), s.runs d.val = true →
    exec (.flumeDoorbell d n) s = .next (
      let s := tkDisturb d.val (own (0x9000C + 0x40 * n.val)) .debug s
      flumeDoorbell d.val n.val s)) ∧
  (∀ (s : State) (d : CDie) (n : Fin 16) (ecc : Bool), s.runs d.val = true →
    exec (.descriptorFetch d n ecc) s = .next (descFetch d.val n.val ecc s)) ∧
  (∀ (s : State) (d : CDie) (n : Fin 16), s.runs d.val = true →
    exec (.descriptorComplete d n) s = .next (descComplete d.val n s)) ∧
  (∀ (s : State) (d : CDie) (n : Fin 16) (written : BitVec 24), s.runs d.val = true →
    exec (.descriptorError d n written) s = .next (
      let s := flumeUpTo d.val n written.toNat s
      match s.flRuns d.val n.val with
      | none => s
      | some _ => flumeError d.val n.val Dcode.bus true s)) ∧
  (∀ (s : State) (d : CDie) (n : Fin 16) (written : BitVec 24) (accepted : Bool), s.runs d.val = true →
    exec (.flumeAbort d n written accepted) s = .next (
      let s := tkDisturb d.val (own (0x90000 + 0x40 * n.val)) .debug s
      flumeAbort d.val n (flumeAbortRun d.val n written.toNat accepted) s)) ∧
  (∀ (s : State) (d : CDie) (n : Fin 16), s.runs d.val = true → s.flag d.val F.LIB_TK_STAT_ARMED = false →
    s.flag d.val F.SYS_BRST_FLUME = false →
    (s.flag d.val (F.FLUME_FL_CFG_EN n.val) = false →
      exec (.flumeStart d n) s = .next (s.on d.val (F.FLUME_FL_EVT_WRREF n.val)) ∧
      exec (.flumeDoorbell d n) s = .next (s.on d.val (F.FLUME_FL_EVT_WRREF n.val)) ∧
      ∀ w ok, exec (.flumeAbort d n w ok) s = .next (s.on d.val (F.FLUME_FL_EVT_WRREF n.val))) ∧
    (s.flag d.val (F.FLUME_FL_CFG_EN n.val) = true → s.flState d.val n.val ≠ 1 → s.flState d.val n.val ≠ 2 →
        exec (.flumeDoorbell d n) s = .next (s.on d.val (F.FLUME_FL_EVT_DBNOP n.val)))) ∧
  (∀ (s : State) (d : CDie) (n : Fin 16), s.runs d.val = true → s.flState d.val n.val = 1 → (s.fl d.val n.val).desc = none →
    let a := s.get d.val (F.FLUME_FL_CUR n.val)
    (a % 32 ≠ 0 ∨ a < 0x20000000 ∨ 0x20600000 < a + 32 → ∀ ecc,
      exec (.descriptorFetch d n ecc) s = .next (flumeError d.val n.val 1 false s)) ∧
    (a % 32 = 0 → 0x20000000 ≤ a → a + 32 ≤ 0x20600000 → exec (.descriptorFetch d n true) s =
      .next (flumeError d.val n.val 2 false s)))

/-- A channel with a FILL descriptor in progress, the only one with data to move, whose destination lies in memory below
the prompt ring and apart from its own descriptor's WB word, with no CRC, no cue, NEXT ended and no doorbell pending:
DESCRIPTOR_COMPLETE leaves byte i of the destination, for every i not moved before, equal to byte (DST + i) mod 4 of the
pattern, word 7 of the descriptor 0x8000_0000, every other byte of every die as before, and the channel ENDED with CODE 0
and REMAIN 0 (R439, R441, R442, R445). Points the spec leaves open: log entry 107. (16_flume_dma.) -/
def Obligations.AFilledBlockIsWritten : Prop :=
  ∀ (s : State) (d : CDie) (n : Fin 16) (x : DescW), s.runs d.val = true → s.flState d.val n.val = 1 →
    (s.fl d.val n.val).desc = some x → (∀ m < 16, m ≠ n.val → s.flWaits d.val m = none) →
    x.mode = 1 → x.crc = 0 → x.cue = false → x.next % 2 = 1 →
    0x20000000 ≤ x.dst → x.dst + x.n ≤ 0x205C0000 → s.flag d.val (F.FLUME_FL_STAT_DBPEND n.val) = false →
    let wb := s.get d.val (F.FLUME_FL_CUR n.val) + 0x1C
    let was := x.dst + (s.fl d.val n.val).moved
    0x20000000 ≤ wb → wb + 4 ≤ 0x205C0000 → (wb + 4 ≤ x.dst ∨ x.dst + x.n ≤ wb) →
    ∃ t, exec (.descriptorComplete d n) s = .next t ∧
      (∀ a, was ≤ a → a < x.dst + x.n → t.rdB d.val a = x.src / 256 ^ (a % 4) % 256) ∧
      t.rd32 d.val wb = 0x80000000 ∧
      (∀ e a, a < 0x100000000 → (e ≠ d.val ∨ ((a < was ∨ x.dst + x.n ≤ a) ∧ (a < wb ∨ wb + 4 ≤ a))) →
        t.rdB e a = s.rdB e a) ∧
      t.flState d.val n.val = 2 ∧ t.get d.val (F.FLUME_FL_STAT_CODE n.val) = 0 ∧
      t.get d.val (F.FLUME_FL_REMAIN n.val) = 0

/-- On a controller that is not in block reset: CAN_HALT stops an idle controller at once and waits for the frame in
progress; CAN_START clears HALT, and after the recessive bits the controller synchronises (R453). CAN_BIT_TIMING_WRITE at
a stopped controller takes a timing that R451 allows and answers CFGERR to another. PARTNER_CHECK, a millisecond after the
last, checks every enabled entry; PARTNER_TIMEOUT_CLEAR clears the timeout of an entry that is alive again and refuses one
that is silent (R466, R467). CAN_ERROR_COUNT_READ answers the word and clears TOTAL (R469). CAN_BUS_ON counts the
sequences and ends bus-off at 128 (R462). Points the spec leaves open: log entries 108, 110. (17_can.) -/
def Obligations.CanControlCommands : Prop :=
  (∀ (s : State) (d : CDie) (n : Fin 4), s.runs d.val = true →
    exec (.canHalt d n) s = .next (
      let s := tkDisturb d.val (own (0x240000 + 0x10000 * n.val + 0)) .debug s
      if s.bitOf d.val F.SYS_BRST_CAN n.val then s else
      canHalt d.val n.val s)) ∧
  (∀ (s : State) (d : CDie) (n : Fin 4) (bits : Bool), s.runs d.val = true →
    exec (.canStart d n bits) s = .next (
      let s := tkDisturb d.val (own (0x240000 + 0x10000 * n.val + 0)) .debug s
      if s.bitOf d.val F.SYS_BRST_CAN n.val then s else
      let s := canStart d.val n.val s
      if bits then canSync d.val n.val s else s)) ∧
  (∀ (s : State) (d : CDie) (n : Fin 4) (data : Bool) (v : Word), s.runs d.val = true →
    exec (.canBitTimingWrite d n data v) s = .next (
      let s := tkDisturb d.val (own (0x240000 + 0x10000 * n.val + (if data then 0x10 else 0xC))) .debug s
      if s.bitOf d.val F.SYS_BRST_CAN n.val then s else
      canTiming d.val n.val data v s)) ∧
  (∀ (s : State) (d : CDie) (n : Fin 4), s.runs d.val = true →
    exec (.partnerCheck d n) s = .next (
      if s.canLive d.val n.val && s.partnersDue d.val n.val then
        let s := modCan d.val n.val (fun x => { x with checkAt := s.now d.val + 1 }) s
        let fs := s.ptWith d.val n.val 0 (fun w => (F.CAN_CAN_PT_CFG_EN 0 0).ofWord w == 1)
        ptRefresh d.val n.val (overL fs (ptCheck d.val n.val) s)
      else s)) ∧
  (∀ (s : State) (d : CDie) (n : Fin 4) (f : Fin 512), s.runs d.val = true →
    exec (.partnerTimeoutClear d n f) s = .next (
      let s := tkDisturb d.val (own (0x240000 + 0x10000 * n.val + (0x1004 + 16 * f.val))) .debug s
      if s.bitOf d.val F.SYS_BRST_CAN n.val then s else
      ptClear d.val n.val f.val s)) ∧
  (∀ (s : State) (d : CDie) (n : Fin 4), s.runs d.val = true →
    exec (.canErrorCountRead d n) s = .next (
      let v := s.reg d.val (0x240008 + 0x10000 * n.val)
      (s.modSys d.val (fun y => { y with rdata := v })).off d.val (F.CAN_CAN_ERRC_TOTAL n.val))) ∧
  (∀ (s : State) (d : CDie) (n : Fin 4) (seqs : BitVec 8), s.runs d.val = true →
    exec (.canBusOn d n seqs) s = .next (
      let d := d.val
      let n := n.val
      if s.flag d (F.CAN_CAN_STAT_OFF n) && s.canLive d n then
        let k := min 128 (s.get d (F.CAN_CAN_STAT_RECSEQ n) + seqs.toNat)
        let s := s.put d (F.CAN_CAN_STAT_RECSEQ n) k
        if k < 128 then s
        else
          let s := (s.put d (F.CAN_CAN_ERRC_TXCNT n) 0).put d (F.CAN_CAN_ERRC_RXCNT n) 0
          let s := canEvt d n CanEv.buson (s.off d (F.CAN_CAN_STAT_OFF n))
          let s := endActive d Fg.can (8 * n + 1) (canFlags d n s)
          if s.canHalted d n then s else s.put d (F.CAN_CAN_STAT_ACTY n) 1
      else s)) ∧
  (∀ (s : State) (d : CDie) (n : Fin 4), s.runs d.val = true → ∃ t, exec (.canErrorCountRead d n) s = .next t ∧
    (t.c d.val).sys.rdata = s.reg d.val (0x240008 + 0x10000 * n.val) ∧ t.get d.val (F.CAN_CAN_ERRC_TOTAL n.val) = 0 ∧
    t.get d.val (F.CAN_CAN_ERRC_TXCNT n.val) = s.get d.val (F.CAN_CAN_ERRC_TXCNT n.val)) ∧
  (∀ (s : State) (d : CDie) (n : Fin 4) (q : Byte), s.runs d.val = true → s.flag d.val (F.CAN_CAN_STAT_OFF n.val) = true →
    s.canLive d.val n.val = true → s.get d.val (F.CAN_CAN_STAT_RECSEQ n.val) + q.toNat < 128 →
    exec (.canBusOn d n q) s = .next (s.put d.val (F.CAN_CAN_STAT_RECSEQ n.val)
      (s.get d.val (F.CAN_CAN_STAT_RECSEQ n.val) + q.toNat)))

/-- CAN_FRAME_RECEIVE at a controller that receives is the reception of the frame from its start of frame on: filters,
FIFO, counters (R455, R456); a controller with FDEN = 0 takes no FD frame. RX_FIFO_RELEASE and TX_EVENT_RELEASE of an
index that is held free up to it, and refuse another with WRREF (R457, R461). TX_FIFO_QUEUE with room takes the element at
PUT and moves PUT on, and is refused with none; MAILBOX_REQUEST of a free mailbox sets it pending (R458). TX_CANCEL drops
a frame that waits with outcome CANCELLED, leaves one that has won arbitration on the bus, and answers 0 for a source with
nothing pending (R459). Points the spec leaves open: log entry 109. (17_can.) -/
def Obligations.CanQueueCommands : Prop :=
  (∀ (s : State) (d : CDie) (n : Fin 4) (frame : CanFrame), s.runs d.val = true →
    exec (.canFrameReceive d n frame) s = .next (
      if s.canHears d.val n.val && s.get d.val (F.CAN_CAN_STAT_ACTY n.val) == 2 &&
          !(frame.fd && !s.flag d.val (F.CAN_CAN_CTRL_FDEN n.val)) then
        canReceive d.val n.val (s.can d.val n.val).busSof (rxOf frame) s
      else s)) ∧
  (∀ (s : State) (d : CDie) (n : Fin 4) (m : Fin 2) (i : BitVec 9), s.runs d.val = true →
    exec (.rxFifoRelease d n m i) s = .next (
      let s := tkDisturb d.val (own (0x240000 + 0x10000 * n.val + (0x2C + 8 * m.val))) .debug s
      if s.bitOf d.val F.SYS_BRST_CAN n.val then s else
      rxRelease d.val n.val m.val i.toNat s)) ∧
  (∀ (s : State) (d : CDie) (n : Fin 4) (i : BitVec 6), s.runs d.val = true →
    exec (.txEventRelease d n i) s = .next (
      let s := tkDisturb d.val (own (0x240000 + 0x10000 * n.val + 0x58)) .debug s
      if s.bitOf d.val F.SYS_BRST_CAN n.val then s else
      teqRelease d.val n.val i.toNat s)) ∧
  (∀ (s : State) (d : CDie) (n : Fin 4), s.runs d.val = true →
    exec (.txFifoQueue d n) s = .next (
      let s := tkDisturb d.val (own (0x240000 + 0x10000 * n.val + 0x3C)) .debug s
      if s.bitOf d.val F.SYS_BRST_CAN n.val then s else
      txQueue d.val n.val s)) ∧
  (∀ (s : State) (d : CDie) (n : Fin 4) (req : BitVec 2), s.runs d.val = true →
    exec (.mailboxRequest d n req) s = .next (
      let s := tkDisturb d.val (own (0x240000 + 0x10000 * n.val + 0x44)) .debug s
      if s.bitOf d.val F.SYS_BRST_CAN n.val then s else
      mbRequest d.val n.val req.toNat s)) ∧
  (∀ (s : State) (d : CDie) (n : Fin 4) (bits : BitVec 3) (won : Bool), s.runs d.val = true →
    exec (.txCancel d n bits won) s = .next (
      let s := tkDisturb d.val (own (0x240000 + 0x10000 * n.val + 0x4C)) .debug s
      if s.bitOf d.val F.SYS_BRST_CAN n.val then s else
      txCancels d.val n.val bits.toNat won s)) ∧
  (∀ (s : State) (d : CDie) (n : Fin 4) (i : BitVec 6), s.runs d.val = true → s.flag d.val F.LIB_TK_STAT_ARMED = false →
    s.bitOf d.val F.SYS_BRST_CAN n.val = false →
    let lev := s.get d.val (F.CAN_CAN_TEQST_LEVEL n.val)
    let k := (i.toNat + 64 - s.get d.val (F.CAN_CAN_TEQST_RDIDX n.val)) % 64
    (k < lev → exec (.txEventRelease d n i) s = .next ((s.put d.val (F.CAN_CAN_TEQST_LEVEL n.val) (lev - (k + 1))).put
      d.val (F.CAN_CAN_TEQST_RDIDX n.val) ((i.toNat + 1) % 64))) ∧
    (lev ≤ k → exec (.txEventRelease d n i) s = .next (canEvt d.val n.val CanEv.wrref s))) ∧
  (∀ (s : State) (d : CDie) (n : Fin 4) (k : Fin 2), s.runs d.val = true → s.flag d.val F.LIB_TK_STAT_ARMED = false →
    s.bitOf d.val F.SYS_BRST_CAN n.val = false → let req := BitVec.ofNat 2 (k.val + 1)
    (s.bitOf d.val (F.CAN_CAN_MBCTRL_PEND n.val) k.val = false → exec (.mailboxRequest d n req) s =
      .next (s.putBit d.val (F.CAN_CAN_MBCTRL_PEND n.val) k.val true)) ∧
    (s.bitOf d.val (F.CAN_CAN_MBCTRL_PEND n.val) k.val = true → exec (.mailboxRequest d n req) s =
      .next (canEvt d.val n.val CanEv.wrref s)))

/-- CAN_START_OF_FRAME at an idle controller on the bus starts the pending frame with the lowest identifier, or makes it a
receiver (R452, R458). CAN_FRAME_SENT, CAN_ACK_ERROR and CAN_ERROR_DETECTED end the frame being sent as sent,
unacknowledged or in error; an error weighs 8 for the transmitter and 1 for a receiver, or as the operand says (R460 to
R462). TT_TRIGGER acts when the cycle time is the trigger's TMARK in a basic cycle of its own (R464).
ARD_CANDIDATE_WINDOW, WIN ms after the window began, goes to the next candidate, the next pass or FAILED (R465). Points
the spec leaves open: log entries 109, 110, 108. (17_can.) -/
def Obligations.CanBusCommands : Prop :=
  (∀ (s : State) (d : CDie) (n : Fin 4) (lost : Bool) (meas : Fin 128), s.runs d.val = true →
    exec (.canStartOfFrame d n lost meas) s = .next (
      if s.canOnBus d.val n.val && s.get d.val (F.CAN_CAN_STAT_ACTY n.val) == 1 then canSof d.val n.val lost meas.val s
      else s)) ∧
  (∀ (s : State) (d : CDie) (n : Fin 4), s.runs d.val = true →
    exec (.canFrameSent d n) s = .next (
      match (s.can d.val n.val).tx with
      | some x => if s.canOnBus d.val n.val then txDone d.val n.val x s else s
      | none => s)) ∧
  (∀ (s : State) (d : CDie) (n : Fin 4), s.runs d.val = true →
    exec (.canAckError d n) s = .next (
      match (s.can d.val n.val).tx with
      | some x =>
        if s.canOnBus d.val n.val && s.canMode d.val n.val == CanMode.normal then ackError d.val n.val x s else s
      | none => s)) ∧
  (∀ (s : State) (d : CDie) (n : Fin 4) (code : Fin 8) (data : Bool) (weigh : Fin 3), s.runs d.val = true →
    exec (.canErrorDetected d n code data weigh) s = .next (
      let d := d.val
      let n := n.val
      if s.canOnBus d n && ((s.can d n).tx.isSome || s.canHears d n) && code.val != 0 && code.val != 6 then
        if code.val == 7 && !s.flag d (F.CAN_CAN_CTRL_RESERR n) then
          canFrameEnd d n (canEvt d n CanEv.resevt s)
        else
          let k := if weigh.val == 2 then 0 else if weigh.val == 1 || (s.can d n).tx.isSome then 8 else 1
          canError d n (if code.val == 7 then 5 else code.val) k data s
      else s)) ∧
  (∀ (s : State) (d : CDie) (n : Fin 4) (i : Fin 64), s.runs d.val = true →
    exec (.ttTrigger d n i) s = .next (
      let d := d.val
      let n := n.val
      let s := canTime d n s
      if s.canOnBus d n && s.canSched d n && decide (i.val < s.trigN d n) &&
          s.get d (F.CAN_CAN_TTSTAT_CTIME n) == s.trigW d n i.val 0 % 65536 && decide ((s.can d n).trigDone ≤ i.val) &&
          s.get d (F.CAN_CAN_TTSTAT_CYC n) % 2 ^ (s.trigW d n i.val 1 % 8) == s.trigW d n i.val 0 / 2 ^ 24 % 64 then
        ttAct d n i.val (modCan d n (fun x => { x with trigDone := i.val + 1 }) s)
      else s)) ∧
  (∀ (s : State) (d : CDie) (n : Fin 4), s.runs d.val = true →
    exec (.ardCandidateWindow d n) s = .next (
      let d := d.val
      let n := n.val
      let c := s.can d n
      if !s.canHalted d n && s.canMode d n == CanMode.ard && s.get d (F.CAN_CAN_ARDST_STATE n) == 1 &&
          decide (c.ardAt + 400000 * s.get d (F.CAN_CAN_ARDCTRL_WIN n) ≤ s.now d) then
        let s := modCan d n (fun x => { x with ardGood := 0, ardAt := s.now d }) s
        if c.ardK < s.get d (F.CAN_CAN_ARDCTRL_NCAND n) then modCan d n (fun x => { x with ardK := c.ardK + 1 }) s
        else if c.ardPass + 1 < s.get d (F.CAN_CAN_ARDCTRL_ROUNDS n) then
          modCan d n (fun x => { x with ardK := 0, ardPass := c.ardPass + 1 }) s
        else canEvt d n CanEv.arddone (s.put d (F.CAN_CAN_ARDST_STATE n) 3)
      else s)) ∧
  (∀ (s : State) (d : CDie) (n : Fin 4) (x : CanTx), s.runs d.val = true → (s.can d.val n.val).tx = some x →
    s.canOnBus d.val n.val = true → s.canMode d.val n.val ≠ CanMode.normal → exec (.canAckError d n) s = .next s) ∧
  (∀ (s : State) (d : CDie) (n : Fin 4), s.runs d.val = true → s.get d.val (F.CAN_CAN_STAT_ACTY n.val) ≠ 1 →
    ∀ (lost : Bool) (meas : Fin 128), exec (.canStartOfFrame d n lost meas) s = .next s)

/-- For a receiving controller in NORMAL mode on the bus with no halt waiting, no filter in use, NOMATCH 1, no schedule,
error counters and their flags 0 and FIFO 0 not full, a received base data frame: LEVEL rises by one, the element after
the last holds the identifier, the length, NOMATCH, bits 26:14 of the stage time of its start of frame and the data bytes,
RDIDX and every byte outside that element are as before, and Q0NEW sets (R455, R456, R457). (17_can.) -/
def Obligations.AReceivedFrameIsStored : Prop :=
  ∀ (s : State) (d : CDie) (n : Fin 4) (x : CanFrame), s.runs d.val = true →
    s.canHears d.val n.val = true → s.canMode d.val n.val = 0 → s.get d.val (F.CAN_CAN_STAT_ACTY n.val) = 2 →
    (s.can d.val n.val).haltReq = false →
    s.get d.val (F.CAN_CAN_FLTCFG_USED n.val) = 0 → s.get d.val (F.CAN_CAN_FLTCFG_NOMATCH n.val) = 1 →
    s.get d.val (F.CAN_CAN_TTCFG_ROLE n.val) = 0 → s.get d.val (F.CAN_CAN_ERRC_RXCNT n.val) = 0 →
    s.get d.val (F.CAN_CAN_ERRC_TXCNT n.val) = 0 → s.get d.val (F.CAN_CAN_STAT_WARN n.val) = 0 →
    s.get d.val (F.CAN_CAN_STAT_PASSIVE n.val) = 0 → x.ext = false → x.rem = false → x.fd = false →
    (x.data.length = x.dlc.val ∧ x.dlc.val ≤ 8) →
    let lev := s.get d.val (F.CAN_CAN_RQST_LEVEL n.val 0)
    let at_ := canRam n.val (0x1000 + 72 * ((s.get d.val (F.CAN_CAN_RQST_RDIDX n.val 0) + lev) % 384))
    lev < 384 → ∃ t, exec (.canFrameReceive d n x) s = .next t ∧
      t.get d.val (F.CAN_CAN_RQST_LEVEL n.val 0) = lev + 1 ∧
      t.get d.val (F.CAN_CAN_RQST_RDIDX n.val 0) = s.get d.val (F.CAN_CAN_RQST_RDIDX n.val 0) ∧
      t.rd32 d.val at_ = x.id.toNat % 2 ^ 11 ∧
      t.rd32 d.val (at_ + 4) = x.dlc.val + 2 ^ 18 + 2 ^ 19 * ((s.can d.val n.val).busSof / 2 ^ 14 % 2 ^ 13) ∧
      (∀ i, (h : i < x.data.length) → t.rdB d.val (at_ + 8 + i) = x.data[i].toNat) ∧
      t.bitOf d.val (F.CAN_CAN_EVT n.val) CanEv.q0new = true ∧
      (∀ e a, a < 0x100000000 → (e ≠ d.val ∨ a < at_ ∨ at_ + 72 ≤ a) → t.rdB e a = s.rdB e a)

/-- RECORD_WRITE of a known code by the die that records for its source records the event (R474, R482). FLUSH_START and
PROMPT_CTRL_FLUSH with FLUSH = 1 start a flush, into the main log below 125 °C or the last-gasp area, or report BLOCKED
where there is no destination (R477, R478). FLUSH_DONE writes the unflushed records and ends a running flush that has room
for them; LAST_GASP_FULL writes what fits and stops; FLUSH_BLOCKED_RETRY, 100 µs later, starts again (R478). PROMPT_CLR is
the two-key write that empties the logs or is refused with its code (R480). SOFTWARE_RECORD is the write of SWREC: code
0xF000 + CODE with the payload registers (R481). OPTIME_READ answers the low word of the time and latches the rest for the
reading core (R473). OPTIME_SAVE, 60 s after the last, writes the time and the power-cycle count to MRAM within the
window, and waits otherwise (R472). Points the spec leaves open: log entry 111. (18_prompt_book_statistics.) -/
def Obligations.RecordAndFlushCommands : Prop :=
  (∀ (s : State) (d : CDie) (src : DieIx) (blk : Fin 32) (code : BitVec 16) (inst : Byte) (sev : Fin 5) (w0 w1 w2 w3 :
    Word), s.runs d.val = true →
    exec (.recordWrite d src blk code inst sev w0 w1 w2 w3) s = .next (
      if codeKnown code.toNat && s.recordsFor d.val src.val then
        recordEvent d.val ⟨code.toNat, blk.val, src.val, inst.toNat, sev.val, w0.toNat, w1.toNat, w2.toNat, w3.toNat⟩ s
      else s)) ∧
  (∀ (s : State) (d : CDie), s.runs d.val = true → exec (.flushStart d) s = .next (flushStart d.val s)) ∧
  (∀ (s : State) (d : CDie) (v : Word), s.runs d.val = true →
    exec (.promptCtrlFlush d v) s = .next (
      let s := tkDisturb d.val (own 0x50000) .debug s
      promptCtrl d.val v s)) ∧
  (∀ (s : State) (d : CDie), s.runs d.val = true →
    exec (.flushDone d) s = .next (
      let d := d.val
      let hot := (s.c d).prompt.flushHot
      if s.flag d F.PROMPT_STAT_FLUSHING && (!hot || decide (s.get d F.PROMPT_STAT_UNFL ≤ s.lgRoom d)) then
        let s := overN (s.get d F.PROMPT_STAT_UNFL) (fun _ s => flushOne d hot s) s
        pfFlushEnd d (flushEnd d (b2n hot) s)
      else s)) ∧
  (∀ (s : State) (d : CDie), s.runs d.val = true →
    exec (.lastGaspFull d) s = .next (
      let d := d.val
      if s.flag d F.PROMPT_STAT_FLUSHING && (s.c d).prompt.flushHot && decide (s.lgRoom d < s.get d F.PROMPT_STAT_UNFL) then
        let s := overN (s.lgRoom d) (fun _ s => flushOne d true s) s
        let s := s.modPrompt d (fun p => { p with blockedAt := s.now d })
        ((flushEnd d 2 s).on d F.PROMPT_EVT_LGFULL).on d F.PROMPT_STAT_BLOCKED
      else s)) ∧
  (∀ (s : State) (d : CDie), s.runs d.val = true →
    exec (.flushBlockedRetry d) s = .next (
      let d := d.val
      if s.flag d F.PROMPT_STAT_BLOCKED && decide ((s.c d).prompt.blockedAt + 40000 ≤ s.now d) &&
          !(s.flushDest d == 1 && s.lgRoom d == 0) then
        flushStart d (s.off d F.PROMPT_STAT_BLOCKED)
      else s)) ∧
  (∀ (s : State) (d : CDie) (m : Master), s.runs d.val = true →
    exec (.promptClr d m) s = .next (tkWrite d.val m (own F.PROMPT_CLR_GO.off) d.val F.PROMPT_CLR_GO.off 1#32 false
      (promptClr d.val) s)) ∧
  (∀ (s : State) (d : CDie) (v : Word), s.runs d.val = true →
    exec (.softwareRecord d v) s = .next (
      let s := tkDisturb d.val (own 0x50040) .debug s
      swrecWrite d.val v s)) ∧
  (∀ (s : State) (d : CDie) (m : Master), s.runs d.val = true → exec (.optimeRead d m) s = .next (optimeRead d.val m s)) ∧
  (∀ (s : State), s.runs 0 = true →
    exec .optimeSave s = .next (
      if (s.c 0).prompt.saveAt + 24000000000 ≤ s.now 0 then
         optimeSave 0 (s.modPrompt 0 (fun p => { p with saveAt := s.now 0 }))
       else s)) ∧
  (∀ (s : State) (d : CDie), s.runs d.val = true → s.flag d.val F.LIB_TK_STAT_ARMED = false →
    s.flag d.val F.PROMPT_STAT_FLUSHING = true → exec (.flushStart d) s = .next s ∧ exec (.promptCtrlFlush d 1) s = .next s) ∧
  (∀ s : State, s.runs 0 = true → (s.c 0).prompt.saveAt + 24000000000 ≤ s.now 0 → s.nvmWindow 0 = true → ∃ t,
    exec .optimeSave s = .next t ∧ t.rd32 0 0x10B80040 = s.opMs 0 % 2 ^ 32 ∧
    t.rdB 0 0x10B80044 = s.opMs 0 / 2 ^ 32 % 256 ∧ t.rd32 0 0x10B80048 = s.get 0 F.PROMPT_PCYCLE ∧
    (∀ e a, a < 0x100000000 → (e ≠ 0 ∨ a < 0x10B80040 ∨ 0x10B8004C ≤ a) → t.rdB e a = s.rdB e a) ∧ t.regs = s.regs)

/-- For a C die with fewer unflushed records than its threshold less one and an event that does not merge: RECORD_WRITE
puts OPTIME, PCYCLE, CODE, SOURCE, INST, SEV, FLAGS (LOST where records were lost), REPEAT 0 and the four payload words,
little-endian, into the 32 bytes at the ring's HEAD; HEAD and the unflushed count rise by one; every other byte of memory
and every other register keeps its value. (R471.) -/
def Obligations.AnEventGoesIntoTheRing : Prop :=
  ∀ (s : State) (d : CDie) (src : DieIx) (blk : Fin 32) (code : BitVec 16) (inst : Byte) (sev : Fin 5)
    (w0 w1 w2 w3 : Word), s.runs d.val = true → codeKnown code.toNat = true → s.recordsFor d.val src.val = true →
    mergeable code.toNat = false → s.get d.val F.PROMPT_STAT_UNFL < 2048 →
    s.get d.val F.PROMPT_STAT_UNFL + 1 < s.get d.val F.PROMPT_FLTH →
    let a := 0x205C0000 + 32 * s.get d.val F.PROMPT_RING_HEAD
    ∃ t, exec (.recordWrite d src blk code inst sev w0 w1 w2 w3) s = .next t ∧
      t.rdLE d.val a 5 = s.opMs d.val ∧ t.rdLE d.val (a + 5) 3 = s.get d.val F.PROMPT_PCYCLE ∧
      t.rdLE d.val (a + 8) 2 = code.toNat ∧ t.rdB d.val (a + 10) = 8 * blk.val + src.val ∧
      t.rdB d.val (a + 11) = inst.toNat ∧ t.rdB d.val (a + 12) = sev.val ∧
      t.rdB d.val (a + 13) = (if (s.c d.val).prompt.lostNext then 8 else 0) ∧ t.rdLE d.val (a + 14) 2 = 0 ∧
      t.rd32 d.val (a + 16) = w0.toNat ∧ t.rd32 d.val (a + 20) = w1.toNat ∧
      t.rd32 d.val (a + 24) = w2.toNat ∧ t.rd32 d.val (a + 28) = w3.toNat ∧
      t.get d.val F.PROMPT_RING_HEAD = (s.get d.val F.PROMPT_RING_HEAD + 1) % 8192 ∧
      t.get d.val F.PROMPT_STAT_UNFL = s.get d.val F.PROMPT_STAT_UNFL + 1 ∧
      (∀ e b, b < 0x100000000 → (e ≠ d.val ∨ b < a ∨ a + 32 ≤ b) → t.rdB e b = s.rdB e b) ∧
      (∀ i o, o < 0x1000000 → (i ≠ d.val ∨ (o ≠ F.PROMPT_RING_HEAD.off ∧ o ≠ F.PROMPT_STAT_UNFL.off)) →
        t.reg i o = s.reg i o)

/-- FRAME_TICK of C0, in PERIOD mode at a multiple of FPER and in CAN mode at a valid reference message, not too soon
after the last, makes the boundary due on C0 and, unless dropped, on C1; C1 alone ticks as LOCAL (R483, R484).
FRAME_REF_TIMEOUT in CAN mode, FTMO µs after the last tick, sets REFMISS and ticks FREE (R483). FRAME_BOUNDARY, 8 fabric
cycles after the tick, latches the statistics on every C die on which it is due: FNUM rises by one and SHDR shows the
tick; with none due it changes nothing (R484, R485). Points the spec leaves open: log entry 112.
(18_prompt_book_statistics.) -/
def Obligations.FrameCommands : Prop :=
  (∀ (s : State) (d : CDie) (dropped : Bool), s.runs d.val = true →
    exec (.frameTick d dropped) s = .next (
      let p := (s.c d.val).prompt
      if !s.fabric d.val then s
      else if d.val == 1 then
        if s.linkC 1 || !s.periodTick 1 || tooSoon (s.now 1) p.lastBoundary then s else frameDue 1 0 false true s
      else if s.flag 0 F.PROMPT_FCFG_SRC then
        if (s.can 0 (s.get 0 F.PROMPT_FCFG_CAN)).refAt != s.now 0 + 1 || (p.due && p.lastTick == s.now 0) then s
        else if tooSoon (s.now 0) p.lastTick then s.on 0 F.PROMPT_EVT_REFEARLY else frameTick0 s.frameCyc false dropped s
      else if !s.periodTick 0 || tooSoon (s.now 0) p.lastBoundary then s
      else frameTick0 0 false dropped s)) ∧
  (∀ (s : State) (dropped : Bool), s.runs 0 = true →
    exec (.frameRefTimeout dropped) s = .next (
      if s.flag 0 F.PROMPT_FCFG_SRC && s.fabric 0 &&
          decide ((s.c 0).prompt.lastTick + 400 * s.get 0 F.PROMPT_FTMO ≤ s.now 0) then
        frameTick0 s.frameCyc true dropped (s.on 0 F.PROMPT_EVT_REFMISS)
      else s)) ∧
  (∀ (s : State),
    exec .frameBoundary s = .next (
      
      let due := (List.range 2).any s.boundaryDue
      let s := overN 2 (fun d s => if s.boundaryDue d then boundaryOn d s else s) s
      if due then libBoundary s else s)) ∧
  (∀ s : State, (∀ d < 2, s.boundaryDue d = false) → exec .frameBoundary s = .next s) ∧
  (∀ (s : State) (dropped : Bool), s.runs 0 = true → s.fabric 0 = true → s.flag 0 F.PROMPT_FCFG_SRC = true →
    (s.can 0 (s.get 0 F.PROMPT_FCFG_CAN)).refAt = s.now 0 + 1 → (s.c 0).prompt.due = false →
    tooSoon (s.now 0) (s.c 0).prompt.lastTick = true →
    exec (.frameTick 0 dropped) s = .next (s.on 0 F.PROMPT_EVT_REFEARLY))

/-- NVM_UPDATE_OPEN, NVM_UPDATE_CHUNK, NVM_UPDATE_RESUME and NVM_UPDATE_ABORT are the writes of UPCMD with their OP,
NVM_UPDATE_ARM the two-key write of UPARM: each runs, or is refused with its code while a command runs, MRAM refuses, the
source is bad or the state does not list it (R496, R497). SETTINGS_WRITE copies WRLEN bytes from WRSRC to WRDST or is
refused; SETTINGS_COMMIT makes the bank that passes current, or ends SET_INVALID (R503). NVM_COMMAND_DONE ends the command
that runs with its code: a settings write has put its bytes in place, a chunk's bit is set (R497, R503). Points the spec
leaves open: log entry 113. (19_update_security.) -/
def Obligations.UpdateCommands : Prop :=
  (∀ (s : State) (d : CDie), s.runs d.val = true →
    exec (.nvmUpdateOpen d) s = .next (
      let s := tkDisturb d.val (own 0x60100) .debug s
      cmdOpen d.val s)) ∧
  (∀ (s : State) (d : CDie) (i : BitVec 11), s.runs d.val = true →
    exec (.nvmUpdateChunk d i) s = .next (
      let s := tkDisturb d.val (own 0x60100) .debug s
      cmdChunk d.val i.toNat s)) ∧
  (∀ (s : State) (d : CDie), s.runs d.val = true →
    exec (.nvmUpdateResume d) s = .next (
      let s := tkDisturb d.val (own 0x60100) .debug s
      updResume d.val s)) ∧
  (∀ (s : State) (d : CDie), s.runs d.val = true →
    exec (.nvmUpdateAbort d) s = .next (
      let s := tkDisturb d.val (own 0x60100) .debug s
      updAbort d.val s)) ∧
  (∀ (s : State) (d : CDie) (m : Master), s.runs d.val = true →
    exec (.nvmUpdateArm d m) s = .next (tkWrite d.val m (own F.NVM_UPARM_GO.off) d.val F.NVM_UPARM_GO.off 1#32 false
      (updArm d.val) s)) ∧
  (∀ (s : State) (d : CDie) (bad : Bool) (words : BitVec 12), s.runs d.val = true →
    exec (.nvmCommandDone d bad words) s = .next (
      let d := d.val
      match (s.nvm d).busy with
      | none => s
      | some (op, ix, code) =>
        if code == Nc.ok && (op == 1 || op == 4) && s.nvmPaused d then s
        else
          let x := s.nvm d
          let len := if code == Nc.ok then x.wrLen else min x.wrLen (32 * words.toNat)
          let s := if op == 1 then s.copyMem d x.wrSrc d x.wrDst len else s
          let code := if code == Nc.ok && op != 2 && op != 5 && bad then Nc.writeFail else code
          let s := if op == 4 && code == Nc.ok then chunkDone d ix s else s
          let s := if code == Nc.writeFail then latchFault d Fg.nvm 0 false (s.on d F.NVM_EVT_WRFAIL) else s
          let s := if code == Nc.nvmTemp || code == Nc.pfailBlock then latchFault d Fg.nvm 3 false s else s
          let s := modNvm d (fun x => { x with busy := none }) s
          ((s.off d F.NVM_ST_BUSY).put d F.NVM_ST_CODE code).on d F.NVM_EVT_DONE)) ∧
  (∀ (s : State) (d : CDie), s.runs d.val = true →
    exec (.settingsWrite d) s = .next (
      let s := tkDisturb d.val (own 0x6001C) .debug s
      setWrite d.val s)) ∧
  (∀ (s : State) (d : CDie), s.runs d.val = true →
    exec (.settingsCommit d) s = .next (
      let s := tkDisturb d.val (own 0x6001C) .debug s
      setCommit d.val s)) ∧
  (∀ (s : State) (d : CDie), s.runs d.val = true → s.flag d.val F.LIB_TK_STAT_ARMED = false →
    s.flag d.val F.NVM_ST_BUSY = true → exec (.settingsCommit d) s = .next (nvmRefuse d.val 2 Nc.busy 0 s) ∧
    exec (.nvmUpdateResume d) s = .next (nvmRefuse d.val 5 Nc.busy 0 s) ∧
    exec (.nvmUpdateAbort d) s = .next (nvmRefuse d.val 6 Nc.busy 0 s)) ∧
  (∀ (s : State) (d : CDie) (bad : Bool) (words : BitVec 12), s.runs d.val = true → (s.nvm d.val).busy = none →
    exec (.nvmCommandDone d bad words) s = .next s)

/-- COPY_AT_START of a starting die with a copy due begins it, or holds the start where the window does not allow it;
COPY_UNIT_DONE, once a unit's time is over, copies 4,096 bytes and, after the last unit, verifies the active image (R498).
NVM_TEMP_HOLD_RECHECK, 100 µs after the last check, ends the hold within the window: the erasures and the copy that are
due start (R98). RECOVERY_ENTRY of a starting die enters RECOVERY for a cause of R502, and otherwise the firmware once
nothing is before it. In RECOVERY, RECOVERY_IDENTIFY, RECOVERY_OPEN, RECOVERY_CHUNK, RECOVERY_STATUS, RECOVERY_INSTALL and
RECOVERY_RESET are the services of R502 with their answers; outside RECOVERY none of them does anything. Points the spec
leaves open: log entry 114. (04_roll_call_startup, 19_update_security.) -/
def Obligations.RecoveryCommands : Prop :=
  (∀ (s : State) (d : CDie), s.runs d.val = true →
    exec (.copyAtStart d) s = .next (if s.starting d.val && s.copyDue d.val && s.get d.val F.HDR_RC_STATUS_HOLD != 2 then
      copyBegin d.val s else s)) ∧
  (∀ (s : State) (d : CDie), s.runs d.val = true →
    exec (.copyUnitDone d) s = .next (
      let d := d.val
      if s.get d F.NVM_JRNL_STATE == Js.copying && (s.nvm d).copyAt != 0 && !s.flag d F.SYS_PFST_PFAIL &&
          s.nvmRefusal d == Nc.ok && decide ((s.nvm d).unitAt ≤ s.now d) then
        let u := (s.n d).copyUnit
        let next := s.now d + unitTime
        let s := modNvm d (fun x => { x with unitAt := next }) s
        let s := s.copyMem d (fwStaging + chunkLen * u) d (fwActive + chunkLen * u) chunkLen
        let s := s.modN d (fun v => { v with copyUnit := u + 1 })
        if u + 1 < 10 + mfChunks (s.rdBytes d fwStaging 0x40) then s else copyVerify d s
      else s)) ∧
  (∀ (s : State) (d : CDie), s.runs d.val = true →
    exec (.nvmTempHoldRecheck d) s = .next (
      let d := d.val
      let now := s.now d
      if (s.get d F.HDR_RC_STATUS_HOLD == 2 || (s.n d).eraseDue) && decide ((s.nvm d).holdAt + 40000 ≤ now) then
        let s := modNvm d (fun x => { x with holdAt := now }) s
        if s.copyWindow then
          let s := onlyIf (s.n d).eraseDue (lcErase d) s
          let s := s.put d F.HDR_RC_STATUS_HOLD 0
          if s.starting d && s.copyDue d then copyBegin d s else s
        else s
      else s)) ∧
  (∀ (s : State) (d : CDie), s.runs d.val = true →
    exec (.recoveryEntry d) s = .next (
      let c := s.recoveryCause d.val
      if !s.starting d.val then s
      else if c != 0 then enterRecovery d.val c s
      else if s.copyDue d.val || (s.nvm d.val).copyAt != 0 || (s.n d.val).eraseDue then s
      else modNvm d.val (fun x => { x with entered := true }) (refreshActive d.val s))) ∧
  (∀ (s : State) (d : CDie), s.runs d.val = true →
    exec (.recoveryIdentify d) s = .next (
      let d := d.val
      if s.recovering d then
        let hw := s.get d F.SEC_HWTYPE
        let steps := (List.range 8).map (fun i => s.get d (F.HDR_RC_STEP_STEP i))
        answer d 1 Nc.ok ([hw % 256, hw / 256] ++ steps ++ s.uid d ++
          [s.wd d F.SEC_LC_STATE.off % 256, s.get d F.SEC_SVN, s.get d F.NVM_JRNL_RCAUSE]) s
      else s)) ∧
  (∀ (s : State) (d : CDie) (manifest : List Byte), s.runs d.val = true →
    exec (.recoveryOpen d manifest) s = .next (
      let d := d.val
      if s.recovering d then
        svcRun d 2 (fun s => if s.upState d == Us.held then updResume d s
          else updOpen d ((manifest.map (·.toNat)).take manifestLen) s) s
      else s)) ∧
  (∀ (s : State) (d : CDie) (i : BitVec 16) (bytes : List Byte), s.runs d.val = true →
    exec (.recoveryChunk d i bytes) s = .next (
      let d := d.val
      if s.recovering d then svcRun d 3 (updChunk d i.toNat ((bytes.map (·.toNat)).take chunkLen)) s else s)) ∧
  (∀ (s : State) (d : CDie), s.runs d.val = true →
    exec (.recoveryStatus d) s = .next (
      let d := d.val
      if s.recovering d then
        answer d 4 Nc.ok (wordBytes (s.wd d F.NVM_UPST_STATE.off) ++ wordBytes (s.wd d F.NVM_UPCNT_PRESENT.off) ++
          wordBytes (s.wd d F.NVM_UPMISS.off)) s
      else s)) ∧
  (∀ (s : State) (d : CDie), s.runs d.val = true →
    exec (.recoveryInstall d) s = .next (
      let d := d.val
      if !s.recovering d then s
      else if s.upState d == Us.complete && s.nvmRefusal d == Nc.ok then svcReset d (armSession d (answer d 5 Nc.ok [] s))
      else answer d 5 (if s.upState d == Us.complete then s.nvmRefusal d else Nc.badState) [] s)) ∧
  (∀ (s : State) (d : CDie), s.runs d.val = true →
    exec (.recoveryReset d) s = .next (if s.recovering d.val then svcReset d.val (answer d.val 6 Nc.ok [] s) else s)) ∧
  (∀ (s : State) (d : CDie), s.runs d.val = true → s.recovering d.val = false →
    exec (.recoveryIdentify d) s = .next s ∧ exec (.recoveryStatus d) s = .next s ∧
    exec (.recoveryInstall d) s = .next s ∧ exec (.recoveryReset d) s = .next s ∧
    (∀ m, exec (.recoveryOpen d m) s = .next s) ∧ ∀ i bs, exec (.recoveryChunk d i bs) s = .next s) ∧
  (∀ (s : State) (d : CDie), s.runs d.val = true → s.recovering d.val = true → ∃ t,
    exec (.recoveryIdentify d) s = .next t ∧ (t.nvm d.val).answer.take 4 =
      [0x41, 0, s.get d.val F.SEC_HWTYPE % 256, s.get d.val F.SEC_HWTYPE / 256])

/-- SEC_REVOKE and SEC_LCCMD are the two-key writes that revoke a key slot and request a life-cycle transition, or are
refused with their code (R494, R506). KEY_PROGRAM through PROV, in BLANK or MANUFACTURE, fills an empty slot and refuses
one in use (R493). DEBUG_AUTH is the write of DBGCMD: outside DEPLOYED it is refused, while LOCKED it answers LOCKED; a
signature that a key verifies opens what is requested, and another counts a failure (R509). IDCODE, SAMPLE_PRELOAD,
EXTEST, PROV, DEBUG, AUTH, SCAN and BYPASS select their instruction on a C die that the part has, reset or not, where the
life cycle opens it, and BYPASS otherwise; only EXTEST drives the terminals (R506, R508). IDCODE answers the stepping
letter, the hardware type, 0x4E7 and 1; SAMPLE_PRELOAD takes the cells; PROV requests the transition it carries. Points
the spec leaves open: log entries 115, 116. (19_update_security.) -/
def Obligations.SecurityCommands : Prop :=
  (∀ (s : State) (d : CDie) (m : Master) (slot : Fin 8), s.runs d.val = true →
    exec (.secRevoke d m slot) s = .next (
      let v := BitVec.ofNat 32 (slot.val + 256)
      tkWrite d.val m (own F.SEC_REVOKE_SLOT.off) d.val F.SEC_REVOKE_SLOT.off v false (revokeWrite d.val v) s)) ∧
  (∀ (s : State) (d : CDie) (m : Master) (target : Fin 8), s.runs d.val = true →
    exec (.secLccmd d m target) s = .next (
      let v := BitVec.ofNat 32 (target.val + 256)
      tkWrite d.val m (own F.SEC_LCCMD_TARGET.off) d.val F.SEC_LCCMD_TARGET.off v false (lccmdWrite d.val v) s)) ∧
  (∀ (s : State) (d : CDie) (slot : Fin 8) (use_ : BitVec 4) (data : List Word), s.hasC d.val = true →
    exec (.keyProgram d slot use_ data) s = .next (
      if (s.port d.val).ir == Ti.prov && decide (s.lc d.val ≤ 1) then
        keyProgram d.val slot.val use_.toNat (data.map (·.toNat)) s
      else s)) ∧
  (∀ (s : State) (d : CDie), s.runs d.val = true →
    exec (.debugAuth d) s = .next (
      let s := tkDisturb d.val (own 0x70160) .debug s
      authenticate d.val s)) ∧
  (∀ (s : State) (d : CDie), s.hasC d.val = true →
    exec (.idcode d) s = .next (
      let s := tapSelect d.val Ti.idcode s
      s.modSys d.val (fun y => { y with rdata := BitVec.ofNat 32 (s.idcode d.val) }))) ∧
  (∀ (s : State) (d : CDie) (cells : List Bool), s.hasC d.val = true →
    exec (.samplePreload d cells) s = .next (
      let s := tapSelect d.val Ti.sample s
      if (s.port d.val).ir == Ti.sample then modTap d.val (fun t => { t with cells := cells }) s else s)) ∧
  (∀ (s : State) (d : CDie), s.hasC d.val = true → exec (.extest d) s = .next (tapSelect d.val Ti.extest s)) ∧
  (∀ (s : State) (d : CDie) (target : Option Byte), s.hasC d.val = true →
    exec (.prov d target) s = .next (
      let s := tapSelect d.val Ti.prov s
      match target with
      | some t => if (s.port d.val).ir == Ti.prov then lcRequest d.val t.toNat true s else s
      | none => s)) ∧
  (∀ (s : State) (d : CDie), s.hasC d.val = true → exec (.debug d) s = .next (tapSelect d.val Ti.debug s)) ∧
  (∀ (s : State) (d : CDie), s.hasC d.val = true → exec (.auth d) s = .next (tapSelect d.val Ti.auth s)) ∧
  (∀ (s : State) (d : CDie), s.hasC d.val = true → exec (.scan d) s = .next (tapSelect d.val Ti.scan s)) ∧
  (∀ (s : State) (d : CDie), s.hasC d.val = true → exec (.bypass d) s = .next (tapSelect d.val Ti.bypass s)) ∧
  (∀ (s : State) (d : CDie), s.runs d.val = true → s.flag d.val F.LIB_TK_STAT_ARMED = false →
    (s.lc d.val ≠ 2 → exec (.debugAuth d) s = .next (s.on d.val F.SEC_EVT_WRREF)) ∧
    (s.lc d.val = 2 → s.flag d.val F.SEC_DBGST_LOCKED = true →
      exec (.debugAuth d) s = .next ((s.put d.val F.SEC_ST_CODE Sx.locked).on d.val F.SEC_EVT_REFUSED))) ∧
  (∀ (s : State) (d : CDie), s.hasC d.val = true →
    (∃ t, exec (.bypass d) s = .next t ∧ (t.port d.val).ir = 0xFF ∧ (t.port d.val).drives = false ∧ t.regs = s.regs) ∧
    (s.tapOpens d.val 0x03 = true → ∃ t, exec (.extest d) s = .next t ∧ (t.port d.val).ir = 0x03 ∧
      (t.port d.val).drives = true ∧ (t.port d.val).cells = (s.port d.val).cells ∧ t.regs = s.regs) ∧
    (s.tapOpens d.val 0x03 = false → ∃ t, exec (.extest d) s = .next t ∧ (t.port d.val).ir = 0xFF ∧
      (t.port d.val).drives = false ∧ t.regs = s.regs))
end

