-- ==== Sys2Proof/Laws/Tab.lean ====
section
/-! SUPPORT. The laws of the sparse tables: reading after a write, and the canonical form that every table operation
keeps. -/

namespace Sys2Proof

/-! ### Reading -/

@[simp] theorem Tab.find_del_same {α : Type} (k : Nat) : ∀ m : Tab α, Tab.find k (Tab.del k m) = none
  | [] => rfl
  | (j, v) :: t => by
    by_cases e : j = k
    · simp only [Tab.del, e, if_true]; exact Tab.find_del_same k t
    · simp only [Tab.del, e, if_false, Tab.find]; exact Tab.find_del_same k t

theorem Tab.find_del_other {α : Type} {k j : Nat} (h : j ≠ k) : ∀ m : Tab α, Tab.find j (Tab.del k m) = Tab.find j m
  | [] => rfl
  | (i, v) :: t => by
    have ih := Tab.find_del_other h t
    by_cases e : i = k
    · have : ¬ i = j := fun c => h (c ▸ e)
      simp only [Tab.del, e, if_true, Tab.find]
      rw [if_neg (fun c => h (by omega))]; exact ih
    · simp only [Tab.del, e, if_false, Tab.find, ih]

@[simp] theorem Tab.find_ins_same {α : Type} (k : Nat) (v : α) : ∀ m : Tab α, Tab.find k (Tab.ins k v m) = some v
  | [] => by simp [Tab.ins, Tab.find]
  | (j, w) :: t => by
    have ih := Tab.find_ins_same k v t
    unfold Tab.ins
    split
    · simp [Tab.find]
    · split
      · simp [Tab.find]
      · rename_i h1 h2
        simp only [Tab.find]
        rw [if_neg (fun c => h2 c.symm)]; exact ih

theorem Tab.find_ins_other {α : Type} {k j : Nat} (h : j ≠ k) (v : α) : ∀ m : Tab α,
    Tab.find j (Tab.ins k v m) = Tab.find j m
  | [] => by simp [Tab.ins, Tab.find, Ne.symm h]
  | (i, w) :: t => by
    have ih := Tab.find_ins_other h v t
    unfold Tab.ins
    split
    · simp [Tab.find, Ne.symm h]
    · split
      · rename_i h1 h2
        subst h2
        simp only [Tab.find]
        rw [if_neg (Ne.symm h), if_neg (Ne.symm h)]
      · simp only [Tab.find, ih]

/-- A read after a write to the same key gives the value written. -/
@[simp] theorem Tab.read_write_same {α : Type} [DecidableEq α] (d : Nat → α) (m : Tab α) (k : Nat) (v : α) :
    Tab.read d (Tab.write d m k v) k = v := by
  unfold Tab.read Tab.write
  split
  · rename_i e; simp [e]
  · simp

/-- A write leaves every other key alone. -/
theorem Tab.read_write_other {α : Type} [DecidableEq α] (d : Nat → α) (m : Tab α) {k j : Nat} (v : α) (h : j ≠ k) :
    Tab.read d (Tab.write d m k v) j = Tab.read d m j := by
  unfold Tab.read Tab.write
  split
  · rw [Tab.find_del_other h]
  · rw [Tab.find_ins_other h]

@[simp] theorem Tab.at_set_same {α : Type} [DecidableEq α] [Inhabited α] (m : Tab α) (k : Nat) (v : α) :
    (Tab.set m k v).at k = v := Tab.read_write_same _ _ _ _

theorem Tab.at_set_other {α : Type} [DecidableEq α] [Inhabited α] (m : Tab α) {k j : Nat} (v : α) (h : j ≠ k) :
    (Tab.set m k v).at j = Tab.at m j := Tab.read_write_other _ _ _ h

@[simp] theorem Tab.at_mod_same {α : Type} [DecidableEq α] [Inhabited α] (m : Tab α) (k : Nat) (f : α → α) :
    (Tab.mod m k f).at k = f (Tab.at m k) := Tab.at_set_same _ _ _

theorem Tab.at_mod_other {α : Type} [DecidableEq α] [Inhabited α] (m : Tab α) {k j : Nat} (f : α → α) (h : j ≠ k) :
    (Tab.mod m k f).at j = Tab.at m j := Tab.at_set_other _ _ h

/-! ### The canonical form -/

theorem Tab.rising_mono {α : Type} {a b : Nat} (h : b ≤ a) : ∀ (m : Tab α), Tab.rising a m = true → Tab.rising b m = true
  | [], _ => rfl
  | (j, _) :: t, hm => by
    simp only [Tab.rising, Bool.and_eq_true, decide_eq_true_eq] at hm ⊢
    exact ⟨Nat.le_trans h hm.1, hm.2⟩

theorem Tab.rising_del {α : Type} (k : Nat) : ∀ (lo : Nat) (m : Tab α), Tab.rising lo m = true → Tab.rising lo (Tab.del k m) = true
  | _, [], _ => rfl
  | lo, (j, v) :: t, hm => by
    simp only [Tab.rising, Bool.and_eq_true, decide_eq_true_eq] at hm
    have ih := Tab.rising_del k (j + 1) t hm.2
    by_cases e : j = k
    · simp only [Tab.del, e, if_true]
      exact Tab.rising_mono (by omega) _ (e ▸ ih)
    · simp only [Tab.del, e, if_false, Tab.rising, Bool.and_eq_true, decide_eq_true_eq]
      exact ⟨hm.1, ih⟩

theorem Tab.rising_ins {α : Type} (k : Nat) (v : α) : ∀ (lo : Nat) (m : Tab α), lo ≤ k → Tab.rising lo m = true →
    Tab.rising lo (Tab.ins k v m) = true
  | lo, [], hk, _ => by simp [Tab.ins, Tab.rising, hk]
  | lo, (j, w) :: t, hk, hm => by
    simp only [Tab.rising, Bool.and_eq_true, decide_eq_true_eq] at hm
    unfold Tab.ins
    split
    · rename_i hlt
      simp only [Tab.rising, Bool.and_eq_true, decide_eq_true_eq]
      exact ⟨hk, hlt, hm.2⟩
    · split
      · rename_i he
        simp only [Tab.rising, Bool.and_eq_true, decide_eq_true_eq]
        exact ⟨hk, he ▸ hm.2⟩
      · simp only [Tab.rising, Bool.and_eq_true, decide_eq_true_eq]
        exact ⟨hm.1, Tab.rising_ins k v (j + 1) t (by omega) hm.2⟩

theorem Tab.lean_del {α : Type} [DecidableEq α] (d : Nat → α) (k : Nat) : ∀ (m : Tab α), Tab.lean d m = true →
    Tab.lean d (Tab.del k m) = true
  | [], _ => rfl
  | (j, v) :: t, hm => by
    simp only [Tab.lean, Bool.and_eq_true] at hm
    have ih := Tab.lean_del d k t hm.2
    by_cases e : j = k
    · simp only [Tab.del, e, if_true]; exact ih
    · simp only [Tab.del, e, if_false, Tab.lean, Bool.and_eq_true]; exact ⟨hm.1, ih⟩

theorem Tab.lean_ins {α : Type} [DecidableEq α] (d : Nat → α) (k : Nat) (v : α) (hv : v ≠ d k) : ∀ (m : Tab α),
    Tab.lean d m = true → Tab.lean d (Tab.ins k v m) = true
  | [], _ => by simp [Tab.ins, Tab.lean, hv]
  | (j, w) :: t, hm => by
    simp only [Tab.lean, Bool.and_eq_true] at hm
    unfold Tab.ins
    split
    · simp only [Tab.lean, Bool.and_eq_true]; exact ⟨by simpa using hv, hm.1, hm.2⟩
    · split
      · simp only [Tab.lean, Bool.and_eq_true]; exact ⟨by simpa using hv, hm.2⟩
      · simp only [Tab.lean, Bool.and_eq_true]; exact ⟨hm.1, Tab.lean_ins d k v hv t hm.2⟩

theorem Tab.wf_write {α : Type} [DecidableEq α] (d : Nat → α) (m : Tab α) (k : Nat) (v : α) (h : Tab.wf d m = true) :
    Tab.wf d (Tab.write d m k v) = true := by
  simp only [Tab.wf, Bool.and_eq_true] at h ⊢
  unfold Tab.write
  split
  · exact ⟨Tab.rising_del k 0 m h.1, Tab.lean_del d k m h.2⟩
  · exact ⟨Tab.rising_ins k v 0 m (Nat.zero_le _) h.1, Tab.lean_ins d k v (by assumption) m h.2⟩

theorem Tab.wf_filter {α : Type} [DecidableEq α] (d : Nat → α) (p : Nat × α → Bool) (m : Tab α) (h : Tab.wf d m = true) :
    Tab.wf d (m.filter p) = true := by
  have h1 : ∀ (m : Tab α) lo, Tab.rising lo m = true → Tab.rising lo (m.filter p) = true := by
    intro m
    induction m with
    | nil => intro lo _; rfl
    | cons e t ih =>
      obtain ⟨j, v⟩ := e
      intro lo hm
      simp only [Tab.rising, Bool.and_eq_true, decide_eq_true_eq] at hm
      by_cases c : p (j, v) = true
      · simp only [List.filter_cons, c, if_true, Tab.rising, Bool.and_eq_true, decide_eq_true_eq]
        exact ⟨hm.1, ih _ hm.2⟩
      · simp only [List.filter_cons, c]
        exact ih lo (Tab.rising_mono (by omega) _ hm.2)
  have h2 : ∀ (m : Tab α), Tab.lean d m = true → Tab.lean d (m.filter p) = true := by
    intro m
    induction m with
    | nil => intro _; rfl
    | cons e t ih =>
      obtain ⟨j, v⟩ := e
      intro hm
      simp only [Tab.lean, Bool.and_eq_true] at hm
      by_cases c : p (j, v) = true
      · simp only [List.filter_cons, c, if_true, Tab.lean, Bool.and_eq_true]
        exact ⟨hm.1, ih hm.2⟩
      · simp only [List.filter_cons, c]
        exact ih hm.2
  simp only [Tab.wf, Bool.and_eq_true] at h ⊢
  exact ⟨h1 m 0 h.1, h2 m h.2⟩

end Sys2Proof
end

