-- ==== Sys2Proof/Laws/State.lean ====
section
/-! SUPPORT. The laws of the state's own updates: one lemma per field per update, reading a register or a field after
another is written, and the bytes of memory. -/

namespace Sys2Proof.Machine

/-! ### Fields of a word -/

theorem Fld.ofWord_testBit (f : Fld) (w : Word) (k : Nat) :
    (f.ofWord w).testBit k = (decide (k < f.hi + 1 - f.lo) && w.getLsbD (f.lo + k)) := by
  unfold Fld.ofWord
  rw [Nat.testBit_mod_two_pow, Nat.testBit_div_two_pow]
  simp [BitVec.getLsbD, Nat.add_comm]

theorem Fld.into_getLsbD (f : Fld) (w : Word) (v k : Nat) (hk : k < 32) :
    (f.into w v).getLsbD k =
      if f.lo ≤ k ∧ k - f.lo < f.hi + 1 - f.lo then v.testBit (k - f.lo) else w.getLsbD k := by
  unfold Fld.into Fld.mask
  rw [BitVec.getLsbD_or, BitVec.getLsbD_and, BitVec.getLsbD_not]
  simp only [BitVec.getLsbD_ofNat, hk, decide_true, Bool.true_and, Nat.testBit_mul_two_pow,
    Nat.testBit_two_pow_sub_one, Nat.testBit_mod_two_pow]
  by_cases h1 : f.lo ≤ k
  · by_cases h2 : k - f.lo < f.hi + 1 - f.lo
    · simp [h1, h2]
    · simp [h1, h2]
  · simp [h1]

/-- A field read from a word into which it was written: the value, modulo the field's size. -/
theorem Fld.ofWord_into_same (f : Fld) (w : Word) (v : Nat) (h : f.hi < 32) : f.ofWord (f.into w v) = v % f.size := by
  apply Nat.eq_of_testBit_eq
  intro k
  rw [Fld.ofWord_testBit]
  unfold Fld.size
  rw [Nat.testBit_mod_two_pow]
  by_cases hk : k < f.hi + 1 - f.lo
  · rw [Fld.into_getLsbD f w v (f.lo + k) (by omega)]
    simp [hk]
  · simp [hk]

/-- A field read from a word into which another field, of other bits, was written. -/
theorem Fld.ofWord_into_other (f g : Fld) (w : Word) (v : Nat) (h : g.hi < 32) (hd : f.hi < g.lo ∨ g.hi < f.lo) :
    g.ofWord (f.into w v) = g.ofWord w := by
  apply Nat.eq_of_testBit_eq
  intro k
  rw [Fld.ofWord_testBit, Fld.ofWord_testBit]
  by_cases hk : k < g.hi + 1 - g.lo
  · rw [Fld.into_getLsbD f w v (g.lo + k) (by omega)]
    rw [if_neg (by omega)]
  · simp [hk]

theorem Fld.ofWord_lt (f : Fld) (w : Word) : f.ofWord w < f.size := Nat.mod_lt _ (Nat.two_pow_pos _)

/-! ### Registers -/

theorem regKey_inj {i j a b : Nat} (ha : a < 0x1000000) (hb : b < 0x1000000) :
    regKey i a = regKey j b ↔ i = j ∧ a = b := by
  unfold regKey; omega

@[simp] theorem State.reg_setReg_same (s : State) (i off : Nat) (w : Word) : (s.setReg i off w).reg i off = w :=
  Tab.read_write_same _ _ _ _

theorem State.reg_setReg_key {s : State} {i off j o : Nat} {w : Word} (h : regKey j o ≠ regKey i off) :
    (s.setReg i off w).reg j o = s.reg j o := Tab.read_write_other _ _ _ h

theorem State.reg_setReg_other {s : State} {i off j o : Nat} {w : Word} (ha : off < 0x1000000) (hb : o < 0x1000000)
    (h : j ≠ i ∨ o ≠ off) : (s.setReg i off w).reg j o = s.reg j o :=
  State.reg_setReg_key (fun e => by have := (regKey_inj hb ha).mp e; omega)

/-- A field read after it was put. -/
theorem State.get_put_same (s : State) (i : Nat) (f : Fld) (v : Nat) (h : f.hi < 32) :
    (s.put i f v).get i f = v % f.size := by
  unfold State.get State.put
  rw [State.reg_setReg_same, Fld.ofWord_into_same f _ _ h]

/-- A field read after a field of another register, or of another die, was put. -/
theorem State.get_put_other {s : State} {i j : Nat} {f g : Fld} {v : Nat} (hf : f.off < 0x1000000)
    (hg : g.off < 0x1000000) (h : j ≠ i ∨ g.off ≠ f.off) : (s.put i f v).get j g = s.get j g := by
  unfold State.get State.put
  rw [State.reg_setReg_other hf hg h]

/-- A field read after another field of the same register was put. -/
theorem State.get_put_bits {s : State} {i : Nat} {f g : Fld} {v : Nat} (hg : g.hi < 32) (ho : g.off = f.off)
    (hd : f.hi < g.lo ∨ g.hi < f.lo) : (s.put i f v).get i g = s.get i g := by
  unfold State.get State.put
  rw [ho, State.reg_setReg_same, Fld.ofWord_into_other f g _ _ hg hd]

theorem State.get_lt (s : State) (i : Nat) (f : Fld) : s.get i f < f.size := Fld.ofWord_lt f _

theorem State.reg_put_other {s : State} {i j o : Nat} {f : Fld} {v : Nat} (hf : f.off < 0x1000000)
    (ho : o < 0x1000000) (h : j ≠ i ∨ o ≠ f.off) : (s.put i f v).reg j o = s.reg j o := State.reg_setReg_other hf ho h

/-! ### One lemma per field per update -/

@[simp] theorem State.setReg_part (s : State) (i off : Nat) (w : Word) : (s.setReg i off w).part = s.part := by cases s; rfl
@[simp] theorem State.setReg_mem (s : State) (i off : Nat) (w : Word) : (s.setReg i off w).mem = s.mem := by cases s; rfl
@[simp] theorem State.setReg_cdie (s : State) (i off : Nat) (w : Word) : (s.setReg i off w).cdie = s.cdie := by cases s; rfl
@[simp] theorem State.setReg_nv (s : State) (i off : Nat) (w : Word) : (s.setReg i off w).nv = s.nv := by cases s; rfl
@[simp] theorem State.setReg_ddie (s : State) (i off : Nat) (w : Word) : (s.setReg i off w).ddie = s.ddie := by cases s; rfl
@[simp] theorem State.setReg_keep (s : State) (i off : Nat) (w : Word) : (s.setReg i off w).keep = s.keep := by cases s; rfl
@[simp] theorem State.setReg_tap (s : State) (i off : Nat) (w : Word) : (s.setReg i off w).tap = s.tap := by cases s; rfl
@[simp] theorem State.setReg_pkg (s : State) (i off : Nat) (w : Word) : (s.setReg i off w).pkg = s.pkg := by cases s; rfl
@[simp] theorem State.setReg_free (s : State) (i off : Nat) (w : Word) : (s.setReg i off w).free = s.free := by cases s; rfl
@[simp] theorem State.setReg_ld (s : State) (i off : Nat) (w : Word) : (s.setReg i off w).ld = s.ld := by cases s; rfl
@[simp] theorem State.setReg_pending (s : State) (i off : Nat) (w : Word) : (s.setReg i off w).pending = s.pending := by cases s; rfl

@[simp] theorem State.put_part (s : State) (i : Nat) (f : Fld) (v : Nat) : (s.put i f v).part = s.part := by cases s; rfl
@[simp] theorem State.put_mem (s : State) (i : Nat) (f : Fld) (v : Nat) : (s.put i f v).mem = s.mem := by cases s; rfl
@[simp] theorem State.put_cdie (s : State) (i : Nat) (f : Fld) (v : Nat) : (s.put i f v).cdie = s.cdie := by cases s; rfl
@[simp] theorem State.put_nv (s : State) (i : Nat) (f : Fld) (v : Nat) : (s.put i f v).nv = s.nv := by cases s; rfl
@[simp] theorem State.put_ddie (s : State) (i : Nat) (f : Fld) (v : Nat) : (s.put i f v).ddie = s.ddie := by cases s; rfl
@[simp] theorem State.put_keep (s : State) (i : Nat) (f : Fld) (v : Nat) : (s.put i f v).keep = s.keep := by cases s; rfl
@[simp] theorem State.put_tap (s : State) (i : Nat) (f : Fld) (v : Nat) : (s.put i f v).tap = s.tap := by cases s; rfl
@[simp] theorem State.put_pkg (s : State) (i : Nat) (f : Fld) (v : Nat) : (s.put i f v).pkg = s.pkg := by cases s; rfl
@[simp] theorem State.put_free (s : State) (i : Nat) (f : Fld) (v : Nat) : (s.put i f v).free = s.free := by cases s; rfl
@[simp] theorem State.put_ld (s : State) (i : Nat) (f : Fld) (v : Nat) : (s.put i f v).ld = s.ld := by cases s; rfl
@[simp] theorem State.put_pending (s : State) (i : Nat) (f : Fld) (v : Nat) : (s.put i f v).pending = s.pending := by cases s; rfl

@[simp] theorem State.modC_part (s : State) (d : Nat) (f : CtlDie → CtlDie) : (s.modC d f).part = s.part := by cases s; rfl
@[simp] theorem State.modC_regs (s : State) (d : Nat) (f : CtlDie → CtlDie) : (s.modC d f).regs = s.regs := by cases s; rfl
@[simp] theorem State.modC_mem (s : State) (d : Nat) (f : CtlDie → CtlDie) : (s.modC d f).mem = s.mem := by cases s; rfl
@[simp] theorem State.modC_nv (s : State) (d : Nat) (f : CtlDie → CtlDie) : (s.modC d f).nv = s.nv := by cases s; rfl
@[simp] theorem State.modC_ddie (s : State) (d : Nat) (f : CtlDie → CtlDie) : (s.modC d f).ddie = s.ddie := by cases s; rfl
@[simp] theorem State.modC_keep (s : State) (d : Nat) (f : CtlDie → CtlDie) : (s.modC d f).keep = s.keep := by cases s; rfl
@[simp] theorem State.modC_tap (s : State) (d : Nat) (f : CtlDie → CtlDie) : (s.modC d f).tap = s.tap := by cases s; rfl
@[simp] theorem State.modC_pkg (s : State) (d : Nat) (f : CtlDie → CtlDie) : (s.modC d f).pkg = s.pkg := by cases s; rfl
@[simp] theorem State.modC_free (s : State) (d : Nat) (f : CtlDie → CtlDie) : (s.modC d f).free = s.free := by cases s; rfl
@[simp] theorem State.modC_ld (s : State) (d : Nat) (f : CtlDie → CtlDie) : (s.modC d f).ld = s.ld := by cases s; rfl
@[simp] theorem State.modC_pending (s : State) (d : Nat) (f : CtlDie → CtlDie) : (s.modC d f).pending = s.pending := by cases s; rfl

@[simp] theorem State.modN_part (s : State) (d : Nat) (f : NvC → NvC) : (s.modN d f).part = s.part := by cases s; rfl
@[simp] theorem State.modN_regs (s : State) (d : Nat) (f : NvC → NvC) : (s.modN d f).regs = s.regs := by cases s; rfl
@[simp] theorem State.modN_mem (s : State) (d : Nat) (f : NvC → NvC) : (s.modN d f).mem = s.mem := by cases s; rfl
@[simp] theorem State.modN_cdie (s : State) (d : Nat) (f : NvC → NvC) : (s.modN d f).cdie = s.cdie := by cases s; rfl
@[simp] theorem State.modN_ddie (s : State) (d : Nat) (f : NvC → NvC) : (s.modN d f).ddie = s.ddie := by cases s; rfl
@[simp] theorem State.modN_keep (s : State) (d : Nat) (f : NvC → NvC) : (s.modN d f).keep = s.keep := by cases s; rfl
@[simp] theorem State.modN_tap (s : State) (d : Nat) (f : NvC → NvC) : (s.modN d f).tap = s.tap := by cases s; rfl
@[simp] theorem State.modN_pkg (s : State) (d : Nat) (f : NvC → NvC) : (s.modN d f).pkg = s.pkg := by cases s; rfl
@[simp] theorem State.modN_free (s : State) (d : Nat) (f : NvC → NvC) : (s.modN d f).free = s.free := by cases s; rfl
@[simp] theorem State.modN_ld (s : State) (d : Nat) (f : NvC → NvC) : (s.modN d f).ld = s.ld := by cases s; rfl
@[simp] theorem State.modN_pending (s : State) (d : Nat) (f : NvC → NvC) : (s.modN d f).pending = s.pending := by cases s; rfl

@[simp] theorem State.modD_part (s : State) (k : Nat) (f : DieD → DieD) : (s.modD k f).part = s.part := by cases s; rfl
@[simp] theorem State.modD_regs (s : State) (k : Nat) (f : DieD → DieD) : (s.modD k f).regs = s.regs := by cases s; rfl
@[simp] theorem State.modD_mem (s : State) (k : Nat) (f : DieD → DieD) : (s.modD k f).mem = s.mem := by cases s; rfl
@[simp] theorem State.modD_cdie (s : State) (k : Nat) (f : DieD → DieD) : (s.modD k f).cdie = s.cdie := by cases s; rfl
@[simp] theorem State.modD_nv (s : State) (k : Nat) (f : DieD → DieD) : (s.modD k f).nv = s.nv := by cases s; rfl
@[simp] theorem State.modD_keep (s : State) (k : Nat) (f : DieD → DieD) : (s.modD k f).keep = s.keep := by cases s; rfl
@[simp] theorem State.modD_tap (s : State) (k : Nat) (f : DieD → DieD) : (s.modD k f).tap = s.tap := by cases s; rfl
@[simp] theorem State.modD_pkg (s : State) (k : Nat) (f : DieD → DieD) : (s.modD k f).pkg = s.pkg := by cases s; rfl
@[simp] theorem State.modD_free (s : State) (k : Nat) (f : DieD → DieD) : (s.modD k f).free = s.free := by cases s; rfl
@[simp] theorem State.modD_ld (s : State) (k : Nat) (f : DieD → DieD) : (s.modD k f).ld = s.ld := by cases s; rfl
@[simp] theorem State.modD_pending (s : State) (k : Nat) (f : DieD → DieD) : (s.modD k f).pending = s.pending := by cases s; rfl

@[simp] theorem State.modK_part (s : State) (k : Nat) (f : Keep → Keep) : (s.modK k f).part = s.part := by cases s; rfl
@[simp] theorem State.modK_regs (s : State) (k : Nat) (f : Keep → Keep) : (s.modK k f).regs = s.regs := by cases s; rfl
@[simp] theorem State.modK_mem (s : State) (k : Nat) (f : Keep → Keep) : (s.modK k f).mem = s.mem := by cases s; rfl
@[simp] theorem State.modK_cdie (s : State) (k : Nat) (f : Keep → Keep) : (s.modK k f).cdie = s.cdie := by cases s; rfl
@[simp] theorem State.modK_nv (s : State) (k : Nat) (f : Keep → Keep) : (s.modK k f).nv = s.nv := by cases s; rfl
@[simp] theorem State.modK_ddie (s : State) (k : Nat) (f : Keep → Keep) : (s.modK k f).ddie = s.ddie := by cases s; rfl
@[simp] theorem State.modK_tap (s : State) (k : Nat) (f : Keep → Keep) : (s.modK k f).tap = s.tap := by cases s; rfl
@[simp] theorem State.modK_pkg (s : State) (k : Nat) (f : Keep → Keep) : (s.modK k f).pkg = s.pkg := by cases s; rfl
@[simp] theorem State.modK_free (s : State) (k : Nat) (f : Keep → Keep) : (s.modK k f).free = s.free := by cases s; rfl
@[simp] theorem State.modK_ld (s : State) (k : Nat) (f : Keep → Keep) : (s.modK k f).ld = s.ld := by cases s; rfl
@[simp] theorem State.modK_pending (s : State) (k : Nat) (f : Keep → Keep) : (s.modK k f).pending = s.pending := by cases s; rfl

@[simp] theorem State.drawn_part (s : State) : (s.drawn).part = s.part := by cases s; rfl
@[simp] theorem State.drawn_regs (s : State) : (s.drawn).regs = s.regs := by cases s; rfl
@[simp] theorem State.drawn_mem (s : State) : (s.drawn).mem = s.mem := by cases s; rfl
@[simp] theorem State.drawn_cdie (s : State) : (s.drawn).cdie = s.cdie := by cases s; rfl
@[simp] theorem State.drawn_nv (s : State) : (s.drawn).nv = s.nv := by cases s; rfl
@[simp] theorem State.drawn_ddie (s : State) : (s.drawn).ddie = s.ddie := by cases s; rfl
@[simp] theorem State.drawn_keep (s : State) : (s.drawn).keep = s.keep := by cases s; rfl
@[simp] theorem State.drawn_tap (s : State) : (s.drawn).tap = s.tap := by cases s; rfl
@[simp] theorem State.drawn_pkg (s : State) : (s.drawn).pkg = s.pkg := by cases s; rfl
@[simp] theorem State.drawn_ld (s : State) : (s.drawn).ld = s.ld := by cases s; rfl
@[simp] theorem State.drawn_pending (s : State) : (s.drawn).pending = s.pending := by cases s; rfl

@[simp] theorem State.wrB_part (s : State) (i a b : Nat) : (s.wrB i a b).part = s.part := by cases s; rfl
@[simp] theorem State.wrB_regs (s : State) (i a b : Nat) : (s.wrB i a b).regs = s.regs := by cases s; rfl
@[simp] theorem State.wrB_cdie (s : State) (i a b : Nat) : (s.wrB i a b).cdie = s.cdie := by cases s; rfl
@[simp] theorem State.wrB_nv (s : State) (i a b : Nat) : (s.wrB i a b).nv = s.nv := by cases s; rfl
@[simp] theorem State.wrB_ddie (s : State) (i a b : Nat) : (s.wrB i a b).ddie = s.ddie := by cases s; rfl
@[simp] theorem State.wrB_keep (s : State) (i a b : Nat) : (s.wrB i a b).keep = s.keep := by cases s; rfl
@[simp] theorem State.wrB_tap (s : State) (i a b : Nat) : (s.wrB i a b).tap = s.tap := by cases s; rfl
@[simp] theorem State.wrB_pkg (s : State) (i a b : Nat) : (s.wrB i a b).pkg = s.pkg := by cases s; rfl
@[simp] theorem State.wrB_free (s : State) (i a b : Nat) : (s.wrB i a b).free = s.free := by cases s; rfl
@[simp] theorem State.wrB_ld (s : State) (i a b : Nat) : (s.wrB i a b).ld = s.ld := by cases s; rfl
@[simp] theorem State.wrB_pending (s : State) (i a b : Nat) : (s.wrB i a b).pending = s.pending := by cases s; rfl

@[simp] theorem State.eraseMem_part (s : State) (i lo hi : Nat) : (s.eraseMem i lo hi).part = s.part := by cases s; rfl
@[simp] theorem State.eraseMem_regs (s : State) (i lo hi : Nat) : (s.eraseMem i lo hi).regs = s.regs := by cases s; rfl
@[simp] theorem State.eraseMem_cdie (s : State) (i lo hi : Nat) : (s.eraseMem i lo hi).cdie = s.cdie := by cases s; rfl
@[simp] theorem State.eraseMem_nv (s : State) (i lo hi : Nat) : (s.eraseMem i lo hi).nv = s.nv := by cases s; rfl
@[simp] theorem State.eraseMem_ddie (s : State) (i lo hi : Nat) : (s.eraseMem i lo hi).ddie = s.ddie := by cases s; rfl
@[simp] theorem State.eraseMem_keep (s : State) (i lo hi : Nat) : (s.eraseMem i lo hi).keep = s.keep := by cases s; rfl
@[simp] theorem State.eraseMem_tap (s : State) (i lo hi : Nat) : (s.eraseMem i lo hi).tap = s.tap := by cases s; rfl
@[simp] theorem State.eraseMem_pkg (s : State) (i lo hi : Nat) : (s.eraseMem i lo hi).pkg = s.pkg := by cases s; rfl
@[simp] theorem State.eraseMem_free (s : State) (i lo hi : Nat) : (s.eraseMem i lo hi).free = s.free := by cases s; rfl
@[simp] theorem State.eraseMem_ld (s : State) (i lo hi : Nat) : (s.eraseMem i lo hi).ld = s.ld := by cases s; rfl
@[simp] theorem State.eraseMem_pending (s : State) (i lo hi : Nat) : (s.eraseMem i lo hi).pending = s.pending := by cases s; rfl

/-! ### What is read after an update of another kind -/

@[simp] theorem State.setReg_c (s : State) (i off : Nat) (w : Word) (j : Nat) : (s.setReg i off w).c j = s.c j := by
  simp only [State.c, State.setReg_cdie]
@[simp] theorem State.setReg_n (s : State) (i off : Nat) (w : Word) (j : Nat) : (s.setReg i off w).n j = s.n j := by
  simp only [State.n, State.setReg_nv]
@[simp] theorem State.setReg_dd (s : State) (i off : Nat) (w : Word) (j : Nat) : (s.setReg i off w).dd j = s.dd j := by
  simp only [State.dd, State.setReg_ddie]
@[simp] theorem State.setReg_ka (s : State) (i off : Nat) (w : Word) (j : Nat) : (s.setReg i off w).ka j = s.ka j := by
  simp only [State.ka, State.setReg_keep]
@[simp] theorem State.setReg_rdB (s : State) (i off : Nat) (w : Word) (j x : Nat) : (s.setReg i off w).rdB j x = s.rdB j x := by
  simp only [State.rdB, State.setReg_mem]
@[simp] theorem State.setReg_hasC (s : State) (i off : Nat) (w : Word) (j : Nat) : (s.setReg i off w).hasC j = s.hasC j := by
  simp only [State.hasC, State.setReg_part]
@[simp] theorem State.setReg_hasD (s : State) (i off : Nat) (w : Word) (j : Nat) : (s.setReg i off w).hasD j = s.hasD j := by
  simp only [State.hasD, State.setReg_part]

@[simp] theorem State.put_c (s : State) (i : Nat) (f : Fld) (v : Nat) (j : Nat) : (s.put i f v).c j = s.c j := by
  simp only [State.c, State.put_cdie]
@[simp] theorem State.put_n (s : State) (i : Nat) (f : Fld) (v : Nat) (j : Nat) : (s.put i f v).n j = s.n j := by
  simp only [State.n, State.put_nv]
@[simp] theorem State.put_dd (s : State) (i : Nat) (f : Fld) (v : Nat) (j : Nat) : (s.put i f v).dd j = s.dd j := by
  simp only [State.dd, State.put_ddie]
@[simp] theorem State.put_ka (s : State) (i : Nat) (f : Fld) (v : Nat) (j : Nat) : (s.put i f v).ka j = s.ka j := by
  simp only [State.ka, State.put_keep]
@[simp] theorem State.put_rdB (s : State) (i : Nat) (f : Fld) (v : Nat) (j x : Nat) : (s.put i f v).rdB j x = s.rdB j x := by
  simp only [State.rdB, State.put_mem]
@[simp] theorem State.put_hasC (s : State) (i : Nat) (f : Fld) (v : Nat) (j : Nat) : (s.put i f v).hasC j = s.hasC j := by
  simp only [State.hasC, State.put_part]
@[simp] theorem State.put_hasD (s : State) (i : Nat) (f : Fld) (v : Nat) (j : Nat) : (s.put i f v).hasD j = s.hasD j := by
  simp only [State.hasD, State.put_part]

@[simp] theorem State.modC_reg (s : State) (d : Nat) (f : CtlDie → CtlDie) (j o : Nat) : (s.modC d f).reg j o = s.reg j o := by
  simp only [State.reg, State.modC_regs]
@[simp] theorem State.modC_get (s : State) (d : Nat) (f : CtlDie → CtlDie) (j : Nat) (g : Fld) : (s.modC d f).get j g = s.get j g := by
  simp only [State.get, State.reg, State.modC_regs]
@[simp] theorem State.modC_n (s : State) (d : Nat) (f : CtlDie → CtlDie) (j : Nat) : (s.modC d f).n j = s.n j := by
  simp only [State.n, State.modC_nv]
@[simp] theorem State.modC_dd (s : State) (d : Nat) (f : CtlDie → CtlDie) (j : Nat) : (s.modC d f).dd j = s.dd j := by
  simp only [State.dd, State.modC_ddie]
@[simp] theorem State.modC_ka (s : State) (d : Nat) (f : CtlDie → CtlDie) (j : Nat) : (s.modC d f).ka j = s.ka j := by
  simp only [State.ka, State.modC_keep]
@[simp] theorem State.modC_rdB (s : State) (d : Nat) (f : CtlDie → CtlDie) (j x : Nat) : (s.modC d f).rdB j x = s.rdB j x := by
  simp only [State.rdB, State.modC_mem]
@[simp] theorem State.modC_hasC (s : State) (d : Nat) (f : CtlDie → CtlDie) (j : Nat) : (s.modC d f).hasC j = s.hasC j := by
  simp only [State.hasC, State.modC_part]
@[simp] theorem State.modC_hasD (s : State) (d : Nat) (f : CtlDie → CtlDie) (j : Nat) : (s.modC d f).hasD j = s.hasD j := by
  simp only [State.hasD, State.modC_part]

@[simp] theorem State.modN_reg (s : State) (d : Nat) (f : NvC → NvC) (j o : Nat) : (s.modN d f).reg j o = s.reg j o := by
  simp only [State.reg, State.modN_regs]
@[simp] theorem State.modN_get (s : State) (d : Nat) (f : NvC → NvC) (j : Nat) (g : Fld) : (s.modN d f).get j g = s.get j g := by
  simp only [State.get, State.reg, State.modN_regs]
@[simp] theorem State.modN_c (s : State) (d : Nat) (f : NvC → NvC) (j : Nat) : (s.modN d f).c j = s.c j := by
  simp only [State.c, State.modN_cdie]
@[simp] theorem State.modN_dd (s : State) (d : Nat) (f : NvC → NvC) (j : Nat) : (s.modN d f).dd j = s.dd j := by
  simp only [State.dd, State.modN_ddie]
@[simp] theorem State.modN_ka (s : State) (d : Nat) (f : NvC → NvC) (j : Nat) : (s.modN d f).ka j = s.ka j := by
  simp only [State.ka, State.modN_keep]
@[simp] theorem State.modN_rdB (s : State) (d : Nat) (f : NvC → NvC) (j x : Nat) : (s.modN d f).rdB j x = s.rdB j x := by
  simp only [State.rdB, State.modN_mem]
@[simp] theorem State.modN_hasC (s : State) (d : Nat) (f : NvC → NvC) (j : Nat) : (s.modN d f).hasC j = s.hasC j := by
  simp only [State.hasC, State.modN_part]
@[simp] theorem State.modN_hasD (s : State) (d : Nat) (f : NvC → NvC) (j : Nat) : (s.modN d f).hasD j = s.hasD j := by
  simp only [State.hasD, State.modN_part]

@[simp] theorem State.modD_reg (s : State) (k : Nat) (f : DieD → DieD) (j o : Nat) : (s.modD k f).reg j o = s.reg j o := by
  simp only [State.reg, State.modD_regs]
@[simp] theorem State.modD_get (s : State) (k : Nat) (f : DieD → DieD) (j : Nat) (g : Fld) : (s.modD k f).get j g = s.get j g := by
  simp only [State.get, State.reg, State.modD_regs]
@[simp] theorem State.modD_c (s : State) (k : Nat) (f : DieD → DieD) (j : Nat) : (s.modD k f).c j = s.c j := by
  simp only [State.c, State.modD_cdie]
@[simp] theorem State.modD_n (s : State) (k : Nat) (f : DieD → DieD) (j : Nat) : (s.modD k f).n j = s.n j := by
  simp only [State.n, State.modD_nv]
@[simp] theorem State.modD_ka (s : State) (k : Nat) (f : DieD → DieD) (j : Nat) : (s.modD k f).ka j = s.ka j := by
  simp only [State.ka, State.modD_keep]
@[simp] theorem State.modD_rdB (s : State) (k : Nat) (f : DieD → DieD) (j x : Nat) : (s.modD k f).rdB j x = s.rdB j x := by
  simp only [State.rdB, State.modD_mem]
@[simp] theorem State.modD_hasC (s : State) (k : Nat) (f : DieD → DieD) (j : Nat) : (s.modD k f).hasC j = s.hasC j := by
  simp only [State.hasC, State.modD_part]
@[simp] theorem State.modD_hasD (s : State) (k : Nat) (f : DieD → DieD) (j : Nat) : (s.modD k f).hasD j = s.hasD j := by
  simp only [State.hasD, State.modD_part]

@[simp] theorem State.modK_reg (s : State) (k : Nat) (f : Keep → Keep) (j o : Nat) : (s.modK k f).reg j o = s.reg j o := by
  simp only [State.reg, State.modK_regs]
@[simp] theorem State.modK_get (s : State) (k : Nat) (f : Keep → Keep) (j : Nat) (g : Fld) : (s.modK k f).get j g = s.get j g := by
  simp only [State.get, State.reg, State.modK_regs]
@[simp] theorem State.modK_c (s : State) (k : Nat) (f : Keep → Keep) (j : Nat) : (s.modK k f).c j = s.c j := by
  simp only [State.c, State.modK_cdie]
@[simp] theorem State.modK_n (s : State) (k : Nat) (f : Keep → Keep) (j : Nat) : (s.modK k f).n j = s.n j := by
  simp only [State.n, State.modK_nv]
@[simp] theorem State.modK_dd (s : State) (k : Nat) (f : Keep → Keep) (j : Nat) : (s.modK k f).dd j = s.dd j := by
  simp only [State.dd, State.modK_ddie]
@[simp] theorem State.modK_rdB (s : State) (k : Nat) (f : Keep → Keep) (j x : Nat) : (s.modK k f).rdB j x = s.rdB j x := by
  simp only [State.rdB, State.modK_mem]
@[simp] theorem State.modK_hasC (s : State) (k : Nat) (f : Keep → Keep) (j : Nat) : (s.modK k f).hasC j = s.hasC j := by
  simp only [State.hasC, State.modK_part]
@[simp] theorem State.modK_hasD (s : State) (k : Nat) (f : Keep → Keep) (j : Nat) : (s.modK k f).hasD j = s.hasD j := by
  simp only [State.hasD, State.modK_part]

@[simp] theorem State.drawn_reg (s : State) (j o : Nat) : (s.drawn).reg j o = s.reg j o := by
  simp only [State.reg, State.drawn_regs]
@[simp] theorem State.drawn_get (s : State) (j : Nat) (g : Fld) : (s.drawn).get j g = s.get j g := by
  simp only [State.get, State.reg, State.drawn_regs]
@[simp] theorem State.drawn_c (s : State) (j : Nat) : (s.drawn).c j = s.c j := by
  simp only [State.c, State.drawn_cdie]
@[simp] theorem State.drawn_n (s : State) (j : Nat) : (s.drawn).n j = s.n j := by
  simp only [State.n, State.drawn_nv]
@[simp] theorem State.drawn_dd (s : State) (j : Nat) : (s.drawn).dd j = s.dd j := by
  simp only [State.dd, State.drawn_ddie]
@[simp] theorem State.drawn_ka (s : State) (j : Nat) : (s.drawn).ka j = s.ka j := by
  simp only [State.ka, State.drawn_keep]
@[simp] theorem State.drawn_rdB (s : State) (j x : Nat) : (s.drawn).rdB j x = s.rdB j x := by
  simp only [State.rdB, State.drawn_mem]
@[simp] theorem State.drawn_hasC (s : State) (j : Nat) : (s.drawn).hasC j = s.hasC j := by
  simp only [State.hasC, State.drawn_part]
@[simp] theorem State.drawn_hasD (s : State) (j : Nat) : (s.drawn).hasD j = s.hasD j := by
  simp only [State.hasD, State.drawn_part]

@[simp] theorem State.wrB_reg (s : State) (i a b : Nat) (j o : Nat) : (s.wrB i a b).reg j o = s.reg j o := by
  simp only [State.reg, State.wrB_regs]
@[simp] theorem State.wrB_get (s : State) (i a b : Nat) (j : Nat) (g : Fld) : (s.wrB i a b).get j g = s.get j g := by
  simp only [State.get, State.reg, State.wrB_regs]
@[simp] theorem State.wrB_c (s : State) (i a b : Nat) (j : Nat) : (s.wrB i a b).c j = s.c j := by
  simp only [State.c, State.wrB_cdie]
@[simp] theorem State.wrB_n (s : State) (i a b : Nat) (j : Nat) : (s.wrB i a b).n j = s.n j := by
  simp only [State.n, State.wrB_nv]
@[simp] theorem State.wrB_dd (s : State) (i a b : Nat) (j : Nat) : (s.wrB i a b).dd j = s.dd j := by
  simp only [State.dd, State.wrB_ddie]
@[simp] theorem State.wrB_ka (s : State) (i a b : Nat) (j : Nat) : (s.wrB i a b).ka j = s.ka j := by
  simp only [State.ka, State.wrB_keep]
@[simp] theorem State.wrB_hasC (s : State) (i a b : Nat) (j : Nat) : (s.wrB i a b).hasC j = s.hasC j := by
  simp only [State.hasC, State.wrB_part]
@[simp] theorem State.wrB_hasD (s : State) (i a b : Nat) (j : Nat) : (s.wrB i a b).hasD j = s.hasD j := by
  simp only [State.hasD, State.wrB_part]

@[simp] theorem State.eraseMem_reg (s : State) (i lo hi : Nat) (j o : Nat) : (s.eraseMem i lo hi).reg j o = s.reg j o := by
  simp only [State.reg, State.eraseMem_regs]
@[simp] theorem State.eraseMem_get (s : State) (i lo hi : Nat) (j : Nat) (g : Fld) : (s.eraseMem i lo hi).get j g = s.get j g := by
  simp only [State.get, State.reg, State.eraseMem_regs]
@[simp] theorem State.eraseMem_c (s : State) (i lo hi : Nat) (j : Nat) : (s.eraseMem i lo hi).c j = s.c j := by
  simp only [State.c, State.eraseMem_cdie]
@[simp] theorem State.eraseMem_n (s : State) (i lo hi : Nat) (j : Nat) : (s.eraseMem i lo hi).n j = s.n j := by
  simp only [State.n, State.eraseMem_nv]
@[simp] theorem State.eraseMem_dd (s : State) (i lo hi : Nat) (j : Nat) : (s.eraseMem i lo hi).dd j = s.dd j := by
  simp only [State.dd, State.eraseMem_ddie]
@[simp] theorem State.eraseMem_ka (s : State) (i lo hi : Nat) (j : Nat) : (s.eraseMem i lo hi).ka j = s.ka j := by
  simp only [State.ka, State.eraseMem_keep]
@[simp] theorem State.eraseMem_hasC (s : State) (i lo hi : Nat) (j : Nat) : (s.eraseMem i lo hi).hasC j = s.hasC j := by
  simp only [State.hasC, State.eraseMem_part]
@[simp] theorem State.eraseMem_hasD (s : State) (i lo hi : Nat) (j : Nat) : (s.eraseMem i lo hi).hasD j = s.hasD j := by
  simp only [State.hasD, State.eraseMem_part]

/-! ### The derived operations -/

@[simp] theorem State.on_eq (s : State) (i : Nat) (f : Fld) : s.on i f = s.put i f 1 := rfl
@[simp] theorem State.off_eq (s : State) (i : Nat) (f : Fld) : s.off i f = s.put i f 0 := rfl
@[simp] theorem State.putBit_eq (s : State) (i : Nat) (f : Fld) (b : Nat) (v : Bool) :
    s.putBit i f b v = s.put i f (setBit (s.get i f) b v) := rfl
@[simp] theorem State.count_eq (s : State) (i : Nat) (f : Fld) (n : Nat) :
    s.count i f n = s.put i f (satAdd (f.hi + 1 - f.lo) (s.get i f) n) := rfl
@[simp] theorem State.puti_eq (s : State) (i : Nat) (f : Fld) (z : Int) :
    s.puti i f z = s.put i f (uxN (f.hi + 1 - f.lo) z) := rfl
theorem State.flag_eq (s : State) (i : Nat) (f : Fld) : s.flag i f = (s.get i f != 0) := rfl
theorem State.flag_true {s : State} {i : Nat} {f : Fld} : s.flag i f = true ↔ s.get i f ≠ 0 := by simp [State.flag]
theorem State.flag_false {s : State} {i : Nat} {f : Fld} : s.flag i f = false ↔ s.get i f = 0 := by simp [State.flag]
@[simp] theorem onlyIf_true (f : State → State) (s : State) : onlyIf true f s = f s := rfl
@[simp] theorem onlyIf_false (f : State → State) (s : State) : onlyIf false f s = s := rfl
@[simp] theorem overL_nil (f : Nat → State → State) (s : State) : overL [] f s = s := rfl
@[simp] theorem overL_cons (i : Nat) (xs : List Nat) (f : Nat → State → State) (s : State) :
    overL (i :: xs) f s = overL xs f (f i s) := rfl

/-! ### Hidden records -/

@[simp] theorem State.c_modC_same (s : State) (d : Nat) (f : CtlDie → CtlDie) : (s.modC d f).c d = f (s.c d) :=
  Tab.at_mod_same _ _ _
theorem State.c_modC_other {s : State} {d e : Nat} {f : CtlDie → CtlDie} (h : e ≠ d) : (s.modC d f).c e = s.c e :=
  Tab.at_mod_other _ _ h
@[simp] theorem State.n_modN_same (s : State) (d : Nat) (f : NvC → NvC) : (s.modN d f).n d = f (s.n d) :=
  Tab.at_mod_same _ _ _
theorem State.n_modN_other {s : State} {d e : Nat} {f : NvC → NvC} (h : e ≠ d) : (s.modN d f).n e = s.n e :=
  Tab.at_mod_other _ _ h
@[simp] theorem State.dd_modD_same (s : State) (k : Nat) (f : DieD → DieD) : (s.modD k f).dd k = f (s.dd k) :=
  Tab.at_mod_same _ _ _
theorem State.dd_modD_other {s : State} {k e : Nat} {f : DieD → DieD} (h : e ≠ k) : (s.modD k f).dd e = s.dd e :=
  Tab.at_mod_other _ _ h
@[simp] theorem State.ka_modK_same (s : State) (k : Nat) (f : Keep → Keep) : (s.modK k f).ka k = f (s.ka k) :=
  Tab.at_mod_same _ _ _
theorem State.ka_modK_other {s : State} {k e : Nat} {f : Keep → Keep} (h : e ≠ k) : (s.modK k f).ka e = s.ka e :=
  Tab.at_mod_other _ _ h

/-! ### Bytes of memory -/

@[simp] theorem Memory.read_write_same (m : List Host.Cell) (k : Nat) (b : Byte) :
    Memory.read (Memory.write m k b) k = b := Tab.read_write_same _ _ _ _
theorem Memory.read_write_other {m : List Host.Cell} {k j : Nat} {b : Byte} (h : j ≠ k) :
    Memory.read (Memory.write m k b) j = Memory.read m j := Tab.read_write_other _ _ _ h
theorem State.rdB_wrB_same (s : State) (i a b : Nat) : (s.wrB i a b).rdB i a = b % 256 := by
  unfold State.rdB State.wrB
  rw [Memory.read_write_same]
  simp
theorem State.rdB_wrB_other {s : State} {i j a x b : Nat} (h : memKey j x ≠ memKey i a) :
    (s.wrB i a b).rdB j x = s.rdB j x := by
  unfold State.rdB State.wrB
  rw [Memory.read_write_other h]

/-! ### Commands at a die -/

theorem onC_next {d : Nat} {f : State → State} {s : State} (h : s.runs d = true) : onC d f s = .next (f s) := by
  simp [onC, h]
theorem onC_skip {d : Nat} {f : State → State} {s : State} (h : s.runs d = false) : onC d f s = .next s := by
  simp [onC, h]
theorem atC_next {d : Nat} {f : State → State} {s : State} (h : s.hasC d = true) : atC d f s = .next (f s) := by
  simp [atC, h]
theorem onD_next {k : Nat} {f : State → State} {s : State} (h : s.runsD k = true) : onD k f s = .next (f s) := by
  simp [onD, h]
theorem onD_skip {k : Nat} {f : State → State} {s : State} (h : s.runsD k = false) : onD k f s = .next s := by
  simp [onD, h]
theorem atD_next {k : Nat} {f : State → State} {s : State} (h : s.hasD k = true) : atD k f s = .next (f s) := by
  simp [atD, h]
theorem onCD_next {d k : Nat} {f : State → State} {s : State} (h : s.runs d = true) (g : s.hasD k = true) :
    onCD d k f s = .next (f s) := by
  simp [onCD, h, g]
theorem onDC_next {d k : Nat} {f : State → State} {s : State} (h : s.hasC d = true) (g : s.runsD k = true) :
    onDC d k f s = .next (f s) := by
  simp [onDC, h, g]

end Sys2Proof.Machine
end

