-- ==== Sys2Proof/Laws/Frame.lean ====
section
/-! SUPPORT. What recording an event can change (R471 to R478): the prompt book's registers and its own record of one C
die, its ring, its main log and the saved operating time. -/

namespace Sys2Proof.Machine

/-- The memory that the prompt book writes: the ring, the main log and the saved operating time. -/
def promptMem (a : Nat) : Prop :=
  (0x205C0000 ≤ a ∧ a < 0x20600000) ∨ (0x10A00000 ≤ a ∧ a < 0x10AF0000) ∨ (0x10B80040 ≤ a ∧ a < 0x10B8004C)

/-- t differs from s at most in the prompt book of C die d. -/
structure OnlyPrompt (d : Nat) (s t : State) : Prop where
  part : t.part = s.part
  nv : t.nv = s.nv
  ddie : t.ddie = s.ddie
  keep : t.keep = s.keep
  tap : t.tap = s.tap
  pkg : t.pkg = s.pkg
  free : t.free = s.free
  pending : t.pending = s.pending
  regs : ∀ i o, o < 0x1000000 → (i ≠ d ∨ o < 0x50000 ∨ 0x60000 ≤ o) → t.reg i o = s.reg i o
  hid : ∀ e, { t.c e with prompt := default } = { s.c e with prompt := default }
  mem : ∀ j a, a < 0x100000000 → (j ≠ d ∨ ¬ promptMem a) → t.rdB j a = s.rdB j a

theorem OnlyPrompt.refl (d : Nat) (s : State) : OnlyPrompt d s s :=
  ⟨rfl, rfl, rfl, rfl, rfl, rfl, rfl, rfl, fun _ _ _ _ => rfl, fun _ => rfl, fun _ _ _ _ => rfl⟩

theorem OnlyPrompt.trans {d : Nat} {s t u : State} (h : OnlyPrompt d s t) (g : OnlyPrompt d t u) : OnlyPrompt d s u :=
  ⟨g.part.trans h.part, g.nv.trans h.nv, g.ddie.trans h.ddie, g.keep.trans h.keep, g.tap.trans h.tap,
    g.pkg.trans h.pkg, g.free.trans h.free, g.pending.trans h.pending,
    fun i o a b => (g.regs i o a b).trans (h.regs i o a b), fun e => (g.hid e).trans (h.hid e),
    fun j a x y => (g.mem j a x y).trans (h.mem j a x y)⟩

/-- A field outside the prompt block is as it was. -/
theorem OnlyPrompt.get {d : Nat} {s t : State} (h : OnlyPrompt d s t) (i : Nat) (f : Fld) (hf : f.off < 0x1000000)
    (ho : i ≠ d ∨ f.off < 0x50000 ∨ 0x60000 ≤ f.off) : t.get i f = s.get i f := by
  unfold State.get; rw [h.regs i f.off hf ho]

theorem OnlyPrompt.flag {d : Nat} {s t : State} (h : OnlyPrompt d s t) (i : Nat) (f : Fld) (hf : f.off < 0x1000000)
    (ho : i ≠ d ∨ f.off < 0x50000 ∨ 0x60000 ≤ f.off) : t.flag i f = s.flag i f := by
  unfold State.flag; rw [h.get i f hf ho]

/-- Whatever a C die's record holds beside its prompt book is as it was. -/
theorem OnlyPrompt.of {d : Nat} {s t : State} {α : Type} (h : OnlyPrompt d s t) (e : Nat) (g : CtlDie → α)
    (hg : ∀ c p, g { c with prompt := p } = g c) : g (t.c e) = g (s.c e) := by
  rw [← hg (t.c e) default, ← hg (s.c e) default, h.hid e]

theorem OnlyPrompt.sys {d : Nat} {s t : State} (h : OnlyPrompt d s t) (e : Nat) : (t.c e).sys = (s.c e).sys :=
  h.of e CtlDie.sys (fun _ _ => rfl)

theorem OnlyPrompt.runs {d : Nat} {s t : State} (h : OnlyPrompt d s t) (e : Nat) : t.runs e = s.runs e := by
  simp only [State.runs, State.hasC, State.romHeld, h.sys e, h.part, h.pkg]

theorem onlyPrompt_put (d : Nat) (f : Fld) (v : Nat) (s : State) (h1 : 0x50000 ≤ f.off) (h2 : f.off < 0x60000) :
    OnlyPrompt d s (s.put d f v) :=
  ⟨by simp, by simp, by simp, by simp, by simp, by simp, by simp, by simp,
    fun i o ho hd => State.reg_put_other (by omega) ho (by omega), fun e => by simp, fun j a _ _ => by simp⟩

theorem onlyPrompt_modPrompt (d : Nat) (g : PromptC → PromptC) (s : State) : OnlyPrompt d s (s.modPrompt d g) := by
  refine ⟨by simp [State.modPrompt], by simp [State.modPrompt], by simp [State.modPrompt], by simp [State.modPrompt],
    by simp [State.modPrompt], by simp [State.modPrompt], by simp [State.modPrompt], by simp [State.modPrompt],
    fun i o _ _ => by simp [State.modPrompt], fun e => ?_, fun j a _ _ => by simp [State.modPrompt]⟩
  unfold State.modPrompt
  by_cases he : e = d
  · subst he; simp
  · rw [State.c_modC_other he]

theorem onlyPrompt_wrB (d a b : Nat) (s : State) (h : promptMem a) : OnlyPrompt d s (s.wrB d a b) := by
  refine ⟨by simp, by simp, by simp, by simp, by simp, by simp, by simp, by simp, fun i o _ _ => by simp,
    fun e => by simp, fun j x hx hj => State.rdB_wrB_other ?_⟩
  unfold memKey
  intro he
  have ha : a < 0x100000000 := by unfold promptMem at h; omega
  have : j = d ∧ x = a := by omega
  rcases hj with hj | hj
  · exact hj this.1
  · exact hj (this.2 ▸ h)

theorem onlyPrompt_wrBytes (d : Nat) (xs : List Nat) : ∀ (a : Nat) (s : State), (∀ j < xs.length, promptMem (a + j)) →
    OnlyPrompt d s (s.wrBytes d a xs) := by
  induction xs with
  | nil => intro a s _; exact OnlyPrompt.refl d s
  | cons b bs ih =>
    intro a s h
    refine (onlyPrompt_wrB d a b s (h 0 (by simp))).trans (ih (a + 1) _ ?_)
    intro j hj
    have := h (j + 1) (by simpa using hj)
    rwa [show a + 1 + j = a + (j + 1) by omega]

theorem onlyPrompt_overN (d n : Nat) (f : Nat → State → State) (h : ∀ j s, OnlyPrompt d s (f j s)) (s : State) :
    OnlyPrompt d s (overN n f s) := by
  unfold overN overL
  generalize List.range n = xs
  induction xs generalizing s with
  | nil => exact OnlyPrompt.refl d s
  | cons x xs ih => exact (h x s).trans (ih (f x s))

theorem State.rdBytes_length (s : State) (i a n : Nat) : (s.rdBytes i a n).length = n := by simp [State.rdBytes]
theorem wordBytes_length (w : Nat) : (wordBytes w).length = 4 := rfl

theorem toMainLog_only (d src : Nat) (s : State) : OnlyPrompt d s (toMainLog d src s) := by
  unfold toMainLog State.copyMem
  refine ((onlyPrompt_wrBytes d _ _ s ?_).trans (onlyPrompt_put d _ _ _ (by decide) (by decide))).trans
    (onlyPrompt_put d _ _ _ (by decide) (by decide))
  intro j hj
  rw [State.rdBytes_length] at hj
  have := Nat.mod_lt (s.get d F.PROMPT_MLOG_MHEAD) (show 0 < 30720 by decide)
  unfold promptMem mlogAddr
  omega

theorem optimeSave_only (d : Nat) (s : State) : OnlyPrompt d s (optimeSave d s) := by
  unfold optimeSave
  split
  · split
    · refine (onlyPrompt_wrBytes d _ _ s ?_).trans (onlyPrompt_modPrompt d _ _)
      intro j hj
      simp only [List.length_append, wordBytes_length, List.length_cons, List.length_nil] at hj
      unfold promptMem
      omega
    · exact onlyPrompt_modPrompt d _ _
  · exact OnlyPrompt.refl d s

theorem flushStart_only (d : Nat) (s : State) : OnlyPrompt d s (flushStart d s) := by
  unfold flushStart
  split
  · exact OnlyPrompt.refl d s
  · dsimp only
    split
    · exact ((onlyPrompt_modPrompt d _ _).trans (onlyPrompt_put d F.PROMPT_STAT_BLOCKED 1 _ (by decide) (by decide))).trans
        (onlyPrompt_put d F.PROMPT_EVT_BLOCKED 1 _ (by decide) (by decide))
    · refine ((OnlyPrompt.trans ?_ (onlyPrompt_modPrompt d _ _))).trans (optimeSave_only d _)
      have h := (onlyPrompt_put d F.PROMPT_STAT_FLUSHING 1 s (by decide) (by decide)).trans
        (onlyPrompt_put d F.PROMPT_STAT_BLOCKED 0 _ (by decide) (by decide))
      split
      · refine h.trans ?_
        unfold drainLastGasp
        exact (onlyPrompt_overN d _ _ (fun j s => toMainLog_only d _ s) _).trans
          (onlyPrompt_put d _ _ _ (by decide) (by decide))
      · exact h

theorem recordBytes_length (t p : Nat) (e : Event) (f r : Nat) : (recordBytes t p e f r).length = 32 := rfl

theorem storeRecord_only (d : Nat) (e : Event) (rom : Bool) (s : State) : OnlyPrompt d s (storeRecord d e rom s) := by
  unfold storeRecord
  dsimp only
  split
  · refine ((onlyPrompt_put d _ _ _ (by decide) (by decide)).trans
      (onlyPrompt_put d _ _ _ (by decide) (by decide))).trans (onlyPrompt_modPrompt d _ _)
  · have h : OnlyPrompt d s ((((s.wrBytes d (ringAddr (s.get d F.PROMPT_RING_HEAD)) (recordBytes (s.opMs d)
        (s.get d F.PROMPT_PCYCLE) e (2 * b2n rom + 8 * b2n (s.c d).prompt.lostNext) 0)).modPrompt d
        (fun p => { p with lostNext := false })).put d F.PROMPT_RING_HEAD ((s.get d F.PROMPT_RING_HEAD + 1) % 8192)).put d
        F.PROMPT_STAT_UNFL (s.get d F.PROMPT_STAT_UNFL + 1)) := by
      refine (((onlyPrompt_wrBytes d _ _ s ?_).trans (onlyPrompt_modPrompt d _ _)).trans
        (onlyPrompt_put d _ _ _ (by decide) (by decide))).trans (onlyPrompt_put d _ _ _ (by decide) (by decide))
      intro j hj
      rw [recordBytes_length] at hj
      have := Nat.mod_lt (s.get d F.PROMPT_RING_HEAD) (show 0 < 8192 by decide)
      unfold promptMem ringAddr
      omega
    split
    · exact h.trans (flushStart_only d _)
    · exact h

theorem mergeRecord_only (d : Nat) (s : State) : OnlyPrompt d s (mergeRecord d s) := by
  unfold mergeRecord
  have hm := Nat.mod_lt (s.get d F.PROMPT_RING_HEAD + 8191) (show 0 < 8192 by decide)
  have h := onlyPrompt_wrBytes d [satAdd 16 (s.rdLE d (ringAddr (s.get d F.PROMPT_RING_HEAD + 8191) + 14) 2) 1 % 256,
    satAdd 16 (s.rdLE d (ringAddr (s.get d F.PROMPT_RING_HEAD + 8191) + 14) 2) 1 / 256]
    (ringAddr (s.get d F.PROMPT_RING_HEAD + 8191) + 14) s (by
      intro j hj
      simp only [List.length_cons, List.length_nil] at hj
      unfold promptMem ringAddr
      omega)
  dsimp only
  split
  · refine h.trans (onlyPrompt_wrB d _ _ _ ?_)
    unfold promptMem ringAddr
    omega
  · exact h

/-- Recording an event changes at most the prompt book of its C die. -/
theorem recordEvent_only (d : Nat) (e : Event) (s : State) : OnlyPrompt d s (recordEvent d e s) := by
  unfold recordEvent
  split
  · split
    · exact mergeRecord_only d s
    · exact storeRecord_only d e false s
  · exact OnlyPrompt.refl d s

theorem note_only (d blk code sev inst w0 w1 w2 : Nat) (s : State) :
    OnlyPrompt d s (note d blk code sev inst w0 w1 w2 s) := recordEvent_only d _ s

theorem recordRom_only (d : Nat) (e : Event) (s : State) : OnlyPrompt d s (recordRom d e s) := storeRecord_only d e true s

end Sys2Proof.Machine
end

