-- ==== Sys2Proof/Laws/Kept.lean ====
section
/-! SUPPORT. What every operation of the model keeps (`Kept`): the part, the queue of the commands that wait, the
canonical form of the tables, and that no loader is left executing records. Here: the notion, and the lemmas of the plainest updates; the files Kept… beside this one hold
one lemma per operation, named after it. -/

namespace Sys2Proof.Machine

/-- What every operation keeps: s has the part and the queue of z, the canonical form if z has it, and no loader at work if z
has none. -/
structure Kept (z s : State) : Prop where
  part : s.part = z.part
  pending : s.pending = z.pending
  tables : z.tables = true → s.tables = true
  ld : z.ld = none → s.ld = none

/-- A command's answer keeps: so does the next state it answers. -/
def OutKept (z : State) (o : Out) : Prop := ∀ t, o = .next t → Kept z t

theorem kept_self (z : State) : Kept z z := ⟨rfl, rfl, id, id⟩
theorem outKept_next (z t : State) : OutKept z (.next t) = Kept z t := by
  simp [OutKept]
theorem outKept_fault (z : State) (r) : OutKept z (.fault r) := by simp [OutKept]

theorem kept_free {z s : State} (n : Nat) (h : Kept z s) : Kept z { s with free := n } := ⟨h.1, h.2, h.3, h.4⟩
theorem kept_pkg {z s : State} (p : Pkg) (h : Kept z s) : Kept z { s with pkg := p } := ⟨h.1, h.2, h.3, h.4⟩
/-- A die's reset ends its own loader's work. -/
theorem kept_ld {z s : State} (d n : Nat) (h : Kept z s) :
    Kept z { s with free := n, ld := if s.ld == some d then none else s.ld } :=
  ⟨h.1, h.2, h.3, fun hz => by simp [h.4 hz]⟩
theorem kept_regs {z s : State} (h : Kept z s) (m : Tab Word) (hm : s.tables = true → Tab.wf resetWord m = true) :
    Kept z { s with regs := m } := by
  refine ⟨h.1, h.2, fun hz => ?_, h.4⟩
  have hs := h.3 hz
  have hm' := hm hs
  simp only [State.tables, Bool.and_eq_true] at hs ⊢
  simp only [hs, hm', and_self]
theorem kept_regsFilter {z s : State} (p : Nat × Word → Bool) (h : Kept z s) :
    Kept z { s with regs := s.regs.filter p } :=
  kept_regs h _ (fun hs => by
    simp only [State.tables, Bool.and_eq_true] at hs
    exact Tab.wf_filter _ _ _ (by simp only [hs]))
theorem kept_regsWrite {z s : State} (k : Nat) (v : Word) (h : Kept z s) :
    Kept z { s with regs := s.regs.write resetWord k v } :=
  kept_regs h _ (fun hs => by
    simp only [State.tables, Bool.and_eq_true] at hs
    exact Tab.wf_write _ _ _ _ (by simp only [hs]))
theorem kept_mem {z s : State} (h : Kept z s) (m : List Host.Cell) (hm : s.tables = true → Memory.wf m = true) :
    Kept z { s with mem := m } := by
  refine ⟨h.1, h.2, fun hz => ?_, h.4⟩
  have hs := h.3 hz
  have hm' := hm hs
  simp only [State.tables, Bool.and_eq_true] at hs ⊢
  simp only [hs, hm', and_self]
theorem kept_memWrite {z s : State} (k : Nat) (v : Byte) (h : Kept z s) :
    Kept z { s with mem := Memory.write s.mem k v } :=
  kept_mem h _ (fun hs => by
    simp only [State.tables, Bool.and_eq_true] at hs
    exact Tab.wf_write _ _ _ _ (by simpa only [Memory.wf] using hs.1.1.1.1.1.2))
theorem kept_memFilter {z s : State} (p : Host.Cell → Bool) (h : Kept z s) :
    Kept z { s with mem := s.mem.filter p } :=
  kept_mem h _ (fun hs => by
    simp only [State.tables, Bool.and_eq_true] at hs
    exact Tab.wf_filter _ _ _ (by simpa only [Memory.wf] using hs.1.1.1.1.1.2))
theorem kept_cdie {z s : State} (d : Nat) (f : CtlDie → CtlDie) (h : Kept z s) :
    Kept z { s with cdie := s.cdie.mod d f } := by
  refine ⟨h.1, h.2, fun hz => ?_, h.4⟩
  have hs := h.3 hz
  simp only [State.tables, Bool.and_eq_true] at hs ⊢
  have := Tab.wf_write (fun _ => default) s.cdie d (f (s.cdie.at d)) (by simp only [hs])
  simp only [hs, Tab.mod, Tab.set, this, and_self]
theorem kept_nv {z s : State} (d : Nat) (f : NvC → NvC) (h : Kept z s) :
    Kept z { s with nv := s.nv.mod d f } := by
  refine ⟨h.1, h.2, fun hz => ?_, h.4⟩
  have hs := h.3 hz
  simp only [State.tables, Bool.and_eq_true] at hs ⊢
  have := Tab.wf_write (fun _ => default) s.nv d (f (s.nv.at d)) (by simp only [hs])
  simp only [hs, Tab.mod, Tab.set, this, and_self]
theorem kept_ddie {z s : State} (d : Nat) (f : DieD → DieD) (h : Kept z s) :
    Kept z { s with ddie := s.ddie.mod d f } := by
  refine ⟨h.1, h.2, fun hz => ?_, h.4⟩
  have hs := h.3 hz
  simp only [State.tables, Bool.and_eq_true] at hs ⊢
  have := Tab.wf_write (fun _ => default) s.ddie d (f (s.ddie.at d)) (by simp only [hs])
  simp only [hs, Tab.mod, Tab.set, this, and_self]
theorem kept_keep {z s : State} (d : Nat) (f : Keep → Keep) (h : Kept z s) :
    Kept z { s with keep := s.keep.mod d f } := by
  refine ⟨h.1, h.2, fun hz => ?_, h.4⟩
  have hs := h.3 hz
  simp only [State.tables, Bool.and_eq_true] at hs ⊢
  have := Tab.wf_write (fun _ => default) s.keep d (f (s.keep.at d)) (by simp only [hs])
  simp only [hs, Tab.mod, Tab.set, this, and_self]
theorem kept_tap {z s : State} (d : Nat) (f : TapC → TapC) (h : Kept z s) :
    Kept z { s with tap := s.tap.mod d f } := by
  refine ⟨h.1, h.2, fun hz => ?_, h.4⟩
  have hs := h.3 hz
  simp only [State.tables, Bool.and_eq_true] at hs ⊢
  have := Tab.wf_write (fun _ => default) s.tap d (f (s.tap.at d)) (by simp only [hs])
  simp only [hs, Tab.mod, Tab.set, this, and_self]

/-- Both branches keep. -/
theorem kept_ite2 {z : State} {c : Prop} [Decidable c] {a b : State} (ha : Kept z a) (hb : Kept z b) : Kept z (if c then a else b) := by
  split
  · exact ha
  · exact hb
/-- Both branches keep, for an operation that answers a value beside the state. -/
theorem kept_ite3 {z : State} {α : Type} {c : Prop} [Decidable c] {a b : α × State} (ha : Kept z a.2) (hb : Kept z b.2) :
    Kept z (if c then a else b).2 := by
  split
  · exact ha
  · exact hb

/-- A fold of operations that keep. -/
theorem kept_foldl {z : State} {α : Type} (f : State → α → State) (hf : ∀ (t : State) (x : α), Kept z t → Kept z (f t x)) :
    ∀ (xs : List α) (s : State), Kept z s → Kept z (xs.foldl f s)
  | [], _, h => h
  | x :: xs, s, h => kept_foldl f hf xs (f s x) (hf s x h)

end Sys2Proof.Machine
end

