-- ==== Sys2Proof/Laws/KeptShared.lean ====
section
/-! SUPPORT. What the operations keep (`Kept`): the shared operations of registers, memory, records, cues, the gate commands, the headrace, the loader and resets. -/

namespace Sys2Proof.Machine

/-! ### Machine/Regs.lean -/

theorem setReg_kept {z0 : State} (s : State) (i off : Nat) (w : Word) (h : Kept z0 s) :
    Kept z0 (State.setReg s i off w) := by
  unfold State.setReg
  simp (maxDischargeDepth := 60) +contextual only [h, kept_regsWrite]

theorem put_kept {z0 : State} (s : State) (i : Nat) (f : Fld) (v : Nat) (h : Kept z0 s) :
    Kept z0 (State.put s i f v) := by
  unfold State.put
  simp (maxDischargeDepth := 60) +contextual only [setReg_kept, h]

theorem on_kept {z0 : State} (s : State) (i : Nat) (f : Fld) (h : Kept z0 s) :
    Kept z0 (State.on s i f) := by
  unfold State.on
  simp (maxDischargeDepth := 60) +contextual only [put_kept, h]

theorem off_kept {z0 : State} (s : State) (i : Nat) (f : Fld) (h : Kept z0 s) :
    Kept z0 (State.off s i f) := by
  unfold State.off
  simp (maxDischargeDepth := 60) +contextual only [put_kept, h]

theorem putBit_kept {z0 : State} (s : State) (i : Nat) (f : Fld) (b : Nat) (v : Bool) (h : Kept z0 s) :
    Kept z0 (State.putBit s i f b v) := by
  unfold State.putBit
  simp (maxDischargeDepth := 60) +contextual only [put_kept, h]

theorem count_kept {z0 : State} (s : State) (i : Nat) (f : Fld) (n : Nat) (h : Kept z0 s) :
    Kept z0 (State.count s i f n) := by
  unfold State.count
  simp (maxDischargeDepth := 60) +contextual only [put_kept, h]

theorem puti_kept {z0 : State} (s : State) (i : Nat) (f : Fld) (z : Int) (h : Kept z0 s) :
    Kept z0 (State.puti s i f z) := by
  unfold State.puti
  simp (maxDischargeDepth := 60) +contextual only [put_kept, h]

/-! ### Machine/Ops.lean -/

theorem modC_kept {z0 : State} (s : State) (d : Nat) (f : CtlDie → CtlDie) (h : Kept z0 s) :
    Kept z0 (State.modC s d f) := by
  unfold State.modC
  simp (maxDischargeDepth := 60) +contextual only [h, kept_cdie]

theorem modSys_kept {z0 : State} (s : State) (d : Nat) (f : SysC → SysC) (h : Kept z0 s) :
    Kept z0 (State.modSys s d f) := by
  unfold State.modSys
  simp (maxDischargeDepth := 60) +contextual only [modC_kept, h]

theorem modPrompt_kept {z0 : State} (s : State) (d : Nat) (f : PromptC → PromptC) (h : Kept z0 s) :
    Kept z0 (State.modPrompt s d f) := by
  unfold State.modPrompt
  simp (maxDischargeDepth := 60) +contextual only [modC_kept, h]

theorem modHdr_kept {z0 : State} (s : State) (d : Nat) (f : HdrC → HdrC) (h : Kept z0 s) :
    Kept z0 (State.modHdr s d f) := by
  unfold State.modHdr
  simp (maxDischargeDepth := 60) +contextual only [modC_kept, h]

theorem modLib_kept {z0 : State} (s : State) (d : Nat) (f : LibC → LibC) (h : Kept z0 s) :
    Kept z0 (State.modLib s d f) := by
  unfold State.modLib
  simp (maxDischargeDepth := 60) +contextual only [modC_kept, h]

theorem modPwm_kept {z0 : State} (s : State) (d : Nat) (f : PwmC → PwmC) (h : Kept z0 s) :
    Kept z0 (State.modPwm s d f) := by
  unfold State.modPwm
  simp (maxDischargeDepth := 60) +contextual only [modC_kept, h]

theorem modSafe_kept {z0 : State} (s : State) (d : Nat) (f : SafeC → SafeC) (h : Kept z0 s) :
    Kept z0 (State.modSafe s d f) := by
  unfold State.modSafe
  simp (maxDischargeDepth := 60) +contextual only [modC_kept, h]

theorem modLoop_kept {z0 : State} (s : State) (d : Nat) (f : LoopC → LoopC) (h : Kept z0 s) :
    Kept z0 (State.modLoop s d f) := by
  unfold State.modLoop
  simp (maxDischargeDepth := 60) +contextual only [modC_kept, h]

theorem modAdc_kept {z0 : State} (s : State) (d : Nat) (f : AdcC → AdcC) (h : Kept z0 s) :
    Kept z0 (State.modAdc s d f) := by
  unfold State.modAdc
  simp (maxDischargeDepth := 60) +contextual only [modC_kept, h]

theorem srcSet_kept {z0 : State} (d ix v : Nat) (s : State) (h : Kept z0 s) :
    Kept z0 (srcSet d ix v s) := by
  unfold srcSet
  simp (maxDischargeDepth := 60) +contextual only [modLoop_kept, h]

theorem modN_kept {z0 : State} (s : State) (d : Nat) (f : NvC → NvC) (h : Kept z0 s) :
    Kept z0 (State.modN s d f) := by
  unfold State.modN
  simp (maxDischargeDepth := 60) +contextual only [h, kept_nv]

theorem modD_kept {z0 : State} (s : State) (k : Nat) (f : DieD → DieD) (h : Kept z0 s) :
    Kept z0 (State.modD s k f) := by
  unfold State.modD
  simp (maxDischargeDepth := 60) +contextual only [h, kept_ddie]

theorem modK_kept {z0 : State} (s : State) (k : Nat) (f : Keep → Keep) (h : Kept z0 s) :
    Kept z0 (State.modK s k f) := by
  unfold State.modK
  simp (maxDischargeDepth := 60) +contextual only [h, kept_keep]

theorem onC_kept {z0 : State} (d : Nat) (f : State → State) (s : State) (hf : ∀ (t : State),
      Kept z0 t → Kept z0 (f t)) (h : Kept z0 s) :
    OutKept z0 (onC d f s) := by
  unfold onC
  rw [outKept_next]; split
  · exact hf s h
  · exact h

theorem atC_kept {z0 : State} (d : Nat) (f : State → State) (s : State) (hf : ∀ (t : State),
      Kept z0 t → Kept z0 (f t)) (h : Kept z0 s) :
    OutKept z0 (atC d f s) := by
  unfold atC
  rw [outKept_next]; split
  · exact hf s h
  · exact h

theorem onD_kept {z0 : State} (k : Nat) (f : State → State) (s : State) (hf : ∀ (t : State),
      Kept z0 t → Kept z0 (f t)) (h : Kept z0 s) :
    OutKept z0 (onD k f s) := by
  unfold onD
  rw [outKept_next]; split
  · exact hf s h
  · exact h

theorem atD_kept {z0 : State} (k : Nat) (f : State → State) (s : State) (hf : ∀ (t : State),
      Kept z0 t → Kept z0 (f t)) (h : Kept z0 s) :
    OutKept z0 (atD k f s) := by
  unfold atD
  rw [outKept_next]; split
  · exact hf s h
  · exact h

theorem onCD_kept {z0 : State} (d k : Nat) (f : State → State) (s : State) (hf : ∀ (t : State),
      Kept z0 t → Kept z0 (f t)) (h : Kept z0 s) :
    OutKept z0 (onCD d k f s) := by
  unfold onCD
  rw [outKept_next]; split
  · exact hf s h
  · exact h

theorem onDC_kept {z0 : State} (d k : Nat) (f : State → State) (s : State) (hf : ∀ (t : State),
      Kept z0 t → Kept z0 (f t)) (h : Kept z0 s) :
    OutKept z0 (onDC d k f s) := by
  unfold onDC
  rw [outKept_next]; split
  · exact hf s h
  · exact h

theorem overL_kept {z0 : State} (xs : List Nat) (f : Nat → State → State) (s : State) (hf : ∀ (x0 : Nat) (t : State),
      Kept z0 t → Kept z0 (f x0 t)) (h : Kept z0 s) :
    Kept z0 (overL xs f s) := by
  exact kept_foldl _ (fun t x ht => hf x t ht) xs s h

theorem overN_kept {z0 : State} (n : Nat) (f : Nat → State → State) (s : State) (hf : ∀ (x0 : Nat) (t : State),
      Kept z0 t → Kept z0 (f x0 t)) (h : Kept z0 s) :
    Kept z0 (overN n f s) := by
  exact overL_kept _ f s hf h

theorem onlyIf_kept {z0 : State} (b : Bool) (f : State → State) (s : State) (hf : ∀ (t : State),
      Kept z0 t → Kept z0 (f t)) (h : Kept z0 s) :
    Kept z0 (onlyIf b f s) := by
  unfold onlyIf
  simp (maxDischargeDepth := 60) +contextual only [h, hf, apply_ite (Kept z0), ite_self]

theorem drawn_kept {z0 : State} (s : State) (h : Kept z0 s) :
    Kept z0 (State.drawn s) := by
  unfold State.drawn
  simp (maxDischargeDepth := 60) +contextual only [h, kept_free]

theorem wrB_kept {z0 : State} (s : State) (i addr b : Nat) (h : Kept z0 s) :
    Kept z0 (State.wrB s i addr b) := by
  unfold State.wrB
  simp (maxDischargeDepth := 60) +contextual only [h, kept_memWrite]

theorem wrBytes_kept {z0 : State} (i : Nat) : ∀ (bs : List Nat) (s : State) (addr : Nat) (_ : Kept z0 s),
      Kept z0 (s.wrBytes i addr bs)
  | [], _, _, h => h
  | b :: bs, s, addr, h => wrBytes_kept i bs _ _ (wrB_kept s i addr b h)

theorem wr32_kept {z0 : State} (s : State) (i addr w : Nat) (h : Kept z0 s) :
    Kept z0 (State.wr32 s i addr w) := by
  unfold State.wr32
  simp (maxDischargeDepth := 60) +contextual only [wrBytes_kept, h]

theorem copyMem_kept {z0 : State} (s : State) (i src j dst n : Nat) (h : Kept z0 s) :
    Kept z0 (State.copyMem s i src j dst n) := by
  unfold State.copyMem
  simp (maxDischargeDepth := 60) +contextual only [wrBytes_kept, h]

theorem eraseMem_kept {z0 : State} (s : State) (i lo hi : Nat) (h : Kept z0 s) :
    Kept z0 (State.eraseMem s i lo hi) := by
  unfold State.eraseMem
  simp (maxDischargeDepth := 60) +contextual only [h, kept_memFilter]

theorem noCheckpoints_kept {z0 : State} (d : Nat) (s : State) (h : Kept z0 s) :
    Kept z0 (noCheckpoints d s) := by
  unfold noCheckpoints
  simp (maxDischargeDepth := 60) +contextual only [modC_kept, h]

theorem setOwner_kept {z0 : State} (k d : Nat) (s : State) (h : Kept z0 s) :
    Kept z0 (setOwner k d s) := by
  unfold setOwner
  simp (maxDischargeDepth := 60) +contextual only [modD_kept, off_kept, put_kept, h]

theorem refreshLockout_kept {z0 : State} (s : State) (h : Kept z0 s) :
    Kept z0 (refreshLockout s) := by
  unfold refreshLockout
  simp (maxDischargeDepth := 60) +contextual only [overN_kept, put_kept, h, apply_ite (Kept z0), ite_self, implies_true]

theorem syncOwn_kept {z0 : State} (s : State) (h : Kept z0 s) :
    Kept z0 (State.syncOwn s) := by
  unfold State.syncOwn
  simp (maxDischargeDepth := 60) +contextual only [overN_kept, put_kept, h, apply_ite (Kept z0), ite_self, implies_true]

theorem busError_kept {z0 : State} (d : Nat) (m : Master) (addr : Nat) (write : Bool) (s : State) (h : Kept z0 s) :
    Kept z0 (busError d m addr write s) := by
  unfold busError
  split <;> simp (maxDischargeDepth := 60) +contextual only [modSys_kept, h]

/-! ### Machine/Record.lean -/

theorem mergeRecord_kept {z0 : State} (d : Nat) (s : State) (h : Kept z0 s) :
    Kept z0 (mergeRecord d s) := by
  unfold mergeRecord
  simp (maxDischargeDepth := 60) +contextual only [wrB_kept, wrBytes_kept, h, apply_ite (Kept z0), ite_self]

theorem nvmCut_kept {z0 : State} (d code : Nat) (s : State) (h : Kept z0 s) :
    Kept z0 (nvmCut d code s) := by
  unfold nvmCut
  simp (maxDischargeDepth := 60) +contextual only [modC_kept, h]

theorem toMainLog_kept {z0 : State} (d src : Nat) (s : State) (h : Kept z0 s) :
    Kept z0 (toMainLog d src s) := by
  unfold toMainLog
  simp (maxDischargeDepth := 60) +contextual only [copyMem_kept, put_kept, h]

theorem drainLastGasp_kept {z0 : State} (d : Nat) (s : State) (h : Kept z0 s) :
    Kept z0 (drainLastGasp d s) := by
  unfold drainLastGasp
  simp (maxDischargeDepth := 60) +contextual only [overN_kept, put_kept, toMainLog_kept, h, implies_true]

theorem optimeSave_kept {z0 : State} (d : Nat) (s : State) (h : Kept z0 s) :
    Kept z0 (optimeSave d s) := by
  unfold optimeSave
  simp (maxDischargeDepth := 60) +contextual only [modPrompt_kept, wrBytes_kept, h, apply_ite (Kept z0), ite_self]

theorem flushStart_kept {z0 : State} (d : Nat) (s : State) (h : Kept z0 s) :
    Kept z0 (flushStart d s) := by
  unfold flushStart
  simp (maxDischargeDepth := 60) +contextual only [drainLastGasp_kept, modPrompt_kept, off_kept, on_kept,
      optimeSave_kept, h, apply_ite (Kept z0), ite_self]

theorem storeRecord_kept {z0 : State} (d : Nat) (e : Event) (rom : Bool) (s : State) (h : Kept z0 s) :
    Kept z0 (storeRecord d e rom s) := by
  unfold storeRecord
  simp (maxDischargeDepth := 60) +contextual only [count_kept, flushStart_kept, modPrompt_kept, on_kept, put_kept,
      wrBytes_kept, h, apply_ite (Kept z0), ite_self]

theorem recordEvent_kept {z0 : State} (d : Nat) (e : Event) (s : State) (h : Kept z0 s) :
    Kept z0 (recordEvent d e s) := by
  unfold recordEvent
  simp (maxDischargeDepth := 60) +contextual only [mergeRecord_kept, storeRecord_kept, h, apply_ite (Kept z0), ite_self]

theorem note_kept {z0 : State} (d blk code sev inst w0 w1 w2 : Nat) (s : State) (h : Kept z0 s) :
    Kept z0 (note d blk code sev inst w0 w1 w2 s) := by
  unfold note
  simp (maxDischargeDepth := 60) +contextual only [recordEvent_kept, h]

theorem recordRom_kept {z0 : State} (d : Nat) (e : Event) (s : State) (h : Kept z0 s) :
    Kept z0 (recordRom d e s) := by
  unfold recordRom
  simp (maxDischargeDepth := 60) +contextual only [storeRecord_kept, h]

theorem setDev_kept {z0 : State} (st : Nat) (s : State) (h : Kept z0 s) :
    Kept z0 (setDev st s) := by
  unfold setDev
  simp (maxDischargeDepth := 60) +contextual only [overN_kept, put_kept, recordEvent_kept, h, apply_ite (Kept z0),
      ite_self, implies_true]

/-! ### Machine/LinkOps.lean -/

theorem modLink_kept {z0 : State} (s : State) (i n : Nat) (f : LinkC → LinkC) (h : Kept z0 s) :
    Kept z0 (State.modLink s i n f) := by
  unfold State.modLink
  simp (maxDischargeDepth := 60) +contextual only [modD_kept, modHdr_kept, h, apply_ite (Kept z0), ite_self]

theorem onLink_kept {z0 : State} (i n : Nat) (f : State → State) (s : State) (hf : ∀ (t : State),
      Kept z0 t → Kept z0 (f t)) (h : Kept z0 s) :
    OutKept z0 (onLink i n f s) := by
  unfold onLink
  simp (maxDischargeDepth := 60) +contextual only [h, hf, apply_ite (Kept z0), ite_self, outKept_next]

theorem sendFlit_kept {z0 : State} (i n kind payload : Nat) (s : State) (h : Kept z0 s) :
    Kept z0 (sendFlit i n kind payload s) := by
  unfold sendFlit
  simp (maxDischargeDepth := 60) +contextual only [modLink_kept, h]

theorem tellFlit_kept {z0 : State} (i n kind payload : Nat) (s : State) (h : Kept z0 s) :
    Kept z0 (tellFlit i n kind payload s) := by
  unfold tellFlit
  simp (maxDischargeDepth := 60) +contextual only [sendFlit_kept, h, apply_ite (Kept z0), ite_self]

theorem sendCue_kept {z0 : State} (i n src : Nat) (s : State) (h : Kept z0 s) :
    Kept z0 (sendCue i n src s) := by
  unfold sendCue
  simp (maxDischargeDepth := 60) +contextual only [drawn_kept, modLink_kept, h]

theorem slotsOutC_kept {z0 : State} (d : Nat) (s : State) (h : Kept z0 s) :
    Kept z0 (slotsOutC d s) := by
  unfold slotsOutC
  simp (maxDischargeDepth := 60) +contextual only [modLink_kept, overN_kept, h, apply_ite (Kept z0), ite_self, implies_true]

theorem slotsOutD_kept {z0 : State} (k : Nat) (s : State) (h : Kept z0 s) :
    Kept z0 (slotsOutD k s) := by
  unfold slotsOutD
  simp (maxDischargeDepth := 60) +contextual only [modD_kept, overN_kept, h, apply_ite (Kept z0), ite_self, implies_true]

theorem sendTime_kept {z0 : State} (i n t : Nat) (s : State) (h : Kept z0 s) :
    Kept z0 (sendTime i n t s) := by
  unfold sendTime
  simp (maxDischargeDepth := 60) +contextual only [sendFlit_kept, h]

theorem nameTime_kept {z0 : State} (d n : Nat) (s : State) (h : Kept z0 s) :
    Kept z0 (nameTime d n s) := by
  unfold nameTime
  simp (maxDischargeDepth := 60) +contextual only [sendTime_kept, h, apply_ite (Kept z0), ite_self]

theorem linkFresh_kept {z0 : State} (i n : Nat) (s : State) (h : Kept z0 s) :
    Kept z0 (linkFresh i n s) := by
  unfold linkFresh
  simp (maxDischargeDepth := 60) +contextual only [modLink_kept, h]

theorem linkUp_kept {z0 : State} (d n : Nat) (s : State) (h : Kept z0 s) :
    Kept z0 (linkUp d n s) := by
  unfold linkUp
  simp (maxDischargeDepth := 60) +contextual only [drawn_kept, linkFresh_kept, on_kept, onlyIf_kept, put_kept, h,
      implies_true]

/-! ### Machine/Stats.lean -/

theorem statEng_kept {z0 : State} (d n : Nat) (f : Nat → Fld) (s : State) (h : Kept z0 s) :
    Kept z0 (statEng d n f s) := by
  unfold statEng
  split <;> simp (maxDischargeDepth := 60) +contextual only [count_kept, h]

theorem statRun_kept {z0 : State} (d n cyc : Nat) (s : State) (h : Kept z0 s) :
    Kept z0 (statRun d n cyc s) := by
  unfold statRun
  split <;> simp (maxDischargeDepth := 60) +contextual only [put_kept, h]

theorem statWeir_kept {z0 : State} (d w : Nat) (s : State) (h : Kept z0 s) :
    Kept z0 (statWeir d w s) := by
  unfold statWeir
  split <;> simp (maxDischargeDepth := 60) +contextual only [count_kept, h]

theorem statAx_kept {z0 : State} (d a : Nat) (f : Nat → Fld) (s : State) (h : Kept z0 s) :
    Kept z0 (statAx d a f s) := by
  unfold statAx
  simp (maxDischargeDepth := 60) +contextual only [count_kept, h, apply_ite (Kept z0), ite_self]

/-! ### Machine/CueOps.lean -/

theorem refreshInact_kept {z0 : State} (d : Nat) (s : State) (h : Kept z0 s) :
    Kept z0 (refreshInact d s) := by
  unfold refreshInact
  simp (maxDischargeDepth := 60) +contextual only [overN_kept, put_kept, h, implies_true]

theorem cueNote_kept {z0 : State} (d way : Nat) (s : State) (h : Kept z0 s) :
    Kept z0 (cueNote d way s) := by
  unfold cueNote
  simp (maxDischargeDepth := 60) +contextual only [modHdr_kept, h]

theorem queueCues_kept {z0 : State} (d src : Nat) (peer : Bool) (s : State) (h : Kept z0 s) :
    Kept z0 (queueCues d src peer s) := by
  unfold queueCues
  dsimp only
  refine overL_kept _ _ _ (fun n t ht => ?_) ?_
  · split
    · exact ht
    · refine modHdr_kept _ _ _ ?_
      split
      · exact sendCue_kept _ _ _ _ (cueNote_kept _ _ _ ht)
      · exact ht
  · split
    · exact cueNote_kept _ _ _ h
    · exact h

theorem fireCue_kept {z0 : State} (d src : Nat) (s : State) (h : Kept z0 s) :
    Kept z0 (fireCue d src s) := by
  unfold fireCue
  simp (maxDischargeDepth := 60) +contextual only [queueCues_kept, sendCue_kept, h, apply_ite (Kept z0), ite_self]

theorem fireDrvCue_kept {z0 : State} (k j : Nat) (s : State) (h : Kept z0 s) :
    Kept z0 (fireDrvCue k j s) := by
  unfold fireDrvCue
  simp (maxDischargeDepth := 60) +contextual only [fireCue_kept, h, apply_ite (Kept z0), ite_self]

/-! ### Machine/Gate.lean -/

theorem setCh_kept {z0 : State} (s : State) (k c st : Nat) (h : Kept z0 s) :
    Kept z0 (State.setCh s k c st) := by
  unfold State.setCh
  simp (maxDischargeDepth := 60) +contextual only [put_kept, h]

theorem modCh_kept {z0 : State} (s : State) (k c : Nat) (f : ChanD → ChanD) (h : Kept z0 s) :
    Kept z0 (State.modCh s k c f) := by
  unfold State.modCh
  simp (maxDischargeDepth := 60) +contextual only [modD_kept, h]

theorem modLeg_kept {z0 : State} (s : State) (k leg : Nat) (f : LegD → LegD) (h : Kept z0 s) :
    Kept z0 (State.modLeg s k leg f) := by
  unfold State.modLeg
  simp (maxDischargeDepth := 60) +contextual only [modD_kept, h]

theorem seqRuns_kept {z0 : State} (k e named : Nat) (s : State) (h : Kept z0 s) :
    Kept z0 (seqRuns k e named s) := by
  unfold seqRuns
  simp (maxDischargeDepth := 60) +contextual only [modD_kept, h, apply_ite (Kept z0), ite_self]

theorem chOn_kept {z0 : State} (k c : Nat) (s : State) (h : Kept z0 s) :
    Kept z0 (chOn k c s) := by
  unfold chOn
  simp (maxDischargeDepth := 60) +contextual only [modCh_kept, seqRuns_kept, setCh_kept, h]

theorem chDown_kept {z0 : State} (k c st : Nat) (s : State) (h : Kept z0 s) :
    Kept z0 (chDown k c st s) := by
  unfold chDown
  simp (maxDischargeDepth := 60) +contextual only [seqRuns_kept, setCh_kept, h, apply_ite (Kept z0), ite_self]

theorem gateHold_kept {z0 : State} (k c : Nat) (s : State) (h : Kept z0 s) :
    Kept z0 (gateHold k c s) := by
  unfold gateHold
  simp (maxDischargeDepth := 60) +contextual only [count_kept, modCh_kept, h, apply_ite (Kept z0), ite_self]

theorem chStop_kept {z0 : State} (k c st : Nat) (s : State) (h : Kept z0 s) :
    Kept z0 (chStop k c st s) := by
  unfold chStop
  simp (maxDischargeDepth := 60) +contextual only [chDown_kept, modCh_kept, h]

theorem settleCh_kept {z0 : State} (k c : Nat) (s : State) (h : Kept z0 s) :
    Kept z0 (settleCh k c s) := by
  unfold settleCh
  simp (maxDischargeDepth := 60) +contextual only [chDown_kept, chOn_kept, chStop_kept, gateHold_kept, setCh_kept, h,
      apply_ite (Kept z0), ite_self]

theorem settle_kept {z0 : State} (k : Nat) (s : State) (h : Kept z0 s) :
    Kept z0 (settle k s) := by
  unfold settle
  simp (maxDischargeDepth := 60) +contextual only [overN_kept, put_kept, settleCh_kept, h, implies_true]

theorem sendStatus_kept {z0 : State} (k : Nat) (s : State) (h : Kept z0 s) :
    Kept z0 (sendStatus k s) := by
  unfold sendStatus
  simp (maxDischargeDepth := 60) +contextual only [modD_kept, h]

theorem curtainLeg_kept {z0 : State} (k leg cmd : Nat) (s : State) (h : Kept z0 s) :
    Kept z0 (curtainLeg k leg cmd s) := by
  unfold curtainLeg
  simp (maxDischargeDepth := 60) +contextual only [modCh_kept, modD_kept, modLeg_kept, overL_kept, put_kept,
      seqRuns_kept, h, apply_ite (Kept z0), ite_self, implies_true]

theorem orphanLeg_kept {z0 : State} (k leg cmd : Nat) (s : State) (h : Kept z0 s) :
    Kept z0 (orphanLeg k leg cmd s) := by
  unfold orphanLeg
  simp (maxDischargeDepth := 60) +contextual only [modLeg_kept, put_kept, h, apply_ite (Kept z0), ite_self]

theorem applyHeld_kept {z0 : State} (k : Nat) (s : State) (h : Kept z0 s) :
    Kept z0 (applyHeld k s) := by
  unfold applyHeld
  refine settle_kept _ _ (overN_kept _ _ _ (fun leg t ht => ?_) h)
  try dsimp only
  (repeat' split) <;> simp (maxDischargeDepth := 60) +contextual only [curtainLeg_kept, orphanLeg_kept, ht]

theorem settleHeld_kept {z0 : State} (k : Nat) (s : State) (h : Kept z0 s) :
    Kept z0 (settleHeld k s) := by
  unfold settleHeld
  simp (maxDischargeDepth := 60) +contextual only [applyHeld_kept, settle_kept, h]

theorem orphanEntry_kept {z0 : State} (k : Nat) (s : State) (h : Kept z0 s) :
    Kept z0 (orphanEntry k s) := by
  unfold orphanEntry
  simp (maxDischargeDepth := 60) +contextual only [modD_kept, off_kept, on_kept, seqRuns_kept, settle_kept, syncOwn_kept,
      h, apply_ite (Kept z0), ite_self]

theorem legaxAfter_kept {z0 : State} (k : Nat) (s t : State) (h : Kept z0 t) :
    Kept z0 (legaxAfter k s t) := by
  unfold legaxAfter
  simp (maxDischargeDepth := 60) +contextual only [modLeg_kept, overN_kept, putBit_kept, settle_kept, h,
      apply_ite (Kept z0), ite_self, implies_true]

/-! ### Machine/ThermOps.lean -/

theorem modTherm_kept {z0 : State} (d : Nat) (f : ThermC → ThermC) (s : State) (h : Kept z0 s) :
    Kept z0 (modTherm d f s) := by
  unfold modTherm
  simp (maxDischargeDepth := 60) +contextual only [modC_kept, h]

theorem putLrec_kept {z0 : State} (d : Nat) (r : Nat × Nat × Nat) (s : State) (h : Kept z0 s) :
    Kept z0 (putLrec d r s) := by
  unfold putLrec
  simp (maxDischargeDepth := 60) +contextual only [put_kept, h]

theorem thermStore_kept {z0 : State} (d : Nat) (r : Nat × Nat × Nat) (s : State) (h : Kept z0 s) :
    Kept z0 (thermStore d r s) := by
  unfold thermStore
  simp (maxDischargeDepth := 60) +contextual only [modN_kept, modTherm_kept, wr32_kept, h]

theorem thermHot_kept {z0 : State} (d : Nat) (r : Nat × Nat × Nat) (s : State) (h : Kept z0 s) :
    Kept z0 (thermHot d r s) := by
  unfold thermHot
  simp (maxDischargeDepth := 60) +contextual only [modN_kept, modTherm_kept, putLrec_kept, put_kept, wrBytes_kept, h,
      apply_ite (Kept z0), ite_self]

theorem thermTry_kept {z0 : State} (d : Nat) (s : State) (h : Kept z0 s) :
    Kept z0 (thermTry d s) := by
  unfold thermTry
  split <;> simp (maxDischargeDepth := 60) +contextual only [thermHot_kept, thermStore_kept, h, apply_ite (Kept z0),
      ite_self]

theorem thermEvent_kept {z0 : State} (d die sensor temp : Nat) (hw : Bool) (s : State) (h : Kept z0 s) :
    Kept z0 (thermEvent d die sensor temp hw s) := by
  unfold thermEvent
  simp (maxDischargeDepth := 60) +contextual only [modTherm_kept, putLrec_kept, thermTry_kept, h]

theorem thermLoad_kept {z0 : State} (d : Nat) (s : State) (h : Kept z0 s) :
    Kept z0 (thermLoad d s) := by
  unfold thermLoad
  (repeat' split) <;> simp (maxDischargeDepth := 60) +contextual only [putLrec_kept, thermTry_kept, h]

theorem thermLock_kept {z0 : State} (d : Nat) (s : State) (h : Kept z0 s) :
    Kept z0 (thermLock d s) := by
  unfold thermLock
  simp (maxDischargeDepth := 60) +contextual only [put_kept, h]

/-! ### Machine/PwmOps.lean -/

theorem modPair_kept {z0 : State} (s : State) (d k : Nat) (f : PairC → PairC) (h : Kept z0 s) :
    Kept z0 (State.modPair s d k f) := by
  unfold State.modPair
  simp (maxDischargeDepth := 60) +contextual only [modPwm_kept, h]

theorem modLg_kept {z0 : State} (s : State) (d g : Nat) (f : LgC → LgC) (h : Kept z0 s) :
    Kept z0 (State.modLg s d g f) := by
  unfold State.modLg
  simp (maxDischargeDepth := 60) +contextual only [modPwm_kept, h]

theorem pairDark_kept {z0 : State} (d k : Nat) (s : State) (h : Kept z0 s) :
    Kept z0 (pairDark d k s) := by
  unfold pairDark
  simp (maxDischargeDepth := 60) +contextual only [off_kept, h]

theorem pairStop_kept {z0 : State} (d k : Nat) (s : State) (h : Kept z0 s) :
    Kept z0 (pairStop d k s) := by
  unfold pairStop
  simp (maxDischargeDepth := 60) +contextual only [modPair_kept, pairDark_kept, h]

theorem axisOff_kept {z0 : State} (d a : Nat) (s : State) (h : Kept z0 s) :
    Kept z0 (axisOff d a s) := by
  unfold axisOff
  simp (maxDischargeDepth := 60) +contextual only [modPwm_kept, overL_kept, pairStop_kept, putBit_kept, h, implies_true]

theorem zRoundBegin_kept {z0 : State} (d mask : Nat) (s : State) (h : Kept z0 s) :
    Kept z0 (zRoundBegin d mask s) := by
  unfold zRoundBegin
  simp (maxDischargeDepth := 60) +contextual only [modAdc_kept, on_kept, overN_kept, h, apply_ite (Kept z0), ite_self,
      implies_true]

theorem zcapBegin_kept {z0 : State} (d : Nat) (s : State) (h : Kept z0 s) :
    Kept z0 (zcapBegin d s) := by
  unfold zcapBegin
  simp (maxDischargeDepth := 60) +contextual only [modAdc_kept, modSafe_kept, off_kept, on_kept, put_kept,
      zRoundBegin_kept, h]

theorem standbyEntry_kept {z0 : State} (d : Nat) (s : State) (h : Kept z0 s) :
    Kept z0 (standbyEntry d s) := by
  unfold standbyEntry
  simp (maxDischargeDepth := 60) +contextual only [put_kept, thermLock_kept, zcapBegin_kept, h, apply_ite (Kept z0),
      ite_self]

theorem setDevice_kept {z0 : State} (st : Nat) (s : State) (h : Kept z0 s) :
    Kept z0 (setDevice st s) := by
  unfold setDevice
  simp (maxDischargeDepth := 60) +contextual only [overN_kept, pairStop_kept, setDev_kept, standbyEntry_kept,
      thermLoad_kept, h, apply_ite (Kept z0), ite_self, implies_true]

theorem standbyIfIdle_kept {z0 : State} (s : State) (h : Kept z0 s) :
    Kept z0 (standbyIfIdle s) := by
  unfold standbyIfIdle
  simp (maxDischargeDepth := 60) +contextual only [setDevice_kept, h, apply_ite (Kept z0), ite_self]

theorem pairRest_kept {z0 : State} (d k : Nat) (s : State) (h : Kept z0 s) :
    Kept z0 (pairRest d k s) := by
  unfold pairRest
  simp (maxDischargeDepth := 60) +contextual only [modPair_kept, pairStop_kept, h]

theorem groupStop_kept {z0 : State} (d g : Nat) (s : State) (h : Kept z0 s) :
    Kept z0 (groupStop d g s) := by
  unfold groupStop
  simp (maxDischargeDepth := 60) +contextual only [modLg_kept, overL_kept, pairRest_kept, put_kept, h, implies_true]

/-! ### Machine/HoOps.lean -/

theorem hoStart_kept {z0 : State} (d k : Nat) (byLoader retry : Bool) (s : State) (h : Kept z0 s) :
    Kept z0 (hoStart d k byLoader retry s) := by
  unfold hoStart
  simp (maxDischargeDepth := 60) +contextual only [modHdr_kept, put_kept, tellFlit_kept, h]

theorem hoTry_kept {z0 : State} (d k : Nat) (byLoader retry : Bool) (s : State) (h : Kept z0 s) :
    Kept z0 (hoTry d k byLoader retry s) := by
  unfold hoTry
  simp (maxDischargeDepth := 60) +contextual only [hoStart_kept, put_kept, h, apply_ite (Kept z0), ite_self]

theorem offOwner_kept {z0 : State} (k : Nat) (s : State) (h : Kept z0 s) :
    Kept z0 (offOwner k s) := by
  unfold offOwner
  simp (maxDischargeDepth := 60) +contextual only [overL_kept, overN_kept, put_kept, h, apply_ite (Kept z0), ite_self,
      implies_true]

theorem hoLoaderGo_kept {z0 : State} : ∀ (n : Nat) (s : State) (_ : Kept z0 s), Kept z0 (hoLoaderGo n s)
  | 0, _, h => h
  | n + 1, s, h => by
    have ih := hoLoaderGo_kept (z0 := z0) n
    unfold hoLoaderGo
    split
    · exact h
    · split
      · exact h
      · dsimp only
        split
        · exact hoStart_kept _ _ _ _ _ (modHdr_kept _ _ _ h)
        · refine ih _ ?_
          split
          · exact offOwner_kept _ _ (put_kept _ _ _ _ (put_kept _ _ _ _ (modHdr_kept _ _ _ h)))
          · exact put_kept _ _ _ _ (put_kept _ _ _ _ (modHdr_kept _ _ _ h))

theorem takeMark_kept {z0 : State} (d k : Nat) (restoring : Bool) (s : State) (h : Kept z0 s) :
    Kept z0 (takeMark d k restoring s) := by
  unfold takeMark
  simp (maxDischargeDepth := 60) +contextual only [modD_kept, modHdr_kept, nameTime_kept, put_kept, syncOwn_kept,
      tellFlit_kept, h, apply_ite (Kept z0), ite_self]

theorem hoEnd_kept {z0 : State} (d : Nat) (s : State) (h : Kept z0 s) :
    Kept z0 (hoEnd d s) := by
  unfold hoEnd
  dsimp only
  (repeat' split) <;> simp (maxDischargeDepth := 60) +contextual only [hoLoaderGo_kept, modHdr_kept, put_kept,
      takeMark_kept, h]

theorem mirrorEnd_kept {z0 : State} (d : Nat) (s : State) (h : Kept z0 s) :
    Kept z0 (mirrorEnd d s) := by
  unfold mirrorEnd
  simp (maxDischargeDepth := 60) +contextual only [off_kept, overN_kept, pairStop_kept, h, apply_ite (Kept z0), ite_self,
      implies_true]

theorem hoCancel_kept {z0 : State} (d code : Nat) (s : State) (h : Kept z0 s) :
    Kept z0 (hoCancel d code s) := by
  unfold hoCancel
  simp (maxDischargeDepth := 60) +contextual only [hoEnd_kept, mirrorEnd_kept, modHdr_kept, offOwner_kept, overL_kept,
      put_kept, tellFlit_kept, h, apply_ite (Kept z0), ite_self, implies_true]

theorem takeCancel_kept {z0 : State} (d code : Nat) (s : State) (h : Kept z0 s) :
    Kept z0 (takeCancel d code s) := by
  unfold takeCancel
  simp (maxDischargeDepth := 60) +contextual only [hoEnd_kept, modD_kept, put_kept, syncOwn_kept, h, apply_ite (Kept z0),
      ite_self]

theorem hoCancelFor_kept {z0 : State} (k code : Nat) (s : State) (h : Kept z0 s) :
    Kept z0 (hoCancelFor k code s) := by
  unfold hoCancelFor
  simp (maxDischargeDepth := 60) +contextual only [hoCancel_kept, overN_kept, h, apply_ite (Kept z0), ite_self,
      implies_true]

/-! ### Machine/Access.lean -/

theorem refuseAt_kept {z0 : State} (i off : Nat) (s : State) (h : Kept z0 s) :
    Kept z0 (refuseAt i off s) := by
  unfold refuseAt
  split <;> simp (maxDischargeDepth := 60) +contextual only [on_kept, h]

theorem plainWrite_kept {z0 : State} (i off : Nat) (v : Word) (stopped : Bool) (s : State) (h : Kept z0 s) :
    Kept z0 (plainWrite i off v stopped s) := by
  unfold plainWrite
  split <;> simp (maxDischargeDepth := 60) +contextual only [refuseAt_kept, setReg_kept, h, apply_ite (Kept z0), ite_self]

theorem protWrite_kept {z0 : State} (i off : Nat) (v : Word) (stopped : Bool) (s : State) (h : Kept z0 s) :
    Kept z0 (protWrite i off v stopped s) := by
  unfold protWrite
  split <;> simp (maxDischargeDepth := 60) +contextual only [refuseAt_kept, setReg_kept, h, apply_ite (Kept z0), ite_self]

theorem loaderWrite_kept {z0 : State} (i off : Nat) (v : Word) (s : State) (h : Kept z0 s) :
    Kept z0 (loaderWrite i off v s) := by
  unfold loaderWrite
  split <;> simp (maxDischargeDepth := 60) +contextual only [setReg_kept, h]

theorem canRamWrite_kept {z0 : State} (d n r w : Nat) (s : State) (h : Kept z0 s) :
    Kept z0 (canRamWrite d n r w s) := by
  unfold canRamWrite
  simp (maxDischargeDepth := 60) +contextual only [wr32_kept, h, apply_ite (Kept z0), ite_self]

theorem reloadCancel_kept {z0 : State} (a code : Nat) (s : State) (h : Kept z0 s) :
    Kept z0 (reloadCancel a code s) := by
  unfold reloadCancel
  simp (maxDischargeDepth := 60) +contextual only [modLib_kept, off_kept, overN_kept, put_kept, h, apply_ite (Kept z0),
      ite_self, implies_true]

theorem modTk_kept {z0 : State} (s : State) (d : Nat) (f : TkC → TkC) (h : Kept z0 s) :
    Kept z0 (State.modTk s d f) := by
  unfold State.modTk
  simp (maxDischargeDepth := 60) +contextual only [modLib_kept, h]

theorem tkFail_kept {z0 : State} (d code : Nat) (s : State) (h : Kept z0 s) :
    Kept z0 (tkFail d code s) := by
  unfold tkFail
  dsimp only
  (repeat' split) <;> simp (maxDischargeDepth := 60) +contextual only [modTk_kept, off_kept, put_kept, refuseAt_kept, h]

theorem tkTrap_kept {z0 : State} (d : Nat) (m : Master) (s : State) (h : Kept z0 s) :
    Kept z0 (tkTrap d m s) := by
  unfold tkTrap
  simp (maxDischargeDepth := 60) +contextual only [tkFail_kept, h, apply_ite (Kept z0), ite_self]

theorem busTrap_kept {z0 : State} (d : Nat) (m : Master) (addr : Nat) (write : Bool) (s : State) (h : Kept z0 s) :
    Kept z0 (busTrap d m addr write s) := by
  unfold busTrap
  simp (maxDischargeDepth := 60) +contextual only [busError_kept, tkTrap_kept, h]

theorem tkDone_kept {z0 : State} (d addr : Nat) (old new : Word) (s : State) (h : Kept z0 s) :
    Kept z0 (tkDone d addr old new s) := by
  unfold tkDone
  split <;> simp (maxDischargeDepth := 60) +contextual only [modTk_kept, off_kept, put_kept, recordEvent_kept,
      reloadCancel_kept, h, apply_ite (Kept z0), ite_self]

theorem tkDisturb_kept {z0 : State} (d addr : Nat) (m : Master) (s : State) (h : Kept z0 s) :
    Kept z0 (tkDisturb d addr m s) := by
  unfold tkDisturb
  simp (maxDischargeDepth := 60) +contextual only [onlyIf_kept, tkFail_kept, h, apply_ite (Kept z0), ite_self, implies_true]

theorem onCW_kept {z0 : State} (d addr : Nat) (f : State → State) (s : State) (hf : ∀ (t : State),
      Kept z0 t → Kept z0 (f t)) (h : Kept z0 s) :
    OutKept z0 (onCW d addr f s) := by
  unfold onCW
  simp (maxDischargeDepth := 60) +contextual only [onC_kept, tkDisturb_kept, h, hf, implies_true]

theorem onDW_kept {z0 : State} (d k off : Nat) (f : State → State) (s : State) (hf : ∀ (t : State),
      Kept z0 t → Kept z0 (f t)) (h : Kept z0 s) :
    OutKept z0 (onDW d k off f s) := by
  unfold onDW
  simp (maxDischargeDepth := 60) +contextual only [onCD_kept, tkDisturb_kept, h, hf, implies_true]

theorem tkWrite_kept {z0 : State} (d : Nat) (m : Master) (addr i off : Nat) (v : Word) (stopped : Bool) (eff : State → State) (s : State) (heff : ∀ (t : State), Kept z0 t → Kept z0 (eff t)) (h : Kept z0 s) :
    Kept z0 (tkWrite d m addr i off v stopped eff s) := by
  unfold tkWrite
  simp (maxDischargeDepth := 60) +contextual only [plainWrite_kept, tkDisturb_kept, tkDone_kept, h, heff,
      apply_ite (Kept z0), ite_self]

theorem tkWriteIf_kept {z0 : State} (ok : Bool) (no : State → State) (d : Nat) (m : Master) (addr i off : Nat) (v : Word) (eff : State → State) (s : State) (hno : ∀ (t : State), Kept z0 t → Kept z0 (no t)) (heff : ∀ (t : State), Kept z0 t → Kept z0 (eff t)) (h : Kept z0 s) :
    Kept z0 (tkWriteIf ok no d m addr i off v eff s) := by
  unfold tkWriteIf
  simp (maxDischargeDepth := 60) +contextual only [tkDone_kept, tkWrite_kept, h, hno, heff, apply_ite (Kept z0),
      ite_self, implies_true]

theorem tkWriteThen_kept {z0 : State} (d : Nat) (m : Master) (addr i off : Nat) (v : Word) (eff : State → State) (s : State) (heff : ∀ (t : State), Kept z0 t → Kept z0 (eff t)) (h : Kept z0 s) :
    Kept z0 (tkWriteThen d m addr i off v eff s) := by
  unfold tkWriteThen
  simp (maxDischargeDepth := 60) +contextual only [plainWrite_kept, tkDisturb_kept, tkDone_kept, h, heff,
      apply_ite (Kept z0), ite_self]

/-! ### Machine/LoopOps.lean -/

theorem modEng_kept {z0 : State} (s : State) (d n : Nat) (f : EngC → EngC) (h : Kept z0 s) :
    Kept z0 (State.modEng s d n f) := by
  unfold State.modEng
  simp (maxDischargeDepth := 60) +contextual only [modC_kept, h]

theorem engStop_kept {z0 : State} (d n : Nat) (s : State) (h : Kept z0 s) :
    Kept z0 (engStop d n s) := by
  unfold engStop
  simp (maxDischargeDepth := 60) +contextual only [modEng_kept, off_kept, h]

theorem putSlot_kept {z0 : State} (d n k : Nat) (z : Int) (s : State) (h : Kept z0 s) :
    Kept z0 (putSlot d n k z s) := by
  unfold putSlot
  simp (maxDischargeDepth := 60) +contextual only [put_kept, h]

/-! ### Machine/Ucode.lean -/

theorem ucCommit_kept {z0 : State} (k : Nat) (v : Word) (s : State) (h : Kept z0 s) :
    Kept z0 (ucCommit k v s) := by
  unfold ucCommit
  simp (maxDischargeDepth := 60) +contextual only [modD_kept, on_kept, put_kept, h, apply_ite (Kept z0), ite_self]

/-! ### Machine/LibOps.lean -/

theorem placeUnits_kept {z0 : State} (d : Nat) (x : Sect) (s : State) (h : Kept z0 s) :
    Kept z0 (placeUnits d x s) := by
  unfold placeUnits
  simp (maxDischargeDepth := 60) +contextual only [modAdc_kept, modLoop_kept, overL_kept, h, apply_ite (Kept z0),
      ite_self, implies_true]

theorem refreshVersions_kept {z0 : State} (d : Nat) (s : State) (h : Kept z0 s) :
    Kept z0 (refreshVersions d s) := by
  unfold refreshVersions
  simp (maxDischargeDepth := 60) +contextual only [put_kept, h]

theorem exchangeRoles_kept {z0 : State} (d : Nat) (s : State) (h : Kept z0 s) :
    Kept z0 (exchangeRoles d s) := by
  unfold exchangeRoles
  simp (maxDischargeDepth := 60) +contextual only [modN_kept, refreshVersions_kept, h]

theorem rolesOfLoad_kept {z0 : State} (d slot : Nat) (s : State) (h : Kept z0 s) :
    Kept z0 (rolesOfLoad d slot s) := by
  unfold rolesOfLoad
  simp (maxDischargeDepth := 60) +contextual only [modN_kept, refreshVersions_kept, h]

theorem dirWrite_kept {z0 : State} (d : Nat) (s : State) (h : Kept z0 s) :
    Kept z0 (dirWrite d s) := by
  unfold dirWrite
  simp (maxDischargeDepth := 60) +contextual only [exchangeRoles_kept, modLib_kept, rolesOfLoad_kept, h,
      apply_ite (Kept z0), ite_self]

theorem dirTry_kept {z0 : State} (d kind : Nat) (s : State) (h : Kept z0 s) :
    Kept z0 (dirTry d kind s) := by
  unfold dirTry
  simp (maxDischargeDepth := 60) +contextual only [dirWrite_kept, modLib_kept, h, apply_ite (Kept z0), ite_self]

theorem noteErrSect_kept {z0 : State} (a code : Nat) (s : State) (h : Kept z0 s) :
    Kept z0 (noteErrSect a code s) := by
  unfold noteErrSect
  simp (maxDischargeDepth := 60) +contextual only [put_kept, h, apply_ite (Kept z0), ite_self]

theorem factorySect_kept {z0 : State} (d kind tgt : Nat) (s : State) (h : Kept z0 s) :
    Kept z0 (factorySect d kind tgt s) := by
  unfold factorySect
  dsimp only
  have h1 : Kept z0 (if (kind == 0x01) = true then
      (s.setReg d (F.FIELD_AX_HB tgt).off (resetWord (regKey d (F.FIELD_AX_HB tgt).off))).put d (F.FIELD_AX_CFG_TYPE tgt) 0 else s) := by
    split
    · exact put_kept _ _ _ _ (setReg_kept _ _ _ _ h)
    · exact h
  generalize (if (kind == 0x01) = true then
      (s.setReg d (F.FIELD_AX_HB tgt).off (resetWord (regKey d (F.FIELD_AX_HB tgt).off))).put d (F.FIELD_AX_CFG_TYPE tgt) 0 else s) = u at h1 ⊢
  split
  · exact modLib_kept _ _ _ (put_kept _ _ _ _ (put_kept _ _ _ _ (wr32_kept _ _ _ _ (wr32_kept _ _ _ _ h1))))
  · refine kept_foldl _ (fun t e ht => ?_) _ _ h1
    split
    · split
      · exact setReg_kept _ _ _ _ ht
      · exact ht
    · exact ht

theorem refreshSettings_kept {z0 : State} (d : Nat) (s : State) (h : Kept z0 s) :
    Kept z0 (refreshSettings d s) := by
  unfold refreshSettings
  dsimp only
  (repeat' split) <;> simp (maxDischargeDepth := 60) +contextual only [put_kept, h]

theorem settingsReset_kept {z0 : State} (d schema : Nat) (setdef : Option Sect) (s : State) (h : Kept z0 s) :
    Kept z0 (settingsReset d schema setdef s) := by
  unfold settingsReset
  simp (maxDischargeDepth := 60) +contextual only [refreshSettings_kept, wrBytes_kept, h]

theorem settingsResolve_kept {z0 : State} (d schema : Nat) (setdef : Option Sect) (s : State) (h : Kept z0 s) :
    Kept z0 (settingsResolve d schema setdef s) := by
  unfold settingsResolve
  split <;> simp (maxDischargeDepth := 60) +contextual only [off_kept, put_kept, settingsReset_kept, h,
      apply_ite (Kept z0), ite_self]

theorem storeCut_kept {z0 : State} (d : Nat) (s : State) (h : Kept z0 s) :
    Kept z0 (storeCut d s) := by
  unfold storeCut
  simp (maxDischargeDepth := 60) +contextual only [modLib_kept, onlyIf_kept, put_kept, h, apply_ite (Kept z0), ite_self,
      implies_true]

theorem clearReady_kept {z0 : State} (d : Nat) (s : State) (h : Kept z0 s) :
    Kept z0 (clearReady d s) := by
  unfold clearReady
  simp (maxDischargeDepth := 60) +contextual only [modSafe_kept, off_kept, h]

theorem putAxst_kept {z0 : State} (d a v : Nat) (s : State) (h : Kept z0 s) :
    Kept z0 (putAxst d a v s) := by
  unfold putAxst
  simp (maxDischargeDepth := 60) +contextual only [put_kept, h]

theorem noteOffsets_kept {z0 : State} (d : Nat) (s : State) (h : Kept z0 s) :
    Kept z0 (noteOffsets d s) := by
  unfold noteOffsets
  simp (maxDischargeDepth := 60) +contextual only [modAdc_kept, h]

theorem staticHandovers_kept {z0 : State} (s : State) (h : Kept z0 s) :
    Kept z0 (staticHandovers s) := by
  unfold staticHandovers
  simp (maxDischargeDepth := 60) +contextual only [hoLoaderGo_kept, modHdr_kept, h, apply_ite (Kept z0), ite_self]

theorem noteApplied_kept {z0 : State} (d slot source : Nat) (s : State) (h : Kept z0 s) :
    Kept z0 (noteApplied d slot source s) := by
  unfold noteApplied
  simp (maxDischargeDepth := 60) +contextual only [put_kept, h]

theorem watchClose_kept {z0 : State} (d : Nat) (s : State) (h : Kept z0 s) :
    Kept z0 (watchClose d s) := by
  unfold watchClose
  simp (maxDischargeDepth := 60) +contextual only [modLib_kept, off_kept, h]

theorem watchOpen_kept {z0 : State} (d : Nat) (s : State) (h : Kept z0 s) :
    Kept z0 (watchOpen d s) := by
  unfold watchOpen
  simp (maxDischargeDepth := 60) +contextual only [modLib_kept, on_kept, put_kept, h, apply_ite (Kept z0), ite_self]

theorem watchCut_kept {z0 : State} (s : State) (h : Kept z0 s) :
    Kept z0 (watchCut s) := by
  unfold watchCut
  simp (maxDischargeDepth := 60) +contextual only [modLib_kept, off_kept, overN_kept, h, apply_ite (Kept z0), ite_self,
      implies_true]

theorem rejectOn_kept {z0 : State} (d : Nat) (s : State) (h : Kept z0 s) :
    Kept z0 (rejectOn d s) := by
  unfold rejectOn
  simp (maxDischargeDepth := 60) +contextual only [dirTry_kept, modLib_kept, put_kept, recordEvent_kept, watchClose_kept,
      h, apply_ite (Kept z0), ite_self]

theorem rejectWindow_kept {z0 : State} (s : State) (h : Kept z0 s) :
    Kept z0 (rejectWindow s) := by
  unfold rejectWindow
  simp (maxDischargeDepth := 60) +contextual only [overN_kept, rejectOn_kept, h, apply_ite (Kept z0), ite_self,
      implies_true]

/-! ### Machine/Curtain.lean -/

theorem modAxr_kept {z0 : State} (s : State) (d a : Nat) (f : AxisC → AxisC) (h : Kept z0 s) :
    Kept z0 (State.modAxr s d a f) := by
  unfold State.modAxr
  simp (maxDischargeDepth := 60) +contextual only [modC_kept, h]

theorem modAx_kept {z0 : State} (s : State) (d a : Nat) (f : AxCurt → AxCurt) (h : Kept z0 s) :
    Kept z0 (State.modAx s d a f) := by
  unfold State.modAx
  simp (maxDischargeDepth := 60) +contextual only [modSafe_kept, h]

theorem noteRule_kept {z0 : State} (d a : Nat) (s : State) (h : Kept z0 s) :
    Kept z0 (noteRule d a s) := by
  unfold noteRule
  dsimp only
  (repeat' split) <;> simp (maxDischargeDepth := 60) +contextual only [put_kept, h]

theorem writeOrphan_kept {z0 : State} (d a cmd : Nat) (s : State) (h : Kept z0 s) :
    Kept z0 (writeOrphan d a cmd s) := by
  unfold writeOrphan
  simp (maxDischargeDepth := 60) +contextual only [orphanLeg_kept, put_kept, h, apply_ite (Kept z0), ite_self,
      kept_foldl, implies_true]

theorem writeCurtain_kept {z0 : State} (d a cmd : Nat) (s : State) (h : Kept z0 s) :
    Kept z0 (writeCurtain d a cmd s) := by
  unfold writeCurtain
  simp (maxDischargeDepth := 60) +contextual only [curtainLeg_kept, overL_kept, settle_kept, h, apply_ite (Kept z0),
      ite_self, kept_foldl, implies_true]

theorem issueState_kept {z0 : State} (d a st : Nat) (degr : Bool) (s : State) (h : Kept z0 s) :
    Kept z0 (issueState d a st degr s) := by
  unfold issueState
  simp (maxDischargeDepth := 60) +contextual only [on_kept, onlyIf_kept, put_kept, writeCurtain_kept, writeOrphan_kept,
      h, implies_true]

theorem ruleSwitched_kept {z0 : State} (d a old new : Nat) (s : State) (h : Kept z0 s) :
    Kept z0 (ruleSwitched d a old new s) := by
  unfold ruleSwitched
  simp (maxDischargeDepth := 60) +contextual only [on_kept, recordEvent_kept, h]

theorem evalCurtain_kept {z0 : State} (d a : Nat) (s : State) (h : Kept z0 s) :
    Kept z0 (evalCurtain d a s) := by
  unfold evalCurtain
  simp (maxDischargeDepth := 60) +contextual only [issueState_kept, modAx_kept, noteRule_kept, ruleSwitched_kept, h,
      apply_ite (Kept z0), ite_self]

theorem raiseCause_kept {z0 : State} (d a j : Nat) (s : State) (h : Kept z0 s) :
    Kept z0 (raiseCause d a j s) := by
  unfold raiseCause
  simp (maxDischargeDepth := 60) +contextual only [putBit_kept, h]

theorem dropCause_kept {z0 : State} (d a j : Nat) (s : State) (h : Kept z0 s) :
    Kept z0 (dropCause d a j s) := by
  unfold dropCause
  simp (maxDischargeDepth := 60) +contextual only [putBit_kept, h]

theorem curtainHandover_kept {z0 : State} (a : Nat) (s : State) (h : Kept z0 s) :
    Kept z0 (curtainHandover a s) := by
  unfold curtainHandover
  simp (maxDischargeDepth := 60) +contextual only [hoCancelFor_kept, overL_kept, h, implies_true]

theorem curtainBegin_kept {z0 : State} (d a j : Nat) (s : State) (h : Kept z0 s) :
    Kept z0 (curtainBegin d a j s) := by
  unfold curtainBegin
  simp (maxDischargeDepth := 60) +contextual only [axisOff_kept, modAx_kept, modAxr_kept, on_kept, putBit_kept, put_kept,
      raiseCause_kept, h]

theorem curtainAfter_kept {z0 : State} (d a j : Nat) (s : State) (h : Kept z0 s) :
    Kept z0 (curtainAfter d a j s) := by
  unfold curtainAfter
  simp (maxDischargeDepth := 60) +contextual only [curtainHandover_kept, flushStart_kept, recordEvent_kept,
      rejectWindow_kept, reloadCancel_kept, standbyIfIdle_kept, h, apply_ite (Kept z0), ite_self]

theorem enterCurtain_kept {z0 : State} (d a j : Nat) (s : State) (h : Kept z0 s) :
    Kept z0 (enterCurtain d a j s) := by
  unfold enterCurtain
  simp (maxDischargeDepth := 60) +contextual only [curtainAfter_kept, curtainBegin_kept, evalCurtain_kept,
      raiseCause_kept, h, apply_ite (Kept z0), ite_self]

theorem enterAxis_kept {z0 : State} (a j : Nat) (s : State) (h : Kept z0 s) :
    Kept z0 (enterAxis a j s) := by
  unfold enterAxis
  simp (maxDischargeDepth := 60) +contextual only [enterCurtain_kept, overN_kept, h, implies_true]

theorem loadOrphans_kept {z0 : State} (d : Nat) (s : State) (h : Kept z0 s) :
    Kept z0 (loadOrphans d s) := by
  unfold loadOrphans
  simp (maxDischargeDepth := 60) +contextual only [orphanLeg_kept, overN_kept, put_kept, settle_kept, h,
      apply_ite (Kept z0), ite_self, implies_true]

theorem clearCurtain_kept {z0 : State} (d a : Nat) (s : State) (h : Kept z0 s) :
    Kept z0 (clearCurtain d a s) := by
  unfold clearCurtain
  simp (maxDischargeDepth := 60) +contextual only [modAx_kept, off_kept, putBit_kept, put_kept, recordEvent_kept,
      writeCurtain_kept, writeOrphan_kept, h]

theorem curtainAll_kept {z0 : State} (d : Nat) (s : State) (h : Kept z0 s) :
    Kept z0 (curtainAll d s) := by
  unfold curtainAll
  simp (maxDischargeDepth := 60) +contextual only [enterCurtain_kept, overN_kept, h, implies_true]

theorem packageCurtain_kept {z0 : State} (d : Nat) (s : State) (h : Kept z0 s) :
    Kept z0 (packageCurtain d s) := by
  unfold packageCurtain
  dsimp only
  (repeat' split) <;> simp (maxDischargeDepth := 60) +contextual only [curtainAll_kept, flushStart_kept, modSafe_kept,
      overN_kept, rejectWindow_kept, setDevice_kept, h, apply_ite (Kept z0), ite_self, implies_true]

/-! ### Machine/Faults.lean -/

theorem putLat_kept {z0 : State} (d g i : Nat) (b : Bool) (s : State) (h : Kept z0 s) :
    Kept z0 (putLat d g i b s) := by
  unfold putLat
  simp (maxDischargeDepth := 60) +contextual only [putBit_kept, h, apply_ite (Kept z0), ite_self]

theorem putAct_kept {z0 : State} (d g i : Nat) (b : Bool) (s : State) (h : Kept z0 s) :
    Kept z0 (putAct d g i b s) := by
  unfold putAct
  simp (maxDischargeDepth := 60) +contextual only [putBit_kept, h, apply_ite (Kept z0), ite_self]

theorem modFc_kept {z0 : State} (s : State) (d g : Nat) (f : FcC → FcC) (h : Kept z0 s) :
    Kept z0 (State.modFc s d g f) := by
  unfold State.modFc
  simp (maxDischargeDepth := 60) +contextual only [modSafe_kept, h]

theorem putGroup_kept {z0 : State} (d : Nat) (lo hi : Fld) (g : Nat) (b : Bool) (s : State) (h : Kept z0 s) :
    Kept z0 (putGroup d lo hi g b s) := by
  unfold putGroup
  simp (maxDischargeDepth := 60) +contextual only [putBit_kept, h, apply_ite (Kept z0), ite_self]

theorem refreshFault_kept {z0 : State} (d : Nat) (s : State) (h : Kept z0 s) :
    Kept z0 (refreshFault d s) := by
  unfold refreshFault
  simp (maxDischargeDepth := 60) +contextual only [put_kept, h]

theorem takeReaction_kept {z0 : State} (d g i : Nat) (s : State) (h : Kept z0 s) :
    Kept z0 (takeReaction d g i s) := by
  unfold takeReaction
  simp (maxDischargeDepth := 60) +contextual only [enterAxis_kept, modFc_kept, overL_kept, packageCurtain_kept,
      refreshFault_kept, h, apply_ite (Kept z0), ite_self, implies_true]

theorem latchFault_kept {z0 : State} (d g i : Nat) (act : Bool) (s : State) (h : Kept z0 s) :
    Kept z0 (latchFault d g i act s) := by
  unfold latchFault
  simp (maxDischargeDepth := 60) +contextual only [count_kept, modFc_kept, onlyIf_kept, putAct_kept, putGroup_kept,
      putLat_kept, put_kept, recordEvent_kept, takeReaction_kept, h, apply_ite (Kept z0), ite_self, implies_true]

theorem dropDeferral_kept {z0 : State} (d g : Nat) (s : State) (h : Kept z0 s) :
    Kept z0 (dropDeferral d g s) := by
  unfold dropDeferral
  simp (maxDischargeDepth := 60) +contextual only [modFc_kept, putGroup_kept, h]

theorem endActive_kept {z0 : State} (d g i : Nat) (s : State) (h : Kept z0 s) :
    Kept z0 (endActive d g i s) := by
  unfold endActive
  simp (maxDischargeDepth := 60) +contextual only [dropDeferral_kept, putAct_kept, h, apply_ite (Kept z0), ite_self]

theorem refreshCauses_kept {z0 : State} (s : State) (h : Kept z0 s) :
    Kept z0 (refreshCauses s) := by
  unfold refreshCauses
  simp (maxDischargeDepth := 60) +contextual only [dropCause_kept, overN_kept, h, apply_ite (Kept z0), ite_self,
      implies_true]

theorem clearLatch_kept {z0 : State} (d g i : Nat) (s : State) (h : Kept z0 s) :
    Kept z0 (clearLatch d g i s) := by
  unfold clearLatch
  simp (maxDischargeDepth := 60) +contextual only [modFc_kept, on_kept, putLat_kept, h, apply_ite (Kept z0), ite_self]

/-! ### Machine/TripOps.lean -/

theorem modTrip_kept {z0 : State} (s : State) (d n : Nat) (f : TripC → TripC) (h : Kept z0 s) :
    Kept z0 (State.modTrip s d n f) := by
  unfold State.modTrip
  simp (maxDischargeDepth := 60) +contextual only [modPwm_kept, h]

theorem tripLatch_kept {z0 : State} (d n : Nat) (s : State) (h : Kept z0 s) :
    Kept z0 (tripLatch d n s) := by
  unfold tripLatch
  simp (maxDischargeDepth := 60) +contextual only [enterCurtain_kept, fireCue_kept, hoCancelFor_kept, latchFault_kept,
      on_kept, overL_kept, pairStop_kept, putBit_kept, h, implies_true]

theorem tripActive_kept {z0 : State} (d n : Nat) (s : State) (h : Kept z0 s) :
    Kept z0 (tripActive d n s) := by
  unfold tripActive
  simp (maxDischargeDepth := 60) +contextual only [modTrip_kept, putBit_kept, tripLatch_kept, h, apply_ite (Kept z0),
      ite_self]

theorem tripInactive_kept {z0 : State} (d n : Nat) (s : State) (h : Kept z0 s) :
    Kept z0 (tripInactive d n s) := by
  unfold tripInactive
  simp (maxDischargeDepth := 60) +contextual only [endActive_kept, modTrip_kept, overN_kept, putBit_kept, h,
      apply_ite (Kept z0), ite_self, implies_true]

theorem modDisT_kept {z0 : State} (s : State) (d b t : Nat) (h : Kept z0 s) :
    Kept z0 (State.modDisT s d b t) := by
  unfold State.modDisT
  simp (maxDischargeDepth := 60) +contextual only [modSafe_kept, h]

theorem resistorStart_kept {z0 : State} (d b : Nat) (s : State) (h : Kept z0 s) :
    Kept z0 (resistorStart d b s) := by
  unfold resistorStart
  simp (maxDischargeDepth := 60) +contextual only [modDisT_kept, modK_kept, put_kept, h]

theorem dischargeEnd_kept {z0 : State} (d b st : Nat) (s : State) (h : Kept z0 s) :
    Kept z0 (dischargeEnd d b st s) := by
  unfold dischargeEnd
  simp (maxDischargeDepth := 60) +contextual only [modK_kept, put_kept, h]

theorem keepSync_kept {z0 : State} (s : State) (h : Kept z0 s) :
    Kept z0 (keepSync s) := by
  unfold keepSync
  simp (maxDischargeDepth := 60) +contextual only [modDisT_kept, modK_kept, off_kept, on_kept, overN_kept, put_kept, h,
      apply_ite (Kept z0), ite_self, implies_true]

/-! ### Machine/AdcOps.lean -/

theorem modAg_kept {z0 : State} (s : State) (d g : Nat) (f : AgC → AgC) (h : Kept z0 s) :
    Kept z0 (State.modAg s d g f) := by
  unfold State.modAg
  simp (maxDischargeDepth := 60) +contextual only [modAdc_kept, h]

theorem modSeq_kept {z0 : State} (s : State) (d g q : Nat) (f : SeqC → SeqC) (h : Kept z0 s) :
    Kept z0 (State.modSeq s d g q f) := by
  unfold State.modSeq
  simp (maxDischargeDepth := 60) +contextual only [modAg_kept, h]

theorem keepSeqs_kept {z0 : State} (d : Nat) (s : State) (h : Kept z0 s) :
    Kept z0 (keepSeqs d s) := by
  unfold keepSeqs
  simp (maxDischargeDepth := 60) +contextual only [modSeq_kept, overN_kept, h, apply_ite (Kept z0), ite_self, implies_true]

theorem agRefresh_kept {z0 : State} (d g : Nat) (s : State) (h : Kept z0 s) :
    Kept z0 (agRefresh d g s) := by
  unfold agRefresh
  simp (maxDischargeDepth := 60) +contextual only [put_kept, h]

theorem agCtrlWrite_kept {z0 : State} (d g : Nat) (v : Word) (s : State) (h : Kept z0 s) :
    Kept z0 (agCtrlWrite d g v s) := by
  unfold agCtrlWrite
  simp (maxDischargeDepth := 60) +contextual only [agRefresh_kept, modSeq_kept, overN_kept, put_kept, h,
      apply_ite (Kept z0), ite_self, implies_true]

/-! ### Machine/FbOps.lean -/

theorem modFb_kept {z0 : State} (s : State) (d n : Nat) (f : FbC → FbC) (h : Kept z0 s) :
    Kept z0 (State.modFb s d n f) := by
  unfold State.modFb
  simp (maxDischargeDepth := 60) +contextual only [modC_kept, h]

theorem modEmu_kept {z0 : State} (s : State) (d m : Nat) (f : EmuC → EmuC) (h : Kept z0 s) :
    Kept z0 (State.modEmu s d m f) := by
  unfold State.modEmu
  simp (maxDischargeDepth := 60) +contextual only [modC_kept, h]

theorem fbShow_kept {z0 : State} (d n : Nat) (s : State) (h : Kept z0 s) :
    Kept z0 (fbShow d n s) := by
  unfold fbShow
  simp (maxDischargeDepth := 60) +contextual only [put_kept, puti_kept, h]

theorem fbStart_kept {z0 : State} (d n : Nat) (s : State) (h : Kept z0 s) :
    Kept z0 (fbStart d n s) := by
  unfold fbStart
  simp (maxDischargeDepth := 60) +contextual only [modFb_kept, off_kept, on_kept, put_kept, h]

theorem fbStop_kept {z0 : State} (d n : Nat) (s : State) (h : Kept z0 s) :
    Kept z0 (fbStop d n s) := by
  unfold fbStop
  simp (maxDischargeDepth := 60) +contextual only [modFb_kept, off_kept, h]

theorem posLatch_kept {z0 : State} (d n src : Nat) (s : State) (h : Kept z0 s) :
    Kept z0 (posLatch d n src s) := by
  unfold posLatch
  simp (maxDischargeDepth := 60) +contextual only [modFb_kept, on_kept, put_kept, h, apply_ite (Kept z0), ite_self]

theorem serialRequest_kept {z0 : State} (d n : Nat) (s : State) (h : Kept z0 s) :
    Kept z0 (serialRequest d n s) := by
  unfold serialRequest
  simp (maxDischargeDepth := 60) +contextual only [modFb_kept, on_kept, h, apply_ite (Kept z0), ite_self]

theorem latchCue_kept {z0 : State} (d n : Nat) (s : State) (h : Kept z0 s) :
    Kept z0 (latchCue d n s) := by
  unfold latchCue
  simp (maxDischargeDepth := 60) +contextual only [posLatch_kept, serialRequest_kept, h]

theorem excPeriod_kept {z0 : State} (d n : Nat) (s : State) (h : Kept z0 s) :
    Kept z0 (excPeriod d n s) := by
  unfold excPeriod
  simp (maxDischargeDepth := 60) +contextual only [modFb_kept, h, apply_ite (Kept z0), ite_self]

theorem countMove_kept {z0 : State} (d n : Nat) (k : Int) (s : State) (h : Kept z0 s) :
    Kept z0 (countMove d n k s) := by
  unfold countMove
  simp (maxDischargeDepth := 60) +contextual only [modFb_kept, h]

theorem quadMove_kept {z0 : State} (d n old st : Nat) (s : State) (h : Kept z0 s) :
    Kept z0 (quadMove d n old st s) := by
  unfold quadMove
  simp (maxDischargeDepth := 60) +contextual only [countMove_kept, off_kept, on_kept, h, apply_ite (Kept z0), ite_self]

theorem loadIndex_kept {z0 : State} (d n : Nat) (s : State) (h : Kept z0 s) :
    Kept z0 (loadIndex d n s) := by
  unfold loadIndex
  simp (maxDischargeDepth := 60) +contextual only [modFb_kept, on_kept, h]

theorem indexAccept_kept {z0 : State} (d n : Nat) (s : State) (h : Kept z0 s) :
    Kept z0 (indexAccept d n s) := by
  unfold indexAccept
  simp (maxDischargeDepth := 60) +contextual only [fireCue_kept, loadIndex_kept, on_kept, posLatch_kept, h,
      apply_ite (Kept z0), ite_self]

theorem hallChange_kept {z0 : State} (d n st : Nat) (s : State) (h : Kept z0 s) :
    Kept z0 (hallChange d n st s) := by
  unfold hallChange
  dsimp only
  (repeat' split) <;> simp (maxDischargeDepth := 60) +contextual only [countMove_kept, modFb_kept, on_kept, h]

theorem fbLevels_kept {z0 : State} (d n st : Nat) (s : State) (h : Kept z0 s) :
    Kept z0 (fbLevels d n st s) := by
  unfold fbLevels
  simp (maxDischargeDepth := 60) +contextual only [hallChange_kept, indexAccept_kept, put_kept, quadMove_kept, h,
      apply_ite (Kept z0), ite_self]

theorem fbInputsLow_kept {z0 : State} (d : Nat) (s : State) (h : Kept z0 s) :
    Kept z0 (fbInputsLow d s) := by
  unfold fbInputsLow
  simp (maxDischargeDepth := 60) +contextual only [fbLevels_kept, overN_kept, h, apply_ite (Kept z0), ite_self,
      implies_true]

theorem fbCtrlWrite_kept {z0 : State} (d n : Nat) (v : Word) (s : State) (h : Kept z0 s) :
    Kept z0 (fbCtrlWrite d n v s) := by
  unfold fbCtrlWrite
  simp (maxDischargeDepth := 60) +contextual only [fbStart_kept, fbStop_kept, latchCue_kept, modFb_kept, on_kept,
      onlyIf_kept, put_kept, h, apply_ite (Kept z0), ite_self, implies_true]

theorem fbLimits_kept {z0 : State} (d n : Nat) (s : State) (h : Kept z0 s) :
    Kept z0 (fbLimits d n s) := by
  unfold fbLimits
  simp (maxDischargeDepth := 60) +contextual only [fireCue_kept, modFb_kept, on_kept, put_kept, h, apply_ite (Kept z0),
      ite_self]

theorem fbCycle_kept {z0 : State} (d n : Nat) (s : State) (h : Kept z0 s) :
    Kept z0 (fbCycle d n s) := by
  unfold fbCycle
  simp (maxDischargeDepth := 60) +contextual only [fbLimits_kept, serialRequest_kept, h, apply_ite (Kept z0), ite_self]

theorem emuPins_kept {z0 : State} (d m : Nat) (s : State) (h : Kept z0 s) :
    Kept z0 (emuPins d m s) := by
  unfold emuPins
  simp (maxDischargeDepth := 60) +contextual only [modEmu_kept, h]

theorem emuCtrlWrite_kept {z0 : State} (d m : Nat) (v : Word) (s : State) (h : Kept z0 s) :
    Kept z0 (emuCtrlWrite d m v s) := by
  unfold emuCtrlWrite
  simp (maxDischargeDepth := 60) +contextual only [emuPins_kept, modEmu_kept, off_kept, on_kept, plainWrite_kept,
      put_kept, h, apply_ite (Kept z0), ite_self]

/-! ### Machine/Reset.lean -/

theorem wipeRegs_kept {z0 : State} (i : Nat) (keep : Nat → Bool) (s : State) (h : Kept z0 s) :
    Kept z0 (wipeRegs i keep s) := by
  unfold wipeRegs
  simp (maxDischargeDepth := 60) +contextual only [h, kept_regsFilter]

theorem putDev_kept {z0 : State} (d st : Nat) (s : State) (h : Kept z0 s) :
    Kept z0 (putDev d st s) := by
  unfold putDev
  simp (maxDischargeDepth := 60) +contextual only [put_kept, h]

theorem retain_kept {z0 : State} (d cause dev : Nat) (por : Bool) (s : State) (h : Kept z0 s) :
    Kept z0 (retain d cause dev por s) := by
  unfold retain
  simp (maxDischargeDepth := 60) +contextual only [off_kept, put_kept, setReg_kept, h, apply_ite (Kept z0), ite_self]

theorem holdSession_kept {z0 : State} (d : Nat) (s : State) (h : Kept z0 s) :
    Kept z0 (holdSession d s) := by
  unfold holdSession
  simp (maxDischargeDepth := 60) +contextual only [off_kept, put_kept, h, apply_ite (Kept z0), ite_self]

theorem newNonce_kept {z0 : State} (d : Nat) (s : State) (h : Kept z0 s) :
    Kept z0 (newNonce d s) := by
  unfold newNonce
  simp (maxDischargeDepth := 60) +contextual only [drawn_kept, overN_kept, put_kept, h, implies_true]

theorem resetC_kept {z0 : State} (d cause : Nat) (por : Bool) (s : State) (h : Kept z0 s) :
    Kept z0 (resetC d cause por s) := by
  unfold resetC
  simp (maxDischargeDepth := 60) +contextual only [eraseMem_kept, holdSession_kept, modC_kept, newNonce_kept, off_kept,
      onlyIf_kept, put_kept, retain_kept, watchCut_kept, wipeRegs_kept, h, kept_ld, implies_true]

theorem clearSensors_kept {z0 : State} (k : Nat) (s : State) (h : Kept z0 s) :
    Kept z0 (clearSensors k s) := by
  unfold clearSensors
  simp (maxDischargeDepth := 60) +contextual only [modC_kept, off_kept, overN_kept, h, apply_ite (Kept z0), ite_self,
      implies_true]

theorem resetD_kept {z0 : State} (k : Nat) (lone : Bool) (s : State) (h : Kept z0 s) :
    Kept z0 (resetD k lone s) := by
  unfold resetD
  simp (maxDischargeDepth := 60) +contextual only [clearSensors_kept, modD_kept, overN_kept, put_kept, refreshInact_kept,
      settle_kept, syncOwn_kept, watchCut_kept, wipeRegs_kept, h, apply_ite (Kept z0), ite_self, kept_free, implies_true]

theorem linkLostAt_kept {z0 : State} (d n : Nat) (s : State) (h : Kept z0 s) :
    Kept z0 (linkLostAt d n s) := by
  unfold linkLostAt
  simp (maxDischargeDepth := 60) +contextual only [hoCancelFor_kept, hoCancel_kept, hoEnd_kept, latchFault_kept,
      modLink_kept, off_kept, on_kept, put_kept, recordEvent_kept, takeCancel_kept, h, apply_ite (Kept z0), ite_self]

theorem loneReset_kept {z0 : State} (k : Nat) (s : State) (h : Kept z0 s) :
    Kept z0 (loneReset k s) := by
  unfold loneReset
  simp (maxDischargeDepth := 60) +contextual only [linkLostAt_kept, overN_kept, resetD_kept, h, apply_ite (Kept z0),
      ite_self, implies_true]

theorem dReset_kept {z0 : State} (k : Nat) (s : State) (h : Kept z0 s) :
    Kept z0 (dReset k s) := by
  unfold dReset
  simp (maxDischargeDepth := 60) +contextual only [loneReset_kept, resetD_kept, h, apply_ite (Kept z0), ite_self]

theorem orphanOwned_kept {z0 : State} (d : Nat) (s : State) (h : Kept z0 s) :
    Kept z0 (orphanOwned d s) := by
  unfold orphanOwned
  simp (maxDischargeDepth := 60) +contextual only [orphanEntry_kept, overN_kept, h, apply_ite (Kept z0), ite_self,
      implies_true]

theorem lcErase_kept {z0 : State} (d : Nat) (s : State) (h : Kept z0 s) :
    Kept z0 (lcErase d s) := by
  unfold lcErase
  simp (maxDischargeDepth := 60) +contextual only [eraseMem_kept, modN_kept, h, apply_ite (Kept z0), ite_self]

theorem lcApply_kept {z0 : State} (d : Nat) (s : State) (h : Kept z0 s) :
    Kept z0 (lcApply d s) := by
  unfold lcApply
  simp (maxDischargeDepth := 60) +contextual only [lcErase_kept, modN_kept, put_kept, h, apply_ite (Kept z0), ite_self]

theorem packageReset_kept {z0 : State} (cause : Nat) (s : State) (h : Kept z0 s) :
    Kept z0 (packageReset cause s) := by
  unfold packageReset
  simp (maxDischargeDepth := 60) +contextual only [lcApply_kept, modD_kept, overN_kept, putDev_kept, resetC_kept, h,
      apply_ite (Kept z0), ite_self, kept_pkg, implies_true]

theorem dieReset_kept {z0 : State} (d cause : Nat) (por : Bool) (s : State) (h : Kept z0 s) :
    Kept z0 (dieReset d cause por s) := by
  unfold dieReset
  simp (maxDischargeDepth := 60) +contextual only [orphanOwned_kept, packageReset_kept, putDev_kept, resetC_kept,
      standbyIfIdle_kept, syncOwn_kept, h, apply_ite (Kept z0), ite_self]

theorem enterRecovery_kept {z0 : State} (d rcause : Nat) (s : State) (h : Kept z0 s) :
    Kept z0 (enterRecovery d rcause s) := by
  unfold enterRecovery
  simp (maxDischargeDepth := 60) +contextual only [put_kept, recordRom_kept, setDevice_kept, h, apply_ite (Kept z0),
      ite_self]

theorem resumeOptime_kept {z0 : State} (d : Nat) (s : State) (h : Kept z0 s) :
    Kept z0 (resumeOptime d s) := by
  unfold resumeOptime
  simp (maxDischargeDepth := 60) +contextual only [modSys_kept, h]

theorem powerUpRecord_kept {z0 : State} (d : Nat) (s : State) (h : Kept z0 s) :
    Kept z0 (powerUpRecord d s) := by
  unfold powerUpRecord
  simp (maxDischargeDepth := 60) +contextual only [recordRom_kept, h]

theorem markAbsent_kept {z0 : State} (d : Nat) (s : State) (h : Kept z0 s) :
    Kept z0 (markAbsent d s) := by
  unfold markAbsent
  simp (maxDischargeDepth := 60) +contextual only [overN_kept, put_kept, h, implies_true]

theorem rollCallStart_kept {z0 : State} (s : State) (h : Kept z0 s) :
    Kept z0 (rollCallStart s) := by
  unfold rollCallStart
  simp (maxDischargeDepth := 60) +contextual only [modHdr_kept, on_kept, onlyIf_kept, putBit_kept, put_kept, h,
      apply_ite (Kept z0), ite_self, implies_true]

theorem putStraps_kept {z0 : State} (d : Nat) (s : State) (h : Kept z0 s) :
    Kept z0 (putStraps d s) := by
  unfold putStraps
  simp (maxDischargeDepth := 60) +contextual only [put_kept, h]

theorem bootRom_kept {z0 : State} (anchor rcvyN romOk : Bool) (s : State) (h : Kept z0 s) :
    Kept z0 (bootRom anchor rcvyN romOk s) := by
  unfold bootRom
  simp (maxDischargeDepth := 60) +contextual only [enterRecovery_kept, markAbsent_kept, modSys_kept, on_kept,
      powerUpRecord_kept, putStraps_kept, put_kept, resumeOptime_kept, rollCallStart_kept, h, apply_ite (Kept z0),
      ite_self, kept_pkg]

end Sys2Proof.Machine
end

