-- ==== Sys2Proof/Laws/KeptStart.lean ====
section
/-! SUPPORT. What the operations keep (`Kept`): supplies, resets, roll call, held starts and the headrace. -/

namespace Sys2Proof.Machine

/-! ### Machine/Sys.lean -/

theorem execNarrowOrMisalignedAccess_kept {z0 : State} (d : CDie) (m : Master) (addr : Word) (size : Nat) (write : Bool) (s : State) (h : Kept z0 s) :
    OutKept z0 (execNarrowOrMisalignedAccess d m addr size write s) := by
  unfold execNarrowOrMisalignedAccess
  simp (maxDischargeDepth := 60) +contextual only [busTrap_kept, onC_kept, h, apply_ite (Kept z0), ite_self, implies_true]

theorem execUnmappedAccess_kept {z0 : State} (d : CDie) (m : Master) (addr : Word) (write : Bool) (s : State) (h : Kept z0 s) :
    OutKept z0 (execUnmappedAccess d m addr write s) := by
  unfold execUnmappedAccess
  simp (maxDischargeDepth := 60) +contextual only [busTrap_kept, onC_kept, h, apply_ite (Kept z0), ite_self, implies_true]

theorem execStageTimeRead_kept {z0 : State} (d : CDie) (m : Master) (s : State) (h : Kept z0 s) :
    OutKept z0 (execStageTimeRead d m s) := by
  unfold execStageTimeRead
  simp (maxDischargeDepth := 60) +contextual only [modSys_kept, onC_kept, h, implies_true]

theorem execMsipWrite_kept {z0 : State} (d : CDie) (k : Fin 4) (v : Word) (s : State) (h : Kept z0 s) :
    OutKept z0 (execMsipWrite d k v s) := by
  unfold execMsipWrite
  simp (maxDischargeDepth := 60) +contextual only [modSys_kept, onCW_kept, h, implies_true]

theorem execMachineTimerInterrupt_kept {z0 : State} (d : CDie) (k : Fin 4) (s : State) (h : Kept z0 s) :
    OutKept z0 (execMachineTimerInterrupt d k s) := by
  unfold execMachineTimerInterrupt
  simp (maxDischargeDepth := 60) +contextual only [modSys_kept, onC_kept, h, implies_true]

theorem clockLossOn_kept {z0 : State} (d : Nat) (ref : Bool) (s : State) (h : Kept z0 s) :
    Kept z0 (clockLossOn d ref s) := by
  unfold clockLossOn
  simp (maxDischargeDepth := 60) +contextual only [latchFault_kept, modSafe_kept, note_kept, off_kept, on_kept,
      orphanOwned_kept, packageCurtain_kept, put_kept, h, apply_ite (Kept z0), ite_self]

theorem clockLost_kept {z0 : State} (d : Nat) (ref : Bool) (s : State) (h : Kept z0 s) :
    Kept z0 (clockLost d ref s) := by
  unfold clockLost
  simp (maxDischargeDepth := 60) +contextual only [clockLossOn_kept, off_kept, h, apply_ite (Kept z0), ite_self]

theorem railsUp_kept {z0 : State} (d : Nat) (s : State) (h : Kept z0 s) :
    Kept z0 (railsUp d s) := by
  unfold railsUp
  simp (maxDischargeDepth := 60) +contextual only [modSys_kept, h]

theorem execSuppliesInRange_kept {z0 : State} (s : State) (h : Kept z0 s) :
    OutKept z0 (execSuppliesInRange s) := by
  unfold execSuppliesInRange
  simp (maxDischargeDepth := 60) +contextual only [modD_kept, overN_kept, putDev_kept, railsUp_kept, resetC_kept,
      resetD_kept, h, apply_ite (Kept z0), ite_self, outKept_next, kept_pkg, implies_true]

theorem noteOff_kept {z0 : State} (s : State) (h : Kept z0 s) :
    Kept z0 (noteOff s) := by
  unfold noteOff
  simp (maxDischargeDepth := 60) +contextual only [h, apply_ite (Kept z0), ite_self, kept_pkg]

theorem supplyRecord_kept {z0 : State} (d : Nat) (s : State) (h : Kept z0 s) :
    Kept z0 (supplyRecord d s) := by
  unfold supplyRecord
  simp (maxDischargeDepth := 60) +contextual only [note_kept, h]

theorem refreshVkeep_kept {z0 : State} (s : State) (h : Kept z0 s) :
    Kept z0 (refreshVkeep s) := by
  unfold refreshVkeep
  simp (maxDischargeDepth := 60) +contextual only [overN_kept, put_kept, h, apply_ite (Kept z0), ite_self, implies_true]

theorem coreRailLow_kept {z0 : State} (d : Nat) (s : State) (h : Kept z0 s) :
    Kept z0 (coreRailLow d s) := by
  unfold coreRailLow
  simp (maxDischargeDepth := 60) +contextual only [clockLost_kept, dieReset_kept, noteOff_kept, h, apply_ite (Kept z0),
      ite_self]

theorem vioALow_kept {z0 : State} (s : State) (h : Kept z0 s) :
    Kept z0 (vioALow s) := by
  unfold vioALow
  simp (maxDischargeDepth := 60) +contextual only [noteOff_kept, off_kept, overN_kept, packageReset_kept, seqRuns_kept,
      settle_kept, h, apply_ite (Kept z0), ite_self, implies_true]

theorem vioBLow_kept {z0 : State} (d : Nat) (s : State) (h : Kept z0 s) :
    Kept z0 (vioBLow d s) := by
  unfold vioBLow
  simp (maxDischargeDepth := 60) +contextual only [fbInputsLow_kept, latchFault_kept, off_kept, on_kept,
      supplyRecord_kept, h]

theorem vioCLow_kept {z0 : State} (d : Nat) (s : State) (h : Kept z0 s) :
    Kept z0 (vioCLow d s) := by
  unfold vioCLow
  simp (maxDischargeDepth := 60) +contextual only [latchFault_kept, modTrip_kept, off_kept, on_kept, overN_kept,
      putBit_kept, supplyRecord_kept, tripLatch_kept, h, implies_true]

theorem vkeepLowAt_kept {z0 : State} (k : Nat) (s : State) (h : Kept z0 s) :
    Kept z0 (vkeepLowAt k s) := by
  unfold vkeepLowAt
  simp (maxDischargeDepth := 60) +contextual only [latchFault_kept, modD_kept, modK_kept, off_kept, on_kept, overN_kept,
      refreshVkeep_kept, supplyRecord_kept, h, apply_ite (Kept z0), ite_self, implies_true]

theorem execSupplyLow_kept {z0 : State} (r : Rail) (s : State) (h : Kept z0 s) :
    OutKept z0 (execSupplyLow r s) := by
  unfold execSupplyLow
  split <;> simp (maxDischargeDepth := 60) +contextual only [atC_kept, atD_kept, coreRailLow_kept, dReset_kept,
      modD_kept, modSys_kept, vioALow_kept, vioBLow_kept, vioCLow_kept, vkeepLowAt_kept, h, apply_ite (Kept z0),
      ite_self, implies_true]

theorem vioBUp_kept {z0 : State} (d : Nat) (s : State) (h : Kept z0 s) :
    Kept z0 (vioBUp d s) := by
  unfold vioBUp
  simp (maxDischargeDepth := 60) +contextual only [endActive_kept, on_kept, h]

theorem vioCUp_kept {z0 : State} (d : Nat) (s : State) (h : Kept z0 s) :
    Kept z0 (vioCUp d s) := by
  unfold vioCUp
  simp (maxDischargeDepth := 60) +contextual only [endActive_kept, on_kept, overN_kept, tripInactive_kept, h, implies_true]

theorem vkeepUpAt_kept {z0 : State} (k : Nat) (s : State) (h : Kept z0 s) :
    Kept z0 (vkeepUpAt k s) := by
  unfold vkeepUpAt
  simp (maxDischargeDepth := 60) +contextual only [endActive_kept, modD_kept, modK_kept, overN_kept, refreshVkeep_kept,
      h, apply_ite (Kept z0), ite_self, implies_true]

theorem execSupplyRecovered_kept {z0 : State} (r : Rail) (s : State) (h : Kept z0 s) :
    OutKept z0 (execSupplyRecovered r s) := by
  unfold execSupplyRecovered
  split <;> simp (maxDischargeDepth := 60) +contextual only [atC_kept, atD_kept, modD_kept, modSys_kept, vioBUp_kept,
      vioCUp_kept, vkeepUpAt_kept, h, apply_ite (Kept z0), ite_self, implies_true]

theorem execClockLoss_kept {z0 : State} (d : CDie) (ref : Bool) (s : State) (h : Kept z0 s) :
    OutKept z0 (execClockLoss d ref s) := by
  unfold execClockLoss
  simp (maxDischargeDepth := 60) +contextual only [atC_kept, clockLost_kept, h, apply_ite (Kept z0), ite_self, implies_true]

theorem execCrystalReferenceOk_kept {z0 : State} (d : CDie) (s : State) (h : Kept z0 s) :
    OutKept z0 (execCrystalReferenceOk d s) := by
  unfold execCrystalReferenceOk
  simp (maxDischargeDepth := 60) +contextual only [atC_kept, on_kept, h, implies_true]

theorem execPllLock_kept {z0 : State} (d : CDie) (s : State) (h : Kept z0 s) :
    OutKept z0 (execPllLock d s) := by
  unfold execPllLock
  simp (maxDischargeDepth := 60) +contextual only [atC_kept, on_kept, h, apply_ite (Kept z0), ite_self, implies_true]

theorem execResetNAssert_kept {z0 : State} (low : Bool) (s : State) (h : Kept z0 s) :
    OutKept z0 (execResetNAssert low s) := by
  unfold execResetNAssert
  simp (maxDischargeDepth := 60) +contextual only [packageReset_kept, h, apply_ite (Kept z0), ite_self, outKept_next,
      kept_pkg]

theorem execSysRstctrlPkg_kept {z0 : State} (d : CDie) (m : Master) (s : State) (h : Kept z0 s) :
    OutKept z0 (execSysRstctrlPkg d m s) := by
  unfold execSysRstctrlPkg
  simp (maxDischargeDepth := 60) +contextual only [onC_kept, packageReset_kept, tkWriteThen_kept, h, implies_true]

theorem execSysRstctrlDie_kept {z0 : State} (d : CDie) (m : Master) (s : State) (h : Kept z0 s) :
    OutKept z0 (execSysRstctrlDie d m s) := by
  unfold execSysRstctrlDie
  simp (maxDischargeDepth := 60) +contextual only [dieReset_kept, onC_kept, tkWriteThen_kept, h, implies_true]

theorem execPeerOrderedReset_kept {z0 : State} (d : CDie) (s : State) (h : Kept z0 s) :
    OutKept z0 (execPeerOrderedReset d s) := by
  unfold execPeerOrderedReset
  simp (maxDischargeDepth := 60) +contextual only [dieReset_kept, onC_kept, h, apply_ite (Kept z0), ite_self, implies_true]

theorem execDDieReset_kept {z0 : State} (k : DDie) (s : State) (h : Kept z0 s) :
    OutKept z0 (execDDieReset k s) := by
  unfold execDDieReset
  simp (maxDischargeDepth := 60) +contextual only [dReset_kept, onD_kept, h, apply_ite (Kept z0), ite_self, implies_true]

theorem suppliesAtRelease_kept {z0 : State} (d : Nat) (s : State) (h : Kept z0 s) :
    Kept z0 (suppliesAtRelease d s) := by
  unfold suppliesAtRelease
  simp (maxDischargeDepth := 60) +contextual only [onlyIf_kept, refreshLockout_kept, refreshVkeep_kept, vioBLow_kept,
      vioCLow_kept, h, implies_true]

theorem rejoinLink_kept {z0 : State} (d : Nat) (s : State) (h : Kept z0 s) :
    Kept z0 (rejoinLink d s) := by
  unfold rejoinLink
  simp (maxDischargeDepth := 60) +contextual only [endActive_kept, linkUp_kept, nameTime_kept, h, apply_ite (Kept z0),
      ite_self]

theorem releaseC_kept {z0 : State} (d : Nat) (s : State) (h : Kept z0 s) :
    Kept z0 (releaseC d s) := by
  unfold releaseC
  simp (maxDischargeDepth := 60) +contextual only [enterRecovery_kept, markAbsent_kept, modSys_kept, noCheckpoints_kept,
      powerUpRecord_kept, putStraps_kept, put_kept, rejoinLink_kept, suppliesAtRelease_kept, syncOwn_kept, h,
      apply_ite (Kept z0), ite_self]

theorem releaseAnchor_kept {z0 : State} (anchor rcvyN romOk : Bool) (s : State) (h : Kept z0 s) :
    Kept z0 (releaseAnchor anchor rcvyN romOk s) := by
  unfold releaseAnchor
  simp (maxDischargeDepth := 60) +contextual only [bootRom_kept, modD_kept, modSys_kept, overN_kept, put_kept,
      suppliesAtRelease_kept, syncOwn_kept, h, apply_ite (Kept z0), ite_self, kept_pkg, implies_true]

theorem execResetRelease_kept {z0 : State} (i : DieIx) (anchor rcvyN romOk : Bool) (s : State) (h : Kept z0 s) :
    OutKept z0 (execResetRelease i anchor rcvyN romOk s) := by
  unfold execResetRelease
  simp (maxDischargeDepth := 60) +contextual only [atC_kept, atD_kept, bootRom_kept, keepSync_kept, modD_kept,
      releaseAnchor_kept, releaseC_kept, h, apply_ite (Kept z0), ite_self, implies_true, apply_ite (OutKept z0)]

theorem pfailOn_kept {z0 : State} (d : Nat) (s : State) (h : Kept z0 s) :
    Kept z0 (pfailOn d s) := by
  unfold pfailOn
  simp (maxDischargeDepth := 60) +contextual only [flushStart_kept, modSafe_kept, modSys_kept, note_kept, nvmCut_kept,
      off_kept, on_kept, overN_kept, packageCurtain_kept, resistorStart_kept, storeCut_kept, h, apply_ite (Kept z0),
      ite_self, implies_true]

theorem execPfailRecognised_kept {z0 : State} (s : State) (h : Kept z0 s) :
    OutKept z0 (execPfailRecognised s) := by
  unfold execPfailRecognised
  simp (maxDischargeDepth := 60) +contextual only [overN_kept, pfailOn_kept, h, apply_ite (Kept z0), ite_self,
      outKept_next, implies_true]

theorem execPfailFall_kept {z0 : State} (s : State) (h : Kept z0 s) :
    OutKept z0 (execPfailFall s) := by
  unfold execPfailFall
  simp (maxDischargeDepth := 60) +contextual only [modSafe_kept, modSys_kept, off_kept, overN_kept, h,
      apply_ite (Kept z0), ite_self, outKept_next, implies_true]

/-! ### Machine/RollCall.lean -/

theorem rcBoth_kept {z0 : State} (f : Nat → State → State) (s : State) (hf : ∀ (x0 : Nat) (t : State),
      Kept z0 t → Kept z0 (f x0 t)) (h : Kept z0 s) :
    Kept z0 (rcBoth f s) := by
  unfold rcBoth
  simp (maxDischargeDepth := 60) +contextual only [overN_kept, h, hf, apply_ite (Kept z0), ite_self, implies_true]

theorem rcCode_kept {z0 : State} (code : Nat) (s : State) (h : Kept z0 s) :
    Kept z0 (rcCode code s) := by
  unfold rcCode
  simp (maxDischargeDepth := 60) +contextual only [put_kept, rcBoth_kept, h, apply_ite (Kept z0), ite_self, implies_true]

theorem rcPhaseTo_kept {z0 : State} (p : Nat) (s : State) (h : Kept z0 s) :
    Kept z0 (rcPhaseTo p s) := by
  unfold rcPhaseTo
  simp (maxDischargeDepth := 60) +contextual only [put_kept, rcBoth_kept, h, implies_true]

theorem rcMismatch_kept {z0 : State} (i : Nat) (s : State) (h : Kept z0 s) :
    Kept z0 (rcMismatch i s) := by
  unfold rcMismatch
  simp (maxDischargeDepth := 60) +contextual only [putBit_kept, rcBoth_kept, rcCode_kept, h, implies_true]

theorem pushUcode_kept {z0 : State} (d k : Nat) (s : State) (h : Kept z0 s) :
    Kept z0 (pushUcode d k s) := by
  unfold pushUcode
  simp (maxDischargeDepth := 60) +contextual only [off_kept, on_kept, overN_kept, put_kept, setReg_kept, h, implies_true]

theorem lockUcode_kept {z0 : State} (k : Nat) (s : State) (h : Kept z0 s) :
    Kept z0 (lockUcode k s) := by
  unfold lockUcode
  simp (maxDischargeDepth := 60) +contextual only [on_kept, h, apply_ite (Kept z0), ite_self]

theorem baselineUcode_kept {z0 : State} (k : Nat) (s : State) (h : Kept z0 s) :
    Kept z0 (baselineUcode k s) := by
  unfold baselineUcode
  simp (maxDischargeDepth := 60) +contextual only [pushUcode_kept, settle_kept, h]

theorem rcHeld_kept {z0 : State} (s : State) (h : Kept z0 s) :
    Kept z0 (rcHeld s) := by
  unfold rcHeld
  simp (maxDischargeDepth := 60) +contextual only [baselineUcode_kept, flushStart_kept, lockUcode_kept, overN_kept,
      recordRom_kept, setDevice_kept, h, apply_ite (Kept z0), ite_self, implies_true]

theorem lcReconcile_kept {z0 : State} (s : State) (h : Kept z0 s) :
    Kept z0 (lcReconcile s) := by
  unfold lcReconcile
  simp (maxDischargeDepth := 60) +contextual only [put_kept, recordRom_kept, h, apply_ite (Kept z0), ite_self]

theorem takeOptime_kept {z0 : State} (s : State) (h : Kept z0 s) :
    Kept z0 (takeOptime s) := by
  unfold takeOptime
  simp (maxDischargeDepth := 60) +contextual only [modSys_kept, put_kept, h]

theorem execRollCallC1Answer_kept {z0 : State} (ctl : Bool) (pos : DieIx) (step : Byte) (s : State) (h : Kept z0 s) :
    OutKept z0 (execRollCallC1Answer ctl pos step s) := by
  unfold execRollCallC1Answer
  simp (maxDischargeDepth := 60) +contextual only [atC_kept, lcReconcile_kept, linkUp_kept, putBit_kept, put_kept,
      rcMismatch_kept, takeOptime_kept, h, apply_ite (Kept z0), ite_self, implies_true]

theorem execDLinkTrainingStart_kept {z0 : State} (s : State) (h : Kept z0 s) :
    OutKept z0 (execDLinkTrainingStart s) := by
  unfold execDLinkTrainingStart
  simp (maxDischargeDepth := 60) +contextual only [modHdr_kept, overN_kept, rcPhaseTo_kept, refreshInact_kept,
      resetD_kept, setOwner_kept, syncOwn_kept, h, apply_ite (Kept z0), ite_self, outKept_next, implies_true]

theorem identityEnd_kept {z0 : State} (s : State) (h : Kept z0 s) :
    Kept z0 (identityEnd s) := by
  unfold identityEnd
  simp (maxDischargeDepth := 60) +contextual only [rcHeld_kept, rcPhaseTo_kept, h, apply_ite (Kept z0), ite_self]

theorem execDDieAnswer_kept {z0 : State} (k : DDie) (pos : DieIx) (step : Byte) (drv : Bool) (s : State) (h : Kept z0 s) :
    OutKept z0 (execDDieAnswer k pos step drv s) := by
  unfold execDDieAnswer
  simp (maxDischargeDepth := 60) +contextual only [atD_kept, identityEnd_kept, linkUp_kept, overN_kept, putBit_kept,
      put_kept, rcMismatch_kept, refreshLockout_kept, refreshVkeep_kept, h, apply_ite (Kept z0), ite_self, implies_true]

theorem execAnswerWindowExpiry_kept {z0 : State} (i : DieIx) (s : State) (h : Kept z0 s) :
    OutKept z0 (execAnswerWindowExpiry i s) := by
  unfold execAnswerWindowExpiry
  simp (maxDischargeDepth := 60) +contextual only [identityEnd_kept, modHdr_kept, rcCode_kept, h, apply_ite (Kept z0),
      ite_self, outKept_next]

theorem timeAlignBegin_kept {z0 : State} (s : State) (h : Kept z0 s) :
    Kept z0 (timeAlignBegin s) := by
  unfold timeAlignBegin
  simp (maxDischargeDepth := 60) +contextual only [modHdr_kept, nameTime_kept, overN_kept, rcPhaseTo_kept, h,
      apply_ite (Kept z0), ite_self, implies_true]

theorem execMicrocodeReadback_kept {z0 : State} (k : DDie) (ok : Bool) (s : State) (h : Kept z0 s) :
    OutKept z0 (execMicrocodeReadback k ok s) := by
  unfold execMicrocodeReadback
  simp (maxDischargeDepth := 60) +contextual only [atD_kept, baselineUcode_kept, modHdr_kept, rcCode_kept, rcHeld_kept,
      timeAlignBegin_kept, h, apply_ite (Kept z0), ite_self, implies_true]

theorem execTimeAlignCheck_kept {z0 : State} (s : State) (h : Kept z0 s) :
    OutKept z0 (execTimeAlignCheck s) := by
  unfold execTimeAlignCheck
  simp (maxDischargeDepth := 60) +contextual only [rcCode_kept, rcHeld_kept, h, apply_ite (Kept z0), ite_self, outKept_next]

theorem versionOn_kept {z0 : State} (d code : Nat) (s : State) (h : Kept z0 s) :
    Kept z0 (versionOn d code s) := by
  unfold versionOn
  simp (maxDischargeDepth := 60) +contextual only [on_kept, put_kept, h, apply_ite (Kept z0), ite_self]

theorem execVersionWindowResolve_kept {z0 : State} (peerOk : Bool) (s : State) (h : Kept z0 s) :
    OutKept z0 (execVersionWindowResolve peerOk s) := by
  unfold execVersionWindowResolve
  simp (maxDischargeDepth := 60) +contextual only [enterRecovery_kept, lockUcode_kept, overN_kept, put_kept,
      setDevice_kept, versionOn_kept, h, apply_ite (Kept z0), ite_self, outKept_next, implies_true]

theorem readyItem_kept {z0 : State} (d item : Nat) (s : State) (h : Kept z0 s) :
    Kept z0 (readyItem d item s) := by
  unfold readyItem
  simp (maxDischargeDepth := 60) +contextual only [modSafe_kept, on_kept, put_kept, h, apply_ite (Kept z0), ite_self]

theorem execReadinessItemMet_kept {z0 : State} (d : CDie) (item : Fin 5) (s : State) (h : Kept z0 s) :
    OutKept z0 (execReadinessItemMet d item s) := by
  unfold execReadinessItemMet
  simp (maxDischargeDepth := 60) +contextual only [onC_kept, readyItem_kept, h, apply_ite (Kept z0), ite_self, implies_true]

/-! ### Machine/LibHold.lean -/

theorem libRest_kept {z0 : State} (s : State) (h : Kept z0 s) :
    Kept z0 (libRest s) := by
  unfold libRest
  simp (maxDischargeDepth := 60) +contextual only [modLib_kept, overN_kept, put_kept, h, apply_ite (Kept z0), ite_self,
      implies_true]

theorem configEnds_kept {z0 : State} (s : State) (h : Kept z0 s) :
    Kept z0 (configEnds s) := by
  unfold configEnds
  simp (maxDischargeDepth := 60) +contextual only [setDevice_kept, h, apply_ite (Kept z0), ite_self]

theorem heldEnds_kept {z0 : State} (s : State) (h : Kept z0 s) :
    Kept z0 (heldEnds s) := by
  unfold heldEnds
  simp (maxDischargeDepth := 60) +contextual only [configEnds_kept, libRest_kept, modLib_kept, overN_kept, h,
      apply_ite (Kept z0), ite_self, implies_true]

/-! ### Machine/Headrace.lean -/

theorem timeFlit_kept {z0 : State} (i n payload : Nat) (s : State) (h : Kept z0 s) :
    Kept z0 (timeFlit i n payload s) := by
  unfold timeFlit
  simp (maxDischargeDepth := 60) +contextual only [modLink_kept, h]

theorem nakGot_kept {z0 : State} (i n seq : Nat) (s : State) (h : Kept z0 s) :
    Kept z0 (nakGot i n seq s) := by
  unfold nakGot
  simp (maxDischargeDepth := 60) +contextual only [count_kept, hoCancel_kept, modLink_kept, h, apply_ite (Kept z0),
      ite_self]

theorem noticeGot_kept {z0 : State} (k : Nat) (s : State) (h : Kept z0 s) :
    Kept z0 (noticeGot k s) := by
  unfold noticeGot
  simp (maxDischargeDepth := 60) +contextual only [resetD_kept, h, apply_ite (Kept z0), ite_self]

theorem setStage_kept {z0 : State} (i : Nat) (t : StageTime) (s : State) (h : Kept z0 s) :
    Kept z0 (setStage i t s) := by
  unfold setStage
  simp (maxDischargeDepth := 60) +contextual only [modD_kept, modLink_kept, modSys_kept, noCheckpoints_kept, overN_kept,
      h, apply_ite (Kept z0), ite_self, implies_true]

theorem timeSync_kept {z0 : State} (i n t : Nat) (s : State) (h : Kept z0 s) :
    Kept z0 (timeSync i n t s) := by
  unfold timeSync
  simp (maxDischargeDepth := 60) +contextual only [putBit_kept, setStage_kept, h, apply_ite (Kept z0), ite_self]

theorem deliver_kept {z0 : State} (i n w : Nat) (s : State) (h : Kept z0 s) :
    Kept z0 (deliver i n w s) := by
  unfold deliver
  simp (maxDischargeDepth := 60) +contextual only [linkLostAt_kept, modLink_kept, noticeGot_kept, timeFlit_kept,
      timeSync_kept, h, apply_ite (Kept z0), ite_self]

theorem flitBad_kept {z0 : State} (i n : Nat) (s : State) (h : Kept z0 s) :
    Kept z0 (flitBad i n s) := by
  unfold flitBad
  simp (maxDischargeDepth := 60) +contextual only [count_kept, modLink_kept, sendFlit_kept, h, apply_ite (Kept z0),
      ite_self]

theorem execFlitReceive_kept {z0 : State} (i : DieIx) (n : Fin 7) (w : BitVec 64) (s : State) (h : Kept z0 s) :
    OutKept z0 (execFlitReceive i n w s) := by
  unfold execFlitReceive
  simp (maxDischargeDepth := 60) +contextual only [deliver_kept, flitBad_kept, modLink_kept, nakGot_kept, onLink_kept, h,
      apply_ite (Kept z0), ite_self, implies_true]

theorem execNakReceive_kept {z0 : State} (i : DieIx) (n : Fin 7) (seq : Fin 16) (s : State) (h : Kept z0 s) :
    OutKept z0 (execNakReceive i n seq s) := by
  unfold execNakReceive
  simp (maxDischargeDepth := 60) +contextual only [nakGot_kept, onLink_kept, h, implies_true]

theorem execLinkLost_kept {z0 : State} (i : DieIx) (n : Fin 7) (s : State) (h : Kept z0 s) :
    OutKept z0 (execLinkLost i n s) := by
  unfold execLinkLost
  simp (maxDischargeDepth := 60) +contextual only [linkLostAt_kept, onLink_kept, orphanEntry_kept, h,
      apply_ite (Kept z0), ite_self, implies_true]

theorem execResetNoticeReceive_kept {z0 : State} (k : DDie) (s : State) (h : Kept z0 s) :
    OutKept z0 (execResetNoticeReceive k s) := by
  unfold execResetNoticeReceive
  simp (maxDischargeDepth := 60) +contextual only [noticeGot_kept, onD_kept, h, implies_true]

theorem accErr_kept {z0 : State} (d code die rstat addr : Nat) (write : Bool) (s : State) (h : Kept z0 s) :
    Kept z0 (accErr d code die rstat addr write s) := by
  unfold accErr
  simp (maxDischargeDepth := 60) +contextual only [put_kept, h]

theorem drvStoreAt_kept {z0 : State} (d k off addr : Nat) (v : Word) (eff : State → State) (s : State) (heff : ∀ (t : State), Kept z0 t → Kept z0 (eff t)) (h : Kept z0 s) :
    Kept z0 (drvStoreAt d k off addr v eff s) := by
  unfold drvStoreAt
  simp (maxDischargeDepth := 60) +contextual only [accErr_kept, sendFlit_kept, h, heff, apply_ite (Kept z0), ite_self]

theorem drvStore_kept {z0 : State} (d k off : Nat) (v : Word) (eff : State → State) (s : State) (heff : ∀ (t : State),
      Kept z0 t → Kept z0 (eff t)) (h : Kept z0 s) :
    Kept z0 (drvStore d k off v eff s) := by
  unfold drvStore
  simp (maxDischargeDepth := 60) +contextual only [drvStoreAt_kept, h, heff, implies_true]

theorem peerFlits_kept {z0 : State} (d addr : Nat) (v : Word) (s : State) (h : Kept z0 s) :
    Kept z0 (peerFlits d addr v s) := by
  unfold peerFlits
  simp (maxDischargeDepth := 60) +contextual only [sendFlit_kept, h]

theorem readEnd_kept {z0 : State} (d k : Nat) (s : State) (h : Kept z0 s) :
    Kept z0 (readEnd d k s) := by
  unfold readEnd
  simp (maxDischargeDepth := 60) +contextual only [modHdr_kept, h]

theorem execRemoteReadTimeout_kept {z0 : State} (d : CDie) (k : Fin 4) (machine : Bool) (s : State) (h : Kept z0 s) :
    OutKept z0 (execRemoteReadTimeout d k machine s) := by
  unfold execRemoteReadTimeout
  simp (maxDischargeDepth := 60) +contextual only [accErr_kept, busTrap_kept, onC_kept, readEnd_kept, h,
      apply_ite (Kept z0), ite_self, implies_true]

theorem rejoin_kept {z0 : State} (d : Nat) (s : State) (h : Kept z0 s) :
    Kept z0 (rejoin d s) := by
  unfold rejoin
  simp (maxDischargeDepth := 60) +contextual only [linkUp_kept, modC_kept, modSys_kept, on_kept, overN_kept, put_kept,
      refreshLockout_kept, refreshVkeep_kept, setReg_kept, thermLoad_kept, thermLock_kept, versionOn_kept, h,
      apply_ite (Kept z0), ite_self, implies_true]

theorem execTimeLoad_kept {z0 : State} (i : DieIx) (n : Fin 7) (s : State) (h : Kept z0 s) :
    OutKept z0 (execTimeLoad i n s) := by
  unfold execTimeLoad
  refine onLink_kept _ _ _ _ (fun t ht => ?_) h
  try dsimp only
  (repeat' split) <;> simp (maxDischargeDepth := 60) +contextual only [modLink_kept, rejoin_kept, setStage_kept, ht]

theorem execTimeSyncSend_kept {z0 : State} (d : CDie) (s : State) (h : Kept z0 s) :
    OutKept z0 (execTimeSyncSend d s) := by
  unfold execTimeSyncSend
  simp (maxDischargeDepth := 60) +contextual only [modHdr_kept, onC_kept, overN_kept, sendFlit_kept, h,
      apply_ite (Kept z0), ite_self, implies_true]

theorem execTimeSyncReceive_kept {z0 : State} (i : DieIx) (n : Fin 7) (t : BitVec 43) (s : State) (h : Kept z0 s) :
    OutKept z0 (execTimeSyncReceive i n t s) := by
  unfold execTimeSyncReceive
  simp (maxDischargeDepth := 60) +contextual only [onLink_kept, timeSync_kept, h, implies_true]

theorem execCueSourceEvent_kept {z0 : State} (d : CDie) (src : Byte) (s : State) (h : Kept z0 s) :
    OutKept z0 (execCueSourceEvent d src s) := by
  unfold execCueSourceEvent
  split <;> simp (maxDischargeDepth := 60) +contextual only [fireCue_kept, onC_kept, h, apply_ite (Kept z0), ite_self,
      implies_true]

theorem execSoftwareCue_kept {z0 : State} (d : CDie) (v : Fin 4) (s : State) (h : Kept z0 s) :
    OutKept z0 (execSoftwareCue d v s) := by
  unfold execSoftwareCue
  simp (maxDischargeDepth := 60) +contextual only [fireCue_kept, onCW_kept, h, implies_true]

end Sys2Proof.Machine
end

