-- ==== Sys2Proof/Laws/KeptLoop.lean ====
section
/-! SUPPORT. What the operations keep (`Kept`): conversion, feedback, the loop fabric, FIELD and PWM. -/

namespace Sys2Proof.Machine

/-! ### Machine/Adc.lean -/

theorem seqDone_kept {z0 : State} (d g q : Nat) (s : State) (h : Kept z0 s) :
    Kept z0 (seqDone d g q s) := by
  unfold seqDone
  simp (maxDischargeDepth := 60) +contextual only [fireCue_kept, modSeq_kept, putBit_kept, h]

theorem stepSample_kept {z0 : State} (d g q n : Nat) (s : State) (h : Kept z0 s) :
    Kept z0 (stepSample d g q n s) := by
  unfold stepSample
  simp (maxDischargeDepth := 60) +contextual only [modSeq_kept, putBit_kept, h, apply_ite (Kept z0), ite_self]

theorem execAdcStepSample_kept {z0 : State} (d : CDie) (g : Fin 4) (q : Fin 4) (n : Fin 16) (s : State) (h : Kept z0 s) :
    OutKept z0 (execAdcStepSample d g q n s) := by
  unfold execAdcStepSample
  simp (maxDischargeDepth := 60) +contextual only [onC_kept, stepSample_kept, h, implies_true]

theorem stepsDue_kept {z0 : State} (d : Nat) (s : State) (h : Kept z0 s) :
    Kept z0 (stepsDue d s) := by
  unfold stepsDue
  simp (maxDischargeDepth := 60) +contextual only [overN_kept, stepSample_kept, h, apply_ite (Kept z0), ite_self,
      implies_true]

theorem seqStart_kept {z0 : State} (d g q : Nat) (s : State) (h : Kept z0 s) :
    Kept z0 (seqStart d g q s) := by
  unfold seqStart
  simp (maxDischargeDepth := 60) +contextual only [modSeq_kept, putBit_kept, stepSample_kept, h, apply_ite (Kept z0),
      ite_self]

theorem execAdcSequenceStart_kept {z0 : State} (d : CDie) (g : Fin 4) (q : Fin 4) (s : State) (h : Kept z0 s) :
    OutKept z0 (execAdcSequenceStart d g q s) := by
  unfold execAdcSequenceStart
  simp (maxDischargeDepth := 60) +contextual only [onC_kept, seqStart_kept, h, implies_true]

theorem burstStop_kept {z0 : State} (d g q : Nat) (s : State) (h : Kept z0 s) :
    Kept z0 (burstStop d g q s) := by
  unfold burstStop
  simp (maxDischargeDepth := 60) +contextual only [seqDone_kept, h, apply_ite (Kept z0), ite_self]

theorem swtrigWrite_kept {z0 : State} (d g v : Nat) (s : State) (h : Kept z0 s) :
    Kept z0 (swtrigWrite d g v s) := by
  unfold swtrigWrite
  simp (maxDischargeDepth := 60) +contextual only [burstStop_kept, overN_kept, seqStart_kept, h, apply_ite (Kept z0),
      ite_self, implies_true]

theorem execAdcSwtrigStop_kept {z0 : State} (d : CDie) (g : Fin 4) (mask : Fin 16) (s : State) (h : Kept z0 s) :
    OutKept z0 (execAdcSwtrigStop d g mask s) := by
  unfold execAdcSwtrigStop
  simp (maxDischargeDepth := 60) +contextual only [onCW_kept, swtrigWrite_kept, h, implies_true]

theorem winCheck_kept {z0 : State} (d g e : Nat) (v : Int) (s : State) (h : Kept z0 s) :
    Kept z0 (winCheck d g e v s) := by
  unfold winCheck
  simp (maxDischargeDepth := 60) +contextual only [on_kept, h, apply_ite (Kept z0), ite_self]

theorem satClip_kept {z0 : State} (d g : Nat) (sat clip : Bool) (s : State) (h : Kept z0 s) :
    Kept z0 (satClip d g sat clip s) := by
  unfold satClip
  simp (maxDischargeDepth := 60) +contextual only [on_kept, onlyIf_kept, h, implies_true]

theorem tmonDeliver_kept {z0 : State} (d g e : Nat) (v : Int) (s : State) (h : Kept z0 s) :
    Kept z0 (tmonDeliver d g e v s) := by
  unfold tmonDeliver
  simp (maxDischargeDepth := 60) +contextual only [modSafe_kept, h, apply_ite (Kept z0), ite_self]

theorem convDone_kept {z0 : State} (d g e code : Nat) (s : State) (h : Kept z0 s) :
    Kept z0 (convDone d g e code s) := by
  unfold convDone
  dsimp only
  (repeat' split) <;> simp (maxDischargeDepth := 60) +contextual only [agRefresh_kept, modSeq_kept, satClip_kept,
      seqDone_kept, setReg_kept, srcSet_kept, tmonDeliver_kept, winCheck_kept, h]

theorem execAdcConversionDone_kept {z0 : State} (d : CDie) (g : Fin 4) (e : Fin 64) (code : BitVec 14) (s : State) (h : Kept z0 s) :
    OutKept z0 (execAdcConversionDone d g e code s) := by
  unfold execAdcConversionDone
  simp (maxDischargeDepth := 60) +contextual only [convDone_kept, onC_kept, h, implies_true]

theorem refreshFifo_kept {z0 : State} (d g : Nat) (s : State) (h : Kept z0 s) :
    Kept z0 (refreshFifo d g s) := by
  unfold refreshFifo
  simp (maxDischargeDepth := 60) +contextual only [put_kept, setReg_kept, h]

theorem burstSample_kept {z0 : State} (d g code : Nat) (s : State) (h : Kept z0 s) :
    Kept z0 (burstSample d g code s) := by
  unfold burstSample
  split <;> simp (maxDischargeDepth := 60) +contextual only [modAg_kept, modSeq_kept, on_kept, refreshFifo_kept,
      satClip_kept, seqDone_kept, h, apply_ite (Kept z0), ite_self]

theorem execAdcBurstSample_kept {z0 : State} (d : CDie) (g : Fin 4) (code : BitVec 14) (s : State) (h : Kept z0 s) :
    OutKept z0 (execAdcBurstSample d g code s) := by
  unfold execAdcBurstSample
  simp (maxDischargeDepth := 60) +contextual only [burstSample_kept, onC_kept, h, implies_true]

theorem returnData_kept {z0 : State} (d : Nat) (w : Word) (s : State) (h : Kept z0 s) :
    Kept z0 (returnData d w s) := by
  unfold returnData
  simp (maxDischargeDepth := 60) +contextual only [modSys_kept, h]

theorem fifoRead_kept {z0 : State} (d g : Nat) (s : State) (h : Kept z0 s) :
    Kept z0 (fifoRead d g s) := by
  unfold fifoRead
  simp (maxDischargeDepth := 60) +contextual only [modAg_kept, refreshFifo_kept, returnData_kept, h]

theorem execAdcFifoRead_kept {z0 : State} (d : CDie) (g : Fin 4) (s : State) (h : Kept z0 s) :
    OutKept z0 (execAdcFifoRead d g s) := by
  unfold execAdcFifoRead
  simp (maxDischargeDepth := 60) +contextual only [fifoRead_kept, onC_kept, h, implies_true]

theorem resRead_kept {z0 : State} (d g e : Nat) (s : State) (h : Kept z0 s) :
    Kept z0 (resRead d g e s) := by
  unfold resRead
  simp (maxDischargeDepth := 60) +contextual only [off_kept, returnData_kept, h]

theorem execAdcResultRead_kept {z0 : State} (d : CDie) (g : Fin 4) (e : Fin 64) (s : State) (h : Kept z0 s) :
    OutKept z0 (execAdcResultRead d g e s) := by
  unfold execAdcResultRead
  simp (maxDischargeDepth := 60) +contextual only [onC_kept, resRead_kept, h, implies_true]

theorem modShunt_kept {z0 : State} (s : State) (k : Nat) (f : ShuntD → ShuntD) (h : Kept z0 s) :
    Kept z0 (State.modShunt s k f) := by
  unfold State.modShunt
  simp (maxDischargeDepth := 60) +contextual only [modD_kept, h]

theorem shDrop_kept {z0 : State} (k : Nat) (s : State) (h : Kept z0 s) :
    Kept z0 (shDrop k s) := by
  unfold shDrop
  simp (maxDischargeDepth := 60) +contextual only [count_kept, on_kept, h]

theorem shuntStart_kept {z0 : State} (k : Nat) (s : State) (h : Kept z0 s) :
    Kept z0 (shuntStart k s) := by
  unfold shuntStart
  simp (maxDischargeDepth := 60) +contextual only [modShunt_kept, on_kept, put_kept, shDrop_kept, h, apply_ite (Kept z0),
      ite_self]

theorem execShuntStart_kept {z0 : State} (k : DDie) (s : State) (h : Kept z0 s) :
    OutKept z0 (execShuntStart k s) := by
  unfold execShuntStart
  simp (maxDischargeDepth := 60) +contextual only [onD_kept, shuntStart_kept, h, implies_true]

theorem frameFlit_kept {z0 : State} (k toC payload : Nat) (s : State) (h : Kept z0 s) :
    Kept z0 (frameFlit k toC payload s) := by
  unfold frameFlit
  simp (maxDischargeDepth := 60) +contextual only [fireDrvCue_kept, modShunt_kept, h]

theorem shuntDone_kept {z0 : State} (k c0 c1 c2 : Nat) (s : State) (h : Kept z0 s) :
    Kept z0 (shuntDone k c0 c1 c2 s) := by
  unfold shuntDone
  simp (maxDischargeDepth := 60) +contextual only [frameFlit_kept, modShunt_kept, off_kept, h, apply_ite (Kept z0),
      ite_self]

theorem execShuntConversionDone_kept {z0 : State} (k : DDie) (c0 c1 c2 : BitVec 12) (s : State) (h : Kept z0 s) :
    OutKept z0 (execShuntConversionDone k c0 c1 c2 s) := by
  unfold execShuntConversionDone
  simp (maxDischargeDepth := 60) +contextual only [onD_kept, shuntDone_kept, h, implies_true]

theorem voltStart_kept {z0 : State} (k : Nat) (s : State) (h : Kept z0 s) :
    Kept z0 (voltStart k s) := by
  unfold voltStart
  simp (maxDischargeDepth := 60) +contextual only [modShunt_kept, put_kept, shDrop_kept, h, apply_ite (Kept z0), ite_self]

theorem voltAuto_kept {z0 : State} (k : Nat) (s : State) (h : Kept z0 s) :
    Kept z0 (voltAuto k s) := by
  unfold voltAuto
  simp (maxDischargeDepth := 60) +contextual only [voltStart_kept, h, apply_ite (Kept z0), ite_self]

theorem execVoltageStart_kept {z0 : State} (k : DDie) (auto : Bool) (s : State) (h : Kept z0 s) :
    OutKept z0 (execVoltageStart k auto s) := by
  unfold execVoltageStart
  simp (maxDischargeDepth := 60) +contextual only [onD_kept, voltAuto_kept, voltStart_kept, h, apply_ite (Kept z0),
      ite_self, implies_true]

theorem voltFlit_kept {z0 : State} (k c0 c1 c2 : Nat) (s : State) (h : Kept z0 s) :
    Kept z0 (voltFlit k c0 c1 c2 s) := by
  unfold voltFlit
  simp (maxDischargeDepth := 60) +contextual only [modShunt_kept, h, apply_ite (Kept z0), ite_self]

theorem execVoltageSetFlit_kept {z0 : State} (k : DDie) (c0 c1 c2 : BitVec 12) (s : State) (h : Kept z0 s) :
    OutKept z0 (execVoltageSetFlit k c0 c1 c2 s) := by
  unfold execVoltageSetFlit
  simp (maxDischargeDepth := 60) +contextual only [onD_kept, voltFlit_kept, h, implies_true]

theorem shcctrlWrite_kept {z0 : State} (k : Nat) (v : Word) (s : State) (h : Kept z0 s) :
    Kept z0 (shcctrlWrite k v s) := by
  unfold shcctrlWrite
  simp (maxDischargeDepth := 60) +contextual only [modShunt_kept, off_kept, on_kept, plainWrite_kept, h,
      apply_ite (Kept z0), ite_self]

theorem execShuntBurstModeWrite_kept {z0 : State} (d : CDie) (k : DDie) (v : Word) (s : State) (h : Kept z0 s) :
    OutKept z0 (execShuntBurstModeWrite d k v s) := by
  unfold execShuntBurstModeWrite
  simp (maxDischargeDepth := 60) +contextual only [drvStore_kept, onDW_kept, shcctrlWrite_kept, h, implies_true]

theorem refreshShFifo_kept {z0 : State} (d k : Nat) (s : State) (h : Kept z0 s) :
    Kept z0 (refreshShFifo d k s) := by
  unfold refreshShFifo
  simp (maxDischargeDepth := 60) +contextual only [put_kept, setReg_kept, h]

theorem shFifoRead_kept {z0 : State} (d k : Nat) (s : State) (h : Kept z0 s) :
    Kept z0 (shFifoRead d k s) := by
  unfold shFifoRead
  simp (maxDischargeDepth := 60) +contextual only [modAdc_kept, refreshShFifo_kept, returnData_kept, h]

theorem execShuntFifoRead_kept {z0 : State} (d : CDie) (k : DDie) (s : State) (h : Kept z0 s) :
    OutKept z0 (execShuntFifoRead d k s) := by
  unfold execShuntFifoRead
  simp (maxDischargeDepth := 60) +contextual only [onC_kept, shFifoRead_kept, h, implies_true]

theorem shResRead_kept {z0 : State} (d k i : Nat) (s : State) (h : Kept z0 s) :
    Kept z0 (shResRead d k i s) := by
  unfold shResRead
  simp (maxDischargeDepth := 60) +contextual only [off_kept, returnData_kept, h]

theorem calBegin_kept {z0 : State} (d : Nat) (s : State) (h : Kept z0 s) :
    Kept z0 (calBegin d s) := by
  unfold calBegin
  simp (maxDischargeDepth := 60) +contextual only [off_kept, on_kept, overN_kept, h, implies_true]

theorem execAdcSelfCalibrationStart_kept {z0 : State} (s : State) (h : Kept z0 s) :
    OutKept z0 (execAdcSelfCalibrationStart s) := by
  unfold execAdcSelfCalibrationStart
  simp (maxDischargeDepth := 60) +contextual only [calBegin_kept, overN_kept, h, apply_ite (Kept z0), ite_self,
      outKept_next, implies_true]

theorem slConst_kept {z0 : State} (d g j : Nat) (s : State) (h : Kept z0 s) :
    Kept z0 (slConst d g j s) := by
  unfold slConst
  simp (maxDischargeDepth := 60) +contextual only [drawn_kept, on_kept, put_kept, h]

theorem retireSlice_kept {z0 : State} (d g j : Nat) (s : State) (h : Kept z0 s) :
    Kept z0 (retireSlice d g j s) := by
  unfold retireSlice
  simp (maxDischargeDepth := 60) +contextual only [latchFault_kept, modAg_kept, note_kept, on_kept, putBit_kept, h]

theorem groupCalDone_kept {z0 : State} (d g fails : Nat) (s : State) (h : Kept z0 s) :
    Kept z0 (groupCalDone d g fails s) := by
  unfold groupCalDone
  dsimp only
  (repeat' split) <;> simp (maxDischargeDepth := 60) +contextual only [modAg_kept, off_kept, overN_kept, putBit_kept,
      put_kept, retireSlice_kept, slConst_kept, h, apply_ite (Kept z0), ite_self, implies_true]

theorem shuntCalDone_kept {z0 : State} (k : Nat) (fail : Bool) (s : State) (h : Kept z0 s) :
    Kept z0 (shuntCalDone k fail s) := by
  unfold shuntCalDone
  simp (maxDischargeDepth := 60) +contextual only [drawn_kept, off_kept, on_kept, overN_kept, put_kept, h,
      apply_ite (Kept z0), ite_self, implies_true]

theorem execAdcSelfCalibrationDone_kept {z0 : State} (d : CDie) (fails : BitVec 32) (dfails : BitVec 6) (s : State) (h : Kept z0 s) :
    OutKept z0 (execAdcSelfCalibrationDone d fails dfails s) := by
  unfold execAdcSelfCalibrationDone
  simp (maxDischargeDepth := 60) +contextual only [configEnds_kept, groupCalDone_kept, off_kept, onC_kept, on_kept,
      overN_kept, putBit_kept, put_kept, shuntCalDone_kept, h, apply_ite (Kept z0), ite_self, implies_true]

theorem gctrlWrite_kept {z0 : State} (d v : Nat) (s : State) (h : Kept z0 s) :
    Kept z0 (gctrlWrite d v s) := by
  unfold gctrlWrite
  simp (maxDischargeDepth := 60) +contextual only [calBegin_kept, put_kept, zcapBegin_kept, h, apply_ite (Kept z0),
      ite_self]

theorem execAdcGctrlCal_kept {z0 : State} (d : CDie) (s : State) (h : Kept z0 s) :
    OutKept z0 (execAdcGctrlCal d s) := by
  unfold execAdcGctrlCal
  simp (maxDischargeDepth := 60) +contextual only [gctrlWrite_kept, onCW_kept, h, implies_true]

theorem execAdcGctrlZcap_kept {z0 : State} (d : CDie) (s : State) (h : Kept z0 s) :
    OutKept z0 (execAdcGctrlZcap d s) := by
  unfold execAdcGctrlZcap
  simp (maxDischargeDepth := 60) +contextual only [gctrlWrite_kept, onCW_kept, h, implies_true]

theorem execZcapAtStandby_kept {z0 : State} (d : CDie) (s : State) (h : Kept z0 s) :
    OutKept z0 (execZcapAtStandby d s) := by
  unfold execZcapAtStandby
  simp (maxDischargeDepth := 60) +contextual only [onC_kept, zcapBegin_kept, h, apply_ite (Kept z0), ite_self, implies_true]

theorem execZcapDeferredStart_kept {z0 : State} (d : CDie) (a : Axis) (s : State) (h : Kept z0 s) :
    OutKept z0 (execZcapDeferredStart d a s) := by
  unfold execZcapDeferredStart
  simp (maxDischargeDepth := 60) +contextual only [modAdc_kept, onC_kept, put_kept, zRoundBegin_kept, h,
      apply_ite (Kept z0), ite_self, implies_true]

theorem zCapture_kept {z0 : State} (d u c : Nat) (v : Int) (s : State) (h : Kept z0 s) :
    Kept z0 (zCapture d u c v s) := by
  unfold zCapture
  split <;> simp (maxDischargeDepth := 60) +contextual only [modAdc_kept, overN_kept, putBit_kept, put_kept, h,
      apply_ite (Kept z0), ite_self, implies_true]

theorem zRoundEnd_kept {z0 : State} (d : Nat) (s : State) (h : Kept z0 s) :
    Kept z0 (zRoundEnd d s) := by
  unfold zRoundEnd
  simp (maxDischargeDepth := 60) +contextual only [modAdc_kept, off_kept, overN_kept, h, apply_ite (Kept z0), ite_self,
      implies_true]

theorem execZcapDone_kept {z0 : State} (d : CDie) (caps : Captures) (s : State) (h : Kept z0 s) :
    OutKept z0 (execZcapDone d caps s) := by
  unfold execZcapDone
  simp (maxDischargeDepth := 60) +contextual only [modAdc_kept, note_kept, off_kept, onC_kept, on_kept, readyItem_kept,
      zCapture_kept, zRoundEnd_kept, h, apply_ite (Kept z0), ite_self, kept_foldl, implies_true]

/-! ### Machine/Fb.lean -/

theorem onFb_kept {z0 : State} (d n : Nat) (f : State → State) (s : State) (hf : ∀ (t : State),
      Kept z0 t → Kept z0 (f t)) (h : Kept z0 s) :
    OutKept z0 (onFb d n f s) := by
  unfold onFb
  simp (maxDischargeDepth := 60) +contextual only [onC_kept, h, hf, apply_ite (Kept z0), ite_self, implies_true]

theorem execFbEnable_kept {z0 : State} (d : CDie) (n : Fin 4) (v : Word) (s : State) (h : Kept z0 s) :
    OutKept z0 (execFbEnable d n v s) := by
  unfold execFbEnable
  simp (maxDischargeDepth := 60) +contextual only [fbCtrlWrite_kept, onCW_kept, onlyIf_kept, h, implies_true]

theorem execPositionLatch_kept {z0 : State} (d : CDie) (n : Fin 4) (index : Bool) (s : State) (h : Kept z0 s) :
    OutKept z0 (execPositionLatch d n index s) := by
  unfold execPositionLatch
  simp (maxDischargeDepth := 60) +contextual only [latchCue_kept, onFb_kept, posLatch_kept, tkDisturb_kept, h,
      apply_ite (Kept z0), ite_self, implies_true]

theorem execLatchStatusRead_kept {z0 : State} (d : CDie) (n : Fin 4) (s : State) (h : Kept z0 s) :
    OutKept z0 (execLatchStatusRead d n s) := by
  unfold execLatchStatusRead
  simp (maxDischargeDepth := 60) +contextual only [off_kept, onC_kept, returnData_kept, h, implies_true]

theorem posRead_kept {z0 : State} (d n core : Nat) (s : State) (h : Kept z0 s) :
    Kept z0 (posRead d n core s) := by
  unfold posRead
  simp (maxDischargeDepth := 60) +contextual only [fbShow_kept, modFb_kept, returnData_kept, h, apply_ite (Kept z0),
      ite_self]

theorem execPositionRead_kept {z0 : State} (d : CDie) (n : Fin 4) (m : Master) (s : State) (h : Kept z0 s) :
    OutKept z0 (execPositionRead d n m s) := by
  unfold execPositionRead
  simp (maxDischargeDepth := 60) +contextual only [onC_kept, posRead_kept, h, implies_true]

theorem levelsAt_kept {z0 : State} (d n held st : Nat) (s : State) (h : Kept z0 s) :
    Kept z0 (levelsAt d n held st s) := by
  unfold levelsAt
  simp (maxDischargeDepth := 60) +contextual only [fbLevels_kept, h, apply_ite (Kept z0), ite_self]

theorem execEncoderEdge_kept {z0 : State} (d : CDie) (n : Fin 4) (a b : Bool) (held : BitVec 8) (s : State) (h : Kept z0 s) :
    OutKept z0 (execEncoderEdge d n a b held s) := by
  unfold execEncoderEdge
  simp (maxDischargeDepth := 60) +contextual only [levelsAt_kept, onFb_kept, h, implies_true]

theorem indexAt_kept {z0 : State} (d n held : Nat) (s : State) (h : Kept z0 s) :
    Kept z0 (indexAt d n held s) := by
  unfold indexAt
  simp (maxDischargeDepth := 60) +contextual only [fbLevels_kept, onlyIf_kept, put_kept, h, apply_ite (Kept z0),
      ite_self, implies_true]

theorem execEncoderIndex_kept {z0 : State} (d : CDie) (n : Fin 4) (held : BitVec 8) (s : State) (h : Kept z0 s) :
    OutKept z0 (execEncoderIndex d n held s) := by
  unfold execEncoderIndex
  simp (maxDischargeDepth := 60) +contextual only [indexAt_kept, onFb_kept, h, implies_true]

theorem execHallStateChange_kept {z0 : State} (d : CDie) (n : Fin 4) (st : Fin 8) (held : BitVec 8) (s : State) (h : Kept z0 s) :
    OutKept z0 (execHallStateChange d n st held s) := by
  unfold execHallStateChange
  simp (maxDischargeDepth := 60) +contextual only [levelsAt_kept, onFb_kept, h, implies_true]

theorem execExcitationPeriodStart_kept {z0 : State} (d : CDie) (n : Fin 4) (s : State) (h : Kept z0 s) :
    OutKept z0 (execExcitationPeriodStart d n s) := by
  unfold execExcitationPeriodStart
  simp (maxDischargeDepth := 60) +contextual only [excPeriod_kept, onFb_kept, h, implies_true]

theorem execSerialFrameRequest_kept {z0 : State} (d : CDie) (n : Fin 4) (ready : Bool) (s : State) (h : Kept z0 s) :
    OutKept z0 (execSerialFrameRequest d n ready s) := by
  unfold execSerialFrameRequest
  simp (maxDischargeDepth := 60) +contextual only [fbLevels_kept, onFb_kept, serialRequest_kept, h, apply_ite (Kept z0),
      ite_self, implies_true]

theorem serialDone_kept {z0 : State} (d n raw wait : Nat) (s : State) (h : Kept z0 s) :
    Kept z0 (serialDone d n raw wait s) := by
  unfold serialDone
  split <;> simp (maxDischargeDepth := 60) +contextual only [fireCue_kept, modFb_kept, on_kept, onlyIf_kept, put_kept, h,
      apply_ite (Kept z0), ite_self, implies_true]

theorem execSerialFrameDone_kept {z0 : State} (d : CDie) (n : Fin 4) (raw : BitVec 64) (wait : Byte) (s : State) (h : Kept z0 s) :
    OutKept z0 (execSerialFrameDone d n raw wait s) := by
  unfold execSerialFrameDone
  simp (maxDischargeDepth := 60) +contextual only [onFb_kept, serialDone_kept, h, implies_true]

theorem demodulate_kept {z0 : State} (d n : Nat) (sin cos : Int) (s : State) (h : Kept z0 s) :
    Kept z0 (demodulate d n sin cos s) := by
  unfold demodulate
  simp (maxDischargeDepth := 60) +contextual only [modFb_kept, h]

theorem rideOn_kept {z0 : State} (d a : Nat) (s : State) (h : Kept z0 s) :
    Kept z0 (rideOn d a s) := by
  unfold rideOn
  simp (maxDischargeDepth := 60) +contextual only [modAxr_kept, on_kept, put_kept, h]

theorem rideThrough_kept {z0 : State} (d n : Nat) (s : State) (h : Kept z0 s) :
    Kept z0 (rideThrough d n s) := by
  unfold rideThrough
  simp (maxDischargeDepth := 60) +contextual only [overN_kept, rideOn_kept, h, apply_ite (Kept z0), ite_self, implies_true]

theorem fbErrored_kept {z0 : State} (d n : Nat) (s : State) (h : Kept z0 s) :
    Kept z0 (fbErrored d n s) := by
  unfold fbErrored
  simp (maxDischargeDepth := 60) +contextual only [count_kept, fireCue_kept, latchFault_kept, modFb_kept, off_kept,
      on_kept, rideThrough_kept, h, apply_ite (Kept z0), ite_self]

theorem fbClean_kept {z0 : State} (d n : Nat) (within : Bool) (s : State) (h : Kept z0 s) :
    Kept z0 (fbClean d n within s) := by
  unfold fbClean
  simp (maxDischargeDepth := 60) +contextual only [endActive_kept, modFb_kept, off_kept, on_kept, put_kept, h,
      apply_ite (Kept z0), ite_self]

theorem fbDir_kept {z0 : State} (d n : Nat) (s : State) (h : Kept z0 s) :
    Kept z0 (fbDir d n s) := by
  unfold fbDir
  simp (maxDischargeDepth := 60) +contextual only [on_kept, put_kept, h, apply_ite (Kept z0), ite_self]

theorem fbPublish_kept {z0 : State} (d n : Nat) (s : State) (h : Kept z0 s) :
    Kept z0 (fbPublish d n s) := by
  unfold fbPublish
  simp (maxDischargeDepth := 60) +contextual only [fbDir_kept, fbLimits_kept, fbShow_kept, fireCue_kept, modFb_kept,
      modLoop_kept, h]

theorem resolverSample_kept {z0 : State} (d n : Nat) (sin cos : BitVec 14) (s : State) (h : Kept z0 s) :
    Kept z0 (resolverSample d n sin cos s).1 := by
  have hd := demodulate_kept d n sin.toInt cos.toInt s h
  unfold resolverSample
  dsimp only
  split
  · exact onlyIf_kept _ _ _ (fun t ht => on_kept _ _ _ ht) hd
  · exact onlyIf_kept _ _ _ (fun t ht => on_kept _ _ _ ht) (onlyIf_kept _ _ _ (fun t ht => on_kept _ _ _ ht) (put_kept _ _ _ _ hd))

theorem obsBegin_kept {z0 : State} (d n : Nat) (z : Int) (s : State) (h : Kept z0 s) :
    Kept z0 (obsBegin d n z s) := by
  unfold obsBegin
  simp (maxDischargeDepth := 60) +contextual only [modFb_kept, on_kept, h, apply_ite (Kept z0), ite_self]

theorem obsUpdate_kept {z0 : State} (d n : Nat) (bad : Bool) (s : State) (h : Kept z0 s) :
    Kept z0 (obsUpdate d n bad s) := by
  unfold obsUpdate
  split <;> simp (maxDischargeDepth := 60) +contextual only [fbClean_kept, fbErrored_kept, modFb_kept, obsBegin_kept,
      on_kept, onlyIf_kept, h, apply_ite (Kept z0), ite_self, implies_true]

theorem observerUpdate_kept {z0 : State} (d n : Nat) (sin cos : BitVec 14) (s : State) (h : Kept z0 s) :
    Kept z0 (observerUpdate d n sin cos s) := by
  unfold observerUpdate
  split
  · exact h
  · have hr : Kept z0 (s.modFb d n (fun x => { x with updAt := s.now d + 1 })) := modFb_kept _ _ _ _ h
    generalize (s.modFb d n (fun x => { x with updAt := s.now d + 1 })) = u at hr ⊢
    dsimp only
    refine fbPublish_kept _ _ _ (obsUpdate_kept _ _ _ _ ?_)
    split
    · exact resolverSample_kept _ _ _ _ _ hr
    · exact hr

theorem execObserverUpdate_kept {z0 : State} (d : CDie) (n : Fin 4) (sin cos : BitVec 14) (s : State) (h : Kept z0 s) :
    OutKept z0 (execObserverUpdate d n sin cos s) := by
  unfold execObserverUpdate
  simp (maxDischargeDepth := 60) +contextual only [observerUpdate_kept, onFb_kept, h, implies_true]

theorem fbEvtWrite_kept {z0 : State} (d n : Nat) (v : Word) (s : State) (h : Kept z0 s) :
    Kept z0 (fbEvtWrite d n v s) := by
  unfold fbEvtWrite
  simp (maxDischargeDepth := 60) +contextual only [endActive_kept, modFb_kept, off_kept, on_kept, plainWrite_kept, h,
      apply_ite (Kept z0), ite_self]

theorem execFbFaultClear_kept {z0 : State} (d : CDie) (n : Fin 4) (s : State) (h : Kept z0 s) :
    OutKept z0 (execFbFaultClear d n s) := by
  unfold execFbFaultClear
  simp (maxDischargeDepth := 60) +contextual only [fbEvtWrite_kept, onCW_kept, onlyIf_kept, h, implies_true]

theorem execEmuEnable_kept {z0 : State} (d : CDie) (m : Fin 2) (v : Word) (s : State) (h : Kept z0 s) :
    OutKept z0 (execEmuEnable d m v s) := by
  unfold execEmuEnable
  simp (maxDischargeDepth := 60) +contextual only [emuCtrlWrite_kept, onCW_kept, h, implies_true]

theorem emuStep_kept {z0 : State} (d m : Nat) (s : State) (h : Kept z0 s) :
    Kept z0 (emuStep d m s) := by
  unfold emuStep
  simp (maxDischargeDepth := 60) +contextual only [emuPins_kept, modEmu_kept, on_kept, onlyIf_kept, put_kept, h,
      apply_ite (Kept z0), ite_self, implies_true]

theorem execEmuStep_kept {z0 : State} (d : CDie) (m : Fin 2) (s : State) (h : Kept z0 s) :
    OutKept z0 (execEmuStep d m s) := by
  unfold execEmuStep
  simp (maxDischargeDepth := 60) +contextual only [emuStep_kept, onC_kept, h, implies_true]

theorem fbWrite_kept {z0 : State} (d n o : Nat) (v : Word) (s : State) (h : Kept z0 s) :
    Kept z0 (fbWrite d n o v s) := by
  unfold fbWrite
  simp (maxDischargeDepth := 60) +contextual only [fbCtrlWrite_kept, fbEvtWrite_kept, on_kept, plainWrite_kept, h,
      apply_ite (Kept z0), ite_self]

theorem emuWrite_kept {z0 : State} (d m o : Nat) (v : Word) (s : State) (h : Kept z0 s) :
    Kept z0 (emuWrite d m o v s) := by
  unfold emuWrite
  simp (maxDischargeDepth := 60) +contextual only [emuCtrlWrite_kept, plainWrite_kept, h, apply_ite (Kept z0), ite_self]

theorem fbReset_kept {z0 : State} (d n : Nat) (s : State) (h : Kept z0 s) :
    Kept z0 (fbReset d n s) := by
  unfold fbReset
  simp (maxDischargeDepth := 60) +contextual only [endActive_kept, modFb_kept, h, kept_regsFilter]

/-! ### Machine/FieldCalc.lean -/

theorem setPreset_kept {z0 : State} (d n sl : Nat) (z : Int) (s : State) (h : Kept z0 s) :
    Kept z0 (setPreset d n sl z s) := by
  unfold setPreset
  simp (maxDischargeDepth := 60) +contextual only [modEng_kept, h]

theorem cancelPreset_kept {z0 : State} (d n sl : Nat) (s : State) (h : Kept z0 s) :
    Kept z0 (cancelPreset d n sl s) := by
  unfold cancelPreset
  simp (maxDischargeDepth := 60) +contextual only [modEng_kept, h]

theorem fieldStatus_kept {z0 : State} (d a : Nat) (s : State) (h : Kept z0 s) :
    Kept z0 (fieldStatus d a s) := by
  unfold fieldStatus
  simp (maxDischargeDepth := 60) +contextual only [put_kept, puti_kept, h]

theorem srcLater_kept {z0 : State} (d due ix v : Nat) (s : State) (h : Kept z0 s) :
    Kept z0 (srcLater d due ix v s) := by
  unfold srcLater
  simp (maxDischargeDepth := 60) +contextual only [modLoop_kept, h]

theorem srcShow_kept {z0 : State} (d : Nat) (e : Nat × Nat × Nat) (s : State) (h : Kept z0 s) :
    Kept z0 (srcShow d e s) := by
  unfold srcShow
  simp (maxDischargeDepth := 60) +contextual only [put_kept, srcSet_kept, h, apply_ite (Kept z0), ite_self]

theorem dCurrent_kept {z0 : State} (d a : Nat) (z : Int) (s : State) (h : Kept z0 s) :
    Kept z0 (dCurrent d a z s) := by
  unfold dCurrent
  simp (maxDischargeDepth := 60) +contextual only [modLoop_kept, srcShow_kept, h]

theorem fieldRequest_kept {z0 : State} (d a : Nat) (s : State) (h : Kept z0 s) :
    Kept z0 (fieldRequest d a s) := by
  unfold fieldRequest
  simp (maxDischargeDepth := 60) +contextual only [cancelPreset_kept, fieldStatus_kept, put_kept, puti_kept,
      setPreset_kept, srcLater_kept, h, apply_ite (Kept z0), ite_self]

theorem ripple_kept {z0 : State} (d a v : Nat) (s : State) (h : Kept z0 s) :
    Kept z0 (ripple d a v s) := by
  unfold ripple
  simp (maxDischargeDepth := 60) +contextual only [modAxr_kept, h]

theorem fieldStore_kept {z0 : State} (d a k v : Nat) (s : State) (h : Kept z0 s) :
    Kept z0 (fieldStore d a k v s) := by
  unfold fieldStore
  simp (maxDischargeDepth := 60) +contextual only [fieldRequest_kept, fieldStatus_kept, modAxr_kept, modLoop_kept,
      ripple_kept, h, apply_ite (Kept z0), ite_self]

theorem fieldVdc_kept {z0 : State} (d b : Nat) (s : State) (h : Kept z0 s) :
    Kept z0 (fieldVdc d b s) := by
  unfold fieldVdc
  simp (maxDischargeDepth := 60) +contextual only [fieldStatus_kept, off_kept, on_kept, overN_kept, srcSet_kept, h,
      apply_ite (Kept z0), ite_self, implies_true]

theorem battRefresh_kept {z0 : State} (d b : Nat) (s : State) (h : Kept z0 s) :
    Kept z0 (battRefresh d b s) := by
  unfold battRefresh
  simp (maxDischargeDepth := 60) +contextual only [fieldStatus_kept, overN_kept, put_kept, h, implies_true]

theorem battTemp_kept {z0 : State} (d b v : Nat) (s : State) (h : Kept z0 s) :
    Kept z0 (battTemp d b v s) := by
  unfold battTemp
  simp (maxDischargeDepth := 60) +contextual only [battRefresh_kept, modLoop_kept, off_kept, put_kept, h]

theorem battChannel_kept {z0 : State} (d c v : Nat) (s : State) (h : Kept z0 s) :
    Kept z0 (battChannel d c v s) := by
  unfold battChannel
  simp (maxDischargeDepth := 60) +contextual only [battTemp_kept, overN_kept, h, apply_ite (Kept z0), ite_self,
      implies_true]

/-! ### Machine/Weir.lean -/

theorem srcTouch_kept {z0 : State} (d ix : Nat) (s : State) (h : Kept z0 s) :
    Kept z0 (srcTouch d ix s) := by
  unfold srcTouch
  simp (maxDischargeDepth := 60) +contextual only [modLoop_kept, h]

theorem weirTrack_kept {z0 : State} (d w : Nat) (s : State) (h : Kept z0 s) :
    Kept z0 (weirTrack d w s) := by
  unfold weirTrack
  simp (maxDischargeDepth := 60) +contextual only [cancelPreset_kept, overN_kept, put_kept, setPreset_kept, h,
      apply_ite (Kept z0), ite_self, implies_true]

theorem weirLater_kept {z0 : State} (d w : Nat) (s : State) (h : Kept z0 s) :
    Kept z0 (weirLater d w s) := by
  unfold weirLater
  simp (maxDischargeDepth := 60) +contextual only [modLoop_kept, h]

theorem weirEval_kept {z0 : State} (d w : Nat) (s : State) (h : Kept z0 s) :
    Kept z0 (weirEval d w s) := by
  unfold weirEval
  simp (maxDischargeDepth := 60) +contextual only [on_kept, overN_kept, put_kept, puti_kept, srcLater_kept,
      statWeir_kept, weirTrack_kept, h, apply_ite (Kept z0), ite_self, implies_true]

theorem weirStoreY_kept {z0 : State} (d w j v : Nat) (s : State) (h : Kept z0 s) :
    Kept z0 (weirStoreY d w j v s) := by
  unfold weirStoreY
  simp (maxDischargeDepth := 60) +contextual only [endActive_kept, modLoop_kept, put_kept, weirLater_kept, h,
      apply_ite (Kept z0), ite_self]

theorem weirStaleAt_kept {z0 : State} (d w j : Nat) (s : State) (h : Kept z0 s) :
    Kept z0 (weirStaleAt d w j s) := by
  unfold weirStaleAt
  simp (maxDischargeDepth := 60) +contextual only [latchFault_kept, modLoop_kept, on_kept, weirLater_kept, h,
      apply_ite (Kept z0), ite_self]

theorem weirWatch_kept {z0 : State} (d w : Nat) (s : State) (h : Kept z0 s) :
    Kept z0 (weirWatch d w s) := by
  unfold weirWatch
  simp (maxDischargeDepth := 60) +contextual only [overN_kept, weirStaleAt_kept, h, apply_ite (Kept z0), ite_self,
      implies_true]

theorem weirMan_kept {z0 : State} (d w : Nat) (s : State) (h : Kept z0 s) :
    Kept z0 (weirMan d w s) := by
  unfold weirMan
  simp (maxDischargeDepth := 60) +contextual only [on_kept, put_kept, srcLater_kept, h]

theorem weirCfgWrite_kept {z0 : State} (d w : Nat) (v : Word) (s : State) (h : Kept z0 s) :
    Kept z0 (weirCfgWrite d w v s) := by
  unfold weirCfgWrite
  simp (maxDischargeDepth := 60) +contextual only [on_kept, onlyIf_kept, plainWrite_kept, weirMan_kept, h,
      apply_ite (Kept z0), ite_self, implies_true]

theorem weirWrite_kept {z0 : State} (d w o : Nat) (v : Word) (s : State) (h : Kept z0 s) :
    Kept z0 (weirWrite d w o v s) := by
  unfold weirWrite
  simp (maxDischargeDepth := 60) +contextual only [plainWrite_kept, weirCfgWrite_kept, weirLater_kept, h,
      apply_ite (Kept z0), ite_self]

theorem chShow_kept {z0 : State} (d : Nat) (e : Nat × Nat) (s : State) (h : Kept z0 s) :
    Kept z0 (chShow d e s) := by
  unfold chShow
  simp (maxDischargeDepth := 60) +contextual only [battChannel_kept, put_kept, h]

theorem chStore_kept {z0 : State} (d c v : Nat) (s : State) (h : Kept z0 s) :
    Kept z0 (chStore d c v s) := by
  unfold chStore
  simp (maxDischargeDepth := 60) +contextual only [modLoop_kept, peerFlits_kept, h, apply_ite (Kept z0), ite_self]

theorem chValWrite_kept {z0 : State} (d c : Nat) (v : Word) (s : State) (h : Kept z0 s) :
    Kept z0 (chValWrite d c v s) := by
  unfold chValWrite
  simp (maxDischargeDepth := 60) +contextual only [chStore_kept, on_kept, h, apply_ite (Kept z0), ite_self]

theorem spWrite_kept {z0 : State} (d k : Nat) (v : Word) (s : State) (h : Kept z0 s) :
    Kept z0 (spWrite d k v s) := by
  unfold spWrite
  simp (maxDischargeDepth := 60) +contextual only [plainWrite_kept, srcTouch_kept, h]

theorem dutyStore_kept {z0 : State} (d k : Nat) (b : Bool) (duty : Nat) (s : State) (h : Kept z0 s) :
    Kept z0 (dutyStore d k b duty s) := by
  unfold dutyStore
  simp (maxDischargeDepth := 60) +contextual only [put_kept, h]

theorem loadallArm_kept {z0 : State} (d g : Nat) (s : State) (h : Kept z0 s) :
    Kept z0 (loadallArm d g s) := by
  unfold loadallArm
  simp (maxDischargeDepth := 60) +contextual only [putBit_kept, h]

theorem fabricStore_kept {z0 : State} (d n dst : Nat) (acc : Int) (s : State) (h : Kept z0 s) :
    Kept z0 (fabricStore d n dst acc s) := by
  unfold fabricStore
  simp (maxDischargeDepth := 60) +contextual only [chStore_kept, dutyStore_kept, fieldStore_kept, loadallArm_kept,
      on_kept, onlyIf_kept, put_kept, weirStoreY_kept, h, apply_ite (Kept z0), ite_self, implies_true]

/-! ### Machine/Loop.lean -/

theorem applyHeldW_kept {z0 : State} (d n : Nat) (s : State) (h : Kept z0 s) :
    Kept z0 (applyHeldW d n s) := by
  unfold applyHeldW
  simp (maxDischargeDepth := 60) +contextual only [modEng_kept, on_kept, put_kept, setReg_kept, h, apply_ite (Kept z0),
      ite_self, kept_foldl, implies_true]

theorem setAcc_kept {z0 : State} (d n : Nat) (z : Int) (s : State) (h : Kept z0 s) :
    Kept z0 (setAcc d n z s) := by
  unfold setAcc
  simp (maxDischargeDepth := 60) +contextual only [modEng_kept, on_kept, onlyIf_kept, h, implies_true]

theorem opndSat_kept {z0 : State} (d n x : Nat) (s : State) (h : Kept z0 s) :
    Kept z0 (opndSat d n x s) := by
  unfold opndSat
  simp (maxDischargeDepth := 60) +contextual only [on_kept, h, apply_ite (Kept z0), ite_self]

theorem noteProd_kept {z0 : State} (d n : Nat) (w : StepW) (s : State) (h : Kept z0 s) :
    Kept z0 (noteProd d n w s) := by
  unfold noteProd
  simp (maxDischargeDepth := 60) +contextual only [on_kept, onlyIf_kept, opndSat_kept, h, implies_true]

theorem snapshot_kept {z0 : State} (d n p : Nat) (s : State) (h : Kept z0 s) :
    Kept z0 (snapshot d n p s) := by
  unfold snapshot
  simp (maxDischargeDepth := 60) +contextual only [modEng_kept, put_kept, h, apply_ite (Kept z0), ite_self]

theorem portStore_kept {z0 : State} (d n q : Nat) (s : State) (h : Kept z0 s) :
    Kept z0 (portStore d n q s) := by
  unfold portStore
  simp (maxDischargeDepth := 60) +contextual only [fabricStore_kept, modEng_kept, h, apply_ite (Kept z0), ite_self]

theorem storeSlot_kept {z0 : State} (d n k : Nat) (s : State) (h : Kept z0 s) :
    Kept z0 (storeSlot d n k s) := by
  unfold storeSlot
  simp (maxDischargeDepth := 60) +contextual only [putBit_kept, putSlot_kept, h]

theorem storeW_kept {z0 : State} (d n k : Nat) (s : State) (h : Kept z0 s) :
    Kept z0 (storeW d n k s) := by
  unfold storeW
  simp (maxDischargeDepth := 60) +contextual only [on_kept, onlyIf_kept, puti_kept, h, implies_true]

theorem runStep_kept {z0 : State} (d n : Nat) (w : StepW) (s : State) (h : Kept z0 s) :
    Kept z0 (runStep d n w s) := by
  unfold runStep
  split <;> simp (maxDischargeDepth := 60) +contextual only [noteProd_kept, opndSat_kept, portStore_kept, puti_kept,
      setAcc_kept, storeSlot_kept, storeW_kept, h]

theorem applyPresets_kept {z0 : State} (d n : Nat) (s : State) (h : Kept z0 s) :
    Kept z0 (applyPresets d n s) := by
  unfold applyPresets
  try dsimp only
  refine modEng_kept _ _ _ _ (overN_kept _ _ _ (fun k t ht => ?_) h)
  try dsimp only
  split
  · exact putSlot_kept _ _ _ _ _ ht
  · exact ht

theorem spTrack_kept {z0 : State} (d n : Nat) (s : State) (h : Kept z0 s) :
    Kept z0 (spTrack d n s) := by
  unfold spTrack
  simp (maxDischargeDepth := 60) +contextual only [put_kept, h, apply_ite (Kept z0), ite_self]

theorem mailTwin_kept {z0 : State} (d n : Nat) (s : State) (h : Kept z0 s) :
    Kept z0 (mailTwin d n s) := by
  unfold mailTwin
  split <;> simp (maxDischargeDepth := 60) +contextual only [modEng_kept, h, apply_ite (Kept z0), ite_self]

theorem runBegin_kept {z0 : State} (d n ecc atStep : Nat) (s : State) (h : Kept z0 s) :
    Kept z0 (runBegin d n ecc atStep s) := by
  unfold runBegin
  simp (maxDischargeDepth := 60) +contextual only [modEng_kept, off_kept, on_kept, h]

theorem overrun_kept {z0 : State} (d n : Nat) (s : State) (h : Kept z0 s) :
    Kept z0 (overrun d n s) := by
  unfold overrun
  simp (maxDischargeDepth := 60) +contextual only [count_kept, latchFault_kept, on_kept, statEng_kept, h]

theorem catchEnds_kept {z0 : State} (d n : Nat) (s : State) (h : Kept z0 s) :
    Kept z0 (catchEnds d n s) := by
  unfold catchEnds
  simp (maxDischargeDepth := 60) +contextual only [fieldStatus_kept, modAxr_kept, overN_kept, h, apply_ite (Kept z0),
      ite_self, implies_true]

theorem engineStartEcc_kept {z0 : State} (d n ecc atStep : Nat) (s : State) (h : Kept z0 s) :
    Kept z0 (engineStartEcc d n ecc atStep s) := by
  unfold engineStartEcc
  simp (maxDischargeDepth := 60) +contextual only [applyHeldW_kept, applyPresets_kept, catchEnds_kept, mailTwin_kept,
      overN_kept, overrun_kept, runBegin_kept, snapshot_kept, spTrack_kept, h, apply_ite (Kept z0), ite_self, implies_true]

theorem engineStart_kept {z0 : State} (d n : Nat) (s : State) (h : Kept z0 s) :
    Kept z0 (engineStart d n s) := by
  unfold engineStart
  simp (maxDischargeDepth := 60) +contextual only [engineStartEcc_kept, h]

theorem engineTrigger_kept {z0 : State} (d n kind : Nat) (s : State) (h : Kept z0 s) :
    Kept z0 (engineTrigger d n kind s) := by
  unfold engineTrigger
  simp (maxDischargeDepth := 60) +contextual only [engineStart_kept, h, apply_ite (Kept z0), ite_self]

theorem execEngineStart_kept {z0 : State} (d : CDie) (n : Fin 64) (kind : Fin 5) (k : Fin 8) (ecc : Fin 3) (atStep : Fin 129) (s : State) (h : Kept z0 s) :
    OutKept z0 (execEngineStart d n kind k ecc atStep s) := by
  unfold execEngineStart
  simp (maxDischargeDepth := 60) +contextual only [engineStartEcc_kept, onC_kept, onlyIf_kept, tkDisturb_kept, h,
      apply_ite (Kept z0), ite_self, implies_true]

theorem ferrCheck_kept {z0 : State} (d n : Nat) (s : State) (h : Kept z0 s) :
    Kept z0 (ferrCheck d n s) := by
  unfold ferrCheck
  simp (maxDischargeDepth := 60) +contextual only [count_kept, endActive_kept, latchFault_kept, modEng_kept, on_kept,
      put_kept, h, apply_ite (Kept z0), ite_self]

theorem twinCompare_kept {z0 : State} (e t : Nat) (s : State) (h : Kept z0 s) :
    Kept z0 (twinCompare e t s) := by
  unfold twinCompare
  split <;> simp (maxDischargeDepth := 60) +contextual only [modEng_kept, on_kept, h, apply_ite (Kept z0), ite_self]

theorem ownerMirror_kept {z0 : State} (d n : Nat) (s : State) (h : Kept z0 s) :
    Kept z0 (ownerMirror d n s) := by
  unfold ownerMirror
  split <;> simp (maxDischargeDepth := 60) +contextual only [modEng_kept, overN_kept, putSlot_kept, put_kept,
      twinCompare_kept, h, apply_ite (Kept z0), ite_self, implies_true]

theorem twinEnd_kept {z0 : State} (d n : Nat) (s : State) (h : Kept z0 s) :
    Kept z0 (twinEnd d n s) := by
  unfold twinEnd
  simp (maxDischargeDepth := 60) +contextual only [modEng_kept, twinCompare_kept, h, apply_ite (Kept z0), ite_self]

theorem runEnd_kept {z0 : State} (d n : Nat) (s : State) (h : Kept z0 s) :
    Kept z0 (runEnd d n s) := by
  unfold runEnd
  simp (maxDischargeDepth := 60) +contextual only [applyHeldW_kept, engStop_kept, ferrCheck_kept, modEng_kept,
      ownerMirror_kept, put_kept, statRun_kept, twinEnd_kept, h]

theorem execEngineRunEnd_kept {z0 : State} (d : CDie) (n : Fin 64) (s : State) (h : Kept z0 s) :
    OutKept z0 (execEngineRunEnd d n s) := by
  unfold execEngineRunEnd
  simp (maxDischargeDepth := 60) +contextual only [onC_kept, runEnd_kept, h, apply_ite (Kept z0), ite_self, implies_true]

theorem engineEccFault_kept {z0 : State} (d n : Nat) (s : State) (h : Kept z0 s) :
    Kept z0 (engineEccFault d n s) := by
  unfold engineEccFault
  simp (maxDischargeDepth := 60) +contextual only [engStop_kept, latchFault_kept, on_kept, h]

theorem stepDone_kept {z0 : State} (d n : Nat) (over_ : Bool) (s : State) (h : Kept z0 s) :
    Kept z0 (stepDone d n over_ s) := by
  unfold stepDone
  simp (maxDischargeDepth := 60) +contextual only [modEng_kept, h]

theorem waitfTake_kept {z0 : State} (d n : Nat) (w : StepW) (s : State) (h : Kept z0 s) :
    Kept z0 (waitfTake d n w s) := by
  unfold waitfTake
  simp (maxDischargeDepth := 60) +contextual only [fireCue_kept, off_kept, onlyIf_kept, snapshot_kept, spTrack_kept,
      stepDone_kept, h, implies_true]

theorem waitfEnd_kept {z0 : State} (d n : Nat) (s : State) (h : Kept z0 s) :
    Kept z0 (waitfEnd d n s) := by
  unfold waitfEnd
  simp (maxDischargeDepth := 60) +contextual only [latchFault_kept, modEng_kept, on_kept, runEnd_kept, statEng_kept, h]

theorem engExec_kept {z0 : State} (d n : Nat) (s : State) (h : Kept z0 s) :
    Kept z0 (engExec d n s) := by
  unfold engExec
  simp (maxDischargeDepth := 60) +contextual only [fireCue_kept, modEng_kept, on_kept, onlyIf_kept, runStep_kept,
      stepDone_kept, waitfTake_kept, h, apply_ite (Kept z0), ite_self, implies_true]

theorem engEcc_kept {z0 : State} (d n : Nat) (s : State) (h : Kept z0 s) :
    Kept z0 (engEcc d n s) := by
  unfold engEcc
  split <;> simp (maxDischargeDepth := 60) +contextual only [engineEccFault_kept, latchFault_kept, modEng_kept, on_kept,
      h, apply_ite (Kept z0), ite_self]

theorem engCycle_kept {z0 : State} (d n : Nat) (s : State) (h : Kept z0 s) :
    Kept z0 (engCycle d n s) := by
  unfold engCycle
  simp (maxDischargeDepth := 60) +contextual only [applyHeldW_kept, engEcc_kept, engExec_kept, runEnd_kept,
      waitfEnd_kept, h, apply_ite (Kept z0), ite_self]

theorem timerStart_kept {z0 : State} (d n : Nat) (s : State) (h : Kept z0 s) :
    Kept z0 (timerStart d n s) := by
  unfold timerStart
  simp (maxDischargeDepth := 60) +contextual only [engineStart_kept, h, apply_ite (Kept z0), ite_self]

theorem execWaitfResume_kept {z0 : State} (d : CDie) (n : Fin 64) (s : State) (h : Kept z0 s) :
    OutKept z0 (execWaitfResume d n s) := by
  unfold execWaitfResume
  simp (maxDischargeDepth := 60) +contextual only [onC_kept, waitfTake_kept, h, apply_ite (Kept z0), ite_self, implies_true]

theorem execWaitfTimeout_kept {z0 : State} (d : CDie) (n : Fin 64) (s : State) (h : Kept z0 s) :
    OutKept z0 (execWaitfTimeout d n s) := by
  unfold execWaitfTimeout
  simp (maxDischargeDepth := 60) +contextual only [onC_kept, waitfEnd_kept, h, apply_ite (Kept z0), ite_self, implies_true]

theorem execHeldWriteApply_kept {z0 : State} (d : CDie) (n : Fin 64) (s : State) (h : Kept z0 s) :
    OutKept z0 (execHeldWriteApply d n s) := by
  unfold execHeldWriteApply
  simp (maxDischargeDepth := 60) +contextual only [applyHeldW_kept, onC_kept, h, implies_true]

theorem twinStart_kept {z0 : State} (d t ecc atStep : Nat) (s : State) (h : Kept z0 s) :
    Kept z0 (twinStart d t ecc atStep s) := by
  unfold twinStart
  split <;> simp (maxDischargeDepth := 60) +contextual only [applyHeldW_kept, applyPresets_kept, modEng_kept, overN_kept,
      put_kept, runBegin_kept, h, apply_ite (Kept z0), ite_self, implies_true]

theorem execTwinStart_kept {z0 : State} (d : CDie) (t : Fin 64) (ecc : Fin 3) (atStep : Fin 129) (s : State) (h : Kept z0 s) :
    OutKept z0 (execTwinStart d t ecc atStep s) := by
  unfold execTwinStart
  simp (maxDischargeDepth := 60) +contextual only [onC_kept, twinStart_kept, h, implies_true]

theorem modeWrite_kept {z0 : State} (d n mode : Nat) (s : State) (h : Kept z0 s) :
    Kept z0 (modeWrite d n mode s) := by
  unfold modeWrite
  simp (maxDischargeDepth := 60) +contextual only [applyHeldW_kept, engStop_kept, on_kept, put_kept, h,
      apply_ite (Kept z0), ite_self]

theorem engCfgWrite_kept {z0 : State} (d n : Nat) (v : Word) (s : State) (h : Kept z0 s) :
    Kept z0 (engCfgWrite d n v s) := by
  unfold engCfgWrite
  simp (maxDischargeDepth := 60) +contextual only [modeWrite_kept, plainWrite_kept, h, apply_ite (Kept z0), ite_self]

theorem execEngineModeWrite_kept {z0 : State} (d : CDie) (n : Fin 63) (v : Word) (s : State) (h : Kept z0 s) :
    OutKept z0 (execEngineModeWrite d n v s) := by
  unfold execEngineModeWrite
  simp (maxDischargeDepth := 60) +contextual only [engCfgWrite_kept, onCW_kept, h, implies_true]

theorem swapWrite_kept {z0 : State} (d n : Nat) (s : State) (h : Kept z0 s) :
    Kept z0 (swapWrite d n s) := by
  unfold swapWrite
  simp (maxDischargeDepth := 60) +contextual only [applyHeldW_kept, modEng_kept, on_kept, h, apply_ite (Kept z0), ite_self]

theorem execBankSwap_kept {z0 : State} (d : CDie) (n : Fin 63) (s : State) (h : Kept z0 s) :
    OutKept z0 (execBankSwap d n s) := by
  unfold execBankSwap
  simp (maxDischargeDepth := 60) +contextual only [onCW_kept, swapWrite_kept, h, implies_true]

theorem heldWrite_kept {z0 : State} (d n off : Nat) (v : Word) (s : State) (h : Kept z0 s) :
    Kept z0 (heldWrite d n off v s) := by
  unfold heldWrite
  (repeat' split) <;> simp (maxDischargeDepth := 60) +contextual only [applyHeldW_kept, modEng_kept, plainWrite_kept, h]

theorem engEvtWrite_kept {z0 : State} (d n : Nat) (v : Word) (s : State) (h : Kept z0 s) :
    Kept z0 (engEvtWrite d n v s) := by
  unfold engEvtWrite
  simp (maxDischargeDepth := 60) +contextual only [endActive_kept, on_kept, onlyIf_kept, plainWrite_kept, h,
      apply_ite (Kept z0), ite_self, implies_true]

theorem engWrite_kept {z0 : State} (d n o : Nat) (v : Word) (s : State) (h : Kept z0 s) :
    Kept z0 (engWrite d n o v s) := by
  unfold engWrite
  split <;> simp (maxDischargeDepth := 60) +contextual only [applyHeldW_kept, engCfgWrite_kept, engEvtWrite_kept,
      engineStart_kept, heldWrite_kept, on_kept, plainWrite_kept, put_kept, swapWrite_kept, h, apply_ite (Kept z0),
      ite_self]

theorem progWrite_kept {z0 : State} (d n o : Nat) (v : Word) (s : State) (h : Kept z0 s) :
    Kept z0 (progWrite d n o v s) := by
  unfold progWrite
  simp (maxDischargeDepth := 60) +contextual only [on_kept, setReg_kept, h, apply_ite (Kept z0), ite_self]

theorem loopWrite_kept {z0 : State} (d off : Nat) (v : Word) (s : State) (h : Kept z0 s) :
    Kept z0 (loopWrite d off v s) := by
  unfold loopWrite
  simp (maxDischargeDepth := 60) +contextual only [chValWrite_kept, plainWrite_kept, spWrite_kept, h,
      apply_ite (Kept z0), ite_self]

theorem execChannelSoftwareWrite_kept {z0 : State} (d : CDie) (c : Byte) (v : Word) (s : State) (h : Kept z0 s) :
    OutKept z0 (execChannelSoftwareWrite d c v s) := by
  unfold execChannelSoftwareWrite
  simp (maxDischargeDepth := 60) +contextual only [chValWrite_kept, onCW_kept, h, implies_true]

theorem execMirrorChannelWrite_kept {z0 : State} (d : CDie) (c : Byte) (v : BitVec 16) (s : State) (h : Kept z0 s) :
    OutKept z0 (execMirrorChannelWrite d c v s) := by
  unfold execMirrorChannelWrite
  simp (maxDischargeDepth := 60) +contextual only [chStore_kept, onC_kept, h, apply_ite (Kept z0), ite_self, implies_true]

theorem execSetpointWrite_kept {z0 : State} (d : CDie) (k : Fin 32) (v : Word) (s : State) (h : Kept z0 s) :
    OutKept z0 (execSetpointWrite d k v s) := by
  unfold execSetpointWrite
  simp (maxDischargeDepth := 60) +contextual only [onCW_kept, spWrite_kept, h, implies_true]

theorem weirTurn_kept {z0 : State} (d w : Nat) (s : State) (h : Kept z0 s) :
    Kept z0 (weirTurn d w s) := by
  unfold weirTurn
  simp (maxDischargeDepth := 60) +contextual only [modLoop_kept, weirEval_kept, h, apply_ite (Kept z0), ite_self]

theorem execWeirEvaluate_kept {z0 : State} (d : CDie) (w : Fin 64) (s : State) (h : Kept z0 s) :
    OutKept z0 (execWeirEvaluate d w s) := by
  unfold execWeirEvaluate
  simp (maxDischargeDepth := 60) +contextual only [onC_kept, weirTurn_kept, h, implies_true]

theorem loopShow_kept {z0 : State} (d : Nat) (s : State) (h : Kept z0 s) :
    Kept z0 (loopShow d s) := by
  unfold loopShow
  simp (maxDischargeDepth := 60) +contextual only [chShow_kept, modLoop_kept, srcShow_kept, h, kept_foldl, implies_true]

theorem loopCycle_kept {z0 : State} (d : Nat) (s : State) (h : Kept z0 s) :
    Kept z0 (loopCycle d s) := by
  unfold loopCycle
  simp (maxDischargeDepth := 60) +contextual only [engCycle_kept, loopShow_kept, modLoop_kept, overL_kept, overN_kept,
      timerStart_kept, weirEval_kept, weirWatch_kept, h, apply_ite (Kept z0), ite_self, implies_true]

theorem execWeirInputStale_kept {z0 : State} (d : CDie) (w : Fin 64) (j : Fin 4) (s : State) (h : Kept z0 s) :
    OutKept z0 (execWeirInputStale d w j s) := by
  unfold execWeirInputStale
  simp (maxDischargeDepth := 60) +contextual only [onC_kept, weirStaleAt_kept, h, implies_true]

theorem execWeirManualValueWrite_kept {z0 : State} (d : CDie) (w : Fin 64) (v : Word) (s : State) (h : Kept z0 s) :
    OutKept z0 (execWeirManualValueWrite d w v s) := by
  unfold execWeirManualValueWrite
  simp (maxDischargeDepth := 60) +contextual only [onCW_kept, weirWrite_kept, h, implies_true]

theorem execWeirEnableWrite_kept {z0 : State} (d : CDie) (w : Fin 64) (v : Word) (s : State) (h : Kept z0 s) :
    OutKept z0 (execWeirEnableWrite d w v s) := by
  unfold execWeirEnableWrite
  simp (maxDischargeDepth := 60) +contextual only [onCW_kept, weirCfgWrite_kept, h, implies_true]

/-! ### Machine/PwmRun.lean -/

theorem enNote_kept {z0 : State} (d a code : Nat) (s : State) (h : Kept z0 s) :
    Kept z0 (enNote d a code s) := by
  unfold enNote
  simp (maxDischargeDepth := 60) +contextual only [on_kept, onlyIf_kept, put_kept, h, implies_true]

theorem enRequest_kept {z0 : State} (d a : Nat) (s : State) (h : Kept z0 s) :
    Kept z0 (enRequest d a s) := by
  unfold enRequest
  simp (maxDischargeDepth := 60) +contextual only [enNote_kept, hoCancelFor_kept, modPwm_kept, onlyIf_kept, overL_kept,
      putBit_kept, h, apply_ite (Kept z0), ite_self, implies_true]

theorem fieldIdle_kept {z0 : State} (d a : Nat) (s : State) (h : Kept z0 s) :
    Kept z0 (fieldIdle d a s) := by
  unfold fieldIdle
  simp (maxDischargeDepth := 60) +contextual only [fieldStatus_kept, modAxr_kept, put_kept, h]

theorem fieldReport_kept {z0 : State} (d a code op : Nat) (s : State) (h : Kept z0 s) :
    Kept z0 (fieldReport d a code op s) := by
  unfold fieldReport
  simp (maxDischargeDepth := 60) +contextual only [on_kept, onlyIf_kept, put_kept, h, implies_true]

theorem fieldReverse_kept {z0 : State} (d a : Nat) (s : State) (h : Kept z0 s) :
    Kept z0 (fieldReverse d a s) := by
  unfold fieldReverse
  simp (maxDischargeDepth := 60) +contextual only [fieldStatus_kept, modAxr_kept, put_kept, h]

theorem fieldEnable_kept {z0 : State} (d a : Nat) (s : State) (h : Kept z0 s) :
    Kept z0 (fieldEnable d a s) := by
  unfold fieldEnable
  simp (maxDischargeDepth := 60) +contextual only [enRequest_kept, fieldIdle_kept, fieldReport_kept, modAxr_kept,
      standbyIfIdle_kept, h, apply_ite (Kept z0), ite_self]

theorem fieldEnabled_kept {z0 : State} (d a : Nat) (s : State) (h : Kept z0 s) :
    Kept z0 (fieldEnabled d a s) := by
  unfold fieldEnabled
  simp (maxDischargeDepth := 60) +contextual only [fieldReverse_kept, fieldStatus_kept, modAxr_kept, put_kept, h,
      apply_ite (Kept z0), ite_self]

theorem runEntry_kept {z0 : State} (s : State) (h : Kept z0 s) :
    Kept z0 (runEntry s) := by
  unfold runEntry
  simp (maxDischargeDepth := 60) +contextual only [overN_kept, setDevice_kept, watchOpen_kept, h, apply_ite (Kept z0),
      ite_self, implies_true]

theorem axisTakes_kept {z0 : State} (d a : Nat) (s : State) (h : Kept z0 s) :
    Kept z0 (axisTakes d a s) := by
  unfold axisTakes
  simp (maxDischargeDepth := 60) +contextual only [fieldEnabled_kept, modPwm_kept, runEntry_kept, h, apply_ite (Kept z0),
      ite_self]

theorem pulseCount_kept {z0 : State} (d k : Nat) (dropped : Bool) (s : State) (h : Kept z0 s) :
    Kept z0 (pulseCount d k dropped s) := by
  unfold pulseCount
  simp (maxDischargeDepth := 60) +contextual only [count_kept, on_kept, statAx_kept, h, apply_ite (Kept z0), ite_self]

theorem forcedCount_kept {z0 : State} (d k : Nat) (s : State) (h : Kept z0 s) :
    Kept z0 (forcedCount d k s) := by
  unfold forcedCount
  simp (maxDischargeDepth := 60) +contextual only [count_kept, on_kept, statAx_kept, h]

theorem pairRedecide_kept {z0 : State} (d k c : Nat) (s : State) (h : Kept z0 s) :
    Kept z0 (pairRedecide d k c s) := by
  unfold pairRedecide
  dsimp only
  (repeat' split) <;> simp (maxDischargeDepth := 60) +contextual only [forcedCount_kept, modPair_kept, pulseCount_kept, h]

theorem pairTake_kept {z0 : State} (d k : Nat) (jump : Bool) (s : State) (h : Kept z0 s) :
    Kept z0 (pairTake d k jump s) := by
  unfold pairTake
  simp (maxDischargeDepth := 60) +contextual only [modPair_kept, pairRedecide_kept, h, apply_ite (Kept z0), ite_self]

theorem pairLines_kept {z0 : State} (d k : Nat) (s : State) (h : Kept z0 s) :
    Kept z0 (pairLines d k s) := by
  unfold pairLines
  simp (maxDischargeDepth := 60) +contextual only [latchFault_kept, off_kept, on_kept, put_kept, h, apply_ite (Kept z0),
      ite_self]

theorem pairCues_kept {z0 : State} (d k c : Nat) (s : State) (h : Kept z0 s) :
    Kept z0 (pairCues d k c s) := by
  unfold pairCues
  dsimp only
  (repeat' split) <;> simp (maxDischargeDepth := 60) +contextual only [fireCue_kept, h]

theorem pairLevel_kept {z0 : State} (d k c : Nat) (s : State) (h : Kept z0 s) :
    Kept z0 (pairLevel d k c s) := by
  unfold pairLevel
  simp (maxDischargeDepth := 60) +contextual only [modPair_kept, h, apply_ite (Kept z0), ite_self]

theorem pairRaw_kept {z0 : State} (d k c : Nat) (s : State) (h : Kept z0 s) :
    Kept z0 (pairRaw d k c s) := by
  unfold pairRaw
  simp (maxDischargeDepth := 60) +contextual only [modPair_kept, h]

theorem blankEnd_kept {z0 : State} (d n : Nat) (s : State) (h : Kept z0 s) :
    Kept z0 (blankEnd d n s) := by
  unfold blankEnd
  simp (maxDischargeDepth := 60) +contextual only [modTrip_kept, tripLatch_kept, h, apply_ite (Kept z0), ite_self]

theorem pairCycle_kept {z0 : State} (d k : Nat) (s : State) (h : Kept z0 s) :
    Kept z0 (pairCycle d k s) := by
  unfold pairCycle
  dsimp only
  (repeat' split) <;> simp (maxDischargeDepth := 60) +contextual only [pairCues_kept, pairLevel_kept, pairLines_kept,
      pairRaw_kept, pulseCount_kept, put_kept, h]

theorem hoBoundaryCheck_kept {z0 : State} (d : Nat) (s : State) (h : Kept z0 s) :
    Kept z0 (hoBoundaryCheck d s) := by
  unfold hoBoundaryCheck
  simp (maxDischargeDepth := 60) +contextual only [hoCancel_kept, h, apply_ite (Kept z0), ite_self]

theorem groupLoad_kept {z0 : State} (d g : Nat) (s : State) (h : Kept z0 s) :
    Kept z0 (groupLoad d g s) := by
  unfold groupLoad
  simp (maxDischargeDepth := 60) +contextual only [fireCue_kept, overL_kept, putBit_kept, put_kept, h, implies_true]

theorem groupLoadAt_kept {z0 : State} (d g : Nat) (s : State) (h : Kept z0 s) :
    Kept z0 (groupLoadAt d g s) := by
  unfold groupLoadAt
  simp (maxDischargeDepth := 60) +contextual only [groupLoad_kept, on_kept, h, apply_ite (Kept z0), ite_self]

theorem engageAt_kept {z0 : State} (d g : Nat) (s : State) (h : Kept z0 s) :
    Kept z0 (engageAt d g s) := by
  unfold engageAt
  simp (maxDischargeDepth := 60) +contextual only [fieldEnable_kept, overN_kept, h, apply_ite (Kept z0), ite_self,
      implies_true]

theorem pairEnable_kept {z0 : State} (d k : Nat) (s : State) (h : Kept z0 s) :
    Kept z0 (pairEnable d k s) := by
  unfold pairEnable
  simp (maxDischargeDepth := 60) +contextual only [axisTakes_kept, modPair_kept, h, apply_ite (Kept z0), ite_self]

theorem groupBoundary_kept {z0 : State} (d g : Nat) (jump : Bool) (s : State) (h : Kept z0 s) :
    Kept z0 (groupBoundary d g jump s) := by
  unfold groupBoundary
  dsimp only
  (repeat' split) <;> simp (maxDischargeDepth := 60) +contextual only [engageAt_kept, groupLoadAt_kept,
      hoBoundaryCheck_kept, modLg_kept, overL_kept, pairEnable_kept, pairTake_kept, h, implies_true]

theorem groupStart_kept {z0 : State} (d g : Nat) (s : State) (h : Kept z0 s) :
    Kept z0 (groupStart d g s) := by
  unfold groupStart
  simp (maxDischargeDepth := 60) +contextual only [groupBoundary_kept, modLg_kept, overL_kept, pairRest_kept,
      putBit_kept, put_kept, h, implies_true]

theorem groupCycle_kept {z0 : State} (d g : Nat) (s : State) (h : Kept z0 s) :
    Kept z0 (groupCycle d g s) := by
  unfold groupCycle
  simp (maxDischargeDepth := 60) +contextual only [groupBoundary_kept, groupStart_kept, modLg_kept, put_kept, h,
      apply_ite (Kept z0), ite_self]

theorem pwmCycle_kept {z0 : State} (d : Nat) (s : State) (h : Kept z0 s) :
    Kept z0 (pwmCycle d s) := by
  unfold pwmCycle
  simp (maxDischargeDepth := 60) +contextual only [blankEnd_kept, groupCycle_kept, overN_kept, pairCycle_kept, h,
      apply_ite (Kept z0), ite_self, implies_true]

/-! ### Machine/Field.lean -/

theorem spSource_kept {z0 : State} (d a : Nat) (s : State) (h : Kept z0 s) :
    Kept z0 (spSource d a s) := by
  unfold spSource
  simp (maxDischargeDepth := 60) +contextual only [srcSet_kept, h]

theorem startRefused_kept {z0 : State} (d a code : Nat) (s : State) (h : Kept z0 s) :
    Kept z0 (startRefused d a code s) := by
  unfold startRefused
  simp (maxDischargeDepth := 60) +contextual only [fieldIdle_kept, fieldReport_kept, h]

theorem fieldDisable_kept {z0 : State} (d a : Nat) (s : State) (h : Kept z0 s) :
    Kept z0 (fieldDisable d a s) := by
  unfold fieldDisable
  simp (maxDischargeDepth := 60) +contextual only [axisOff_kept, fieldIdle_kept, standbyIfIdle_kept, h]

theorem fieldEngage_kept {z0 : State} (d a : Nat) (spd ang q : Int) (s : State) (h : Kept z0 s) :
    Kept z0 (fieldEngage d a spd ang q s) := by
  unfold fieldEngage
  simp (maxDischargeDepth := 60) +contextual only [fieldEnable_kept, fieldStatus_kept, modAxr_kept, put_kept,
      setPreset_kept, spSource_kept, h, apply_ite (Kept z0), ite_self]

theorem fieldStart_kept {z0 : State} (d a : Nat) (s : State) (h : Kept z0 s) :
    Kept z0 (fieldStart d a s) := by
  unfold fieldStart
  simp (maxDischargeDepth := 60) +contextual only [enNote_kept, enRequest_kept, fieldEngage_kept, fieldReport_kept,
      fieldStatus_kept, modAxr_kept, off_kept, put_kept, h, apply_ite (Kept z0), ite_self]

theorem fieldStop_kept {z0 : State} (d a : Nat) (s : State) (h : Kept z0 s) :
    Kept z0 (fieldStop d a s) := by
  unfold fieldStop
  simp (maxDischargeDepth := 60) +contextual only [fieldDisable_kept, fieldStatus_kept, modAxr_kept, put_kept, h,
      apply_ite (Kept z0), ite_self]

theorem fieldCommand_kept {z0 : State} (d a op : Nat) (s : State) (h : Kept z0 s) :
    Kept z0 (fieldCommand d a op s) := by
  unfold fieldCommand
  simp (maxDischargeDepth := 60) +contextual only [fieldDisable_kept, fieldReport_kept, fieldStart_kept, fieldStop_kept,
      modAxr_kept, put_kept, h, apply_ite (Kept z0), ite_self]

theorem execFieldStart_kept {z0 : State} (d : CDie) (a : Axis) (s : State) (h : Kept z0 s) :
    OutKept z0 (execFieldStart d a s) := by
  unfold execFieldStart
  simp (maxDischargeDepth := 60) +contextual only [fieldCommand_kept, onCW_kept, h, implies_true]

theorem execFieldStop_kept {z0 : State} (d : CDie) (a : Axis) (s : State) (h : Kept z0 s) :
    OutKept z0 (execFieldStop d a s) := by
  unfold execFieldStop
  simp (maxDischargeDepth := 60) +contextual only [fieldCommand_kept, onCW_kept, h, implies_true]

theorem execFieldDisable_kept {z0 : State} (d : CDie) (a : Axis) (s : State) (h : Kept z0 s) :
    OutKept z0 (execFieldDisable d a s) := by
  unfold execFieldDisable
  simp (maxDischargeDepth := 60) +contextual only [fieldCommand_kept, onCW_kept, h, implies_true]

theorem execFieldBadCmd_kept {z0 : State} (d : CDie) (a : Axis) (op : Fin 5) (s : State) (h : Kept z0 s) :
    OutKept z0 (execFieldBadCmd d a op s) := by
  unfold execFieldBadCmd
  simp (maxDischargeDepth := 60) +contextual only [fieldCommand_kept, onCW_kept, h, implies_true]

theorem spsetTake_kept {z0 : State} (d a : Nat) (v : Word) (s : State) (h : Kept z0 s) :
    Kept z0 (spsetTake d a v s) := by
  unfold spsetTake
  simp (maxDischargeDepth := 60) +contextual only [put_kept, spSource_kept, h]

theorem spsetBefore_kept {z0 : State} (d a : Nat) (v : Word) (s : State) (h : Kept z0 s) :
    Kept z0 (spsetBefore d a v s) := by
  unfold spsetBefore
  simp (maxDischargeDepth := 60) +contextual only [on_kept, spsetTake_kept, h, apply_ite (Kept z0), ite_self]

theorem spsetWrite_kept {z0 : State} (d a : Nat) (v : Word) (s : State) (h : Kept z0 s) :
    Kept z0 (spsetWrite d a v s) := by
  unfold spsetWrite
  simp (maxDischargeDepth := 60) +contextual only [fieldReport_kept, fieldReverse_kept, fieldStatus_kept, modAxr_kept,
      put_kept, spsetBefore_kept, spsetTake_kept, h, apply_ite (Kept z0), ite_self]

theorem execSpsetWrite_kept {z0 : State} (d : CDie) (a : Axis) (v : Word) (s : State) (h : Kept z0 s) :
    OutKept z0 (execSpsetWrite d a v s) := by
  unfold execSpsetWrite
  simp (maxDischargeDepth := 60) +contextual only [onCW_kept, spsetWrite_kept, h, implies_true]

theorem effStep_kept {z0 : State} (d a : Nat) (s : State) (h : Kept z0 s) :
    Kept z0 (effStep d a s) := by
  unfold effStep
  dsimp only
  (repeat' split) <;> simp (maxDischargeDepth := 60) +contextual only [fieldDisable_kept, fieldRequest_kept,
      fieldStatus_kept, modAxr_kept, spSource_kept, h]

theorem execEffectiveSetpointUpdate_kept {z0 : State} (d : CDie) (s : State) (h : Kept z0 s) :
    OutKept z0 (execEffectiveSetpointUpdate d s) := by
  unfold execEffectiveSetpointUpdate
  simp (maxDischargeDepth := 60) +contextual only [effStep_kept, onC_kept, overN_kept, h, implies_true]

theorem alignBegin_kept {z0 : State} (d a : Nat) (s : State) (h : Kept z0 s) :
    Kept z0 (alignBegin d a s) := by
  unfold alignBegin
  simp (maxDischargeDepth := 60) +contextual only [dCurrent_kept, fieldEnable_kept, modAxr_kept, put_kept, h]

theorem alignCycle_kept {z0 : State} (d a : Nat) (s : State) (h : Kept z0 s) :
    Kept z0 (alignCycle d a s) := by
  unfold alignCycle
  simp (maxDischargeDepth := 60) +contextual only [dCurrent_kept, h, apply_ite (Kept z0), ite_self]

theorem elofsTake_kept {z0 : State} (d a found : Nat) (s : State) (h : Kept z0 s) :
    Kept z0 (elofsTake d a found s) := by
  unfold elofsTake
  simp (maxDischargeDepth := 60) +contextual only [put_kept, h]

theorem caughtTake_kept {z0 : State} (d a : Nat) (s : State) (h : Kept z0 s) :
    Kept z0 (caughtTake d a s) := by
  unfold caughtTake
  dsimp only
  (repeat' split) <;> simp (maxDischargeDepth := 60) +contextual only [elofsTake_kept, modAxr_kept, on_kept, onlyIf_kept,
      put_kept, puti_kept, h, implies_true]

theorem catchDone_kept {z0 : State} (d a : Nat) (s : State) (h : Kept z0 s) :
    Kept z0 (catchDone d a s) := by
  unfold catchDone
  simp (maxDischargeDepth := 60) +contextual only [alignBegin_kept, caughtTake_kept, fieldEngage_kept, modAxr_kept,
      startRefused_kept, h, apply_ite (Kept z0), ite_self]

theorem execCatchDone_kept {z0 : State} (d : CDie) (a : Axis) (s : State) (h : Kept z0 s) :
    OutKept z0 (execCatchDone d a s) := by
  unfold execCatchDone
  simp (maxDischargeDepth := 60) +contextual only [catchDone_kept, onC_kept, h, apply_ite (Kept z0), ite_self, implies_true]

theorem execCatchNoVoltage_kept {z0 : State} (d : CDie) (a : Axis) (s : State) (h : Kept z0 s) :
    OutKept z0 (execCatchNoVoltage d a s) := by
  unfold execCatchNoVoltage
  simp (maxDischargeDepth := 60) +contextual only [onC_kept, startRefused_kept, h, apply_ite (Kept z0), ite_self,
      implies_true]

theorem alignDone_kept {z0 : State} (d a : Nat) (s : State) (h : Kept z0 s) :
    Kept z0 (alignDone d a s) := by
  unfold alignDone
  simp (maxDischargeDepth := 60) +contextual only [axisOff_kept, elofsTake_kept, fieldEngage_kept, modAxr_kept,
      onlyIf_kept, put_kept, startRefused_kept, h, apply_ite (Kept z0), ite_self, implies_true]

theorem execAlignDone_kept {z0 : State} (d : CDie) (a : Axis) (s : State) (h : Kept z0 s) :
    OutKept z0 (execAlignDone d a s) := by
  unfold execAlignDone
  simp (maxDischargeDepth := 60) +contextual only [alignDone_kept, onC_kept, h, apply_ite (Kept z0), ite_self, implies_true]

theorem polarity_kept {z0 : State} (d a : Nat) (s : State) (h : Kept z0 s) :
    Kept z0 (polarity d a s) := by
  unfold polarity
  split <;> simp (maxDischargeDepth := 60) +contextual only [fieldStatus_kept, modAxr_kept, on_kept, h]

theorem execPolarityTest_kept {z0 : State} (d : CDie) (a : Axis) (s : State) (h : Kept z0 s) :
    OutKept z0 (execPolarityTest d a s) := by
  unfold execPolarityTest
  simp (maxDischargeDepth := 60) +contextual only [onC_kept, polarity_kept, h, implies_true]

theorem stillCycle_kept {z0 : State} (d a : Nat) (s : State) (h : Kept z0 s) :
    Kept z0 (stillCycle d a s) := by
  unfold stillCycle
  simp (maxDischargeDepth := 60) +contextual only [modAxr_kept, h, apply_ite (Kept z0), ite_self]

theorem execStopComplete_kept {z0 : State} (d : CDie) (a : Axis) (s : State) (h : Kept z0 s) :
    OutKept z0 (execStopComplete d a s) := by
  unfold execStopComplete
  simp (maxDischargeDepth := 60) +contextual only [fieldDisable_kept, onC_kept, h, apply_ite (Kept z0), ite_self,
      implies_true]

theorem execReversalDone_kept {z0 : State} (d : CDie) (a : Axis) (s : State) (h : Kept z0 s) :
    OutKept z0 (execReversalDone d a s) := by
  unfold execReversalDone
  simp (maxDischargeDepth := 60) +contextual only [fieldStatus_kept, onC_kept, on_kept, put_kept, h, apply_ite (Kept z0),
      ite_self, implies_true]

theorem execReversalTimeout_kept {z0 : State} (d : CDie) (a : Axis) (s : State) (h : Kept z0 s) :
    OutKept z0 (execReversalTimeout d a s) := by
  unfold execReversalTimeout
  simp (maxDischargeDepth := 60) +contextual only [modAxr_kept, onC_kept, on_kept, put_kept, spSource_kept, h,
      apply_ite (Kept z0), ite_self, implies_true]

theorem gridUpdate_kept {z0 : State} (d a : Nat) (s : State) (h : Kept z0 s) :
    Kept z0 (gridUpdate d a s) := by
  unfold gridUpdate
  simp (maxDischargeDepth := 60) +contextual only [modAxr_kept, put_kept, h]

theorem execGridLock_kept {z0 : State} (d : CDie) (a : Axis) (s : State) (h : Kept z0 s) :
    OutKept z0 (execGridLock d a s) := by
  unfold execGridLock
  simp (maxDischargeDepth := 60) +contextual only [endActive_kept, fieldStatus_kept, onC_kept, on_kept, h,
      apply_ite (Kept z0), ite_self, implies_true]

theorem execGridLoss_kept {z0 : State} (d : CDie) (a : Axis) (s : State) (h : Kept z0 s) :
    OutKept z0 (execGridLoss d a s) := by
  unfold execGridLoss
  simp (maxDischargeDepth := 60) +contextual only [latchFault_kept, off_kept, onC_kept, on_kept, h, apply_ite (Kept z0),
      ite_self, implies_true]

theorem fbLoss_kept {z0 : State} (d a : Nat) (s : State) (h : Kept z0 s) :
    Kept z0 (fbLoss d a s) := by
  unfold fbLoss
  simp (maxDischargeDepth := 60) +contextual only [latchFault_kept, rideOn_kept, h, apply_ite (Kept z0), ite_self]

theorem obsCycle_kept {z0 : State} (d a : Nat) (s : State) (h : Kept z0 s) :
    Kept z0 (obsCycle d a s) := by
  unfold obsCycle
  simp (maxDischargeDepth := 60) +contextual only [modAxr_kept, h, apply_ite (Kept z0), ite_self]

theorem axisCycle_kept {z0 : State} (d a : Nat) (s : State) (h : Kept z0 s) :
    Kept z0 (axisCycle d a s) := by
  unfold axisCycle
  simp (maxDischargeDepth := 60) +contextual only [alignCycle_kept, fbLoss_kept, fieldStatus_kept, gridUpdate_kept,
      obsCycle_kept, stillCycle_kept, h, apply_ite (Kept z0), ite_self]

theorem fieldCycle_kept {z0 : State} (d : Nat) (s : State) (h : Kept z0 s) :
    Kept z0 (fieldCycle d s) := by
  unfold fieldCycle
  simp (maxDischargeDepth := 60) +contextual only [axisCycle_kept, battRefresh_kept, modLoop_kept, onlyIf_kept,
      overN_kept, h, implies_true]

theorem execBatteryTempStale_kept {z0 : State} (d : CDie) (b : Fin 3) (s : State) (h : Kept z0 s) :
    OutKept z0 (execBatteryTempStale d b s) := by
  unfold execBatteryTempStale
  simp (maxDischargeDepth := 60) +contextual only [battRefresh_kept, onC_kept, on_kept, overN_kept, h,
      apply_ite (Kept z0), ite_self, implies_true]

theorem busWrite_kept {z0 : State} (d : Nat) (m : Master) (b j : Nat) (v : Word) (s : State) (h : Kept z0 s) :
    Kept z0 (busWrite d m b j v s) := by
  unfold busWrite
  simp (maxDischargeDepth := 60) +contextual only [modLoop_kept, protWrite_kept, refuseAt_kept, tkWriteIf_kept, h,
      apply_ite (Kept z0), ite_self, implies_true]

theorem execBusBatteryWrite_kept {z0 : State} (d : CDie) (m : Master) (b : Fin 3) (j : Fin 2) (v : Word) (s : State) (h : Kept z0 s) :
    OutKept z0 (execBusBatteryWrite d m b j v s) := by
  unfold execBusBatteryWrite
  simp (maxDischargeDepth := 60) +contextual only [busWrite_kept, onC_kept, h, implies_true]

theorem btempWrite_kept {z0 : State} (d b : Nat) (v : Word) (s : State) (h : Kept z0 s) :
    Kept z0 (btempWrite d b v s) := by
  unfold btempWrite
  simp (maxDischargeDepth := 60) +contextual only [battTemp_kept, put_kept, h, apply_ite (Kept z0), ite_self]

theorem fieldWrite_kept {z0 : State} (d a o : Nat) (v : Word) (s : State) (h : Kept z0 s) :
    Kept z0 (fieldWrite d a o v s) := by
  unfold fieldWrite
  split <;> simp (maxDischargeDepth := 60) +contextual only [fieldCommand_kept, fieldStatus_kept, on_kept,
      plainWrite_kept, spsetWrite_kept, h, apply_ite (Kept z0), ite_self]

/-! ### Machine/Pwm.lean -/

theorem lgCfgWrite_kept {z0 : State} (d g : Nat) (v : Word) (s : State) (h : Kept z0 s) :
    Kept z0 (lgCfgWrite d g v s) := by
  unfold lgCfgWrite
  simp (maxDischargeDepth := 60) +contextual only [blankEnd_kept, groupStop_kept, hoBoundaryCheck_kept, modLg_kept,
      off_kept, on_kept, overN_kept, plainWrite_kept, h, apply_ite (Kept z0), ite_self, implies_true]

theorem execLoadGroupEnable_kept {z0 : State} (d : CDie) (g : Fin 8) (v : Word) (s : State) (h : Kept z0 s) :
    OutKept z0 (execLoadGroupEnable d g v s) := by
  unfold execLoadGroupEnable
  simp (maxDischargeDepth := 60) +contextual only [lgCfgWrite_kept, onCW_kept, h, implies_true]

theorem syncCue_kept {z0 : State} (d k : Nat) (s : State) (h : Kept z0 s) :
    Kept z0 (syncCue d k s) := by
  unfold syncCue
  simp (maxDischargeDepth := 60) +contextual only [modLg_kept, h, apply_ite (Kept z0), ite_self]

theorem execSyncCue_kept {z0 : State} (d : CDie) (k : Fin 18) (s : State) (h : Kept z0 s) :
    OutKept z0 (execSyncCue d k s) := by
  unfold execSyncCue
  simp (maxDischargeDepth := 60) +contextual only [onC_kept, syncCue_kept, h, implies_true]

theorem execLoadallArm_kept {z0 : State} (d : CDie) (g : Fin 8) (s : State) (h : Kept z0 s) :
    OutKept z0 (execLoadallArm d g s) := by
  unfold execLoadallArm
  simp (maxDischargeDepth := 60) +contextual only [loadallArm_kept, onC_kept, h, implies_true]

theorem axisEnableWrite_kept {z0 : State} (d a : Nat) (s : State) (h : Kept z0 s) :
    Kept z0 (axisEnableWrite d a s) := by
  unfold axisEnableWrite
  simp (maxDischargeDepth := 60) +contextual only [enRequest_kept, h, apply_ite (Kept z0), ite_self]

theorem axisDisableWrite_kept {z0 : State} (d a : Nat) (s : State) (h : Kept z0 s) :
    Kept z0 (axisDisableWrite d a s) := by
  unfold axisDisableWrite
  simp (maxDischargeDepth := 60) +contextual only [axisOff_kept, standbyIfIdle_kept, h, apply_ite (Kept z0), ite_self]

theorem axenWrite_kept {z0 : State} (d : Nat) (v : Word) (s : State) (h : Kept z0 s) :
    Kept z0 (axenWrite d v s) := by
  unfold axenWrite
  simp (maxDischargeDepth := 60) +contextual only [axisDisableWrite_kept, axisEnableWrite_kept, overN_kept, h,
      apply_ite (Kept z0), ite_self, implies_true]

theorem execAxisEnable_kept {z0 : State} (d : CDie) (a : Axis) (s : State) (h : Kept z0 s) :
    OutKept z0 (execAxisEnable d a s) := by
  unfold execAxisEnable
  simp (maxDischargeDepth := 60) +contextual only [axisEnableWrite_kept, onCW_kept, h, implies_true]

theorem execAxisDisable_kept {z0 : State} (d : CDie) (a : Axis) (s : State) (h : Kept z0 s) :
    OutKept z0 (execAxisDisable d a s) := by
  unfold execAxisDisable
  simp (maxDischargeDepth := 60) +contextual only [axisDisableWrite_kept, onCW_kept, h, implies_true]

theorem execTripAssert_kept {z0 : State} (d : CDie) (n : Fin 4) (level : Bool) (held : BitVec 8) (s : State) (h : Kept z0 s) :
    OutKept z0 (execTripAssert d n level held s) := by
  unfold execTripAssert
  simp (maxDischargeDepth := 60) +contextual only [onC_kept, tripActive_kept, h, apply_ite (Kept z0), ite_self,
      implies_true]

theorem execTripInactive_kept {z0 : State} (d : CDie) (n : Fin 4) (level : Bool) (held : BitVec 8) (s : State) (h : Kept z0 s) :
    OutKept z0 (execTripInactive d n level held s) := by
  unfold execTripInactive
  simp (maxDischargeDepth := 60) +contextual only [onC_kept, tripInactive_kept, h, apply_ite (Kept z0), ite_self,
      implies_true]

theorem tripClear_kept {z0 : State} (d n : Nat) (s : State) (h : Kept z0 s) :
    Kept z0 (tripClear d n s) := by
  unfold tripClear
  simp (maxDischargeDepth := 60) +contextual only [dropCause_kept, modD_kept, off_kept, on_kept, overL_kept, overN_kept,
      putBit_kept, h, apply_ite (Kept z0), ite_self, implies_true]

theorem tripClrWrite_kept {z0 : State} (d : Nat) (v : Word) (s : State) (h : Kept z0 s) :
    Kept z0 (tripClrWrite d v s) := by
  unfold tripClrWrite
  simp (maxDischargeDepth := 60) +contextual only [overN_kept, tripClear_kept, h, apply_ite (Kept z0), ite_self,
      implies_true]

theorem execTripClear_kept {z0 : State} (d : CDie) (v : Word) (s : State) (h : Kept z0 s) :
    OutKept z0 (execTripClear d v s) := by
  unfold execTripClear
  simp (maxDischargeDepth := 60) +contextual only [onCW_kept, tripClrWrite_kept, h, implies_true]

theorem execTripBlankingEnd_kept {z0 : State} (d : CDie) (n : Fin 4) (s : State) (h : Kept z0 s) :
    OutKept z0 (execTripBlankingEnd d n s) := by
  unfold execTripBlankingEnd
  simp (maxDischargeDepth := 60) +contextual only [blankEnd_kept, onC_kept, h, implies_true]

theorem pairWrite_kept {z0 : State} (d k o : Nat) (v : Word) (s : State) (h : Kept z0 s) :
    Kept z0 (pairWrite d k o v s) := by
  unfold pairWrite
  simp (maxDischargeDepth := 60) +contextual only [on_kept, pairRest_kept, plainWrite_kept, setReg_kept, h,
      apply_ite (Kept z0), ite_self]

theorem perWrite_kept {z0 : State} (d g : Nat) (v : Word) (s : State) (h : Kept z0 s) :
    Kept z0 (perWrite d g v s) := by
  unfold perWrite
  simp (maxDischargeDepth := 60) +contextual only [on_kept, put_kept, h, apply_ite (Kept z0), ite_self]

theorem pwmGlobalWrite_kept {z0 : State} (d o : Nat) (v : Word) (s : State) (h : Kept z0 s) :
    Kept z0 (pwmGlobalWrite d o v s) := by
  unfold pwmGlobalWrite
  simp (maxDischargeDepth := 60) +contextual only [axenWrite_kept, lgCfgWrite_kept, loadallArm_kept, overN_kept,
      perWrite_kept, plainWrite_kept, tripClrWrite_kept, h, apply_ite (Kept z0), ite_self, implies_true]

end Sys2Proof.Machine
end

