-- ==== Sys2Proof/Laws/KeptSafe.lean ====
section
/-! SUPPORT. What the operations keep (`Kept`): the gate drivers, the DC link, curtains, redundant execution, thermal and self-test. -/

namespace Sys2Proof.Machine

/-! ### Machine/Drv.lean -/

theorem drvAct_kept {z0 : State} (k : Nat) (f : State → State) (s : State) (hf : ∀ (t : State),
      Kept z0 t → Kept z0 (f t)) (h : Kept z0 s) :
    Kept z0 (drvAct k f s) := by
  unfold drvAct
  simp (maxDischargeDepth := 60) +contextual only [sendStatus_kept, h, hf, apply_ite (Kept z0), ite_self]

theorem drvFault_kept {z0 : State} (k j : Nat) (s : State) (h : Kept z0 s) :
    Kept z0 (drvFault k j s) := by
  unfold drvFault
  simp (maxDischargeDepth := 60) +contextual only [modD_kept, h]

theorem inhibitLeg_kept {z0 : State} (k leg : Nat) (s : State) (h : Kept z0 s) :
    Kept z0 (inhibitLeg k leg s) := by
  unfold inhibitLeg
  simp (maxDischargeDepth := 60) +contextual only [modD_kept, h, apply_ite (Kept z0), ite_self]

theorem shootLatch_kept {z0 : State} (k leg : Nat) (s : State) (h : Kept z0 s) :
    Kept z0 (shootLatch k leg s) := by
  unfold shootLatch
  simp (maxDischargeDepth := 60) +contextual only [drvFault_kept, fireDrvCue_kept, on_kept, settleHeld_kept, h]

theorem endEarly_kept {z0 : State} (k c : Nat) (s : State) (h : Kept z0 s) :
    Kept z0 (endEarly k c s) := by
  unfold endEarly
  simp (maxDischargeDepth := 60) +contextual only [chDown_kept, modCh_kept, h, apply_ite (Kept z0), ite_self]

theorem lineEdge_kept {z0 : State} (k c : Nat) (s : State) (h : Kept z0 s) :
    Kept z0 (lineEdge k c s) := by
  unfold lineEdge
  simp (maxDischargeDepth := 60) +contextual only [modCh_kept, modLeg_kept, h]

theorem lineRise_kept {z0 : State} (d k c : Nat) (gate : Bool) (s : State) (h : Kept z0 s) :
    Kept z0 (lineRise d k c gate s) := by
  unfold lineRise
  simp (maxDischargeDepth := 60) +contextual only [chOn_kept, endEarly_kept, gateHold_kept, lineEdge_kept, modCh_kept,
      shootLatch_kept, h, apply_ite (Kept z0), ite_self]

theorem execPwmLineRise_kept {z0 : State} (d : CDie) (k : DDie) (c : Fin 6) (gate : Bool) (s : State) (h : Kept z0 s) :
    OutKept z0 (execPwmLineRise d k c gate s) := by
  unfold execPwmLineRise
  simp (maxDischargeDepth := 60) +contextual only [drvAct_kept, lineRise_kept, onDC_kept, h, implies_true]

theorem lineTelemetry_kept {z0 : State} (k c isns toff tsw : Nat) (on : Bool) (s : State) (h : Kept z0 s) :
    Kept z0 (lineTelemetry k c isns toff tsw on s) := by
  unfold lineTelemetry
  simp (maxDischargeDepth := 60) +contextual only [modD_kept, modLeg_kept, on_kept, put_kept, h, apply_ite (Kept z0),
      ite_self]

theorem lineFall_kept {z0 : State} (d k c isns toff tsw : Nat) (s : State) (h : Kept z0 s) :
    Kept z0 (lineFall d k c isns toff tsw s) := by
  unfold lineFall
  simp (maxDischargeDepth := 60) +contextual only [lineEdge_kept, lineTelemetry_kept, modCh_kept, settleCh_kept, h,
      apply_ite (Kept z0), ite_self]

theorem execPwmLineFall_kept {z0 : State} (d : CDie) (k : DDie) (c : Fin 6) (isns : BitVec 11) (toff tsw : BitVec 16) (s : State) (h : Kept z0 s) :
    OutKept z0 (execPwmLineFall d k c isns toff tsw s) := by
  unfold execPwmLineFall
  simp (maxDischargeDepth := 60) +contextual only [drvAct_kept, lineFall_kept, onDC_kept, h, implies_true]

theorem tcapArm_kept {z0 : State} (k : Nat) (s : State) (h : Kept z0 s) :
    Kept z0 (tcapArm k s) := by
  unfold tcapArm
  simp (maxDischargeDepth := 60) +contextual only [modD_kept, h]

theorem execTcapArm_kept {z0 : State} (k : DDie) (s : State) (h : Kept z0 s) :
    OutKept z0 (execTcapArm k s) := by
  unfold execTcapArm
  simp (maxDischargeDepth := 60) +contextual only [onD_kept, tcapArm_kept, h, implies_true]

theorem telmaxRead_kept {z0 : State} (d k c : Nat) (s : State) (h : Kept z0 s) :
    Kept z0 (telmaxRead d k c s) := by
  unfold telmaxRead
  simp (maxDischargeDepth := 60) +contextual only [off_kept, returnData_kept, h, apply_ite (Kept z0), ite_self]

theorem execTelmaxRead_kept {z0 : State} (d : CDie) (k : DDie) (c : Fin 6) (s : State) (h : Kept z0 s) :
    OutKept z0 (execTelmaxRead d k c s) := by
  unfold execTelmaxRead
  simp (maxDischargeDepth := 60) +contextual only [accErr_kept, onCD_kept, telmaxRead_kept, h, apply_ite (Kept z0),
      ite_self, implies_true]

theorem execShootAttempt_kept {z0 : State} (k : DDie) (leg : Fin 3) (s : State) (h : Kept z0 s) :
    OutKept z0 (execShootAttempt k leg s) := by
  unfold execShootAttempt
  simp (maxDischargeDepth := 60) +contextual only [drvAct_kept, modCh_kept, onD_kept, shootLatch_kept, h,
      apply_ite (Kept z0), ite_self, implies_true]

theorem gateSense_kept {z0 : State} (k c kind : Nat) (s : State) (h : Kept z0 s) :
    Kept z0 (gateSense k c kind s) := by
  unfold gateSense
  simp (maxDischargeDepth := 60) +contextual only [chOn_kept, drvFault_kept, modCh_kept, on_kept, settleHeld_kept,
      settle_kept, h, apply_ite (Kept z0), ite_self]

theorem execGateSenseHold_kept {z0 : State} (k : DDie) (c : Fin 6) (kind : Fin 3) (s : State) (h : Kept z0 s) :
    OutKept z0 (execGateSenseHold k c kind s) := by
  unfold execGateSenseHold
  simp (maxDischargeDepth := 60) +contextual only [drvAct_kept, gateSense_kept, onD_kept, h, implies_true]

theorem adtRelease_kept {z0 : State} (k c : Nat) (s : State) (h : Kept z0 s) :
    Kept z0 (adtRelease k c s) := by
  unfold adtRelease
  simp (maxDischargeDepth := 60) +contextual only [chOn_kept, count_kept, modCh_kept, h, apply_ite (Kept z0), ite_self]

theorem execAdtEarlyRelease_kept {z0 : State} (k : DDie) (c : Fin 6) (s : State) (h : Kept z0 s) :
    OutKept z0 (execAdtEarlyRelease k c s) := by
  unfold execAdtEarlyRelease
  simp (maxDischargeDepth := 60) +contextual only [adtRelease_kept, drvAct_kept, onD_kept, h, implies_true]

theorem railCharged_kept {z0 : State} (k leg : Nat) (s : State) (h : Kept z0 s) :
    Kept z0 (railCharged k leg s) := by
  unfold railCharged
  simp (maxDischargeDepth := 60) +contextual only [modLeg_kept, putBit_kept, settle_kept, h, apply_ite (Kept z0), ite_self]

theorem execFloatingRailCharged_kept {z0 : State} (k : DDie) (leg : Fin 3) (s : State) (h : Kept z0 s) :
    OutKept z0 (execFloatingRailCharged k leg s) := by
  unfold execFloatingRailCharged
  simp (maxDischargeDepth := 60) +contextual only [drvAct_kept, onD_kept, railCharged_kept, h, implies_true]

theorem railLow_kept {z0 : State} (k rail : Nat) (s : State) (h : Kept z0 s) :
    Kept z0 (railLow k rail s) := by
  unfold railLow
  simp (maxDischargeDepth := 60) +contextual only [count_kept, drvFault_kept, fireDrvCue_kept, on_kept, putBit_kept,
      settleHeld_kept, h, apply_ite (Kept z0), ite_self]

theorem execLockoutEntry_kept {z0 : State} (k : DDie) (rail : Fin 5) (s : State) (h : Kept z0 s) :
    OutKept z0 (execLockoutEntry k rail s) := by
  unfold execLockoutEntry
  simp (maxDischargeDepth := 60) +contextual only [drvAct_kept, onD_kept, railLow_kept, h, implies_true]

theorem lockoutRelease_kept {z0 : State} (k : Nat) (s : State) (h : Kept z0 s) :
    Kept z0 (lockoutRelease k s) := by
  unfold lockoutRelease
  simp (maxDischargeDepth := 60) +contextual only [chDown_kept, modLeg_kept, off_kept, overN_kept, putBit_kept,
      settle_kept, h, apply_ite (Kept z0), ite_self, implies_true]

theorem execLockoutRelease_kept {z0 : State} (k : DDie) (s : State) (h : Kept z0 s) :
    OutKept z0 (execLockoutRelease k s) := by
  unfold execLockoutRelease
  simp (maxDischargeDepth := 60) +contextual only [drvAct_kept, lockoutRelease_kept, onD_kept, h, implies_true]

theorem statProtective_kept {z0 : State} (k leg : Nat) (s : State) (h : Kept z0 s) :
    Kept z0 (statProtective k leg s) := by
  unfold statProtective
  simp (maxDischargeDepth := 60) +contextual only [statAx_kept, h, apply_ite (Kept z0), ite_self]

theorem softBegin_kept {z0 : State} (k c : Nat) (s : State) (h : Kept z0 s) :
    Kept z0 (softBegin k c s) := by
  unfold softBegin
  simp (maxDischargeDepth := 60) +contextual only [count_kept, fireDrvCue_kept, modCh_kept, on_kept, put_kept,
      setCh_kept, statProtective_kept, h]

theorem scDetect_kept {z0 : State} (k c cur held : Nat) (s : State) (h : Kept z0 s) :
    Kept z0 (scDetect k c cur held s) := by
  unfold scDetect
  simp (maxDischargeDepth := 60) +contextual only [drvFault_kept, inhibitLeg_kept, on_kept, settle_kept, softBegin_kept,
      h, apply_ite (Kept z0), ite_self]

theorem execScDetection_kept {z0 : State} (k : DDie) (c : Fin 6) (cur : BitVec 11) (held : BitVec 8) (s : State) (h : Kept z0 s) :
    OutKept z0 (execScDetection k c cur held s) := by
  unfold execScDetection
  simp (maxDischargeDepth := 60) +contextual only [drvAct_kept, onD_kept, scDetect_kept, h, implies_true]

theorem shuntDetect_kept {z0 : State} (k leg mv held : Nat) (s : State) (h : Kept z0 s) :
    Kept z0 (shuntDetect k leg mv held s) := by
  unfold shuntDetect
  simp (maxDischargeDepth := 60) +contextual only [drvFault_kept, inhibitLeg_kept, on_kept, overL_kept, settle_kept,
      softBegin_kept, h, apply_ite (Kept z0), ite_self, implies_true]

theorem execShuntDetection_kept {z0 : State} (k : DDie) (leg : Fin 3) (mv : BitVec 10) (held : BitVec 8) (s : State) (h : Kept z0 s) :
    OutKept z0 (execShuntDetection k leg mv held s) := by
  unfold execShuntDetection
  simp (maxDischargeDepth := 60) +contextual only [drvAct_kept, onD_kept, shuntDetect_kept, h, implies_true]

theorem softEnd_kept {z0 : State} (k c peak : Nat) (s : State) (h : Kept z0 s) :
    Kept z0 (softEnd k c peak s) := by
  unfold softEnd
  simp (maxDischargeDepth := 60) +contextual only [applyHeld_kept, off_kept, on_kept, put_kept, seqRuns_kept, setCh_kept,
      h, apply_ite (Kept z0), ite_self]

theorem execSoftOffEnd_kept {z0 : State} (k : DDie) (c : Fin 6) (peak : BitVec 11) (s : State) (h : Kept z0 s) :
    OutKept z0 (execSoftOffEnd k c peak s) := by
  unfold execSoftOffEnd
  simp (maxDischargeDepth := 60) +contextual only [drvAct_kept, onD_kept, softEnd_kept, h, implies_true]

theorem stoNote_kept {z0 : State} (k : Nat) (s : State) (h : Kept z0 s) :
    Kept z0 (stoNote k s) := by
  unfold stoNote
  simp (maxDischargeDepth := 60) +contextual only [modD_kept, h]

theorem stoTorqueOff_kept {z0 : State} (k : Nat) (a b : Bool) (s : State) (h : Kept z0 s) :
    Kept z0 (stoTorqueOff k a b s) := by
  unfold stoTorqueOff
  simp (maxDischargeDepth := 60) +contextual only [off_kept, seqRuns_kept, settleHeld_kept, stoNote_kept, h,
      apply_ite (Kept z0), ite_self]

theorem execStoTorqueOff_kept {z0 : State} (k : DDie) (a b : Bool) (held : BitVec 16) (s : State) (h : Kept z0 s) :
    OutKept z0 (execStoTorqueOff k a b held s) := by
  unfold execStoTorqueOff
  simp (maxDischargeDepth := 60) +contextual only [drvAct_kept, onD_kept, stoTorqueOff_kept, h, apply_ite (Kept z0),
      ite_self, implies_true]

theorem stoRun_kept {z0 : State} (k : Nat) (a b : Bool) (s : State) (h : Kept z0 s) :
    Kept z0 (stoRun k a b s) := by
  unfold stoRun
  simp (maxDischargeDepth := 60) +contextual only [on_kept, overN_kept, setCh_kept, settle_kept, stoNote_kept, h,
      apply_ite (Kept z0), ite_self, implies_true]

theorem execStoRun_kept {z0 : State} (k : DDie) (a b : Bool) (held : BitVec 16) (s : State) (h : Kept z0 s) :
    OutKept z0 (execStoRun k a b held s) := by
  unfold execStoRun
  simp (maxDischargeDepth := 60) +contextual only [drvAct_kept, onD_kept, stoRun_kept, h, apply_ite (Kept z0), ite_self,
      implies_true]

theorem stoDiscrepancy_kept {z0 : State} (k : Nat) (s : State) (h : Kept z0 s) :
    Kept z0 (stoDiscrepancy k s) := by
  unfold stoDiscrepancy
  simp (maxDischargeDepth := 60) +contextual only [drvFault_kept, modD_kept, on_kept, settleHeld_kept, h,
      apply_ite (Kept z0), ite_self]

theorem execStoDiscrepancy_kept {z0 : State} (k : DDie) (s : State) (h : Kept z0 s) :
    OutKept z0 (execStoDiscrepancy k s) := by
  unfold execStoDiscrepancy
  simp (maxDischargeDepth := 60) +contextual only [drvAct_kept, onD_kept, stoDiscrepancy_kept, h, implies_true]

theorem sluiceActive_kept {z0 : State} (k x n : Nat) (s : State) (h : Kept z0 s) :
    Kept z0 (sluiceActive k x n s) := by
  unfold sluiceActive
  simp (maxDischargeDepth := 60) +contextual only [modD_kept, putBit_kept, settle_kept, h]

theorem execSluiceActive_kept {z0 : State} (k : DDie) (x : CDie) (n : Fin 4) (s : State) (h : Kept z0 s) :
    OutKept z0 (execSluiceActive k x n s) := by
  unfold execSluiceActive
  simp (maxDischargeDepth := 60) +contextual only [drvAct_kept, onDC_kept, sluiceActive_kept, h, apply_ite (Kept z0),
      ite_self, implies_true]

theorem sluiceClear_kept {z0 : State} (k x n : Nat) (s : State) (h : Kept z0 s) :
    Kept z0 (sluiceClear k x n s) := by
  unfold sluiceClear
  simp (maxDischargeDepth := 60) +contextual only [modD_kept, settle_kept, h, apply_ite (Kept z0), ite_self]

theorem execSluiceClear_kept {z0 : State} (k : DDie) (x : CDie) (n : Fin 4) (s : State) (h : Kept z0 s) :
    OutKept z0 (execSluiceClear k x n s) := by
  unfold execSluiceClear
  simp (maxDischargeDepth := 60) +contextual only [drvAct_kept, onDC_kept, sluiceClear_kept, h, implies_true]

theorem execUcodeCommit_kept {z0 : State} (d : CDie) (k : DDie) (v : Word) (s : State) (h : Kept z0 s) :
    OutKept z0 (execUcodeCommit d k v s) := by
  unfold execUcodeCommit
  simp (maxDischargeDepth := 60) +contextual only [drvAct_kept, drvStore_kept, onDW_kept, ucCommit_kept, h, implies_true]

theorem ucSwitch_kept {z0 : State} (k : Nat) (s : State) (h : Kept z0 s) :
    Kept z0 (ucSwitch k s) := by
  unfold ucSwitch
  simp (maxDischargeDepth := 60) +contextual only [modD_kept, on_kept, put_kept, h, apply_ite (Kept z0), ite_self]

theorem execUcodeBankSwitch_kept {z0 : State} (k : DDie) (s : State) (h : Kept z0 s) :
    OutKept z0 (execUcodeBankSwitch k s) := by
  unfold execUcodeBankSwitch
  simp (maxDischargeDepth := 60) +contextual only [onD_kept, ucSwitch_kept, h, implies_true]

theorem ucDrive_kept {z0 : State} (k c op str : Nat) (s : State) (h : Kept z0 s) :
    Kept z0 (ucDrive k c op str s) := by
  unfold ucDrive
  simp (maxDischargeDepth := 60) +contextual only [modCh_kept, h, apply_ite (Kept z0), ite_self]

theorem gateTimeout_kept {z0 : State} (k m : Nat) (s : State) (h : Kept z0 s) :
    Kept z0 (gateTimeout k m s) := by
  unfold gateTimeout
  simp (maxDischargeDepth := 60) +contextual only [drvFault_kept, on_kept, overN_kept, settleHeld_kept, h,
      apply_ite (Kept z0), ite_self, implies_true]

theorem ucExec_kept {z0 : State} (k w m : Nat) (s : State) (h : Kept z0 s) :
    Kept z0 (ucExec k w m s) := by
  unfold ucExec
  simp (maxDischargeDepth := 60) +contextual only [modCh_kept, modD_kept, overN_kept, sendStatus_kept, ucDrive_kept, h,
      apply_ite (Kept z0), ite_self, implies_true]

theorem ucRun_kept {z0 : State} (k bank : Nat) : ∀ (f : Nat) (q : SeqD) (s : State) (_ : Kept z0 s),
      Kept z0 (ucRun k bank q f s)
  | 0, _, s, h => modD_kept s k _ h
  | f + 1, q, s, h => by
    have ih := ucRun_kept (z0 := z0) k bank f
    unfold ucRun
    dsimp only
    split
    · exact modD_kept _ _ _ h
    · split
      · exact modD_kept _ _ _ h
      · split
        · exact modD_kept _ _ _ h
        · exact ih _ _ (ucExec_kept _ _ _ _ h)

theorem ucGo_kept {z0 : State} (k : Nat) (q : SeqD) (s : State) (h : Kept z0 s) :
    Kept z0 (ucGo k q s) := by
  unfold ucGo
  simp (maxDischargeDepth := 60) +contextual only [ucRun_kept, h]

theorem seqStartEntry_kept {z0 : State} (k e : Nat) (s : State) (h : Kept z0 s) :
    Kept z0 (seqStartEntry k e s) := by
  unfold seqStartEntry
  (repeat' split) <;> simp (maxDischargeDepth := 60) +contextual only [modD_kept, ucGo_kept, h]

theorem execSequencerEntry_kept {z0 : State} (k : DDie) (e : Fin 7) (s : State) (h : Kept z0 s) :
    OutKept z0 (execSequencerEntry k e s) := by
  unfold execSequencerEntry
  simp (maxDischargeDepth := 60) +contextual only [drvAct_kept, onD_kept, seqStartEntry_kept, h, implies_true]

theorem seqCycle_kept {z0 : State} (k : Nat) (s : State) (h : Kept z0 s) :
    Kept z0 (seqCycle k s) := by
  unfold seqCycle
  split <;> simp (maxDischargeDepth := 60) +contextual only [drvAct_kept, gateTimeout_kept, modD_kept, ucGo_kept, h,
      apply_ite (Kept z0), ite_self, implies_true]

theorem nodeCycle_kept {z0 : State} (k : Nat) (s : State) (h : Kept z0 s) :
    Kept z0 (nodeCycle k s) := by
  unfold nodeCycle
  simp (maxDischargeDepth := 60) +contextual only [modLeg_kept, overN_kept, put_kept, h, apply_ite (Kept z0), ite_self,
      implies_true]

theorem gateCycle_kept {z0 : State} (k : Nat) (s : State) (h : Kept z0 s) :
    Kept z0 (gateCycle k s) := by
  unfold gateCycle
  simp (maxDischargeDepth := 60) +contextual only [nodeCycle_kept, seqCycle_kept, h]

theorem levelWrite_kept {z0 : State} (k c : Nat) (v : Word) (s : State) (h : Kept z0 s) :
    Kept z0 (levelWrite k c v s) := by
  unfold levelWrite
  simp (maxDischargeDepth := 60) +contextual only [on_kept, plainWrite_kept, h, apply_ite (Kept z0), ite_self]

theorem execLevelWrite_kept {z0 : State} (d : CDie) (k : DDie) (c : Fin 6) (v : Word) (vdrv vneg : Byte) (s : State) (h : Kept z0 s) :
    OutKept z0 (execLevelWrite d k c v vdrv vneg s) := by
  unfold execLevelWrite
  simp (maxDischargeDepth := 60) +contextual only [drvAct_kept, drvStore_kept, levelWrite_kept, modD_kept, onDW_kept, h,
      implies_true]

theorem legaxWrite_kept {z0 : State} (k : Nat) (v : Word) (s : State) (h : Kept z0 s) :
    Kept z0 (legaxWrite k v s) := by
  unfold legaxWrite
  simp (maxDischargeDepth := 60) +contextual only [legaxAfter_kept, plainWrite_kept, h]

theorem clearSc_kept {z0 : State} (k c : Nat) (s : State) (h : Kept z0 s) :
    Kept z0 (clearSc k c s) := by
  unfold clearSc
  simp (maxDischargeDepth := 60) +contextual only [on_kept, setReg_kept, settle_kept, h, apply_ite (Kept z0), ite_self]

theorem clearShunt_kept {z0 : State} (k leg : Nat) (s : State) (h : Kept z0 s) :
    Kept z0 (clearShunt k leg s) := by
  unfold clearShunt
  simp (maxDischargeDepth := 60) +contextual only [off_kept, on_kept, overL_kept, setReg_kept, settle_kept, h,
      apply_ite (Kept z0), ite_self, implies_true]

theorem clearShoot_kept {z0 : State} (k leg : Nat) (s : State) (h : Kept z0 s) :
    Kept z0 (clearShoot k leg s) := by
  unfold clearShoot
  simp (maxDischargeDepth := 60) +contextual only [off_kept, on_kept, settle_kept, h, apply_ite (Kept z0), ite_self]

theorem clearGstuck_kept {z0 : State} (k leg : Nat) (s : State) (h : Kept z0 s) :
    Kept z0 (clearGstuck k leg s) := by
  unfold clearGstuck
  simp (maxDischargeDepth := 60) +contextual only [off_kept, on_kept, settle_kept, h, apply_ite (Kept z0), ite_self]

theorem clearStoDisc_kept {z0 : State} (k : Nat) (s : State) (h : Kept z0 s) :
    Kept z0 (clearStoDisc k s) := by
  unfold clearStoDisc
  simp (maxDischargeDepth := 60) +contextual only [modD_kept, off_kept, on_kept, settle_kept, h, apply_ite (Kept z0),
      ite_self]

theorem fclrApply_kept {z0 : State} (k : Nat) (v : Word) (s : State) (h : Kept z0 s) :
    Kept z0 (fclrApply k v s) := by
  unfold fclrApply
  simp (maxDischargeDepth := 60) +contextual only [clearGstuck_kept, clearSc_kept, clearShoot_kept, clearShunt_kept,
      clearStoDisc_kept, overN_kept, h, apply_ite (Kept z0), ite_self, implies_true]

theorem fclrWrite_kept {z0 : State} (d : Nat) (m : Master) (k : Nat) (v : Word) (s : State) (h : Kept z0 s) :
    Kept z0 (fclrWrite d m k v s) := by
  unfold fclrWrite
  simp (maxDischargeDepth := 60) +contextual only [fclrApply_kept, tkWrite_kept, h, implies_true]

theorem fclrStore_kept {z0 : State} (d : Nat) (m : Master) (k : Nat) (v : Word) (s : State) (h : Kept z0 s) :
    Kept z0 (fclrStore d m k v s) := by
  unfold fclrStore
  simp (maxDischargeDepth := 60) +contextual only [busTrap_kept, drvAct_kept, drvStore_kept, fclrWrite_kept, h,
      apply_ite (Kept z0), ite_self, implies_true]

theorem execFclrSc_kept {z0 : State} (d : CDie) (m : Master) (k : DDie) (ch : BitVec 6) (s : State) (h : Kept z0 s) :
    OutKept z0 (execFclrSc d m k ch s) := by
  unfold execFclrSc
  simp (maxDischargeDepth := 60) +contextual only [fclrStore_kept, onC_kept, h, implies_true]

theorem execFclrShunt_kept {z0 : State} (d : CDie) (m : Master) (k : DDie) (legs : BitVec 3) (s : State) (h : Kept z0 s) :
    OutKept z0 (execFclrShunt d m k legs s) := by
  unfold execFclrShunt
  simp (maxDischargeDepth := 60) +contextual only [fclrStore_kept, onC_kept, h, implies_true]

theorem execFclrShoot_kept {z0 : State} (d : CDie) (m : Master) (k : DDie) (legs : BitVec 3) (s : State) (h : Kept z0 s) :
    OutKept z0 (execFclrShoot d m k legs s) := by
  unfold execFclrShoot
  simp (maxDischargeDepth := 60) +contextual only [fclrStore_kept, onC_kept, h, implies_true]

theorem execFclrStoDisc_kept {z0 : State} (d : CDie) (m : Master) (k : DDie) (s : State) (h : Kept z0 s) :
    OutKept z0 (execFclrStoDisc d m k s) := by
  unfold execFclrStoDisc
  simp (maxDischargeDepth := 60) +contextual only [fclrStore_kept, onC_kept, h, implies_true]

theorem execFclrGstuck_kept {z0 : State} (d : CDie) (m : Master) (k : DDie) (legs : BitVec 3) (s : State) (h : Kept z0 s) :
    OutKept z0 (execFclrGstuck d m k legs s) := by
  unfold execFclrGstuck
  simp (maxDischargeDepth := 60) +contextual only [fclrStore_kept, onC_kept, h, implies_true]

theorem drvRegWrite_kept {z0 : State} (d : Nat) (m : Master) (k off : Nat) (v : Word) (s : State) (h : Kept z0 s) :
    Kept z0 (drvRegWrite d m k off v s) := by
  unfold drvRegWrite
  simp (maxDischargeDepth := 60) +contextual only [fclrWrite_kept, legaxWrite_kept, levelWrite_kept, on_kept,
      plainWrite_kept, protWrite_kept, put_kept, shcctrlWrite_kept, tkWriteIf_kept, tkWrite_kept, ucCommit_kept, h,
      apply_ite (Kept z0), ite_self, implies_true]

theorem drvWrite_kept {z0 : State} (d : Nat) (m : Master) (k off addr : Nat) (v : Word) (s : State) (h : Kept z0 s) :
    Kept z0 (drvWrite d m k off addr v s) := by
  unfold drvWrite
  simp (maxDischargeDepth := 60) +contextual only [drvAct_kept, drvRegWrite_kept, drvStoreAt_kept, h, implies_true]

theorem followCause_kept {z0 : State} (d a j : Nat) (holds : Bool) (s : State) (h : Kept z0 s) :
    Kept z0 (followCause d a j holds s) := by
  unfold followCause
  simp (maxDischargeDepth := 60) +contextual only [dropCause_kept, enterCurtain_kept, h, apply_ite (Kept z0), ite_self]

theorem statusAxis_kept {z0 : State} (d a : Nat) (s : State) (h : Kept z0 s) :
    Kept z0 (statusAxis d a s) := by
  unfold statusAxis
  simp (maxDischargeDepth := 60) +contextual only [evalCurtain_kept, followCause_kept, writeCurtain_kept, h,
      apply_ite (Kept z0), ite_self]

theorem statusAt_kept {z0 : State} (d k : Nat) (s : State) (h : Kept z0 s) :
    Kept z0 (statusAt d k s) := by
  unfold statusAt
  simp (maxDischargeDepth := 60) +contextual only [endActive_kept, hoCancelFor_kept, latchFault_kept, modD_kept,
      overL_kept, overN_kept, refreshLockout_kept, statusAxis_kept, h, apply_ite (Kept z0), ite_self, implies_true]

theorem execStatusFlitReceive_kept {z0 : State} (k : DDie) (s : State) (h : Kept z0 s) :
    OutKept z0 (execStatusFlitReceive k s) := by
  unfold execStatusFlitReceive
  simp (maxDischargeDepth := 60) +contextual only [onD_kept, statusAt_kept, h, apply_ite (Kept z0), ite_self, implies_true]

/-! ### Machine/Dclink.lean -/

theorem benchRefresh_kept {z0 : State} (d : Nat) (s : State) (h : Kept z0 s) :
    Kept z0 (benchRefresh d s) := by
  unfold benchRefresh
  simp (maxDischargeDepth := 60) +contextual only [put_kept, h]

theorem benchVdc_kept {z0 : State} (d b : Nat) (s : State) (h : Kept z0 s) :
    Kept z0 (benchVdc d b s) := by
  unfold benchVdc
  simp (maxDischargeDepth := 60) +contextual only [endActive_kept, latchFault_kept, h, apply_ite (Kept z0), ite_self]

theorem busFault_kept {z0 : State} (d b j : Nat) (holds : Bool) (s : State) (h : Kept z0 s) :
    Kept z0 (busFault d b j holds s) := by
  unfold busFault
  simp (maxDischargeDepth := 60) +contextual only [endActive_kept, latchFault_kept, h, apply_ite (Kept z0), ite_self]

theorem busThresholds_kept {z0 : State} (d b : Nat) (v : Int) (s : State) (h : Kept z0 s) :
    Kept z0 (busThresholds d b v s) := by
  unfold busThresholds
  simp (maxDischargeDepth := 60) +contextual only [busFault_kept, dropCause_kept, enterCurtain_kept, off_kept, on_kept,
      onlyIf_kept, overL_kept, put_kept, h, apply_ite (Kept z0), ite_self, implies_true]

theorem chopperRun_kept {z0 : State} (d b : Nat) (v : Int) (s : State) (h : Kept z0 s) :
    Kept z0 (chopperRun d b v s) := by
  unfold chopperRun
  simp (maxDischargeDepth := 60) +contextual only [dutyStore_kept, loadallArm_kept, overL_kept, put_kept, h, implies_true]

theorem busStats_kept {z0 : State} (d b : Nat) (v : Int) (s : State) (h : Kept z0 s) :
    Kept z0 (busStats d b v s) := by
  unfold busStats
  simp (maxDischargeDepth := 60) +contextual only [modPrompt_kept, puti_kept, h]

theorem vdcBack_kept {z0 : State} (d b : Nat) (s : State) (h : Kept z0 s) :
    Kept z0 (vdcBack d b s) := by
  unfold vdcBack
  simp (maxDischargeDepth := 60) +contextual only [busFault_kept, modAx_kept, overL_kept, refreshCauses_kept, h,
      implies_true]

theorem busVdc_kept {z0 : State} (d b : Nat) (v : Int) (s : State) (h : Kept z0 s) :
    Kept z0 (busVdc d b v s) := by
  unfold busVdc
  simp (maxDischargeDepth := 60) +contextual only [benchRefresh_kept, benchVdc_kept, busStats_kept, busThresholds_kept,
      chopperRun_kept, fieldVdc_kept, on_kept, puti_kept, vdcBack_kept, h]

theorem plausNote_kept {z0 : State} (d b : Nat) (s : State) (h : Kept z0 s) :
    Kept z0 (plausNote d b s) := by
  unfold plausNote
  simp (maxDischargeDepth := 60) +contextual only [busFault_kept, modSafe_kept, h, apply_ite (Kept z0), ite_self]

theorem vdcResult_kept {z0 : State} (d k : Nat) (v : Int) (s : State) (h : Kept z0 s) :
    Kept z0 (vdcResult d k v s) := by
  unfold vdcResult
  simp (maxDischargeDepth := 60) +contextual only [busVdc_kept, modSafe_kept, overN_kept, plausNote_kept, h,
      apply_ite (Kept z0), ite_self, implies_true]

theorem vdcLoss_kept {z0 : State} (d b : Nat) (s : State) (h : Kept z0 s) :
    Kept z0 (vdcLoss d b s) := by
  unfold vdcLoss
  simp (maxDischargeDepth := 60) +contextual only [benchRefresh_kept, busFault_kept, enterCurtain_kept, modAx_kept,
      off_kept, on_kept, overL_kept, h, apply_ite (Kept z0), ite_self, implies_true]

theorem execVdcLoss_kept {z0 : State} (d : CDie) (b : Fin 3) (s : State) (h : Kept z0 s) :
    OutKept z0 (execVdcLoss d b s) := by
  unfold execVdcLoss
  simp (maxDischargeDepth := 60) +contextual only [onC_kept, vdcLoss_kept, h, implies_true]

theorem vdcPlaus_kept {z0 : State} (d b : Nat) (s : State) (h : Kept z0 s) :
    Kept z0 (vdcPlaus d b s) := by
  unfold vdcPlaus
  simp (maxDischargeDepth := 60) +contextual only [busFault_kept, on_kept, h, apply_ite (Kept z0), ite_self]

theorem execVdcPlausibility_kept {z0 : State} (d : CDie) (b : Fin 3) (s : State) (h : Kept z0 s) :
    OutKept z0 (execVdcPlausibility d b s) := by
  unfold execVdcPlausibility
  simp (maxDischargeDepth := 60) +contextual only [onC_kept, vdcPlaus_kept, h, implies_true]

theorem chopCycle_kept {z0 : State} (d : Nat) (s : State) (h : Kept z0 s) :
    Kept z0 (chopCycle d s) := by
  unfold chopCycle
  simp (maxDischargeDepth := 60) +contextual only [modSafe_kept, overN_kept, h, apply_ite (Kept z0), ite_self, implies_true]

theorem chopperFault_kept {z0 : State} (d b : Nat) (s : State) (h : Kept z0 s) :
    Kept z0 (chopperFault d b s) := by
  unfold chopperFault
  simp (maxDischargeDepth := 60) +contextual only [enterCurtain_kept, fieldStatus_kept, modAx_kept, on_kept, overL_kept,
      h, apply_ite (Kept z0), ite_self, implies_true]

theorem execChopperFault_kept {z0 : State} (d : CDie) (b : Fin 3) (s : State) (h : Kept z0 s) :
    OutKept z0 (execChopperFault d b s) := by
  unfold execChopperFault
  simp (maxDischargeDepth := 60) +contextual only [chopperFault_kept, onC_kept, h, implies_true]

theorem shResPut_kept {z0 : State} (d k i code tag : Nat) (s : State) (h : Kept z0 s) :
    Kept z0 (shResPut d k i code tag s) := by
  unfold shResPut
  simp (maxDischargeDepth := 60) +contextual only [on_kept, onlyIf_kept, put_kept, setReg_kept, srcSet_kept, h,
      apply_ite (Kept z0), ite_self, implies_true]

theorem shBurstPut_kept {z0 : State} (d k i code : Nat) (s : State) (h : Kept z0 s) :
    Kept z0 (shBurstPut d k i code s) := by
  unfold shBurstPut
  simp (maxDischargeDepth := 60) +contextual only [modAdc_kept, on_kept, onlyIf_kept, refreshShFifo_kept, h,
      apply_ite (Kept z0), ite_self, implies_true]

theorem shTag_kept {z0 : State} (d k content tag : Nat) (s : State) (h : Kept z0 s) :
    Kept z0 (shTag d k content tag s) := by
  unfold shTag
  simp (maxDischargeDepth := 60) +contextual only [latchFault_kept, modAdc_kept, on_kept, put_kept, h,
      apply_ite (Kept z0), ite_self]

theorem shTrigger_kept {z0 : State} (d k kind : Nat) (s : State) (h : Kept z0 s) :
    Kept z0 (shTrigger d k kind s) := by
  unfold shTrigger
  simp (maxDischargeDepth := 60) +contextual only [engineTrigger_kept, overN_kept, h, apply_ite (Kept z0), ite_self,
      implies_true]

theorem catchSet_kept {z0 : State} (d k a : Nat) (s : State) (h : Kept z0 s) :
    Kept z0 (catchSet d k a s) := by
  unfold catchSet
  simp (maxDischargeDepth := 60) +contextual only [modAxr_kept, h, apply_ite (Kept z0), ite_self]

theorem shIntake_kept {z0 : State} (d k c0 c1 c2 tag content n : Nat) (s : State) (h : Kept z0 s) :
    Kept z0 (shIntake d k c0 c1 c2 tag content n s) := by
  unfold shIntake
  simp (maxDischargeDepth := 60) +contextual only [catchSet_kept, overL_kept, shBurstPut_kept, shResPut_kept,
      shTrigger_kept, vdcResult_kept, h, apply_ite (Kept z0), ite_self, implies_true]

theorem shFlit_kept {z0 : State} (d k : Nat) (s : State) (h : Kept z0 s) :
    Kept z0 (shFlit d k s) := by
  unfold shFlit
  split <;> simp (maxDischargeDepth := 60) +contextual only [modShunt_kept, on_kept, shIntake_kept, shTag_kept, h,
      apply_ite (Kept z0), ite_self]

theorem execShuntFlitReceive_kept {z0 : State} (d : CDie) (k : DDie) (s : State) (h : Kept z0 s) :
    OutKept z0 (execShuntFlitReceive d k s) := by
  unfold execShuntFlitReceive
  simp (maxDischargeDepth := 60) +contextual only [onCD_kept, shFlit_kept, h, implies_true]

theorem windingEnd_kept {z0 : State} (d b : Nat) (s : State) (h : Kept z0 s) :
    Kept z0 (windingEnd d b s) := by
  unfold windingEnd
  simp (maxDischargeDepth := 60) +contextual only [fieldDisable_kept, h]

theorem dischargeStop_kept {z0 : State} (d b st : Nat) (s : State) (h : Kept z0 s) :
    Kept z0 (dischargeStop d b st s) := by
  unfold dischargeStop
  simp (maxDischargeDepth := 60) +contextual only [dischargeEnd_kept, windingEnd_kept, h, apply_ite (Kept z0), ite_self]

theorem windingStart_kept {z0 : State} (d b a : Nat) (s : State) (h : Kept z0 s) :
    Kept z0 (windingStart d b a s) := by
  unfold windingStart
  simp (maxDischargeDepth := 60) +contextual only [dCurrent_kept, enRequest_kept, modDisT_kept, modSafe_kept, put_kept,
      puti_kept, h]

theorem dischCommand_kept {z0 : State} (d b op a : Nat) (s : State) (h : Kept z0 s) :
    Kept z0 (dischCommand d b op a s) := by
  unfold dischCommand
  simp (maxDischargeDepth := 60) +contextual only [dischargeStop_kept, enNote_kept, on_kept, put_kept,
      resistorStart_kept, windingStart_kept, h, apply_ite (Kept z0), ite_self]

theorem dcmdWrite_kept {z0 : State} (d : Nat) (m : Master) (b : Nat) (v : Word) (s : State) (h : Kept z0 s) :
    Kept z0 (dcmdWrite d m b v s) := by
  unfold dcmdWrite
  simp (maxDischargeDepth := 60) +contextual only [dischCommand_kept, tkWrite_kept, h, implies_true]

theorem execDischargeResistor_kept {z0 : State} (d : CDie) (m : Master) (b : Fin 3) (s : State) (h : Kept z0 s) :
    OutKept z0 (execDischargeResistor d m b s) := by
  unfold execDischargeResistor
  simp (maxDischargeDepth := 60) +contextual only [dcmdWrite_kept, onC_kept, h, implies_true]

theorem execDischargeWinding_kept {z0 : State} (d : CDie) (m : Master) (b : Fin 3) (a : Fin 8) (s : State) (h : Kept z0 s) :
    OutKept z0 (execDischargeWinding d m b a s) := by
  unfold execDischargeWinding
  simp (maxDischargeDepth := 60) +contextual only [dcmdWrite_kept, onC_kept, h, implies_true]

theorem execDischargeStop_kept {z0 : State} (d : CDie) (m : Master) (b : Fin 3) (s : State) (h : Kept z0 s) :
    OutKept z0 (execDischargeStop d m b s) := by
  unfold execDischargeStop
  simp (maxDischargeDepth := 60) +contextual only [dcmdWrite_kept, onC_kept, h, implies_true]

theorem execDischargeVendReached_kept {z0 : State} (d : CDie) (b : Fin 3) (s : State) (h : Kept z0 s) :
    OutKept z0 (execDischargeVendReached d b s) := by
  unfold execDischargeVendReached
  simp (maxDischargeDepth := 60) +contextual only [dischargeStop_kept, onC_kept, on_kept, h, apply_ite (Kept z0),
      ite_self, implies_true]

theorem execDischargeTimeout_kept {z0 : State} (d : CDie) (b : Fin 3) (s : State) (h : Kept z0 s) :
    OutKept z0 (execDischargeTimeout d b s) := by
  unfold execDischargeTimeout
  simp (maxDischargeDepth := 60) +contextual only [dischargeStop_kept, onC_kept, on_kept, h, apply_ite (Kept z0),
      ite_self, implies_true]

theorem execDischargeOvercurrent_kept {z0 : State} (d : CDie) (b : Fin 3) (s : State) (h : Kept z0 s) :
    OutKept z0 (execDischargeOvercurrent d b s) := by
  unfold execDischargeOvercurrent
  simp (maxDischargeDepth := 60) +contextual only [dischargeEnd_kept, onC_kept, on_kept, h, apply_ite (Kept z0),
      ite_self, implies_true]

theorem execKeepAutoDischarge_kept {z0 : State} (k : DDie) (s : State) (h : Kept z0 s) :
    OutKept z0 (execKeepAutoDischarge k s) := by
  unfold execKeepAutoDischarge
  simp (maxDischargeDepth := 60) +contextual only [atD_kept, modDisT_kept, modK_kept, overN_kept, put_kept, h,
      apply_ite (Kept z0), ite_self, implies_true]

theorem dischEvtWrite_kept {z0 : State} (d b : Nat) (v : Word) (s : State) (h : Kept z0 s) :
    Kept z0 (dischEvtWrite d b v s) := by
  unfold dischEvtWrite
  simp (maxDischargeDepth := 60) +contextual only [fieldStatus_kept, modAx_kept, off_kept, on_kept, overL_kept,
      plainWrite_kept, refreshCauses_kept, h, apply_ite (Kept z0), ite_self, implies_true]

theorem dischWrite_kept {z0 : State} (d : Nat) (m : Master) (b o : Nat) (v : Word) (s : State) (h : Kept z0 s) :
    Kept z0 (dischWrite d m b o v s) := by
  unfold dischWrite
  simp (maxDischargeDepth := 60) +contextual only [dcmdWrite_kept, dischEvtWrite_kept, keepSync_kept, on_kept,
      plainWrite_kept, protWrite_kept, tkWriteIf_kept, tkWrite_kept, h, apply_ite (Kept z0), ite_self, implies_true]

/-! ### Machine/Safe.lean -/

theorem execCurtainEntry_kept {z0 : State} (d : CDie) (a : Axis) (j : Fin 10) (s : State) (h : Kept z0 s) :
    OutKept z0 (execCurtainEntry d a j s) := by
  unfold execCurtainEntry
  simp (maxDischargeDepth := 60) +contextual only [enterCurtain_kept, onC_kept, h, apply_ite (Kept z0), ite_self,
      implies_true]

theorem execCurtainRuleEvaluate_kept {z0 : State} (d : CDie) (a : Axis) (s : State) (h : Kept z0 s) :
    OutKept z0 (execCurtainRuleEvaluate d a s) := by
  unfold execCurtainRuleEvaluate
  simp (maxDischargeDepth := 60) +contextual only [evalCurtain_kept, onC_kept, h, implies_true]

theorem sideSwitch_kept {z0 : State} (d a : Nat) (s : State) (h : Kept z0 s) :
    Kept z0 (sideSwitch d a s) := by
  unfold sideSwitch
  split <;> simp (maxDischargeDepth := 60) +contextual only [issueState_kept, modAx_kept, ruleSwitched_kept, h,
      apply_ite (Kept z0), ite_self]

theorem execShortSideSwitch_kept {z0 : State} (d : CDie) (a : Axis) (s : State) (h : Kept z0 s) :
    OutKept z0 (execShortSideSwitch d a s) := by
  unfold execShortSideSwitch
  simp (maxDischargeDepth := 60) +contextual only [onC_kept, sideSwitch_kept, h, implies_true]

theorem safeReqWrite_kept {z0 : State} (d : Nat) (v : Word) (s : State) (h : Kept z0 s) :
    Kept z0 (safeReqWrite d v s) := by
  unfold safeReqWrite
  simp (maxDischargeDepth := 60) +contextual only [dropCause_kept, enterCurtain_kept, overN_kept, put_kept, h,
      apply_ite (Kept z0), ite_self, implies_true]

theorem execSafeReqWrite_kept {z0 : State} (d : CDie) (v : Word) (s : State) (h : Kept z0 s) :
    OutKept z0 (execSafeReqWrite d v s) := by
  unfold execSafeReqWrite
  simp (maxDischargeDepth := 60) +contextual only [onCW_kept, safeReqWrite_kept, h, implies_true]

theorem clrRefused_kept {z0 : State} (d a code : Nat) (s : State) (h : Kept z0 s) :
    Kept z0 (clrRefused d a code s) := by
  unfold clrRefused
  simp (maxDischargeDepth := 60) +contextual only [on_kept, put_kept, h]

theorem clrAxis_kept {z0 : State} (d a : Nat) (s : State) (h : Kept z0 s) :
    Kept z0 (clrAxis d a s) := by
  unfold clrAxis
  simp (maxDischargeDepth := 60) +contextual only [clearCurtain_kept, h, apply_ite (Kept z0), ite_self]

theorem clrPackage_kept {z0 : State} (d mask : Nat) (s : State) (h : Kept z0 s) :
    Kept z0 (clrPackage d mask s) := by
  unfold clrPackage
  simp (maxDischargeDepth := 60) +contextual only [clrAxis_kept, dropCause_kept, overN_kept, put_kept, recordEvent_kept,
      refreshFault_kept, setDevice_kept, h, apply_ite (Kept z0), ite_self, implies_true]

theorem clrAxes_kept {z0 : State} (d mask : Nat) (s : State) (h : Kept z0 s) :
    Kept z0 (clrAxes d mask s) := by
  unfold clrAxes
  simp (maxDischargeDepth := 60) +contextual only [clrAxis_kept, clrRefused_kept, overN_kept, h, apply_ite (Kept z0),
      ite_self, implies_true]

theorem clrApply_kept {z0 : State} (d : Nat) (v : Word) (s : State) (h : Kept z0 s) :
    Kept z0 (clrApply d v s) := by
  unfold clrApply
  dsimp only
  (repeat' split) <;> simp (maxDischargeDepth := 60) +contextual only [clrAxes_kept, clrPackage_kept, clrRefused_kept,
      put_kept, h]

theorem safeClrWrite_kept {z0 : State} (d : Nat) (m : Master) (v : Word) (s : State) (h : Kept z0 s) :
    Kept z0 (safeClrWrite d m v s) := by
  unfold safeClrWrite
  simp (maxDischargeDepth := 60) +contextual only [clrApply_kept, tkWrite_kept, h, implies_true]

theorem execSafeClrAx_kept {z0 : State} (d : CDie) (m : Master) (axes : BitVec 6) (s : State) (h : Kept z0 s) :
    OutKept z0 (execSafeClrAx d m axes s) := by
  unfold execSafeClrAx
  simp (maxDischargeDepth := 60) +contextual only [onC_kept, safeClrWrite_kept, h, implies_true]

theorem execSafeClrPkg_kept {z0 : State} (d : CDie) (m : Master) (axes : BitVec 6) (s : State) (h : Kept z0 s) :
    OutKept z0 (execSafeClrPkg d m axes s) := by
  unfold execSafeClrPkg
  simp (maxDischargeDepth := 60) +contextual only [onC_kept, safeClrWrite_kept, h, implies_true]

theorem execPackageCurtain_kept {z0 : State} (d : CDie) (s : State) (h : Kept z0 s) :
    OutKept z0 (execPackageCurtain d s) := by
  unfold execPackageCurtain
  simp (maxDischargeDepth := 60) +contextual only [onC_kept, packageCurtain_kept, h, apply_ite (Kept z0), ite_self,
      implies_true]

theorem execPeerCurtainReceive_kept {z0 : State} (d : CDie) (s : State) (h : Kept z0 s) :
    OutKept z0 (execPeerCurtainReceive d s) := by
  unfold execPeerCurtainReceive
  simp (maxDischargeDepth := 60) +contextual only [curtainAll_kept, modSafe_kept, onC_kept, h, apply_ite (Kept z0),
      ite_self, implies_true]

theorem safeCurtWrite_kept {z0 : State} (d : Nat) (m : Master) (o : Nat) (v : Word) (s : State) (h : Kept z0 s) :
    Kept z0 (safeCurtWrite d m o v s) := by
  unfold safeCurtWrite
  simp (maxDischargeDepth := 60) +contextual only [evalCurtain_kept, on_kept, onlyIf_kept, plainWrite_kept,
      protWrite_kept, safeClrWrite_kept, safeReqWrite_kept, tkWrite_kept, h, apply_ite (Kept z0), ite_self, implies_true]

theorem tmonAngle_kept {z0 : State} (d a emf spd ang : Nat) (s : State) (h : Kept z0 s) :
    Kept z0 (tmonAngle d a emf spd ang s) := by
  unfold tmonAngle
  simp (maxDischargeDepth := 60) +contextual only [put_kept, h]

theorem tmonViol_kept {z0 : State} (d a : Nat) (s : State) (h : Kept z0 s) :
    Kept z0 (tmonViol d a s) := by
  unfold tmonViol
  simp (maxDischargeDepth := 60) +contextual only [enterCurtain_kept, latchFault_kept, on_kept, h]

theorem tmonCheck_kept {z0 : State} (d a emf spd ang : Nat) (s : State) (h : Kept z0 s) :
    Kept z0 (tmonCheck d a emf spd ang s) := by
  unfold tmonCheck
  dsimp only
  (repeat' split) <;> simp (maxDischargeDepth := 60) +contextual only [modSafe_kept, on_kept, put_kept, puti_kept,
      tmonAngle_kept, tmonViol_kept, h]

theorem execTmonCheck_kept {z0 : State} (d : CDie) (a : Axis) (emf spd ang : BitVec 16) (s : State) (h : Kept z0 s) :
    OutKept z0 (execTmonCheck d a emf spd ang s) := by
  unfold execTmonCheck
  simp (maxDischargeDepth := 60) +contextual only [onC_kept, tmonCheck_kept, h, implies_true]

theorem tmonZero_kept {z0 : State} (d a : Nat) (s : State) (h : Kept z0 s) :
    Kept z0 (tmonZero d a s) := by
  unfold tmonZero
  simp (maxDischargeDepth := 60) +contextual only [modSafe_kept, off_kept, on_kept, h, apply_ite (Kept z0), ite_self]

theorem execTmonZeroCheck_kept {z0 : State} (d : CDie) (a : Axis) (s : State) (h : Kept z0 s) :
    OutKept z0 (execTmonZeroCheck d a s) := by
  unfold execTmonZeroCheck
  simp (maxDischargeDepth := 60) +contextual only [onC_kept, tmonZero_kept, h, implies_true]

theorem tmonEvtWrite_kept {z0 : State} (d a : Nat) (v : Word) (s : State) (h : Kept z0 s) :
    Kept z0 (tmonEvtWrite d a v s) := by
  unfold tmonEvtWrite
  simp (maxDischargeDepth := 60) +contextual only [dropCause_kept, endActive_kept, off_kept, on_kept, plainWrite_kept, h,
      apply_ite (Kept z0), ite_self]

theorem execTmonViolClear_kept {z0 : State} (d : CDie) (a : Axis) (s : State) (h : Kept z0 s) :
    OutKept z0 (execTmonViolClear d a s) := by
  unfold execTmonViolClear
  simp (maxDischargeDepth := 60) +contextual only [onCW_kept, tmonEvtWrite_kept, h, implies_true]

theorem tmonCfgWrite_kept {z0 : State} (d a : Nat) (v : Word) (s : State) (h : Kept z0 s) :
    Kept z0 (tmonCfgWrite d a v s) := by
  unfold tmonCfgWrite
  simp (maxDischargeDepth := 60) +contextual only [off_kept, on_kept, plainWrite_kept, put_kept, h, apply_ite (Kept z0),
      ite_self]

theorem execTmonEnable_kept {z0 : State} (d : CDie) (a : Axis) (v : Word) (s : State) (h : Kept z0 s) :
    OutKept z0 (execTmonEnable d a v s) := by
  unfold execTmonEnable
  simp (maxDischargeDepth := 60) +contextual only [onCW_kept, tmonCfgWrite_kept, h, implies_true]

theorem tmonWrite_kept {z0 : State} (d : Nat) (m : Master) (a o : Nat) (v : Word) (s : State) (h : Kept z0 s) :
    Kept z0 (tmonWrite d m a o v s) := by
  unfold tmonWrite
  simp (maxDischargeDepth := 60) +contextual only [plainWrite_kept, protWrite_kept, tkWrite_kept, tmonCfgWrite_kept,
      tmonEvtWrite_kept, h, apply_ite (Kept z0), ite_self, implies_true]

/-! ### Machine/Chk.lean -/

theorem modChk_kept {z0 : State} (d p : Nat) (f : ChkPair → ChkPair) (s : State) (h : Kept z0 s) :
    Kept z0 (modChk d p f s) := by
  unfold modChk
  simp (maxDischargeDepth := 60) +contextual only [modC_kept, put_kept, h]

theorem putDigest_kept {z0 : State} (d core v : Nat) (s : State) (h : Kept z0 s) :
    Kept z0 (putDigest d core v s) := by
  unfold putDigest
  simp (maxDischargeDepth := 60) +contextual only [modChk_kept, h]

theorem digestStore_kept {z0 : State} (d core addr data be : Nat) (s : State) (h : Kept z0 s) :
    Kept z0 (digestStore d core addr data be s) := by
  unfold digestStore
  simp (maxDischargeDepth := 60) +contextual only [putDigest_kept, h]

theorem resyncFail_kept {z0 : State} (d : Nat) (s : State) (h : Kept z0 s) :
    Kept z0 (resyncFail d s) := by
  unfold resyncFail
  simp (maxDischargeDepth := 60) +contextual only [modChk_kept, off_kept, on_kept, put_kept, h]

theorem collect_kept {z0 : State} (d g i : Nat) (act : Bool) (s : State) (h : Kept z0 s) :
    Kept z0 (collect d g i act s) := by
  unfold collect
  simp (maxDischargeDepth := 60) +contextual only [latchFault_kept, resyncFail_kept, takeReaction_kept, h,
      apply_ite (Kept z0), ite_self]

theorem ckLatch_kept {z0 : State} (d p i : Nat) (s : State) (h : Kept z0 s) :
    Kept z0 (ckLatch d p i s) := by
  unfold ckLatch
  simp (maxDischargeDepth := 60) +contextual only [collect_kept, putBit_kept, h]

theorem chkEcc_kept {z0 : State} (d p ecc : Nat) (s : State) (h : Kept z0 s) :
    Kept z0 (chkEcc d p ecc s) := by
  unfold chkEcc
  simp (maxDischargeDepth := 60) +contextual only [count_kept, latchFault_kept, on_kept, h, apply_ite (Kept z0), ite_self]

theorem disagreed_kept {z0 : State} (d : Nat) (dis : Bool) (s : State) (h : Kept z0 s) :
    Kept z0 (disagreed d dis s) := by
  unfold disagreed
  simp (maxDischargeDepth := 60) +contextual only [collect_kept, on_kept, onlyIf_kept, h, implies_true]

theorem leads_kept {z0 : State} (d core lag : Nat) (s : State) (h : Kept z0 s) :
    Kept z0 (leads d core lag s) := by
  unfold leads
  simp (maxDischargeDepth := 60) +contextual only [put_kept, h]

theorem record_kept {z0 : State} (d core : Nat) (e : DqEnt) (s : State) (h : Kept z0 s) :
    Kept z0 (record d core e s) := by
  unfold record
  simp (maxDischargeDepth := 60) +contextual only [modChk_kept, h]

theorem readDone_kept {z0 : State} (d core addr data : Nat) (s : State) (h : Kept z0 s) :
    Kept z0 (readDone d core addr data s) := by
  unfold readDone
  simp (maxDischargeDepth := 60) +contextual only [modSys_kept, onlyIf_kept, record_kept, h, implies_true]

theorem trailingRead_kept {z0 : State} (d p addr lag : Nat) (disagree : Bool) (ecc : Nat) (s : State) (h : Kept z0 s) :
    Kept z0 (trailingRead d p addr lag disagree ecc s) := by
  unfold trailingRead
  split <;> simp (maxDischargeDepth := 60) +contextual only [chkEcc_kept, ckLatch_kept, disagreed_kept, modChk_kept,
      modSys_kept, onlyIf_kept, put_kept, h, apply_ite (Kept z0), ite_self, implies_true]

theorem execTrailingRead_kept {z0 : State} (d : CDie) (p : Fin 2) (addr : Word) (lag : Fin 4097) (disagree : Bool) (ecc : Fin 3) (s : State) (h : Kept z0 s) :
    OutKept z0 (execTrailingRead d p addr lag disagree ecc s) := by
  unfold execTrailingRead
  simp (maxDischargeDepth := 60) +contextual only [onC_kept, trailingRead_kept, h, implies_true]

theorem modPlic_kept {z0 : State} (d : Nat) (f : PlicC → PlicC) (s : State) (h : Kept z0 s) :
    Kept z0 (modPlic d f s) := by
  unfold modPlic
  simp (maxDischargeDepth := 60) +contextual only [modC_kept, h]

theorem trapOf_kept {z0 : State} (d : Nat) (core : Fin 4) (s : State) (h : Kept z0 s) :
    Kept z0 (trapOf d core s) := by
  unfold trapOf
  simp (maxDischargeDepth := 60) +contextual only [tkTrap_kept, h]

theorem interruptAccept_kept {z0 : State} (d : Nat) (core : Fin 4) (kind r : Nat) (trailing : Bool) (s : State) (h : Kept z0 s) :
    Kept z0 (interruptAccept d core kind r trailing s) := by
  unfold interruptAccept
  dsimp only
  (repeat' split) <;> simp (maxDischargeDepth := 60) +contextual only [modChk_kept, put_kept, record_kept, trapOf_kept, h]

theorem execInterruptAccept_kept {z0 : State} (d : CDie) (core : Fin 4) (kind : Fin 3) (r : Word) (trailing : Bool) (s : State) (h : Kept z0 s) :
    OutKept z0 (execInterruptAccept d core kind r trailing s) := by
  unfold execInterruptAccept
  simp (maxDischargeDepth := 60) +contextual only [interruptAccept_kept, onC_kept, h, implies_true]

theorem plicTake_kept {z0 : State} (d ctx : Nat) (s : State) (h : Kept z0 s) : Kept z0 (plicTake d ctx s).2 := by
  exact onlyIf_kept _ _ s (fun t ht => modPlic_kept d _ t ht) h

theorem plicClaim_kept {z0 : State} (d core : Nat) (s : State) (h : Kept z0 s) :
    Kept z0 (plicClaim d core s) := by
  have hp := plicTake_kept d (pairOf core) s h
  unfold plicClaim
  split
  · dsimp only
    exact readDone_kept _ _ _ _ _ (put_kept _ _ _ _ hp)
  · exact h

theorem execPlicClaim_kept {z0 : State} (d : CDie) (core : Fin 4) (s : State) (h : Kept z0 s) :
    OutKept z0 (execPlicClaim d core s) := by
  unfold execPlicClaim
  simp (maxDischargeDepth := 60) +contextual only [onC_kept, plicClaim_kept, h, implies_true]

theorem plicFinish_kept {z0 : State} (d ctx i : Nat) (s : State) (h : Kept z0 s) :
    Kept z0 (plicFinish d ctx i s) := by
  unfold plicFinish
  simp (maxDischargeDepth := 60) +contextual only [modPlic_kept, onlyIf_kept, h, implies_true]

theorem execPlicComplete_kept {z0 : State} (d : CDie) (ctx : Fin 2) (i : Byte) (s : State) (h : Kept z0 s) :
    OutKept z0 (execPlicComplete d ctx i s) := by
  unfold execPlicComplete
  simp (maxDischargeDepth := 60) +contextual only [onCW_kept, plicFinish_kept, h, implies_true]

theorem plicWrite_kept {z0 : State} (d off v : Nat) (s : State) (h : Kept z0 s) :
    Kept z0 (plicWrite d off v s) := by
  unfold plicWrite
  simp (maxDischargeDepth := 60) +contextual only [modPlic_kept, onlyIf_kept, overN_kept, plicFinish_kept, h,
      apply_ite (Kept z0), ite_self, implies_true]

theorem ocbStore_kept {z0 : State} (d core addr data be : Nat) (disagree : Bool) (ecc : Nat) (perf : Nat → State → State) (s : State) (hperf : ∀ (x0 : Nat) (t : State), Kept z0 t → Kept z0 (perf x0 t)) (h : Kept z0 s) :
    Kept z0 (ocbStore d core addr data be disagree ecc perf s) := by
  unfold ocbStore
  dsimp only
  (repeat' split) <;> simp (maxDischargeDepth := 60) +contextual only [chkEcc_kept, ckLatch_kept, digestStore_kept,
      disagreed_kept, modChk_kept, overL_kept, h, hperf, implies_true]

theorem sramStore_kept {z0 : State} (d core addr data be : Nat) (perf : State → State) (s : State) (hperf : ∀ (t : State), Kept z0 t → Kept z0 (perf t)) (h : Kept z0 s) :
    Kept z0 (sramStore d core addr data be perf s) := by
  unfold sramStore
  simp (maxDischargeDepth := 60) +contextual only [digestStore_kept, modChk_kept, h, hperf, apply_ite (Kept z0), ite_self]

theorem ocbTimeout_kept {z0 : State} (d p : Nat) (s : State) (h : Kept z0 s) :
    Kept z0 (ocbTimeout d p s) := by
  unfold ocbTimeout
  simp (maxDischargeDepth := 60) +contextual only [ckLatch_kept, modChk_kept, h, apply_ite (Kept z0), ite_self]

theorem execProtectedStoreTimeout_kept {z0 : State} (d : CDie) (p : Fin 2) (s : State) (h : Kept z0 s) :
    OutKept z0 (execProtectedStoreTimeout d p s) := by
  unfold execProtectedStoreTimeout
  simp (maxDischargeDepth := 60) +contextual only [ocbTimeout_kept, onC_kept, h, implies_true]

theorem drill_kept {z0 : State} (d : Nat) (xMiss yMiss : Bool) (s : State) (h : Kept z0 s) :
    Kept z0 (drill d xMiss yMiss s) := by
  unfold drill
  simp (maxDischargeDepth := 60) +contextual only [collect_kept, on_kept, put_kept, h, apply_ite (Kept z0), ite_self]

theorem resyncDone_kept {z0 : State} (d : Nat) (s : State) (h : Kept z0 s) :
    Kept z0 (resyncDone d s) := by
  unfold resyncDone
  simp (maxDischargeDepth := 60) +contextual only [dropDeferral_kept, off_kept, on_kept, putAct_kept, put_kept, h,
      apply_ite (Kept z0), ite_self]

theorem checkpointVerdict_kept {z0 : State} (d core : Nat) (e : CpEnt) (id digest : Nat) (full : Bool) (ctx : CoreCtx) (xMiss yMiss disagree : Bool) (ecc : Nat) (s : State) (h : Kept z0 s) :
    Kept z0 (checkpointVerdict d core e id digest full ctx xMiss yMiss disagree ecc s) := by
  unfold checkpointVerdict
  simp (maxDischargeDepth := 60) +contextual only [chkEcc_kept, ckLatch_kept, count_kept, disagreed_kept, drill_kept,
      latchFault_kept, modChk_kept, on_kept, onlyIf_kept, put_kept, resyncDone_kept, h, apply_ite (Kept z0), ite_self,
      implies_true]

theorem checkpoint_kept {z0 : State} (d core id : Nat) (full : Bool) (ctx : CoreCtx) (xMiss yMiss disagree : Bool) (ecc : Nat) (s : State) (h : Kept z0 s) :
    Kept z0 (checkpoint d core id full ctx xMiss yMiss disagree ecc s) := by
  unfold checkpoint
  dsimp only
  (repeat' split) <;> simp (maxDischargeDepth := 60) +contextual only [checkpointVerdict_kept, modChk_kept,
      putDigest_kept, h]

theorem execCheckpointWrite_kept {z0 : State} (d : CDie) (core : Fin 4) (id : BitVec 16) (full : Bool) (ctx : CoreCtx) (xMiss yMiss : Bool) (disagree : Bool) (ecc : Fin 3) (s : State) (h : Kept z0 s) :
    OutKept z0 (execCheckpointWrite d core id full ctx xMiss yMiss disagree ecc s) := by
  unfold execCheckpointWrite
  simp (maxDischargeDepth := 60) +contextual only [checkpoint_kept, onCW_kept, h, implies_true]

theorem checkpointTimeout_kept {z0 : State} (d p : Nat) (s : State) (h : Kept z0 s) :
    Kept z0 (checkpointTimeout d p s) := by
  unfold checkpointTimeout
  split <;> simp (maxDischargeDepth := 60) +contextual only [ckLatch_kept, modChk_kept, h, apply_ite (Kept z0), ite_self]

theorem execCheckpointTimeout_kept {z0 : State} (d : CDie) (p : Fin 2) (s : State) (h : Kept z0 s) :
    OutKept z0 (execCheckpointTimeout d p s) := by
  unfold execCheckpointTimeout
  simp (maxDischargeDepth := 60) +contextual only [checkpointTimeout_kept, onC_kept, h, implies_true]

theorem checkpointMiss_kept {z0 : State} (d p : Nat) (s : State) (h : Kept z0 s) :
    Kept z0 (checkpointMiss d p s) := by
  unfold checkpointMiss
  simp (maxDischargeDepth := 60) +contextual only [ckLatch_kept, modChk_kept, h, apply_ite (Kept z0), ite_self]

theorem execCheckpointMiss_kept {z0 : State} (d : CDie) (p : Fin 2) (s : State) (h : Kept z0 s) :
    OutKept z0 (execCheckpointMiss d p s) := by
  unfold execCheckpointMiss
  simp (maxDischargeDepth := 60) +contextual only [checkpointMiss_kept, onC_kept, h, implies_true]

theorem resyncGo_kept {z0 : State} (d p lines : Nat) (s : State) (h : Kept z0 s) :
    Kept z0 (resyncGo d p lines s) := by
  unfold resyncGo
  simp (maxDischargeDepth := 60) +contextual only [modChk_kept, on_kept, put_kept, h, apply_ite (Kept z0), ite_self]

theorem execResyncGo_kept {z0 : State} (d : CDie) (m : Master) (p : Fin 2) (lines : BitVec 16) (s : State) (h : Kept z0 s) :
    OutKept z0 (execResyncGo d m p lines s) := by
  unfold execResyncGo
  simp (maxDischargeDepth := 60) +contextual only [onC_kept, resyncGo_kept, tkWrite_kept, h, implies_true]

theorem chkCfgWrite_kept {z0 : State} (d : Nat) (m : Master) (p : Nat) (v : Word) (s : State) (h : Kept z0 s) :
    Kept z0 (chkCfgWrite d m p v s) := by
  unfold chkCfgWrite
  simp (maxDischargeDepth := 60) +contextual only [on_kept, protWrite_kept, tkWriteIf_kept, h, implies_true]

theorem debugAttach_kept {z0 : State} (d core : Nat) (s : State) (h : Kept z0 s) :
    Kept z0 (debugAttach d core s) := by
  unfold debugAttach
  simp (maxDischargeDepth := 60) +contextual only [benchRefresh_kept, benchVdc_kept, latchFault_kept, modChk_kept,
      off_kept, on_kept, overN_kept, h, apply_ite (Kept z0), ite_self, implies_true]

theorem execDebugAttach_kept {z0 : State} (d : CDie) (core : Fin 4) (s : State) (h : Kept z0 s) :
    OutKept z0 (execDebugAttach d core s) := by
  unfold execDebugAttach
  simp (maxDischargeDepth := 60) +contextual only [debugAttach_kept, onC_kept, h, implies_true]

theorem execFaultLatch_kept {z0 : State} (d : CDie) (g : Fin 32) (i : Fin 64) (act : Bool) (s : State) (h : Kept z0 s) :
    OutKept z0 (execFaultLatch d g i act s) := by
  unfold execFaultLatch
  simp (maxDischargeDepth := 60) +contextual only [collect_kept, onC_kept, h, implies_true]

theorem deferExpiry_kept {z0 : State} (d g : Nat) (s : State) (h : Kept z0 s) :
    Kept z0 (deferExpiry d g s) := by
  unfold deferExpiry
  simp (maxDischargeDepth := 60) +contextual only [dropDeferral_kept, modFc_kept, onlyIf_kept, overN_kept,
      refreshFault_kept, resyncFail_kept, takeReaction_kept, h, apply_ite (Kept z0), ite_self, implies_true]

theorem execFaultDeferExpiry_kept {z0 : State} (d : CDie) (g : Fin 32) (s : State) (h : Kept z0 s) :
    OutKept z0 (execFaultDeferExpiry d g s) := by
  unfold execFaultDeferExpiry
  simp (maxDischargeDepth := 60) +contextual only [deferExpiry_kept, onC_kept, h, implies_true]

theorem faultClear_kept {z0 : State} (d : Nat) (v : Word) (s : State) (h : Kept z0 s) :
    Kept z0 (faultClear d v s) := by
  unfold faultClear
  simp (maxDischargeDepth := 60) +contextual only [clearLatch_kept, note_kept, onlyIf_kept, overN_kept,
      refreshCauses_kept, refreshFault_kept, setReg_kept, h, apply_ite (Kept z0), ite_self, implies_true]

theorem faultClearWrite_kept {z0 : State} (d : Nat) (m : Master) (v : Word) (s : State) (h : Kept z0 s) :
    Kept z0 (faultClearWrite d m v s) := by
  unfold faultClearWrite
  simp (maxDischargeDepth := 60) +contextual only [faultClear_kept, tkWrite_kept, h, apply_ite (Kept z0), ite_self,
      implies_true]

theorem execFaultClear_kept {z0 : State} (d : CDie) (m : Master) (v : Word) (s : State) (h : Kept z0 s) :
    OutKept z0 (execFaultClear d m v s) := by
  unfold execFaultClear
  simp (maxDischargeDepth := 60) +contextual only [faultClearWrite_kept, onC_kept, h, implies_true]

theorem faultInjectWrite_kept {z0 : State} (d : Nat) (m : Master) (v : Word) (s : State) (h : Kept z0 s) :
    Kept z0 (faultInjectWrite d m v s) := by
  unfold faultInjectWrite
  simp (maxDischargeDepth := 60) +contextual only [collect_kept, setReg_kept, tkWrite_kept, h, apply_ite (Kept z0),
      ite_self, implies_true]

theorem execFaultInject_kept {z0 : State} (d : CDie) (m : Master) (v : Word) (s : State) (h : Kept z0 s) :
    OutKept z0 (execFaultInject d m v s) := by
  unfold execFaultInject
  simp (maxDischargeDepth := 60) +contextual only [faultInjectWrite_kept, onC_kept, h, implies_true]

theorem swrepWrite_kept {z0 : State} (d : Nat) (v : Word) (s : State) (h : Kept z0 s) :
    Kept z0 (swrepWrite d v s) := by
  unfold swrepWrite
  simp (maxDischargeDepth := 60) +contextual only [collect_kept, put_kept, h, apply_ite (Kept z0), ite_self]

theorem execSoftwareFaultReport_kept {z0 : State} (d : CDie) (v : Word) (s : State) (h : Kept z0 s) :
    OutKept z0 (execSoftwareFaultReport d v s) := by
  unfold execSoftwareFaultReport
  simp (maxDischargeDepth := 60) +contextual only [onCW_kept, swrepWrite_kept, h, implies_true]

theorem fcCfgWrite_kept {z0 : State} (d : Nat) (m : Master) (g : Nat) (v : Word) (s : State) (h : Kept z0 s) :
    Kept z0 (fcCfgWrite d m g v s) := by
  unfold fcCfgWrite
  simp (maxDischargeDepth := 60) +contextual only [on_kept, protWrite_kept, refreshFault_kept, tkWriteIf_kept, h,
      implies_true]

/-! ### Machine/Therm.lean -/

theorem sensorCheck_kept {z0 : State} (e i : Nat) (vals : Readings) (s : State) (h : Kept z0 s) :
    Kept z0 (sensorCheck e i vals s) := by
  unfold sensorCheck
  simp (maxDischargeDepth := 60) +contextual only [latchFault_kept, modTherm_kept, on_kept, overL_kept, h,
      apply_ite (Kept z0), ite_self, implies_true]

theorem maxRefresh_kept {z0 : State} (e : Nat) (s : State) (h : Kept z0 s) :
    Kept z0 (maxRefresh e s) := by
  unfold maxRefresh
  dsimp only
  (repeat' split) <;> simp (maxDischargeDepth := 60) +contextual only [put_kept, puti_kept, h]

theorem thFlag_kept {z0 : State} (e i j : Nat) (on : Bool) (s : State) (h : Kept z0 s) :
    Kept z0 (thFlag e i j on s) := by
  unfold thFlag
  simp (maxDischargeDepth := 60) +contextual only [endActive_kept, latchFault_kept, modTherm_kept, putBit_kept, h,
      apply_ite (Kept z0), ite_self]

theorem thresholds_kept {z0 : State} (e i : Nat) (vals : Readings) (s : State) (h : Kept z0 s) :
    Kept z0 (thresholds e i vals s) := by
  unfold thresholds
  simp (maxDischargeDepth := 60) +contextual only [modTherm_kept, put_kept, thFlag_kept, h, apply_ite (Kept z0), ite_self]

theorem derate_kept {z0 : State} (e i : Nat) (s : State) (h : Kept z0 s) :
    Kept z0 (derate e i s) := by
  unfold derate
  refine overN_kept _ _ _ (fun j t ht => ?_) h
  try dsimp only
  split
  · split
    · exact ht
    · exact spWrite_kept _ _ _ _ ht
  · exact ht

theorem sampleAt_kept {z0 : State} (e i : Nat) (vals : Readings) (s : State) (h : Kept z0 s) :
    Kept z0 (sampleAt e i vals s) := by
  unfold sampleAt
  simp (maxDischargeDepth := 60) +contextual only [derate_kept, endActive_kept, maxRefresh_kept, modTherm_kept,
      nvmCut_kept, onlyIf_kept, overN_kept, put_kept, sensorCheck_kept, thresholds_kept, h, apply_ite (Kept z0),
      ite_self, implies_true]

theorem shutdown_kept {z0 : State} (i sensor : Nat) (temp : Int) (hw : Bool) (s : State) (h : Kept z0 s) :
    Kept z0 (shutdown i sensor temp hw s) := by
  unfold shutdown
  simp (maxDischargeDepth := 60) +contextual only [curtainAll_kept, flushStart_kept, modTherm_kept, note_kept, on_kept,
      overN_kept, rejectWindow_kept, setDevice_kept, thermEvent_kept, h, apply_ite (Kept z0), ite_self, implies_true]

theorem lockdownEnd_kept {z0 : State} (s : State) (h : Kept z0 s) :
    Kept z0 (lockdownEnd s) := by
  unfold lockdownEnd
  simp (maxDischargeDepth := 60) +contextual only [off_kept, overN_kept, packageReset_kept, setDevice_kept, h,
      apply_ite (Kept z0), ite_self, implies_true]

theorem sampNote_kept {z0 : State} (i : Nat) (vals : Readings) (s : State) (h : Kept z0 s) :
    Kept z0 (sampNote i vals s) := by
  unfold sampNote
  simp (maxDischargeDepth := 60) +contextual only [modD_kept, modTherm_kept, h, apply_ite (Kept z0), ite_self]

theorem thermalSample_kept {z0 : State} (i : Nat) (vals : Readings) (s : State) (h : Kept z0 s) :
    Kept z0 (thermalSample i vals s) := by
  unfold thermalSample
  dsimp only
  (repeat' split) <;> simp (maxDischargeDepth := 60) +contextual only [lockdownEnd_kept, overN_kept, sampNote_kept,
      sampleAt_kept, shutdown_kept, h, apply_ite (Kept z0), ite_self, implies_true]

theorem execThermalSample_kept {z0 : State} (i : DieIx) (vals : Readings) (s : State) (h : Kept z0 s) :
    OutKept z0 (execThermalSample i vals s) := by
  unfold execThermalSample
  simp (maxDischargeDepth := 60) +contextual only [onC_kept, onD_kept, thermalSample_kept, h, ite_self, implies_true,
      apply_ite (OutKept z0)]

theorem execHwShutdownLocal_kept {z0 : State} (k : DDie) (s : State) (h : Kept z0 s) :
    OutKept z0 (execHwShutdownLocal k s) := by
  unfold execHwShutdownLocal
  simp (maxDischargeDepth := 60) +contextual only [curtainLeg_kept, drvAct_kept, onD_kept, overN_kept, settle_kept, h,
      apply_ite (Kept z0), ite_self, implies_true]

theorem tmodAt_kept {z0 : State} (e k : Nat) (mv : Readings) (s : State) (h : Kept z0 s) :
    Kept z0 (tmodAt e k mv s) := by
  unfold tmodAt
  simp (maxDischargeDepth := 60) +contextual only [endActive_kept, latchFault_kept, modTherm_kept, on_kept, onlyIf_kept,
      overL_kept, put_kept, h, apply_ite (Kept z0), ite_self, implies_true]

theorem tmodSample_kept {z0 : State} (k : Nat) (mv : Readings) (s : State) (h : Kept z0 s) :
    Kept z0 (tmodSample k mv s) := by
  unfold tmodSample
  simp (maxDischargeDepth := 60) +contextual only [modD_kept, overN_kept, tmodAt_kept, h, apply_ite (Kept z0), ite_self,
      implies_true]

theorem execTmodSample_kept {z0 : State} (k : DDie) (mv : Readings) (s : State) (h : Kept z0 s) :
    OutKept z0 (execTmodSample k mv s) := by
  unfold execTmodSample
  simp (maxDischargeDepth := 60) +contextual only [onD_kept, tmodSample_kept, h, implies_true]

theorem execShutdownRecordWrite_kept {z0 : State} (d : CDie) (s : State) (h : Kept z0 s) :
    OutKept z0 (execShutdownRecordWrite d s) := by
  unfold execShutdownRecordWrite
  simp (maxDischargeDepth := 60) +contextual only [onC_kept, thermTry_kept, h, implies_true]

theorem thermAck_kept {z0 : State} (d : Nat) (s : State) (h : Kept z0 s) :
    Kept z0 (thermAck d s) := by
  unfold thermAck
  simp (maxDischargeDepth := 60) +contextual only [note_kept, off_kept, on_kept, overN_kept, putLrec_kept, put_kept,
      thermStore_kept, h, apply_ite (Kept z0), ite_self, implies_true]

theorem execThermalAck_kept {z0 : State} (d : CDie) (m : Master) (s : State) (h : Kept z0 s) :
    OutKept z0 (execThermalAck d m s) := by
  unfold execThermalAck
  simp (maxDischargeDepth := 60) +contextual only [onC_kept, thermAck_kept, tkWrite_kept, h, implies_true]

theorem thermThWrite_kept {z0 : State} (d : Nat) (m : Master) (off : Nat) (v : Word) (s : State) (h : Kept z0 s) :
    Kept z0 (thermThWrite d m off v s) := by
  unfold thermThWrite
  simp (maxDischargeDepth := 60) +contextual only [on_kept, protWrite_kept, tkWriteIf_kept, h, implies_true]

/-! ### Machine/Bist.lean -/

theorem modBist_kept {z0 : State} (d : Nat) (f : BistC → BistC) (s : State) (h : Kept z0 s) :
    Kept z0 (modBist d f s) := by
  unfold modBist
  simp (maxDischargeDepth := 60) +contextual only [modC_kept, h]

theorem putBoth_kept {z0 : State} (f : Fld) (v : Nat) (s : State) (h : Kept z0 s) :
    Kept z0 (putBoth f v s) := by
  unfold putBoth
  simp (maxDischargeDepth := 60) +contextual only [overN_kept, put_kept, h, apply_ite (Kept z0), ite_self, implies_true]

theorem bistBegin_kept {z0 : State} (s : State) (h : Kept z0 s) :
    Kept z0 (bistBegin s) := by
  unfold bistBegin
  simp (maxDischargeDepth := 60) +contextual only [modBist_kept, putBoth_kept, h]

theorem execBistStart_kept {z0 : State} (s : State) (h : Kept z0 s) :
    OutKept z0 (execBistStart s) := by
  unfold execBistStart
  simp (maxDischargeDepth := 60) +contextual only [bistBegin_kept, modBist_kept, put_kept, h, apply_ite (Kept z0),
      ite_self, outKept_next]

theorem execThermalHoldRecheck_kept {z0 : State} (s : State) (h : Kept z0 s) :
    OutKept z0 (execThermalHoldRecheck s) := by
  unfold execThermalHoldRecheck
  simp (maxDischargeDepth := 60) +contextual only [bistBegin_kept, modBist_kept, put_kept, h, apply_ite (Kept z0),
      ite_self, outKept_next]

theorem bistEnd_kept {z0 : State} (s : State) (h : Kept z0 s) :
    Kept z0 (bistEnd s) := by
  unfold bistEnd
  simp (maxDischargeDepth := 60) +contextual only [putBoth_kept, setDevice_kept, h, apply_ite (Kept z0), ite_self]

theorem firstFail_kept {z0 : State} (i slice code : Nat) (s : State) (h : Kept z0 s) :
    Kept z0 (firstFail i slice code s) := by
  unfold firstFail
  simp (maxDischargeDepth := 60) +contextual only [putBoth_kept, h, apply_ite (Kept z0), ite_self]

theorem failRecord_kept {z0 : State} (s : State) (h : Kept z0 s) :
    Kept z0 (failRecord s) := by
  unfold failRecord
  simp (maxDischargeDepth := 60) +contextual only [flushStart_kept, recordRom_kept, h, apply_ite (Kept z0), ite_self]

theorem bistReset_kept {z0 : State} (s : State) (h : Kept z0 s) :
    Kept z0 (bistReset s) := by
  unfold bistReset
  simp (maxDischargeDepth := 60) +contextual only [modSys_kept, on_kept, overN_kept, putBoth_kept, putDev_kept, h,
      apply_ite (Kept z0), ite_self, implies_true]

theorem bistCurtain_kept {z0 : State} (s : State) (h : Kept z0 s) :
    Kept z0 (bistCurtain s) := by
  unfold bistCurtain
  simp (maxDischargeDepth := 60) +contextual only [curtainAll_kept, flushStart_kept, modSafe_kept, overN_kept,
      putBoth_kept, setDevice_kept, h, apply_ite (Kept z0), ite_self, implies_true]

theorem markC1_kept {z0 : State} (s : State) (h : Kept z0 s) :
    Kept z0 (markC1 s) := by
  unfold markC1
  simp (maxDischargeDepth := 60) +contextual only [on_kept, resetC_kept, syncOwn_kept, h]

theorem markUnits_kept {z0 : State} (d : Nat) (f : Fld) (units : Nat) (s : State) (h : Kept z0 s) :
    Kept z0 (markUnits d f units s) := by
  unfold markUnits
  simp (maxDischargeDepth := 60) +contextual only [on_kept, put_kept, h]

theorem retireUnit_kept {z0 : State} (d u : Nat) (s : State) (h : Kept z0 s) :
    Kept z0 (retireUnit d u s) := by
  unfold retireUnit
  simp (maxDischargeDepth := 60) +contextual only [latchFault_kept, note_kept, off_kept, on_kept, putBit_kept, put_kept,
      h, apply_ite (Kept z0), ite_self]

theorem retireStart_kept {z0 : State} (d u : Nat) (s : State) (h : Kept z0 s) :
    Kept z0 (retireStart d u s) := by
  unfold retireStart
  simp (maxDischargeDepth := 60) +contextual only [overN_kept, put_kept, retireUnit_kept, h, apply_ite (Kept z0),
      ite_self, implies_true]

theorem loopFail_kept {z0 : State} (d units : Nat) (k4 : Bool) (curtain : State → State) (s : State) (hcurtain : ∀ (t : State), Kept z0 t → Kept z0 (curtain t)) (h : Kept z0 s) :
    Kept z0 (loopFail d units k4 curtain s) := by
  unfold loopFail
  dsimp only
  (repeat' split) <;> simp (maxDischargeDepth := 60) +contextual only [on_kept, overL_kept, putBit_kept,
      retireStart_kept, h, hcurtain, apply_ite (Kept z0), ite_self, implies_true]

theorem ctlFail_kept {z0 : State} (d slice units : Nat) (k4 : Bool) (reset curtain : State → State) (s : State) (hreset : ∀ (t : State), Kept z0 t → Kept z0 (reset t)) (hcurtain : ∀ (t : State), Kept z0 t → Kept z0 (curtain t)) (h : Kept z0 s) :
    Kept z0 (ctlFail d slice units k4 reset curtain s) := by
  unfold ctlFail
  simp (maxDischargeDepth := 60) +contextual only [loopFail_kept, markC1_kept, markUnits_kept, h, hreset, hcurtain,
      apply_ite (Kept z0), ite_self, implies_true]

theorem sliceFail_kept {z0 : State} (i slice units : Nat) (s : State) (h : Kept z0 s) :
    Kept z0 (sliceFail i slice units s) := by
  unfold sliceFail
  simp (maxDischargeDepth := 60) +contextual only [bistCurtain_kept, bistReset_kept, ctlFail_kept, modD_kept, on_kept,
      overN_kept, putBit_kept, settle_kept, h, apply_ite (Kept z0), ite_self, implies_true]

theorem sliceEnd_kept {z0 : State} (i code units : Nat) (s : State) (h : Kept z0 s) :
    Kept z0 (sliceEnd i code units s) := by
  unfold sliceEnd
  simp (maxDischargeDepth := 60) +contextual only [bistEnd_kept, failRecord_kept, firstFail_kept, modBist_kept,
      sliceFail_kept, h, apply_ite (Kept z0), ite_self]

theorem aloneReset_kept {z0 : State} (d : Nat) (s : State) (h : Kept z0 s) :
    Kept z0 (aloneReset d s) := by
  unfold aloneReset
  simp (maxDischargeDepth := 60) +contextual only [modSys_kept, on_kept, put_kept, h]

theorem aloneCurtain_kept {z0 : State} (d : Nat) (s : State) (h : Kept z0 s) :
    Kept z0 (aloneCurtain d s) := by
  unfold aloneCurtain
  simp (maxDischargeDepth := 60) +contextual only [curtainAll_kept, flushStart_kept, modSafe_kept, put_kept, h]

theorem aloneFail_kept {z0 : State} (d slice code units : Nat) (s : State) (h : Kept z0 s) :
    Kept z0 (aloneFail d slice code units s) := by
  unfold aloneFail
  simp (maxDischargeDepth := 60) +contextual only [aloneCurtain_kept, aloneReset_kept, ctlFail_kept, flushStart_kept,
      put_kept, recordRom_kept, h, apply_ite (Kept z0), ite_self, implies_true]

theorem aloneEnd_kept {z0 : State} (d code units : Nat) (s : State) (h : Kept z0 s) :
    Kept z0 (aloneEnd d code units s) := by
  unfold aloneEnd
  simp (maxDischargeDepth := 60) +contextual only [aloneFail_kept, modBist_kept, put_kept, h, apply_ite (Kept z0), ite_self]

theorem requestEnd_kept {z0 : State} (d i code : Nat) (s : State) (h : Kept z0 s) :
    Kept z0 (requestEnd d i code s) := by
  unfold requestEnd
  simp (maxDischargeDepth := 60) +contextual only [dieReset_kept, modBist_kept, on_kept, put_kept, h,
      apply_ite (Kept z0), ite_self]

theorem sliceOver_kept {z0 : State} (i code units : Nat) (s : State) (h : Kept z0 s) :
    Kept z0 (sliceOver i code units s) := by
  unfold sliceOver
  repeat' split
  all_goals simp (maxDischargeDepth := 60) +contextual only [aloneEnd_kept, requestEnd_kept, sliceEnd_kept, h]

theorem sliceDone_kept {z0 : State} (i code units : Nat) (s : State) (h : Kept z0 s) :
    Kept z0 (sliceDone i code units s) := by
  unfold sliceDone
  simp (maxDischargeDepth := 60) +contextual only [sliceOver_kept, h]

theorem atDie_kept {z0 : State} (i : Nat) (f : State → State) (s : State) (hf : ∀ (t : State),
      Kept z0 t → Kept z0 (f t)) (h : Kept z0 s) :
    OutKept z0 (atDie i f s) := by
  unfold atDie
  simp (maxDischargeDepth := 60) +contextual only [h, hf, apply_ite (Kept z0), ite_self, outKept_next]

theorem execBistSliceDone_kept {z0 : State} (i : DieIx) (code : Fin 6) (units : BitVec 64) (s : State) (h : Kept z0 s) :
    OutKept z0 (execBistSliceDone i code units s) := by
  unfold execBistSliceDone
  simp (maxDischargeDepth := 60) +contextual only [atDie_kept, sliceDone_kept, h, implies_true]

theorem execBistSliceTimeout_kept {z0 : State} (i : DieIx) (s : State) (h : Kept z0 s) :
    OutKept z0 (execBistSliceTimeout i s) := by
  unfold execBistSliceTimeout
  simp (maxDischargeDepth := 60) +contextual only [atDie_kept, sliceOver_kept, h, apply_ite (Kept z0), ite_self,
      implies_true]

theorem refreshRot_kept {z0 : State} (d : Nat) (s : State) (h : Kept z0 s) :
    Kept z0 (refreshRot d s) := by
  unfold refreshRot
  simp (maxDischargeDepth := 60) +contextual only [put_kept, h]

theorem nextTarget_kept {z0 : State} (d : Nat) (s : State) (h : Kept z0 s) :
    Kept z0 (nextTarget d s) := by
  unfold nextTarget
  simp (maxDischargeDepth := 60) +contextual only [put_kept, h]

theorem serving_kept {z0 : State} (d t x : Nat) (s : State) (h : Kept z0 s) :
    Kept z0 (serving d t x s) := by
  unfold serving
  simp (maxDischargeDepth := 60) +contextual only [modBist_kept, h]

theorem engineCopy_kept {z0 : State} (d : Nat) (s : State) (h : Kept z0 s) :
    Kept z0 (engineCopy d s) := by
  unfold engineCopy
  simp (maxDischargeDepth := 60) +contextual only [modLoop_kept, on_kept, serving_kept, h]

theorem groupRotate_kept {z0 : State} (d g : Nat) (s : State) (h : Kept z0 s) :
    Kept z0 (groupRotate d g s) := by
  unfold groupRotate
  split <;> simp (maxDischargeDepth := 60) +contextual only [modAg_kept, modBist_kept, on_kept, put_kept,
      refreshRot_kept, serving_kept, h]

theorem rotateFrom_kept {z0 : State} (d : Nat) : ∀ (n : Nat) (s : State) (_ : Kept z0 s), Kept z0 (rotateFrom d n s)
  | 0, _, h => h
  | n + 1, s, h => by
    have ih := rotateFrom_kept (z0 := z0) d n
    unfold rotateFrom
    dsimp only
    split
    · exact ih _ (nextTarget_kept _ _ h)
    · split
      · exact h
      · split
        · exact engineCopy_kept _ _ (nextTarget_kept _ _ (modBist_kept _ _ _ h))
        · exact groupRotate_kept _ _ _ (nextTarget_kept _ _ (modBist_kept _ _ _ h))

theorem execRotationPoint_kept {z0 : State} (d : CDie) (s : State) (h : Kept z0 s) :
    OutKept z0 (execRotationPoint d s) := by
  unfold execRotationPoint
  simp (maxDischargeDepth := 60) +contextual only [onC_kept, rotateFrom_kept, h, apply_ite (Kept z0), ite_self,
      implies_true]

theorem unitMove_kept {z0 : State} (d n : Nat) (s : State) (h : Kept z0 s) :
    Kept z0 (unitMove d n s) := by
  unfold unitMove
  simp (maxDischargeDepth := 60) +contextual only [modBist_kept, modLoop_kept, off_kept, on_kept, put_kept,
      refreshRot_kept, h]

theorem engineMove_kept {z0 : State} (d : Nat) (s : State) (h : Kept z0 s) :
    Kept z0 (engineMove d s) := by
  unfold engineMove
  split <;> simp (maxDischargeDepth := 60) +contextual only [modLoop_kept, on_kept, unitMove_kept, h,
      apply_ite (Kept z0), ite_self]

theorem execEngineHandoverMove_kept {z0 : State} (d : CDie) (s : State) (h : Kept z0 s) :
    OutKept z0 (execEngineHandoverMove d s) := by
  unfold execEngineHandoverMove
  simp (maxDischargeDepth := 60) +contextual only [engineMove_kept, onC_kept, h, implies_true]

theorem testAnswers_kept {z0 : State} (d t u code : Nat) (s : State) (h : Kept z0 s) :
    Kept z0 (testAnswers d t u code s) := by
  unfold testAnswers
  simp (maxDischargeDepth := 60) +contextual only [modBist_kept, on_kept, onlyIf_kept, put_kept, h, implies_true]

theorem testOver_kept {z0 : State} (d : Nat) (s : State) (h : Kept z0 s) :
    Kept z0 (testOver d s) := by
  unfold testOver
  simp (maxDischargeDepth := 60) +contextual only [modBist_kept, put_kept, refreshRot_kept, h]

theorem inService_kept {z0 : State} (d code : Nat) (s : State) (h : Kept z0 s) :
    Kept z0 (inService d code s) := by
  unfold inService
  split <;> simp (maxDischargeDepth := 60) +contextual only [count_kept, modLoop_kept, on_kept, put_kept,
      retireSlice_kept, retireUnit_kept, slConst_kept, testAnswers_kept, testOver_kept, h, apply_ite (Kept z0), ite_self]

theorem groupFault_kept {z0 : State} (d g : Nat) (s : State) (h : Kept z0 s) :
    Kept z0 (groupFault d g s) := by
  unfold groupFault
  simp (maxDischargeDepth := 60) +contextual only [latchFault_kept, modAg_kept, off_kept, on_kept, overN_kept, put_kept,
      h, apply_ite (Kept z0), ite_self, implies_true]

theorem serviceSlice_kept {z0 : State} (d code : Nat) (s : State) (h : Kept z0 s) :
    Kept z0 (serviceSlice d code s) := by
  unfold serviceSlice
  simp (maxDischargeDepth := 60) +contextual only [inService_kept, modBist_kept, h, apply_ite (Kept z0), ite_self]

theorem execInServiceSlice_kept {z0 : State} (d : CDie) (code : Fin 6) (work : Fin 5) (s : State) (h : Kept z0 s) :
    OutKept z0 (execInServiceSlice d code work s) := by
  unfold execInServiceSlice
  simp (maxDischargeDepth := 60) +contextual only [groupFault_kept, onC_kept, serviceSlice_kept, h, apply_ite (Kept z0),
      ite_self, implies_true]

theorem bistReqWrite_kept {z0 : State} (d : Nat) (v : Word) (s : State) (h : Kept z0 s) :
    Kept z0 (bistReqWrite d v s) := by
  unfold bistReqWrite
  simp (maxDischargeDepth := 60) +contextual only [modBist_kept, on_kept, put_kept, refreshRot_kept, serving_kept,
      setReg_kept, h, apply_ite (Kept z0), ite_self]

theorem execBistRequest_kept {z0 : State} (d : CDie) (v : Word) (s : State) (h : Kept z0 s) :
    OutKept z0 (execBistRequest d v s) := by
  unfold execBistRequest
  simp (maxDischargeDepth := 60) +contextual only [bistReqWrite_kept, onCW_kept, h, implies_true]

theorem bistRotWrite_kept {z0 : State} (d : Nat) (m : Master) (v : Word) (s : State) (h : Kept z0 s) :
    Kept z0 (bistRotWrite d m v s) := by
  unfold bistRotWrite
  simp (maxDischargeDepth := 60) +contextual only [on_kept, protWrite_kept, tkWriteIf_kept, h, implies_true]

end Sys2Proof.Machine
end

