-- ==== Sys2Proof/Laws/KeptService.lean ====
section
/-! SUPPORT. What the operations keep (`Kept`): the flume, CAN, the prompt book, block writes, loader records, updates, security, handovers and cues. -/

namespace Sys2Proof.Machine

/-! ### Machine/CanOps.lean -/

theorem modCan_kept {z0 : State} (d n : Nat) (f : CanC → CanC) (s : State) (h : Kept z0 s) :
    Kept z0 (modCan d n f s) := by
  unfold modCan
  simp (maxDischargeDepth := 60) +contextual only [modC_kept, h]

theorem canEvt_kept {z0 : State} (d n b : Nat) (s : State) (h : Kept z0 s) :
    Kept z0 (canEvt d n b s) := by
  unfold canEvt
  simp (maxDischargeDepth := 60) +contextual only [putBit_kept, h]

theorem canTime_kept {z0 : State} (d n : Nat) (s : State) (h : Kept z0 s) :
    Kept z0 (canTime d n s) := by
  unfold canTime
  simp (maxDischargeDepth := 60) +contextual only [put_kept, h, apply_ite (Kept z0), ite_self]

theorem canClock_kept {z0 : State} (d : Nat) (s : State) (h : Kept z0 s) :
    Kept z0 (canClock d s) := by
  unfold canClock
  simp (maxDischargeDepth := 60) +contextual only [canTime_kept, overL_kept, h, implies_true]

theorem canStop_kept {z0 : State} (d n : Nat) (s : State) (h : Kept z0 s) :
    Kept z0 (canStop d n s) := by
  unfold canStop
  simp (maxDischargeDepth := 60) +contextual only [modCan_kept, on_kept, put_kept, h]

theorem canFrameEnd_kept {z0 : State} (d n : Nat) (s : State) (h : Kept z0 s) :
    Kept z0 (canFrameEnd d n s) := by
  unfold canFrameEnd
  simp (maxDischargeDepth := 60) +contextual only [canStop_kept, modCan_kept, put_kept, h, apply_ite (Kept z0), ite_self]

theorem canFlags_kept {z0 : State} (d n : Nat) (s : State) (h : Kept z0 s) :
    Kept z0 (canFlags d n s) := by
  unfold canFlags
  simp (maxDischargeDepth := 60) +contextual only [canEvt_kept, endActive_kept, latchFault_kept, put_kept, h,
      apply_ite (Kept z0), ite_self]

theorem canBusOff_kept {z0 : State} (d n : Nat) (s : State) (h : Kept z0 s) :
    Kept z0 (canBusOff d n s) := by
  unfold canBusOff
  simp (maxDischargeDepth := 60) +contextual only [canEvt_kept, canStop_kept, latchFault_kept, modCan_kept, on_kept,
      put_kept, h, apply_ite (Kept z0), ite_self]

theorem canRaise_kept {z0 : State} (d n : Nat) (sender : Bool) (k : Nat) (s : State) (h : Kept z0 s) :
    Kept z0 (canRaise d n sender k s) := by
  unfold canRaise
  simp (maxDischargeDepth := 60) +contextual only [canBusOff_kept, canFlags_kept, put_kept, h, apply_ite (Kept z0),
      ite_self]

theorem canLower_kept {z0 : State} (d n : Nat) (sender : Bool) (s : State) (h : Kept z0 s) :
    Kept z0 (canLower d n sender s) := by
  unfold canLower
  simp (maxDischargeDepth := 60) +contextual only [canFlags_kept, drawn_kept, put_kept, h, apply_ite (Kept z0), ite_self]

theorem canNote_kept {z0 : State} (d n code : Nat) (data : Bool) (s : State) (h : Kept z0 s) :
    Kept z0 (canNote d n code data s) := by
  unfold canNote
  simp (maxDischargeDepth := 60) +contextual only [count_kept, put_kept, h, apply_ite (Kept z0), ite_self]

theorem canFree_kept {z0 : State} (d n : Nat) (s : State) (h : Kept z0 s) :
    Kept z0 (canFree d n s) := by
  unfold canFree
  simp (maxDischargeDepth := 60) +contextual only [put_kept, h]

theorem canDone_kept {z0 : State} (d n src : Nat) (s : State) (h : Kept z0 s) :
    Kept z0 (canDone d n src s) := by
  unfold canDone
  simp (maxDischargeDepth := 60) +contextual only [canFree_kept, modCan_kept, putBit_kept, h, apply_ite (Kept z0), ite_self]

theorem canEvent_kept {z0 : State} (d n src w0 w1 sof1 outcome : Nat) (s : State) (h : Kept z0 s) :
    Kept z0 (canEvent d n src w0 w1 sof1 outcome s) := by
  unfold canEvent
  simp (maxDischargeDepth := 60) +contextual only [canEvt_kept, drawn_kept, put_kept, wr32_kept, h, apply_ite (Kept z0),
      ite_self]

theorem canDropFrame_kept {z0 : State} (d n src outcome : Nat) (s : State) (h : Kept z0 s) :
    Kept z0 (canDropFrame d n src outcome s) := by
  unfold canDropFrame
  simp (maxDischargeDepth := 60) +contextual only [canDone_kept, canEvent_kept, h]

theorem canAttemptLost_kept {z0 : State} (d n : Nat) (s : State) (h : Kept z0 s) :
    Kept z0 (canAttemptLost d n s) := by
  unfold canAttemptLost
  split <;> simp (maxDischargeDepth := 60) +contextual only [canDone_kept, canEvent_kept, canFrameEnd_kept, h,
      apply_ite (Kept z0), ite_self]

theorem canError_kept {z0 : State} (d n code k : Nat) (data : Bool) (s : State) (h : Kept z0 s) :
    Kept z0 (canError d n code k data s) := by
  unfold canError
  simp (maxDischargeDepth := 60) +contextual only [canAttemptLost_kept, canNote_kept, canRaise_kept, modCan_kept, h]

theorem canSync_kept {z0 : State} (d n : Nat) (s : State) (h : Kept z0 s) :
    Kept z0 (canSync d n s) := by
  unfold canSync
  simp (maxDischargeDepth := 60) +contextual only [put_kept, h, apply_ite (Kept z0), ite_self]

theorem canStart_kept {z0 : State} (d n : Nat) (s : State) (h : Kept z0 s) :
    Kept z0 (canStart d n s) := by
  unfold canStart
  simp (maxDischargeDepth := 60) +contextual only [canEvt_kept, modCan_kept, off_kept, put_kept, h, apply_ite (Kept z0),
      ite_self]

theorem canHalt_kept {z0 : State} (d n : Nat) (s : State) (h : Kept z0 s) :
    Kept z0 (canHalt d n s) := by
  unfold canHalt
  simp (maxDischargeDepth := 60) +contextual only [canStop_kept, modCan_kept, h, apply_ite (Kept z0), ite_self]

theorem canCtrlWrite_kept {z0 : State} (d n : Nat) (v : Word) (s : State) (h : Kept z0 s) :
    Kept z0 (canCtrlWrite d n v s) := by
  unfold canCtrlWrite
  simp (maxDischargeDepth := 60) +contextual only [canEvt_kept, canHalt_kept, canStart_kept, plainWrite_kept, h,
      apply_ite (Kept z0), ite_self]

/-! ### Machine/Flume.lean -/

theorem modFl_kept {z0 : State} (d n : Nat) (f : FlC → FlC) (s : State) (h : Kept z0 s) :
    Kept z0 (modFl d n f s) := by
  unfold modFl
  simp (maxDischargeDepth := 60) +contextual only [modC_kept, h]

theorem putFlState_kept {z0 : State} (d n st : Nat) (s : State) (h : Kept z0 s) :
    Kept z0 (putFlState d n st s) := by
  unfold putFlState
  simp (maxDischargeDepth := 60) +contextual only [putBit_kept, put_kept, h]

theorem toDesc_kept {z0 : State} (d n addr : Nat) (s : State) (h : Kept z0 s) :
    Kept z0 (toDesc d n addr s) := by
  unfold toDesc
  simp (maxDischargeDepth := 60) +contextual only [modFl_kept, putFlState_kept, put_kept, h]

theorem flumeStart_kept {z0 : State} (d n : Nat) (s : State) (h : Kept z0 s) :
    Kept z0 (flumeStart d n s) := by
  unfold flumeStart
  simp (maxDischargeDepth := 60) +contextual only [modFl_kept, on_kept, toDesc_kept, h, apply_ite (Kept z0), ite_self]

theorem execFlumeStart_kept {z0 : State} (d : CDie) (n : Fin 16) (s : State) (h : Kept z0 s) :
    OutKept z0 (execFlumeStart d n s) := by
  unfold execFlumeStart
  simp (maxDischargeDepth := 60) +contextual only [flumeStart_kept, onCW_kept, h, implies_true]

theorem reread_kept {z0 : State} (d n : Nat) (s : State) (h : Kept z0 s) :
    Kept z0 (reread d n s) := by
  unfold reread
  simp (maxDischargeDepth := 60) +contextual only [on_kept, putFlState_kept, toDesc_kept, h, apply_ite (Kept z0), ite_self]

theorem flumeDoorbell_kept {z0 : State} (d n : Nat) (s : State) (h : Kept z0 s) :
    Kept z0 (flumeDoorbell d n s) := by
  unfold flumeDoorbell
  simp (maxDischargeDepth := 60) +contextual only [on_kept, reread_kept, h, apply_ite (Kept z0), ite_self]

theorem execFlumeDoorbell_kept {z0 : State} (d : CDie) (n : Fin 16) (s : State) (h : Kept z0 s) :
    OutKept z0 (execFlumeDoorbell d n s) := by
  unfold execFlumeDoorbell
  simp (maxDischargeDepth := 60) +contextual only [flumeDoorbell_kept, onCW_kept, h, implies_true]

theorem writeBack_kept {z0 : State} (d n v : Nat) (s : State) (h : Kept z0 s) :
    Kept z0 (writeBack d n v s) := by
  unfold writeBack
  simp (maxDischargeDepth := 60) +contextual only [wr32_kept, h, apply_ite (Kept z0), ite_self]

theorem flumeError_kept {z0 : State} (d n code : Nat) (wb : Bool) (s : State) (h : Kept z0 s) :
    Kept z0 (flumeError d n code wb s) := by
  unfold flumeError
  simp (maxDischargeDepth := 60) +contextual only [modFl_kept, on_kept, putFlState_kept, put_kept, writeBack_kept, h,
      apply_ite (Kept z0), ite_self]

theorem descFetch_kept {z0 : State} (d n : Nat) (ecc : Bool) (s : State) (h : Kept z0 s) :
    Kept z0 (descFetch d n ecc s) := by
  unfold descFetch
  simp (maxDischargeDepth := 60) +contextual only [flumeError_kept, modFl_kept, put_kept, h, apply_ite (Kept z0), ite_self]

theorem execDescriptorFetch_kept {z0 : State} (d : CDie) (n : Fin 16) (ecc : Bool) (s : State) (h : Kept z0 s) :
    OutKept z0 (execDescriptorFetch d n ecc s) := by
  unfold execDescriptorFetch
  simp (maxDischargeDepth := 60) +contextual only [descFetch_kept, onC_kept, h, implies_true]

theorem descDone_kept {z0 : State} (d n : Nat) (x : DescW) (s : State) (h : Kept z0 s) :
    Kept z0 (descDone d n x s) := by
  unfold descDone
  simp (maxDischargeDepth := 60) +contextual only [count_kept, fireCue_kept, modFl_kept, put_kept, writeBack_kept, h,
      apply_ite (Kept z0), ite_self]

theorem follow_kept {z0 : State} (d n : Nat) (x : DescW) (s : State) (h : Kept z0 s) :
    Kept z0 (follow d n x s) := by
  unfold follow
  simp (maxDischargeDepth := 60) +contextual only [off_kept, putFlState_kept, reread_kept, toDesc_kept, h,
      apply_ite (Kept z0), ite_self]

theorem abortLate_kept {z0 : State} (d n : Nat) (x : DescW) (s : State) (h : Kept z0 s) :
    Kept z0 (abortLate d n x s) := by
  unfold abortLate
  simp (maxDischargeDepth := 60) +contextual only [descDone_kept, on_kept, putFlState_kept, put_kept, h]

theorem abortWon_kept {z0 : State} (d n : Nat) (s : State) (h : Kept z0 s) :
    Kept z0 (abortWon d n s) := by
  unfold abortWon
  simp (maxDischargeDepth := 60) +contextual only [modFl_kept, putFlState_kept, put_kept, writeBack_kept, h,
      apply_ite (Kept z0), ite_self]

theorem flumeAbort_kept {z0 : State} (d n : Nat) (inRun : State → State) (s : State) (hinRun : ∀ (t : State),
      Kept z0 t → Kept z0 (inRun t)) (h : Kept z0 s) :
    Kept z0 (flumeAbort d n inRun s) := by
  unfold flumeAbort
  simp (maxDischargeDepth := 60) +contextual only [on_kept, putFlState_kept, put_kept, h, hinRun, apply_ite (Kept z0),
      ite_self]

theorem abortNow_kept {z0 : State} (d n : Nat) (s : State) (h : Kept z0 s) :
    Kept z0 (abortNow d n s) := by
  unfold abortNow
  split <;> simp (maxDischargeDepth := 60) +contextual only [abortLate_kept, abortWon_kept, h, apply_ite (Kept z0),
      ite_self]

theorem flumeWrite_kept {z0 : State} (d o : Nat) (v : Word) (s : State) (h : Kept z0 s) :
    Kept z0 (flumeWrite d o v s) := by
  unfold flumeWrite
  simp (maxDischargeDepth := 60) +contextual only [abortNow_kept, flumeAbort_kept, flumeDoorbell_kept, flumeStart_kept,
      onlyIf_kept, plainWrite_kept, h, apply_ite (Kept z0), ite_self, implies_true]

theorem flumeReset_kept {z0 : State} (d : Nat) (s : State) (h : Kept z0 s) :
    Kept z0 (flumeReset d s) := by
  unfold flumeReset
  simp (maxDischargeDepth := 60) +contextual only [modC_kept, h, kept_regsFilter]

/-! ### Machine/Can.lean -/

theorem onCanW_kept {z0 : State} (d n off : Nat) (f : State → State) (s : State) (hf : ∀ (t : State),
      Kept z0 t → Kept z0 (f t)) (h : Kept z0 s) :
    OutKept z0 (onCanW d n off f s) := by
  unfold onCanW
  simp (maxDischargeDepth := 60) +contextual only [onCW_kept, h, hf, apply_ite (Kept z0), ite_self, implies_true]

theorem execCanHalt_kept {z0 : State} (d : CDie) (n : Fin 4) (s : State) (h : Kept z0 s) :
    OutKept z0 (execCanHalt d n s) := by
  unfold execCanHalt
  simp (maxDischargeDepth := 60) +contextual only [canHalt_kept, onCanW_kept, h, implies_true]

theorem execCanStart_kept {z0 : State} (d : CDie) (n : Fin 4) (bits : Bool) (s : State) (h : Kept z0 s) :
    OutKept z0 (execCanStart d n bits s) := by
  unfold execCanStart
  simp (maxDischargeDepth := 60) +contextual only [canStart_kept, canSync_kept, onCanW_kept, h, apply_ite (Kept z0),
      ite_self, implies_true]

theorem canTiming_kept {z0 : State} (d n : Nat) (data : Bool) (v : Word) (s : State) (h : Kept z0 s) :
    Kept z0 (canTiming d n data v s) := by
  unfold canTiming
  simp (maxDischargeDepth := 60) +contextual only [canEvt_kept, plainWrite_kept, h, apply_ite (Kept z0), ite_self]

theorem execCanBitTimingWrite_kept {z0 : State} (d : CDie) (n : Fin 4) (data : Bool) (v : Word) (s : State) (h : Kept z0 s) :
    OutKept z0 (execCanBitTimingWrite d n data v s) := by
  unfold execCanBitTimingWrite
  simp (maxDischargeDepth := 60) +contextual only [canTiming_kept, onCanW_kept, h, implies_true]

theorem ptRefresh_kept {z0 : State} (d n : Nat) (s : State) (h : Kept z0 s) :
    Kept z0 (ptRefresh d n s) := by
  unfold ptRefresh
  simp (maxDischargeDepth := 60) +contextual only [endActive_kept, put_kept, h, apply_ite (Kept z0), ite_self]

theorem ptFrame_kept {z0 : State} (d n f t : Nat) (data : List Nat) (s : State) (h : Kept z0 s) :
    Kept z0 (ptFrame d n f t data s) := by
  unfold ptFrame
  simp (maxDischargeDepth := 60) +contextual only [count_kept, modCan_kept, on_kept, ptRefresh_kept, put_kept, h,
      apply_ite (Kept z0), ite_self]

theorem ptCheck_kept {z0 : State} (d n f : Nat) (s : State) (h : Kept z0 s) :
    Kept z0 (ptCheck d n f s) := by
  unfold ptCheck
  simp (maxDischargeDepth := 60) +contextual only [canEvt_kept, fireCue_kept, latchFault_kept, off_kept, on_kept, h,
      apply_ite (Kept z0), ite_self]

theorem execPartnerCheck_kept {z0 : State} (d : CDie) (n : Fin 4) (s : State) (h : Kept z0 s) :
    OutKept z0 (execPartnerCheck d n s) := by
  unfold execPartnerCheck
  simp (maxDischargeDepth := 60) +contextual only [modCan_kept, onC_kept, overL_kept, ptCheck_kept, ptRefresh_kept, h,
      apply_ite (Kept z0), ite_self, implies_true]

theorem ptClear_kept {z0 : State} (d n f : Nat) (s : State) (h : Kept z0 s) :
    Kept z0 (ptClear d n f s) := by
  unfold ptClear
  simp (maxDischargeDepth := 60) +contextual only [canEvt_kept, off_kept, ptRefresh_kept, h, apply_ite (Kept z0), ite_self]

theorem execPartnerTimeoutClear_kept {z0 : State} (d : CDie) (n : Fin 4) (f : Fin 512) (s : State) (h : Kept z0 s) :
    OutKept z0 (execPartnerTimeoutClear d n f s) := by
  unfold execPartnerTimeoutClear
  simp (maxDischargeDepth := 60) +contextual only [onCanW_kept, ptClear_kept, h, implies_true]

theorem ptCfgWrite_kept {z0 : State} (d n f : Nat) (v : Word) (s : State) (h : Kept z0 s) :
    Kept z0 (ptCfgWrite d n f v s) := by
  unfold ptCfgWrite
  simp (maxDischargeDepth := 60) +contextual only [canEvt_kept, modCan_kept, off_kept, ptRefresh_kept, put_kept, h,
      apply_ite (Kept z0), ite_self]

theorem rxStore_kept {z0 : State} (d n m t : Nat) (flt : Option Nat) (x : RxFrame) (s : State) (h : Kept z0 s) :
    Kept z0 (rxStore d n m t flt x s) := by
  unfold rxStore
  simp (maxDischargeDepth := 60) +contextual only [canEvt_kept, fireCue_kept, put_kept, wr32_kept, wrBytes_kept, h,
      apply_ite (Kept z0), ite_self]

theorem fltAct_kept {z0 : State} (d n f t : Nat) (x : RxFrame) (s : State) (h : Kept z0 s) :
    Kept z0 (fltAct d n f t x s) := by
  unfold fltAct
  simp (maxDischargeDepth := 60) +contextual only [modCan_kept, ptFrame_kept, rxStore_kept, h, apply_ite (Kept z0),
      ite_self]

theorem canFilter_kept {z0 : State} (d n t : Nat) (x : RxFrame) (s : State) (h : Kept z0 s) :
    Kept z0 (canFilter d n t x s) := by
  unfold canFilter
  (repeat' split) <;> simp (maxDischargeDepth := 60) +contextual only [fltAct_kept, rxStore_kept, h, apply_ite (Kept z0),
      ite_self]

theorem canRef_kept {z0 : State} (d n cyc t : Nat) (mine : Bool) (s : State) (h : Kept z0 s) :
    Kept z0 (canRef d n cyc t mine s) := by
  unfold canRef
  simp (maxDischargeDepth := 60) +contextual only [canEvt_kept, canTime_kept, fireCue_kept, modCan_kept, put_kept, h]

theorem ardFound_kept {z0 : State} (d n k : Nat) (s : State) (h : Kept z0 s) :
    Kept z0 (ardFound d n k s) := by
  unfold ardFound
  simp (maxDischargeDepth := 60) +contextual only [canEvt_kept, canStop_kept, put_kept, setReg_kept, h]

theorem ardFrame_kept {z0 : State} (d n : Nat) (s : State) (h : Kept z0 s) :
    Kept z0 (ardFrame d n s) := by
  unfold ardFrame
  simp (maxDischargeDepth := 60) +contextual only [ardFound_kept, modCan_kept, h, apply_ite (Kept z0), ite_self]

theorem canReceive_kept {z0 : State} (d n t : Nat) (x : RxFrame) (s : State) (h : Kept z0 s) :
    Kept z0 (canReceive d n t x s) := by
  unfold canReceive
  simp (maxDischargeDepth := 60) +contextual only [ardFrame_kept, canFilter_kept, canFrameEnd_kept, canLower_kept,
      canRef_kept, h, apply_ite (Kept z0), ite_self]

theorem execCanFrameReceive_kept {z0 : State} (d : CDie) (n : Fin 4) (frame : CanFrame) (s : State) (h : Kept z0 s) :
    OutKept z0 (execCanFrameReceive d n frame s) := by
  unfold execCanFrameReceive
  simp (maxDischargeDepth := 60) +contextual only [canReceive_kept, onC_kept, h, apply_ite (Kept z0), ite_self,
      implies_true]

theorem canRelease_kept {z0 : State} (d n : Nat) (lev rd : Fld) (size i : Nat) (s : State) (h : Kept z0 s) :
    Kept z0 (canRelease d n lev rd size i s) := by
  unfold canRelease
  simp (maxDischargeDepth := 60) +contextual only [canEvt_kept, put_kept, h, apply_ite (Kept z0), ite_self]

theorem rxRelease_kept {z0 : State} (d n m i : Nat) (s : State) (h : Kept z0 s) :
    Kept z0 (rxRelease d n m i s) := by
  unfold rxRelease
  simp (maxDischargeDepth := 60) +contextual only [canRelease_kept, put_kept, h]

theorem execRxFifoRelease_kept {z0 : State} (d : CDie) (n : Fin 4) (m : Fin 2) (i : BitVec 9) (s : State) (h : Kept z0 s) :
    OutKept z0 (execRxFifoRelease d n m i s) := by
  unfold execRxFifoRelease
  simp (maxDischargeDepth := 60) +contextual only [onCanW_kept, rxRelease_kept, h, implies_true]

theorem teqRelease_kept {z0 : State} (d n i : Nat) (s : State) (h : Kept z0 s) :
    Kept z0 (teqRelease d n i s) := by
  unfold teqRelease
  simp (maxDischargeDepth := 60) +contextual only [canRelease_kept, h]

theorem execTxEventRelease_kept {z0 : State} (d : CDie) (n : Fin 4) (i : BitVec 6) (s : State) (h : Kept z0 s) :
    OutKept z0 (execTxEventRelease d n i s) := by
  unfold execTxEventRelease
  simp (maxDischargeDepth := 60) +contextual only [onCanW_kept, teqRelease_kept, h, implies_true]

theorem txQueue_kept {z0 : State} (d n : Nat) (s : State) (h : Kept z0 s) :
    Kept z0 (txQueue d n s) := by
  unfold txQueue
  simp (maxDischargeDepth := 60) +contextual only [canEvt_kept, canFree_kept, modCan_kept, put_kept, h,
      apply_ite (Kept z0), ite_self]

theorem execTxFifoQueue_kept {z0 : State} (d : CDie) (n : Fin 4) (s : State) (h : Kept z0 s) :
    OutKept z0 (execTxFifoQueue d n s) := by
  unfold execTxFifoQueue
  simp (maxDischargeDepth := 60) +contextual only [onCanW_kept, txQueue_kept, h, implies_true]

theorem mbRequest_kept {z0 : State} (d n req : Nat) (s : State) (h : Kept z0 s) :
    Kept z0 (mbRequest d n req s) := by
  unfold mbRequest
  simp (maxDischargeDepth := 60) +contextual only [canEvt_kept, overN_kept, putBit_kept, h, apply_ite (Kept z0),
      ite_self, implies_true]

theorem execMailboxRequest_kept {z0 : State} (d : CDie) (n : Fin 4) (req : BitVec 2) (s : State) (h : Kept z0 s) :
    OutKept z0 (execMailboxRequest d n req s) := by
  unfold execMailboxRequest
  simp (maxDischargeDepth := 60) +contextual only [mbRequest_kept, onCanW_kept, h, implies_true]

theorem cancelAll_kept {z0 : State} (d n : Nat) (xs : List Nat) (s : State) (h : Kept z0 s) :
    Kept z0 (cancelAll d n xs s) := by
  unfold cancelAll
  simp (maxDischargeDepth := 60) +contextual only [canEvent_kept, overL_kept, h, implies_true]

theorem txCancel_kept {z0 : State} (d n src : Nat) (won : Bool) (s : State) (h : Kept z0 s) :
    Kept z0 (txCancel d n src won s) := by
  unfold txCancel
  simp (maxDischargeDepth := 60) +contextual only [canDone_kept, canDropFrame_kept, canFree_kept, cancelAll_kept,
      modCan_kept, put_kept, h, apply_ite (Kept z0), ite_self]

theorem txCancels_kept {z0 : State} (d n bits : Nat) (won : Bool) (s : State) (h : Kept z0 s) :
    Kept z0 (txCancels d n bits won s) := by
  unfold txCancels
  simp (maxDischargeDepth := 60) +contextual only [overN_kept, txCancel_kept, h, apply_ite (Kept z0), ite_self,
      implies_true]

theorem execTxCancel_kept {z0 : State} (d : CDie) (n : Fin 4) (bits : BitVec 3) (won : Bool) (s : State) (h : Kept z0 s) :
    OutKept z0 (execTxCancel d n bits won s) := by
  unfold execTxCancel
  simp (maxDischargeDepth := 60) +contextual only [onCanW_kept, txCancels_kept, h, implies_true]

theorem txStart_kept {z0 : State} (d n src : Nat) (lost : Bool) (meas : Nat) (s : State) (h : Kept z0 s) :
    Kept z0 (txStart d n src lost meas s) := by
  unfold txStart
  simp (maxDischargeDepth := 60) +contextual only [canError_kept, drawn_kept, modCan_kept, put_kept, h,
      apply_ite (Kept z0), ite_self]

theorem canSof_kept {z0 : State} (d n : Nat) (lost : Bool) (meas : Nat) (s : State) (h : Kept z0 s) :
    Kept z0 (canSof d n lost meas s) := by
  unfold canSof
  dsimp only
  (repeat' split) <;> simp (maxDischargeDepth := 60) +contextual only [modCan_kept, put_kept, txStart_kept, h]

theorem execCanStartOfFrame_kept {z0 : State} (d : CDie) (n : Fin 4) (lost : Bool) (meas : Fin 128) (s : State) (h : Kept z0 s) :
    OutKept z0 (execCanStartOfFrame d n lost meas s) := by
  unfold execCanStartOfFrame
  simp (maxDischargeDepth := 60) +contextual only [canSof_kept, onC_kept, h, apply_ite (Kept z0), ite_self, implies_true]

theorem txDone_kept {z0 : State} (d n : Nat) (x : CanTx) (s : State) (h : Kept z0 s) :
    Kept z0 (txDone d n x s) := by
  unfold txDone
  simp (maxDischargeDepth := 60) +contextual only [canDone_kept, canEvent_kept, canEvt_kept, canFilter_kept,
      canFrameEnd_kept, canLower_kept, canRef_kept, fireCue_kept, h, apply_ite (Kept z0), ite_self]

theorem execCanFrameSent_kept {z0 : State} (d : CDie) (n : Fin 4) (s : State) (h : Kept z0 s) :
    OutKept z0 (execCanFrameSent d n s) := by
  unfold execCanFrameSent
  refine onC_kept _ _ _ (fun t ht => ?_) h
  try dsimp only
  (repeat' split) <;> simp (maxDischargeDepth := 60) +contextual only [txDone_kept, ht]

theorem ackError_kept {z0 : State} (d n : Nat) (x : CanTx) (s : State) (h : Kept z0 s) :
    Kept z0 (ackError d n x s) := by
  unfold ackError
  simp (maxDischargeDepth := 60) +contextual only [canAttemptLost_kept, canDone_kept, canEvent_kept, canEvt_kept,
      canFrameEnd_kept, canNote_kept, canRaise_kept, latchFault_kept, modCan_kept, h, apply_ite (Kept z0), ite_self]

theorem execCanAckError_kept {z0 : State} (d : CDie) (n : Fin 4) (s : State) (h : Kept z0 s) :
    OutKept z0 (execCanAckError d n s) := by
  unfold execCanAckError
  refine onC_kept _ _ _ (fun t ht => ?_) h
  try dsimp only
  (repeat' split) <;> simp (maxDischargeDepth := 60) +contextual only [ackError_kept, ht]

theorem execCanErrorDetected_kept {z0 : State} (d : CDie) (n : Fin 4) (code : Fin 8) (data : Bool) (weigh : Fin 3) (s : State) (h : Kept z0 s) :
    OutKept z0 (execCanErrorDetected d n code data weigh s) := by
  unfold execCanErrorDetected
  simp (maxDischargeDepth := 60) +contextual only [canError_kept, canEvt_kept, canFrameEnd_kept, onC_kept, h,
      apply_ite (Kept z0), ite_self, implies_true]

theorem execCanBusOn_kept {z0 : State} (d : CDie) (n : Fin 4) (seqs : BitVec 8) (s : State) (h : Kept z0 s) :
    OutKept z0 (execCanBusOn d n seqs s) := by
  unfold execCanBusOn
  simp (maxDischargeDepth := 60) +contextual only [canEvt_kept, canFlags_kept, endActive_kept, off_kept, onC_kept,
      put_kept, h, apply_ite (Kept z0), ite_self, implies_true]

theorem ttAct_kept {z0 : State} (d n i : Nat) (s : State) (h : Kept z0 s) :
    Kept z0 (ttAct d n i s) := by
  unfold ttAct
  dsimp only
  (repeat' split) <;> simp (maxDischargeDepth := 60) +contextual only [canEvt_kept, latchFault_kept, modCan_kept,
      put_kept, h]

theorem execTtTrigger_kept {z0 : State} (d : CDie) (n : Fin 4) (i : Fin 64) (s : State) (h : Kept z0 s) :
    OutKept z0 (execTtTrigger d n i s) := by
  unfold execTtTrigger
  simp (maxDischargeDepth := 60) +contextual only [canTime_kept, modCan_kept, onC_kept, ttAct_kept, h,
      apply_ite (Kept z0), ite_self, implies_true]

theorem execArdCandidateWindow_kept {z0 : State} (d : CDie) (n : Fin 4) (s : State) (h : Kept z0 s) :
    OutKept z0 (execArdCandidateWindow d n s) := by
  unfold execArdCandidateWindow
  simp (maxDischargeDepth := 60) +contextual only [canEvt_kept, modCan_kept, onC_kept, put_kept, h, apply_ite (Kept z0),
      ite_self, implies_true]

theorem execCanErrorCountRead_kept {z0 : State} (d : CDie) (n : Fin 4) (s : State) (h : Kept z0 s) :
    OutKept z0 (execCanErrorCountRead d n s) := by
  unfold execCanErrorCountRead
  simp (maxDischargeDepth := 60) +contextual only [modSys_kept, off_kept, onC_kept, h, implies_true]

theorem canStamp_kept {z0 : State} (d n : Nat) (s : State) (h : Kept z0 s) :
    Kept z0 (canStamp d n s) := by
  unfold canStamp
  simp (maxDischargeDepth := 60) +contextual only [put_kept, h]

theorem canWrite_kept {z0 : State} (d n o : Nat) (v : Word) (s : State) (h : Kept z0 s) :
    Kept z0 (canWrite d n o v s) := by
  unfold canWrite
  extract_lets off w halted
  clear_value off w halted
  refine kept_ite2 h ?_
  refine kept_ite2 (canCtrlWrite_kept _ _ _ _ h) ?_
  refine kept_ite2 (canTiming_kept _ _ _ _ _ h) ?_
  refine kept_ite2 (canTiming_kept _ _ _ _ _ h) ?_
  refine kept_ite2 ?_ ?_
  · exact plainWrite_kept _ _ _ _ _ (kept_ite2 (canEvt_kept _ _ _ _ h) h)
  refine kept_ite2 (rxRelease_kept _ _ _ _ _ h) ?_
  refine kept_ite2 (rxRelease_kept _ _ _ _ _ h) ?_
  refine kept_ite2 (onlyIf_kept _ _ _ (fun t ht => txQueue_kept _ _ _ ht) h) ?_
  refine kept_ite2 (mbRequest_kept _ _ _ _ h) ?_
  refine kept_ite2 (txCancels_kept _ _ _ _ _ h) ?_
  refine kept_ite2 (teqRelease_kept _ _ _ _ h) ?_
  refine kept_ite2 ?_ ?_
  · exact kept_ite2 (put_kept _ _ _ _ (plainWrite_kept _ _ _ _ _ h)) (plainWrite_kept _ _ _ _ _ h)
  refine kept_ite2 (ptCfgWrite_kept _ _ _ _ _ h) ?_
  exact kept_ite2 (onlyIf_kept _ _ _ (fun t ht => ptClear_kept _ _ _ _ ht) h) (plainWrite_kept _ _ _ _ _ h)

theorem canReset_kept {z0 : State} (d n : Nat) (s : State) (h : Kept z0 s) :
    Kept z0 (canReset d n s) := by
  unfold canReset
  simp (maxDischargeDepth := 60) +contextual only [endActive_kept, modCan_kept, overL_kept, h, kept_regsFilter,
      implies_true]

/-! ### Machine/Prompt.lean -/

theorem execRecordWrite_kept {z0 : State} (d : CDie) (src : DieIx) (blk : Fin 32) (code : BitVec 16) (inst : Byte) (sev : Fin 5) (w0 w1 w2 w3 : Word) (s : State) (h : Kept z0 s) :
    OutKept z0 (execRecordWrite d src blk code inst sev w0 w1 w2 w3 s) := by
  unfold execRecordWrite
  simp (maxDischargeDepth := 60) +contextual only [onC_kept, recordEvent_kept, h, apply_ite (Kept z0), ite_self,
      implies_true]

theorem execFlushStart_kept {z0 : State} (d : CDie) (s : State) (h : Kept z0 s) :
    OutKept z0 (execFlushStart d s) := by
  unfold execFlushStart
  simp (maxDischargeDepth := 60) +contextual only [flushStart_kept, onC_kept, h, implies_true]

theorem promptCtrl_kept {z0 : State} (d : Nat) (v : Word) (s : State) (h : Kept z0 s) :
    Kept z0 (promptCtrl d v s) := by
  unfold promptCtrl
  simp (maxDischargeDepth := 60) +contextual only [flushStart_kept, h, apply_ite (Kept z0), ite_self]

theorem execPromptCtrlFlush_kept {z0 : State} (d : CDie) (v : Word) (s : State) (h : Kept z0 s) :
    OutKept z0 (execPromptCtrlFlush d v s) := by
  unfold execPromptCtrlFlush
  simp (maxDischargeDepth := 60) +contextual only [onCW_kept, promptCtrl_kept, h, implies_true]

theorem flushOne_kept {z0 : State} (d : Nat) (hot : Bool) (s : State) (h : Kept z0 s) :
    Kept z0 (flushOne d hot s) := by
  unfold flushOne
  simp (maxDischargeDepth := 60) +contextual only [copyMem_kept, put_kept, toMainLog_kept, wrB_kept, h,
      apply_ite (Kept z0), ite_self]

theorem flushEnd_kept {z0 : State} (d dest : Nat) (s : State) (h : Kept z0 s) :
    Kept z0 (flushEnd d dest s) := by
  unfold flushEnd
  simp (maxDischargeDepth := 60) +contextual only [off_kept, on_kept, put_kept, h]

theorem pfFlushEnd_kept {z0 : State} (d : Nat) (s : State) (h : Kept z0 s) :
    Kept z0 (pfFlushEnd d s) := by
  unfold pfFlushEnd
  simp (maxDischargeDepth := 60) +contextual only [modSys_kept, on_kept, put_kept, h, apply_ite (Kept z0), ite_self]

theorem execFlushDone_kept {z0 : State} (d : CDie) (s : State) (h : Kept z0 s) :
    OutKept z0 (execFlushDone d s) := by
  unfold execFlushDone
  simp (maxDischargeDepth := 60) +contextual only [flushEnd_kept, flushOne_kept, onC_kept, overN_kept, pfFlushEnd_kept,
      h, apply_ite (Kept z0), ite_self, implies_true]

theorem execLastGaspFull_kept {z0 : State} (d : CDie) (s : State) (h : Kept z0 s) :
    OutKept z0 (execLastGaspFull d s) := by
  unfold execLastGaspFull
  simp (maxDischargeDepth := 60) +contextual only [flushEnd_kept, flushOne_kept, modPrompt_kept, onC_kept, on_kept,
      overN_kept, h, apply_ite (Kept z0), ite_self, implies_true]

theorem execFlushBlockedRetry_kept {z0 : State} (d : CDie) (s : State) (h : Kept z0 s) :
    OutKept z0 (execFlushBlockedRetry d s) := by
  unfold execFlushBlockedRetry
  simp (maxDischargeDepth := 60) +contextual only [flushStart_kept, off_kept, onC_kept, h, apply_ite (Kept z0), ite_self,
      implies_true]

theorem promptClr_kept {z0 : State} (d : Nat) (s : State) (h : Kept z0 s) :
    Kept z0 (promptClr d s) := by
  unfold promptClr
  simp (maxDischargeDepth := 60) +contextual only [on_kept, put_kept, h, apply_ite (Kept z0), ite_self]

theorem execPromptClr_kept {z0 : State} (d : CDie) (m : Master) (s : State) (h : Kept z0 s) :
    OutKept z0 (execPromptClr d m s) := by
  unfold execPromptClr
  simp (maxDischargeDepth := 60) +contextual only [onC_kept, promptClr_kept, tkWrite_kept, h, implies_true]

theorem swrecWrite_kept {z0 : State} (d : Nat) (v : Word) (s : State) (h : Kept z0 s) :
    Kept z0 (swrecWrite d v s) := by
  unfold swrecWrite
  simp (maxDischargeDepth := 60) +contextual only [on_kept, put_kept, recordEvent_kept, h, apply_ite (Kept z0), ite_self]

theorem execSoftwareRecord_kept {z0 : State} (d : CDie) (v : Word) (s : State) (h : Kept z0 s) :
    OutKept z0 (execSoftwareRecord d v s) := by
  unfold execSoftwareRecord
  simp (maxDischargeDepth := 60) +contextual only [onCW_kept, swrecWrite_kept, h, implies_true]

theorem optimeRead_kept {z0 : State} (d : Nat) (m : Master) (s : State) (h : Kept z0 s) :
    Kept z0 (optimeRead d m s) := by
  unfold optimeRead
  simp (maxDischargeDepth := 60) +contextual only [modSys_kept, h]

theorem execOptimeRead_kept {z0 : State} (d : CDie) (m : Master) (s : State) (h : Kept z0 s) :
    OutKept z0 (execOptimeRead d m s) := by
  unfold execOptimeRead
  simp (maxDischargeDepth := 60) +contextual only [onC_kept, optimeRead_kept, h, implies_true]

theorem execOptimeSave_kept {z0 : State} (s : State) (h : Kept z0 s) :
    OutKept z0 (execOptimeSave s) := by
  unfold execOptimeSave
  simp (maxDischargeDepth := 60) +contextual only [modPrompt_kept, onC_kept, optimeSave_kept, h, apply_ite (Kept z0),
      ite_self, implies_true]

theorem frameSrc_kept {z0 : State} (d : Nat) (f : State → State) (s : State) (hf : ∀ (t : State),
      Kept z0 t → Kept z0 (f t)) (h : Kept z0 s) :
    Kept z0 (frameSrc d f s) := by
  unfold frameSrc
  simp (maxDischargeDepth := 60) +contextual only [note_kept, h, hf, apply_ite (Kept z0), ite_self]

theorem frameDue_kept {z0 : State} (d cyc : Nat) (free loc : Bool) (s : State) (h : Kept z0 s) :
    Kept z0 (frameDue d cyc free loc s) := by
  unfold frameDue
  simp (maxDischargeDepth := 60) +contextual only [frameSrc_kept, modPrompt_kept, put_kept, h, implies_true]

theorem frameTick0_kept {z0 : State} (cyc : Nat) (free dropped : Bool) (s : State) (h : Kept z0 s) :
    Kept z0 (frameTick0 cyc free dropped s) := by
  unfold frameTick0
  simp (maxDischargeDepth := 60) +contextual only [cueNote_kept, frameDue_kept, on_kept, h, apply_ite (Kept z0), ite_self]

theorem execFrameTick_kept {z0 : State} (d : CDie) (dropped : Bool) (s : State) (h : Kept z0 s) :
    OutKept z0 (execFrameTick d dropped s) := by
  unfold execFrameTick
  simp (maxDischargeDepth := 60) +contextual only [frameDue_kept, frameTick0_kept, onC_kept, on_kept, h,
      apply_ite (Kept z0), ite_self, implies_true]

theorem execFrameRefTimeout_kept {z0 : State} (dropped : Bool) (s : State) (h : Kept z0 s) :
    OutKept z0 (execFrameRefTimeout dropped s) := by
  unfold execFrameRefTimeout
  simp (maxDischargeDepth := 60) +contextual only [frameTick0_kept, onC_kept, on_kept, h, apply_ite (Kept z0), ite_self,
      implies_true]

theorem statsLatch_kept {z0 : State} (d : Nat) (s : State) (h : Kept z0 s) :
    Kept z0 (statsLatch d s) := by
  unfold statsLatch
  simp (maxDischargeDepth := 60) +contextual only [modPrompt_kept, overL_kept, overN_kept, put_kept, setReg_kept, h,
      apply_ite (Kept z0), ite_self, implies_true]

theorem watchRemain_kept {z0 : State} (d : Nat) (s : State) (h : Kept z0 s) :
    Kept z0 (watchRemain d s) := by
  unfold watchRemain
  simp (maxDischargeDepth := 60) +contextual only [put_kept, h, apply_ite (Kept z0), ite_self]

theorem boundaryOn_kept {z0 : State} (d : Nat) (s : State) (h : Kept z0 s) :
    Kept z0 (boundaryOn d s) := by
  unfold boundaryOn
  simp (maxDischargeDepth := 60) +contextual only [evalCurtain_kept, fireCue_kept, loadOrphans_kept, modSafe_kept,
      overN_kept, statsLatch_kept, watchRemain_kept, h, apply_ite (Kept z0), ite_self, implies_true]

theorem promptWrite_kept {z0 : State} (d : Nat) (m : Master) (o : Nat) (v : Word) (s : State) (h : Kept z0 s) :
    Kept z0 (promptWrite d m o v s) := by
  unfold promptWrite
  simp (maxDischargeDepth := 60) +contextual only [on_kept, onlyIf_kept, promptClr_kept, promptCtrl_kept, protWrite_kept,
      swrecWrite_kept, tkWriteIf_kept, tkWrite_kept, h, apply_ite (Kept z0), ite_self, implies_true]

/-! ### Machine/BlockWrite.lean -/

theorem brstWrite_kept {z0 : State} (d : Nat) (v : Word) (s : State) (h : Kept z0 s) :
    Kept z0 (brstWrite d v s) := by
  unfold brstWrite
  simp (maxDischargeDepth := 60) +contextual only [canReset_kept, fbReset_kept, flumeReset_kept, onlyIf_kept, overN_kept,
      plainWrite_kept, watchCut_kept, h, apply_ite (Kept z0), ite_self, implies_true]

theorem eventWrite_kept {z0 : State} (d off stay : Nat) (v : Word) (s : State) (h : Kept z0 s) :
    Kept z0 (eventWrite d off stay v s) := by
  unfold eventWrite
  simp (maxDischargeDepth := 60) +contextual only [plainWrite_kept, h]

theorem sysWrite_kept {z0 : State} (d : Nat) (m : Master) (off : Nat) (v : Word) (s : State) (h : Kept z0 s) :
    Kept z0 (sysWrite d m off v s) := by
  unfold sysWrite
  split <;> simp (maxDischargeDepth := 60) +contextual only [brstWrite_kept, dieReset_kept, eventWrite_kept,
      packageReset_kept, plainWrite_kept, protWrite_kept, tkWriteThen_kept, tkWrite_kept, h, apply_ite (Kept z0),
      ite_self, implies_true]

theorem fcWrite_kept {z0 : State} (d : Nat) (m : Master) (off : Nat) (v : Word) (s : State) (h : Kept z0 s) :
    Kept z0 (fcWrite d m off v s) := by
  unfold fcWrite
  simp (maxDischargeDepth := 60) +contextual only [faultClearWrite_kept, faultInjectWrite_kept, fcCfgWrite_kept,
      plainWrite_kept, swrepWrite_kept, h, apply_ite (Kept z0), ite_self]

theorem chkWrite_kept {z0 : State} (d : Nat) (m : Master) (off : Nat) (v : Word) (s : State) (h : Kept z0 s) :
    Kept z0 (chkWrite d m off v s) := by
  unfold chkWrite
  (repeat' split) <;> simp (maxDischargeDepth := 60) +contextual only [benchRefresh_kept, checkpoint_kept,
      chkCfgWrite_kept, on_kept, onlyIf_kept, plainWrite_kept, protWrite_kept, resyncGo_kept, tkWrite_kept, h, implies_true]

theorem safeChkWrite_kept {z0 : State} (d : Nat) (m : Master) (off : Nat) (v : Word) (s : State) (h : Kept z0 s) :
    Kept z0 (safeChkWrite d m off v s) := by
  unfold safeChkWrite
  simp (maxDischargeDepth := 60) +contextual only [chkWrite_kept, fcWrite_kept, on_kept, safeCurtWrite_kept, h,
      apply_ite (Kept z0), ite_self]

theorem bistThermWrite_kept {z0 : State} (d : Nat) (m : Master) (off : Nat) (v : Word) (s : State) (h : Kept z0 s) :
    Kept z0 (bistThermWrite d m off v s) := by
  unfold bistThermWrite
  split <;> simp (maxDischargeDepth := 60) +contextual only [bistReqWrite_kept, bistRotWrite_kept, onlyIf_kept,
      plainWrite_kept, protWrite_kept, thermAck_kept, thermThWrite_kept, tkWrite_kept, h, implies_true]

theorem cueWrite_kept {z0 : State} (d off : Nat) (v : Word) (s : State) (h : Kept z0 s) :
    Kept z0 (cueWrite d off v s) := by
  unfold cueWrite
  simp (maxDischargeDepth := 60) +contextual only [fireCue_kept, plainWrite_kept, refreshInact_kept, h,
      apply_ite (Kept z0), ite_self]

theorem entWrite_kept {z0 : State} (d g e : Nat) (v : Word) (s : State) (h : Kept z0 s) :
    Kept z0 (entWrite d g e v s) := by
  unfold entWrite
  simp (maxDischargeDepth := 60) +contextual only [on_kept, plainWrite_kept, h, apply_ite (Kept z0), ite_self]

theorem adcWrite_kept {z0 : State} (d off : Nat) (v : Word) (s : State) (h : Kept z0 s) :
    Kept z0 (adcWrite d off v s) := by
  unfold adcWrite
  simp (maxDischargeDepth := 60) +contextual only [agCtrlWrite_kept, entWrite_kept, gctrlWrite_kept, plainWrite_kept,
      swtrigWrite_kept, h, apply_ite (Kept z0), ite_self]

theorem fieldBlockWrite_kept {z0 : State} (d : Nat) (m : Master) (off : Nat) (v : Word) (s : State) (h : Kept z0 s) :
    Kept z0 (fieldBlockWrite d m off v s) := by
  unfold fieldBlockWrite
  (repeat' split) <;> simp (maxDischargeDepth := 60) +contextual only [btempWrite_kept, busWrite_kept, fieldStatus_kept,
      fieldWrite_kept, protWrite_kept, tkWrite_kept, h, apply_ite (Kept z0), ite_self, implies_true]

theorem loopBlockWrite_kept {z0 : State} (d : Nat) (m : Master) (off : Nat) (v : Word) (s : State) (h : Kept z0 s) :
    Kept z0 (loopBlockWrite d m off v s) := by
  unfold loopBlockWrite
  simp (maxDischargeDepth := 60) +contextual only [engWrite_kept, loopWrite_kept, progWrite_kept, protWrite_kept,
      tkWrite_kept, weirWrite_kept, h, apply_ite (Kept z0), ite_self, implies_true]

theorem pwmWrite_kept {z0 : State} (d : Nat) (m : Master) (off : Nat) (v : Word) (s : State) (h : Kept z0 s) :
    Kept z0 (pwmWrite d m off v s) := by
  unfold pwmWrite
  simp (maxDischargeDepth := 60) +contextual only [pairWrite_kept, protWrite_kept, pwmGlobalWrite_kept, tkWrite_kept, h,
      apply_ite (Kept z0), ite_self, implies_true]

theorem fbCanWrite_kept {z0 : State} (d : Nat) (m : Master) (off : Nat) (v : Word) (s : State) (h : Kept z0 s) :
    Kept z0 (fbCanWrite d m off v s) := by
  unfold fbCanWrite
  simp (maxDischargeDepth := 60) +contextual only [canRamWrite_kept, canWrite_kept, emuWrite_kept, fbWrite_kept, h,
      apply_ite (Kept z0), ite_self]

theorem blockWrite_kept {z0 : State} (d : Nat) (m : Master) (off : Nat) (v : Word) (s : State) (h : Kept z0 s) :
    Kept z0 (blockWrite d m off v s) := by
  unfold blockWrite
  refine kept_ite2 (sysWrite_kept _ _ _ _ _ h) ?_
  refine kept_ite2 (safeChkWrite_kept _ _ _ _ _ h) ?_
  refine kept_ite2 (bistThermWrite_kept _ _ _ _ _ h) ?_
  refine kept_ite2 (promptWrite_kept _ _ _ _ _ h) ?_
  refine kept_ite2 (cueWrite_kept _ _ _ _ h) ?_
  refine kept_ite2 (flumeWrite_kept _ _ _ _ h) ?_
  refine kept_ite2 (adcWrite_kept _ _ _ _ h) ?_
  refine kept_ite2 (loopBlockWrite_kept _ _ _ _ _ h) ?_
  refine kept_ite2 (fieldBlockWrite_kept _ _ _ _ _ h) ?_
  refine kept_ite2 (pwmWrite_kept _ _ _ _ _ h) ?_
  refine kept_ite2 (fbCanWrite_kept _ _ _ _ _ h) ?_
  refine kept_ite2 (tmonWrite_kept _ _ _ _ _ _ h) ?_
  exact kept_ite2 (dischWrite_kept _ _ _ _ _ _ h) h

/-! ### Machine/LoadRec.lean -/

theorem startLater_kept {z0 : State} (d off : Nat) (v : Word) (s : State) (h : Kept z0 s) :
    Kept z0 (startLater d off v s) := by
  unfold startLater
  simp (maxDischargeDepth := 60) +contextual only [modLib_kept, h]

theorem loadProg_kept {z0 : State} (d off : Nat) (v : Word) (s : State) (h : Kept z0 s) :
    Kept z0 (loadProg d off v s) := by
  unfold loadProg
  simp (maxDischargeDepth := 60) +contextual only [modLib_kept, put_kept, setReg_kept, h, apply_ite (Kept z0), ite_self]

theorem loadWord_kept {z0 : State} (d addr : Nat) (v : Word) (s : State) (h : Kept z0 s) :
    Kept z0 (loadWord d addr v s) := by
  unfold loadWord
  (repeat' split) <;> simp (maxDischargeDepth := 60) +contextual only [blockWrite_kept, canRamWrite_kept, drvAct_kept,
      drvRegWrite_kept, loadProg_kept, onlyIf_kept, plainWrite_kept, startLater_kept, h, implies_true]

theorem loadBlock_kept {z0 : State} (d i : Nat) (keep : Nat → Bool) : ∀ (n addr a : Nat) (s : State) (_ : Kept z0 s),
    Kept z0 (loadBlock d i keep n addr a s)
  | 0, _, _, _, h => h
  | n + 1, addr, _, _, h => loadBlock_kept d i keep n _ _ _ (onlyIf_kept _ _ _ (fun t ht => loadWord_kept d addr _ t ht) h)

theorem runRecords_kept {z0 : State} (d i : Nat) (keep : Nat → Bool) : ∀ (n a stop : Nat) (s : State) (_ : Kept z0 s),
    Kept z0 (runRecords d i keep n a stop s)
  | 0, _, _, _, h => h
  | n + 1, a, stop, s, h => by
    unfold runRecords
    split
    · exact h
    · dsimp only
      split
      · exact runRecords_kept d i keep n _ _ _ (onlyIf_kept _ _ _ (fun t ht => loadWord_kept d _ _ t ht) h)
      · exact runRecords_kept d i keep n _ _ _ (loadBlock_kept d i keep _ _ _ s h)
      · exact runRecords_kept d i keep n _ _ _ (onlyIf_kept _ _ _ (fun t ht => loadWord_kept d _ _ t ht) h)
      · exact h

theorem runKept_kept {z0 : State} (d : Nat) (keep : Nat → Bool) (x : Sect) (s : State) (h : Kept z0 s) :
    Kept z0 (runKept d keep x s) := by
  unfold runKept
  simp (maxDischargeDepth := 60) +contextual only [runRecords_kept, h, apply_ite (Kept z0), ite_self]

theorem runSect_kept {z0 : State} (d : Nat) (x : Sect) (s : State) (h : Kept z0 s) :
    Kept z0 (runSect d x s) := by
  unfold runSect
  simp (maxDischargeDepth := 60) +contextual only [placeUnits_kept, runKept_kept, h]

theorem whileLoading_kept {z0 : State} (d : Nat) (f : State → State) (s : State) (hf : ∀ (z t : State),
      Kept z t → Kept z (f t)) (h : Kept z0 s) :
    Kept z0 (whileLoading d f s) := by
  unfold whileLoading
  have h1 : Kept { z0 with ld := some d } { s with ld := some d } := ⟨h.1, h.2, h.3, fun e => absurd e (by simp)⟩
  have h2 := hf _ _ h1
  exact ⟨h2.1, h2.2, h2.3, fun _ => rfl⟩

theorem stopWith_kept {z0 : State} (d off : Nat) (runs : Bool) (stop : State → State) (s : State) (hstop : ∀ (t : State),
      Kept z0 t → Kept z0 (stop t)) (h : Kept z0 s) :
    Kept z0 (stopWith d off runs stop s) := by
  unfold stopWith
  simp (maxDischargeDepth := 60) +contextual only [startLater_kept, h, hstop, apply_ite (Kept z0), ite_self]

theorem stopBlocks_kept {z0 : State} (d : Nat) (spans : List (Nat × Nat)) (s : State) (h : Kept z0 s) :
    Kept z0 (stopBlocks d spans s) := by
  unfold stopBlocks
  simp (maxDischargeDepth := 60) +contextual only [agCtrlWrite_kept, applyHeldW_kept, canStop_kept, engStop_kept,
      fbStop_kept, lgCfgWrite_kept, off_kept, overN_kept, stopWith_kept, h, apply_ite (Kept z0), ite_self, implies_true]

theorem startWrite_kept {z0 : State} (d off : Nat) (v : Word) (s : State) (h : Kept z0 s) :
    Kept z0 (startWrite d off v s) := by
  unfold startWrite
  simp (maxDischargeDepth := 60) +contextual only [agCtrlWrite_kept, canCtrlWrite_kept, emuCtrlWrite_kept,
      fbCtrlWrite_kept, lgCfgWrite_kept, h, apply_ite (Kept z0), ite_self]

theorem engRelease_kept {z0 : State} (d n : Nat) (s : State) (h : Kept z0 s) :
    Kept z0 (engRelease d n s) := by
  unfold engRelease
  simp (maxDischargeDepth := 60) +contextual only [on_kept, put_kept, h, apply_ite (Kept z0), ite_self]

theorem releaseBlocks_kept {z0 : State} (d : Nat) (s : State) (h : Kept z0 s) :
    Kept z0 (releaseBlocks d s) := by
  unfold releaseBlocks
  simp (maxDischargeDepth := 60) +contextual only [modLib_kept, refreshFault_kept, startWrite_kept, h, kept_foldl,
      implies_true]

theorem bankSwaps_kept {z0 : State} (d : Nat) (s : State) (h : Kept z0 s) :
    Kept z0 (bankSwaps d s) := by
  unfold bankSwaps
  simp (maxDischargeDepth := 60) +contextual only [on_kept, overL_kept, put_kept, h, apply_ite (Kept z0), ite_self,
      implies_true]

theorem runReload_kept {z0 : State} (d : Nat) (xs : List Sect) (s : State) (h : Kept z0 s) :
    Kept z0 (runReload d xs s) := by
  unfold runReload
  simp (maxDischargeDepth := 60) +contextual only [bankSwaps_kept, modLib_kept, runSect_kept, whileLoading_kept, h,
      kept_foldl, implies_true]

theorem newSlots_kept {z0 : State} (d n mask : Nat) (s : State) (h : Kept z0 s) :
    Kept z0 (newSlots d n mask s) := by
  unfold newSlots
  simp (maxDischargeDepth := 60) +contextual only [onlyIf_kept, overN_kept, putSlot_kept, h, implies_true]

theorem runChosen_kept {z0 : State} (d : Nat) (l : Layers) (ys : List Sect) (kind tgt : Nat) (s : State) (h : Kept z0 s) :
    Kept z0 (runChosen d l ys kind tgt s) := by
  unfold runChosen
  split <;> simp (maxDischargeDepth := 60) +contextual only [factorySect_kept, runSect_kept, h, apply_ite (Kept z0),
      ite_self]

theorem runLayers_kept {z0 : State} (d : Nat) (l : Layers) (s : State) (h : Kept z0 s) :
    Kept z0 (runLayers d l s) := by
  unfold runLayers
  simp (maxDischargeDepth := 60) +contextual only [runChosen_kept, whileLoading_kept, h, kept_foldl, implies_true]

theorem applyOn_kept {z0 : State} (d slot source : Nat) (s : State) (h : Kept z0 s) :
    Kept z0 (applyOn d slot source s) := by
  unfold applyOn
  simp (maxDischargeDepth := 60) +contextual only [clearReady_kept, engRelease_kept, noteApplied_kept, noteOffsets_kept,
      overN_kept, putAxst_kept, put_kept, refreshInact_kept, refreshVersions_kept, releaseBlocks_kept, runLayers_kept,
      settingsResolve_kept, stopBlocks_kept, h, apply_ite (Kept z0), ite_self, implies_true]

theorem applyAll_kept {z0 : State} (choose : NvC → Nat) (source : Nat) (s : State) (h : Kept z0 s) :
    Kept z0 (applyAll choose source s) := by
  unfold applyAll
  simp (maxDischargeDepth := 60) +contextual only [applyOn_kept, drawn_kept, keepSync_kept, loadOrphans_kept,
      onlyIf_kept, overL_kept, put_kept, recordEvent_kept, staticHandovers_kept, h, implies_true]

/-! ### Machine/Nvm.lean -/

theorem modNvm_kept {z0 : State} (d : Nat) (f : NvmC → NvmC) (s : State) (h : Kept z0 s) :
    Kept z0 (modNvm d f s) := by
  unfold modNvm
  simp (maxDischargeDepth := 60) +contextual only [modC_kept, h]

theorem refreshActive_kept {z0 : State} (d : Nat) (s : State) (h : Kept z0 s) :
    Kept z0 (refreshActive d s) := by
  unfold refreshActive
  simp (maxDischargeDepth := 60) +contextual only [put_kept, h]

theorem putUp_kept {z0 : State} (d st : Nat) (s : State) (h : Kept z0 s) :
    Kept z0 (putUp d st s) := by
  unfold putUp
  simp (maxDischargeDepth := 60) +contextual only [put_kept, h]

theorem refreshUp_kept {z0 : State} (d : Nat) (s : State) (h : Kept z0 s) :
    Kept z0 (refreshUp d s) := by
  unfold refreshUp
  simp (maxDischargeDepth := 60) +contextual only [put_kept, h]

theorem clearMap_kept {z0 : State} (d : Nat) (s : State) (h : Kept z0 s) :
    Kept z0 (clearMap d s) := by
  unfold clearMap
  simp (maxDischargeDepth := 60) +contextual only [overN_kept, put_kept, h, implies_true]

theorem nvmRefuse_kept {z0 : State} (d op code at_ : Nat) (s : State) (h : Kept z0 s) :
    Kept z0 (nvmRefuse d op code at_ s) := by
  unfold nvmRefuse
  simp (maxDischargeDepth := 60) +contextual only [latchFault_kept, note_kept, on_kept, put_kept, h, apply_ite (Kept z0),
      ite_self]

theorem nvmBegin_kept {z0 : State} (d op ix code : Nat) (s : State) (h : Kept z0 s) :
    Kept z0 (nvmBegin d op ix code s) := by
  unfold nvmBegin
  simp (maxDischargeDepth := 60) +contextual only [modNvm_kept, on_kept, put_kept, h]

theorem openSession_kept {z0 : State} (d : Nat) (m : List Nat) (s : State) (h : Kept z0 s) :
    Kept z0 (openSession d m s) := by
  unfold openSession
  simp (maxDischargeDepth := 60) +contextual only [clearMap_kept, note_kept, putUp_kept, put_kept, refreshUp_kept,
      wrBytes_kept, h, apply_ite (Kept z0), ite_self]

theorem updOpen_kept {z0 : State} (d : Nat) (m : List Nat) (s : State) (h : Kept z0 s) :
    Kept z0 (updOpen d m s) := by
  unfold updOpen
  simp (maxDischargeDepth := 60) +contextual only [nvmBegin_kept, nvmRefuse_kept, openSession_kept, h,
      apply_ite (Kept z0), ite_self]

theorem cmdOpen_kept {z0 : State} (d : Nat) (s : State) (h : Kept z0 s) :
    Kept z0 (cmdOpen d s) := by
  unfold cmdOpen
  simp (maxDischargeDepth := 60) +contextual only [nvmRefuse_kept, updOpen_kept, h, apply_ite (Kept z0), ite_self]

theorem execNvmUpdateOpen_kept {z0 : State} (d : CDie) (s : State) (h : Kept z0 s) :
    OutKept z0 (execNvmUpdateOpen d s) := by
  unfold execNvmUpdateOpen
  simp (maxDischargeDepth := 60) +contextual only [cmdOpen_kept, onCW_kept, h, implies_true]

theorem updChunk_kept {z0 : State} (d i : Nat) (bytes : List Nat) (s : State) (h : Kept z0 s) :
    Kept z0 (updChunk d i bytes s) := by
  unfold updChunk
  simp (maxDischargeDepth := 60) +contextual only [nvmBegin_kept, nvmRefuse_kept, wrBytes_kept, h, apply_ite (Kept z0),
      ite_self]

theorem cmdChunk_kept {z0 : State} (d i : Nat) (s : State) (h : Kept z0 s) :
    Kept z0 (cmdChunk d i s) := by
  unfold cmdChunk
  simp (maxDischargeDepth := 60) +contextual only [nvmRefuse_kept, updChunk_kept, h, apply_ite (Kept z0), ite_self]

theorem execNvmUpdateChunk_kept {z0 : State} (d : CDie) (i : BitVec 11) (s : State) (h : Kept z0 s) :
    OutKept z0 (execNvmUpdateChunk d i s) := by
  unfold execNvmUpdateChunk
  simp (maxDischargeDepth := 60) +contextual only [cmdChunk_kept, onCW_kept, h, implies_true]

theorem updResume_kept {z0 : State} (d : Nat) (s : State) (h : Kept z0 s) :
    Kept z0 (updResume d s) := by
  unfold updResume
  simp (maxDischargeDepth := 60) +contextual only [nvmBegin_kept, nvmRefuse_kept, on_kept, putUp_kept, refreshUp_kept, h,
      apply_ite (Kept z0), ite_self]

theorem execNvmUpdateResume_kept {z0 : State} (d : CDie) (s : State) (h : Kept z0 s) :
    OutKept z0 (execNvmUpdateResume d s) := by
  unfold execNvmUpdateResume
  simp (maxDischargeDepth := 60) +contextual only [onCW_kept, updResume_kept, h, implies_true]

theorem updAbort_kept {z0 : State} (d : Nat) (s : State) (h : Kept z0 s) :
    Kept z0 (updAbort d s) := by
  unfold updAbort
  simp (maxDischargeDepth := 60) +contextual only [clearMap_kept, nvmBegin_kept, nvmRefuse_kept, off_kept, putUp_kept,
      put_kept, refreshUp_kept, h, apply_ite (Kept z0), ite_self]

theorem execNvmUpdateAbort_kept {z0 : State} (d : CDie) (s : State) (h : Kept z0 s) :
    OutKept z0 (execNvmUpdateAbort d s) := by
  unfold execNvmUpdateAbort
  simp (maxDischargeDepth := 60) +contextual only [onCW_kept, updAbort_kept, h, implies_true]

theorem armSession_kept {z0 : State} (d : Nat) (s : State) (h : Kept z0 s) :
    Kept z0 (armSession d s) := by
  unfold armSession
  simp (maxDischargeDepth := 60) +contextual only [note_kept, putUp_kept, put_kept, h]

theorem updArm_kept {z0 : State} (d : Nat) (s : State) (h : Kept z0 s) :
    Kept z0 (updArm d s) := by
  unfold updArm
  simp (maxDischargeDepth := 60) +contextual only [armSession_kept, nvmBegin_kept, nvmRefuse_kept, h,
      apply_ite (Kept z0), ite_self]

theorem execNvmUpdateArm_kept {z0 : State} (d : CDie) (m : Master) (s : State) (h : Kept z0 s) :
    OutKept z0 (execNvmUpdateArm d m s) := by
  unfold execNvmUpdateArm
  simp (maxDischargeDepth := 60) +contextual only [onC_kept, tkWrite_kept, updArm_kept, h, implies_true]

theorem chunkDone_kept {z0 : State} (d i : Nat) (s : State) (h : Kept z0 s) :
    Kept z0 (chunkDone d i s) := by
  unfold chunkDone
  simp (maxDischargeDepth := 60) +contextual only [note_kept, on_kept, putBit_kept, putUp_kept, refreshUp_kept, h,
      apply_ite (Kept z0), ite_self]

theorem execNvmCommandDone_kept {z0 : State} (d : CDie) (bad : Bool) (words : BitVec 12) (s : State) (h : Kept z0 s) :
    OutKept z0 (execNvmCommandDone d bad words s) := by
  unfold execNvmCommandDone
  refine onC_kept _ _ _ (fun t ht => ?_) h
  dsimp only
  split
  · exact ht
  · refine kept_ite2 ht ?_
    refine on_kept _ _ _ (put_kept _ _ _ _ (off_kept _ _ _ (modNvm_kept _ _ _ ?_)))
    have hc : ∀ (c : Prop) [Decidable c] (f : State → State) (u : State), (∀ v, Kept z0 v → Kept z0 (f v)) → Kept z0 u →
        Kept z0 (if c then f u else u) := fun c _ f u hf hu => kept_ite2 (hf u hu) hu
    refine hc _ (fun u => latchFault d.val Fg.nvm 3 false u) _ (fun v hv => latchFault_kept _ _ _ _ _ hv) ?_
    refine hc _ (fun u => latchFault d.val Fg.nvm 0 false (u.on d.val F.NVM_EVT_WRFAIL)) _
      (fun v hv => latchFault_kept _ _ _ _ _ (on_kept _ _ _ hv)) ?_
    refine hc _ (fun u => chunkDone d.val _ u) _ (fun v hv => chunkDone_kept _ _ _ hv) ?_
    exact kept_ite2 (copyMem_kept _ _ _ _ _ _ ht) ht

theorem copyFail_kept {z0 : State} (d rcause code chunk : Nat) (s : State) (h : Kept z0 s) :
    Kept z0 (copyFail d rcause code chunk s) := by
  unfold copyFail
  simp (maxDischargeDepth := 60) +contextual only [enterRecovery_kept, modNvm_kept, put_kept, recordRom_kept, h]

theorem copyBegin_kept {z0 : State} (d : Nat) (s : State) (h : Kept z0 s) :
    Kept z0 (copyBegin d s) := by
  unfold copyBegin
  simp (maxDischargeDepth := 60) +contextual only [copyFail_kept, count_kept, latchFault_kept, modN_kept, modNvm_kept,
      put_kept, h, apply_ite (Kept z0), ite_self]

theorem execCopyAtStart_kept {z0 : State} (d : CDie) (s : State) (h : Kept z0 s) :
    OutKept z0 (execCopyAtStart d s) := by
  unfold execCopyAtStart
  simp (maxDischargeDepth := 60) +contextual only [copyBegin_kept, onC_kept, h, apply_ite (Kept z0), ite_self, implies_true]

theorem execNvmTempHoldRecheck_kept {z0 : State} (d : CDie) (s : State) (h : Kept z0 s) :
    OutKept z0 (execNvmTempHoldRecheck d s) := by
  unfold execNvmTempHoldRecheck
  simp (maxDischargeDepth := 60) +contextual only [copyBegin_kept, lcErase_kept, modNvm_kept, onC_kept, onlyIf_kept,
      put_kept, h, apply_ite (Kept z0), ite_self, implies_true]

theorem copyVerify_kept {z0 : State} (d : Nat) (s : State) (h : Kept z0 s) :
    Kept z0 (copyVerify d s) := by
  unfold copyVerify
  simp (maxDischargeDepth := 60) +contextual only [copyFail_kept, modNvm_kept, putUp_kept, put_kept, recordRom_kept,
      refreshActive_kept, h, apply_ite (Kept z0), ite_self]

theorem execCopyUnitDone_kept {z0 : State} (d : CDie) (s : State) (h : Kept z0 s) :
    OutKept z0 (execCopyUnitDone d s) := by
  unfold execCopyUnitDone
  simp (maxDischargeDepth := 60) +contextual only [copyMem_kept, copyVerify_kept, modN_kept, modNvm_kept, onC_kept, h,
      apply_ite (Kept z0), ite_self, implies_true]

theorem execRecoveryEntry_kept {z0 : State} (d : CDie) (s : State) (h : Kept z0 s) :
    OutKept z0 (execRecoveryEntry d s) := by
  unfold execRecoveryEntry
  simp (maxDischargeDepth := 60) +contextual only [enterRecovery_kept, modNvm_kept, onC_kept, refreshActive_kept, h,
      apply_ite (Kept z0), ite_self, implies_true]

theorem answer_kept {z0 : State} (d byte code : Nat) (more : List Nat) (s : State) (h : Kept z0 s) :
    Kept z0 (answer d byte code more s) := by
  unfold answer
  simp (maxDischargeDepth := 60) +contextual only [modNvm_kept, h]

theorem execRecoveryIdentify_kept {z0 : State} (d : CDie) (s : State) (h : Kept z0 s) :
    OutKept z0 (execRecoveryIdentify d s) := by
  unfold execRecoveryIdentify
  simp (maxDischargeDepth := 60) +contextual only [answer_kept, onC_kept, h, apply_ite (Kept z0), ite_self, implies_true]

theorem svcRun_kept {z0 : State} (d byte : Nat) (f : State → State) (s : State) (hf : ∀ (t : State),
      Kept z0 t → Kept z0 (f t)) (h : Kept z0 s) :
    Kept z0 (svcRun d byte f s) := by
  unfold svcRun
  dsimp only
  (repeat' split) <;> simp (maxDischargeDepth := 60) +contextual only [answer_kept, chunkDone_kept, modNvm_kept,
      off_kept, put_kept, h, hf]

theorem execRecoveryOpen_kept {z0 : State} (d : CDie) (manifest : List Byte) (s : State) (h : Kept z0 s) :
    OutKept z0 (execRecoveryOpen d manifest s) := by
  unfold execRecoveryOpen
  simp (maxDischargeDepth := 60) +contextual only [onC_kept, svcRun_kept, updOpen_kept, updResume_kept, h,
      apply_ite (Kept z0), ite_self, implies_true]

theorem execRecoveryChunk_kept {z0 : State} (d : CDie) (i : BitVec 16) (bytes : List Byte) (s : State) (h : Kept z0 s) :
    OutKept z0 (execRecoveryChunk d i bytes s) := by
  unfold execRecoveryChunk
  simp (maxDischargeDepth := 60) +contextual only [onC_kept, svcRun_kept, updChunk_kept, h, apply_ite (Kept z0),
      ite_self, implies_true]

theorem execRecoveryStatus_kept {z0 : State} (d : CDie) (s : State) (h : Kept z0 s) :
    OutKept z0 (execRecoveryStatus d s) := by
  unfold execRecoveryStatus
  simp (maxDischargeDepth := 60) +contextual only [answer_kept, onC_kept, h, apply_ite (Kept z0), ite_self, implies_true]

theorem svcReset_kept {z0 : State} (d : Nat) (s : State) (h : Kept z0 s) :
    Kept z0 (svcReset d s) := by
  unfold svcReset
  simp (maxDischargeDepth := 60) +contextual only [dieReset_kept, packageReset_kept, h, apply_ite (Kept z0), ite_self]

theorem execRecoveryInstall_kept {z0 : State} (d : CDie) (s : State) (h : Kept z0 s) :
    OutKept z0 (execRecoveryInstall d s) := by
  unfold execRecoveryInstall
  simp (maxDischargeDepth := 60) +contextual only [answer_kept, armSession_kept, onC_kept, svcReset_kept, h,
      apply_ite (Kept z0), ite_self, implies_true]

theorem execRecoveryReset_kept {z0 : State} (d : CDie) (s : State) (h : Kept z0 s) :
    OutKept z0 (execRecoveryReset d s) := by
  unfold execRecoveryReset
  simp (maxDischargeDepth := 60) +contextual only [answer_kept, onC_kept, svcReset_kept, h, apply_ite (Kept z0),
      ite_self, implies_true]

theorem setWrite_kept {z0 : State} (d : Nat) (s : State) (h : Kept z0 s) :
    Kept z0 (setWrite d s) := by
  unfold setWrite
  simp (maxDischargeDepth := 60) +contextual only [modNvm_kept, nvmBegin_kept, nvmRefuse_kept, h, apply_ite (Kept z0),
      ite_self]

theorem execSettingsWrite_kept {z0 : State} (d : CDie) (s : State) (h : Kept z0 s) :
    OutKept z0 (execSettingsWrite d s) := by
  unfold execSettingsWrite
  simp (maxDischargeDepth := 60) +contextual only [onCW_kept, setWrite_kept, h, implies_true]

theorem setCommit_kept {z0 : State} (d : Nat) (s : State) (h : Kept z0 s) :
    Kept z0 (setCommit d s) := by
  unfold setCommit
  (repeat' split) <;> simp (maxDischargeDepth := 60) +contextual only [note_kept, nvmBegin_kept, nvmRefuse_kept,
      put_kept, refreshSettings_kept, h]

theorem execSettingsCommit_kept {z0 : State} (d : CDie) (s : State) (h : Kept z0 s) :
    OutKept z0 (execSettingsCommit d s) := by
  unfold execSettingsCommit
  simp (maxDischargeDepth := 60) +contextual only [onCW_kept, setCommit_kept, h, implies_true]

theorem upcmdWrite_kept {z0 : State} (d : Nat) (v : Word) (s : State) (h : Kept z0 s) :
    Kept z0 (upcmdWrite d v s) := by
  unfold upcmdWrite
  dsimp only
  (repeat' split) <;> simp (maxDischargeDepth := 60) +contextual only [cmdChunk_kept, cmdOpen_kept, nvmRefuse_kept,
      updAbort_kept, updResume_kept, h]

theorem nvmWrite_kept {z0 : State} (d : Nat) (m : Master) (o : Nat) (v : Word) (s : State) (h : Kept z0 s) :
    Kept z0 (nvmWrite d m o v s) := by
  unfold nvmWrite
  simp (maxDischargeDepth := 60) +contextual only [onlyIf_kept, plainWrite_kept, setCommit_kept, setWrite_kept,
      tkWrite_kept, upcmdWrite_kept, updArm_kept, h, apply_ite (Kept z0), ite_self, implies_true]

/-! ### Machine/Sec.lean -/

theorem secRefuse_kept {z0 : State} (d code : Nat) (s : State) (h : Kept z0 s) :
    Kept z0 (secRefuse d code s) := by
  unfold secRefuse
  simp (maxDischargeDepth := 60) +contextual only [on_kept, put_kept, h]

theorem putKeySt_kept {z0 : State} (d slot st : Nat) (s : State) (h : Kept z0 s) :
    Kept z0 (putKeySt d slot st s) := by
  unfold putKeySt
  simp (maxDischargeDepth := 60) +contextual only [put_kept, h]

theorem revoke_kept {z0 : State} (d slot : Nat) (s : State) (h : Kept z0 s) :
    Kept z0 (revoke d slot s) := by
  unfold revoke
  simp (maxDischargeDepth := 60) +contextual only [note_kept, putKeySt_kept, putUp_kept, put_kept, secRefuse_kept, h,
      apply_ite (Kept z0), ite_self]

theorem revokeWrite_kept {z0 : State} (d : Nat) (v : Word) (s : State) (h : Kept z0 s) :
    Kept z0 (revokeWrite d v s) := by
  unfold revokeWrite
  simp (maxDischargeDepth := 60) +contextual only [put_kept, revoke_kept, h, apply_ite (Kept z0), ite_self]

theorem execSecRevoke_kept {z0 : State} (d : CDie) (m : Master) (slot : Fin 8) (s : State) (h : Kept z0 s) :
    OutKept z0 (execSecRevoke d m slot s) := by
  unfold execSecRevoke
  simp (maxDischargeDepth := 60) +contextual only [onC_kept, revokeWrite_kept, tkWrite_kept, h, implies_true]

theorem modTap_kept {z0 : State} (d : Nat) (f : TapC → TapC) (s : State) (h : Kept z0 s) :
    Kept z0 (modTap d f s) := by
  unfold modTap
  simp (maxDischargeDepth := 60) +contextual only [h, kept_tap]

theorem keyProgram_kept {z0 : State} (d slot use_ : Nat) (data : List Nat) (s : State) (h : Kept z0 s) :
    Kept z0 (keyProgram d slot use_ data s) := by
  unfold keyProgram
  simp (maxDischargeDepth := 60) +contextual only [modN_kept, overN_kept, putKeySt_kept, put_kept, secRefuse_kept, h,
      apply_ite (Kept z0), ite_self, implies_true]

theorem execKeyProgram_kept {z0 : State} (d : CDie) (slot : Fin 8) (use_ : BitVec 4) (data : List Word) (s : State) (h : Kept z0 s) :
    OutKept z0 (execKeyProgram d slot use_ data s) := by
  unfold execKeyProgram
  simp (maxDischargeDepth := 60) +contextual only [atC_kept, keyProgram_kept, h, apply_ite (Kept z0), ite_self,
      implies_true]

theorem lcRequest_kept {z0 : State} (d target : Nat) (prov : Bool) (s : State) (h : Kept z0 s) :
    Kept z0 (lcRequest d target prov s) := by
  unfold lcRequest
  simp (maxDischargeDepth := 60) +contextual only [note_kept, on_kept, overN_kept, put_kept, secRefuse_kept, h,
      apply_ite (Kept z0), ite_self, implies_true]

theorem lccmdWrite_kept {z0 : State} (d : Nat) (v : Word) (s : State) (h : Kept z0 s) :
    Kept z0 (lccmdWrite d v s) := by
  unfold lccmdWrite
  simp (maxDischargeDepth := 60) +contextual only [lcRequest_kept, put_kept, h, apply_ite (Kept z0), ite_self]

theorem execSecLccmd_kept {z0 : State} (d : CDie) (m : Master) (target : Fin 8) (s : State) (h : Kept z0 s) :
    OutKept z0 (execSecLccmd d m target s) := by
  unfold execSecLccmd
  simp (maxDischargeDepth := 60) +contextual only [lccmdWrite_kept, onC_kept, tkWrite_kept, h, implies_true]

theorem authenticate_kept {z0 : State} (d : Nat) (s : State) (h : Kept z0 s) :
    Kept z0 (authenticate d s) := by
  unfold authenticate
  (repeat' split) <;> simp (maxDischargeDepth := 60) +contextual only [newNonce_kept, note_kept, on_kept, onlyIf_kept,
      put_kept, secRefuse_kept, h, implies_true]

theorem execDebugAuth_kept {z0 : State} (d : CDie) (s : State) (h : Kept z0 s) :
    OutKept z0 (execDebugAuth d s) := by
  unfold execDebugAuth
  simp (maxDischargeDepth := 60) +contextual only [authenticate_kept, onCW_kept, h, implies_true]

theorem tapSelect_kept {z0 : State} (d op : Nat) (s : State) (h : Kept z0 s) :
    Kept z0 (tapSelect d op s) := by
  unfold tapSelect
  simp (maxDischargeDepth := 60) +contextual only [modTap_kept, h]

theorem execIdcode_kept {z0 : State} (d : CDie) (s : State) (h : Kept z0 s) :
    OutKept z0 (execIdcode d s) := by
  unfold execIdcode
  simp (maxDischargeDepth := 60) +contextual only [atC_kept, modSys_kept, tapSelect_kept, h, implies_true]

theorem execSamplePreload_kept {z0 : State} (d : CDie) (cells : List Bool) (s : State) (h : Kept z0 s) :
    OutKept z0 (execSamplePreload d cells s) := by
  unfold execSamplePreload
  simp (maxDischargeDepth := 60) +contextual only [atC_kept, modTap_kept, tapSelect_kept, h, apply_ite (Kept z0),
      ite_self, implies_true]

theorem execExtest_kept {z0 : State} (d : CDie) (s : State) (h : Kept z0 s) :
    OutKept z0 (execExtest d s) := by
  unfold execExtest
  simp (maxDischargeDepth := 60) +contextual only [atC_kept, tapSelect_kept, h, implies_true]

theorem execProv_kept {z0 : State} (d : CDie) (target : Option Byte) (s : State) (h : Kept z0 s) :
    OutKept z0 (execProv d target s) := by
  unfold execProv
  split <;> simp (maxDischargeDepth := 60) +contextual only [atC_kept, lcRequest_kept, tapSelect_kept, h,
      apply_ite (Kept z0), ite_self, implies_true]

theorem execDebug_kept {z0 : State} (d : CDie) (s : State) (h : Kept z0 s) :
    OutKept z0 (execDebug d s) := by
  unfold execDebug
  simp (maxDischargeDepth := 60) +contextual only [atC_kept, tapSelect_kept, h, implies_true]

theorem execAuth_kept {z0 : State} (d : CDie) (s : State) (h : Kept z0 s) :
    OutKept z0 (execAuth d s) := by
  unfold execAuth
  simp (maxDischargeDepth := 60) +contextual only [atC_kept, tapSelect_kept, h, implies_true]

theorem execScan_kept {z0 : State} (d : CDie) (s : State) (h : Kept z0 s) :
    OutKept z0 (execScan d s) := by
  unfold execScan
  simp (maxDischargeDepth := 60) +contextual only [atC_kept, tapSelect_kept, h, implies_true]

theorem execBypass_kept {z0 : State} (d : CDie) (s : State) (h : Kept z0 s) :
    OutKept z0 (execBypass d s) := by
  unfold execBypass
  simp (maxDischargeDepth := 60) +contextual only [atC_kept, tapSelect_kept, h, implies_true]

theorem secWrite_kept {z0 : State} (d : Nat) (m : Master) (o : Nat) (v : Word) (s : State) (h : Kept z0 s) :
    Kept z0 (secWrite d m o v s) := by
  unfold secWrite
  simp (maxDischargeDepth := 60) +contextual only [authenticate_kept, lccmdWrite_kept, onlyIf_kept, plainWrite_kept,
      revokeWrite_kept, setReg_kept, tkWrite_kept, h, apply_ite (Kept z0), ite_self, implies_true]

/-! ### Machine/Handover.lean -/

theorem restoreBegin_kept {z0 : State} (d k : Nat) (s : State) (h : Kept z0 s) :
    Kept z0 (restoreBegin d k s) := by
  unfold restoreBegin
  simp (maxDischargeDepth := 60) +contextual only [modHdr_kept, takeMark_kept, h, apply_ite (Kept z0), ite_self]

theorem retrain_kept {z0 : State} (d n : Nat) (s : State) (h : Kept z0 s) :
    Kept z0 (retrain d n s) := by
  unfold retrain
  simp (maxDischargeDepth := 60) +contextual only [endActive_kept, linkUp_kept, refreshLockout_kept, restoreBegin_kept,
      h, apply_ite (Kept z0), ite_self]

theorem execLinkRetrained_kept {z0 : State} (i : DieIx) (n : Fin 7) (s : State) (h : Kept z0 s) :
    OutKept z0 (execLinkRetrained i n s) := by
  unfold execLinkRetrained
  simp (maxDischargeDepth := 60) +contextual only [linkFresh_kept, onLink_kept, retrain_kept, h, apply_ite (Kept z0),
      ite_self, implies_true]

theorem replayDrv_kept {z0 : State} (d k : Nat) (s : State) (h : Kept z0 s) :
    Kept z0 (replayDrv d k s) := by
  unfold replayDrv
  simp (maxDischargeDepth := 60) +contextual only [runKept_kept, whileLoading_kept, h, kept_foldl, implies_true]

theorem takeEnter_kept {z0 : State} (d k : Nat) (s : State) (h : Kept z0 s) :
    Kept z0 (takeEnter d k s) := by
  unfold takeEnter
  simp (maxDischargeDepth := 60) +contextual only [curtainAfter_kept, curtainBegin_kept, modAx_kept, overL_kept,
      put_kept, raiseCause_kept, h, apply_ite (Kept z0), ite_self, implies_true]

theorem takeTry_kept {z0 : State} (d k : Nat) (s : State) (h : Kept z0 s) :
    Kept z0 (takeTry d k s) := by
  unfold takeTry
  simp (maxDischargeDepth := 60) +contextual only [put_kept, takeEnter_kept, takeMark_kept, h, apply_ite (Kept z0),
      ite_self]

theorem takeoverDone_kept {z0 : State} (k : Nat) (s : State) (h : Kept z0 s) :
    Kept z0 (takeoverDone k s) := by
  unfold takeoverDone
  simp (maxDischargeDepth := 60) +contextual only [dropCause_kept, modAx_kept, overL_kept, overN_kept, h,
      apply_ite (Kept z0), ite_self, implies_true]

theorem leaveOrphan_kept {z0 : State} (d k : Nat) (s : State) (h : Kept z0 s) :
    Kept z0 (leaveOrphan d k s) := by
  unfold leaveOrphan
  simp (maxDischargeDepth := 60) +contextual only [modD_kept, overN_kept, put_kept, refreshInact_kept, setOwner_kept,
      settle_kept, syncOwn_kept, h, apply_ite (Kept z0), ite_self, implies_true]

theorem takeFinish_kept {z0 : State} (d k : Nat) (s : State) (h : Kept z0 s) :
    Kept z0 (takeFinish d k s) := by
  unfold takeFinish
  simp (maxDischargeDepth := 60) +contextual only [hoEnd_kept, on_kept, put_kept, recordEvent_kept, syncOwn_kept, h]

theorem takeRule_kept {z0 : State} (d k : Nat) (s : State) (h : Kept z0 s) :
    Kept z0 (takeRule d k s) := by
  unfold takeRule
  simp (maxDischargeDepth := 60) +contextual only [evalCurtain_kept, overL_kept, writeCurtain_kept, writeOrphan_kept, h,
      apply_ite (Kept z0), ite_self, implies_true]

theorem takeAnswer_kept {z0 : State} (d : Nat) (ok : Bool) (s : State) (h : Kept z0 s) :
    Kept z0 (takeAnswer d ok s) := by
  unfold takeAnswer
  simp (maxDischargeDepth := 60) +contextual only [latchFault_kept, leaveOrphan_kept, loadOrphans_kept, lockUcode_kept,
      modHdr_kept, pushUcode_kept, replayDrv_kept, settle_kept, takeCancel_kept, takeFinish_kept, takeRule_kept,
      takeoverDone_kept, h, apply_ite (Kept z0), ite_self]

theorem execRemoteReadResponse_kept {z0 : State} (d : CDie) (k : Fin 5) (machine crcOk : Bool) (s : State) (h : Kept z0 s) :
    OutKept z0 (execRemoteReadResponse d k machine crcOk s) := by
  unfold execRemoteReadResponse
  refine onC_kept _ _ _ (fun t ht => ?_) h
  try dsimp only
  (repeat' split) <;> simp (maxDischargeDepth := 60) +contextual only [accErr_kept, busTrap_kept, modSys_kept,
      readEnd_kept, takeAnswer_kept, ht]

theorem execTakeReceive_kept {z0 : State} (d : CDie) (k : DDie) (s : State) (h : Kept z0 s) :
    OutKept z0 (execTakeReceive d k s) := by
  unfold execTakeReceive
  simp (maxDischargeDepth := 60) +contextual only [modD_kept, onDC_kept, takeCancel_kept, tellFlit_kept, h,
      apply_ite (Kept z0), ite_self, implies_true]

theorem hoCmd_kept {z0 : State} (d : Nat) (v : Word) (s : State) (h : Kept z0 s) :
    Kept z0 (hoCmd d v s) := by
  unfold hoCmd
  split <;> simp (maxDischargeDepth := 60) +contextual only [hoTry_kept, takeTry_kept, h]

theorem hoCmdWrite_kept {z0 : State} (d : Nat) (m : Master) (v : Word) (s : State) (h : Kept z0 s) :
    Kept z0 (hoCmdWrite d m v s) := by
  unfold hoCmdWrite
  simp (maxDischargeDepth := 60) +contextual only [hoCmd_kept, tkWrite_kept, h, implies_true]

theorem execHandover_kept {z0 : State} (d : CDie) (m : Master) (k : Fin 8) (s : State) (h : Kept z0 s) :
    OutKept z0 (execHandover d m k s) := by
  unfold execHandover
  simp (maxDischargeDepth := 60) +contextual only [hoCmdWrite_kept, onC_kept, h, implies_true]

theorem execTake_kept {z0 : State} (d : CDie) (m : Master) (k : Fin 8) (s : State) (h : Kept z0 s) :
    OutKept z0 (execTake d m k s) := by
  unfold execTake
  simp (maxDischargeDepth := 60) +contextual only [hoCmdWrite_kept, onC_kept, h, implies_true]

theorem mirrorBegin_kept {z0 : State} (e : Nat) (as : List Nat) (s : State) (h : Kept z0 s) :
    Kept z0 (mirrorBegin e as s) := by
  unfold mirrorBegin
  simp (maxDischargeDepth := 60) +contextual only [modEng_kept, on_kept, overL_kept, h, kept_foldl, implies_true]

theorem execHoOfferReceive_kept {z0 : State} (d : CDie) (s : State) (h : Kept z0 s) :
    OutKept z0 (execHoOfferReceive d s) := by
  unfold execHoOfferReceive
  simp (maxDischargeDepth := 60) +contextual only [mirrorBegin_kept, modHdr_kept, onC_kept, h, apply_ite (Kept z0),
      ite_self, implies_true]

theorem execHoReadyReceive_kept {z0 : State} (d : CDie) (s : State) (h : Kept z0 s) :
    OutKept z0 (execHoReadyReceive d s) := by
  unfold execHoReadyReceive
  simp (maxDischargeDepth := 60) +contextual only [onC_kept, overL_kept, put_kept, tellFlit_kept, h, apply_ite (Kept z0),
      ite_self, implies_true]

theorem execHoReadyDeadline_kept {z0 : State} (d : CDie) (s : State) (h : Kept z0 s) :
    OutKept z0 (execHoReadyDeadline d s) := by
  unfold execHoReadyDeadline
  simp (maxDischargeDepth := 60) +contextual only [hoCancel_kept, onC_kept, h, apply_ite (Kept z0), ite_self, implies_true]

theorem execHoCommitReceive_kept {z0 : State} (k : DDie) (s : State) (h : Kept z0 s) :
    OutKept z0 (execHoCommitReceive k s) := by
  unfold execHoCommitReceive
  simp (maxDischargeDepth := 60) +contextual only [modD_kept, onD_kept, put_kept, h, apply_ite (Kept z0), ite_self,
      implies_true]

theorem execHoCancel_kept {z0 : State} (d : CDie) (code : Fin 14) (s : State) (h : Kept z0 s) :
    OutKept z0 (execHoCancel d code s) := by
  unfold execHoCancel
  simp (maxDischargeDepth := 60) +contextual only [hoCancel_kept, onC_kept, h, apply_ite (Kept z0), ite_self, implies_true]

theorem execHoCancelReceive_kept {z0 : State} (d : CDie) (k : DDie) (s : State) (h : Kept z0 s) :
    OutKept z0 (execHoCancelReceive d k s) := by
  unfold execHoCancelReceive
  simp (maxDischargeDepth := 60) +contextual only [modD_kept, modHdr_kept, onDC_kept, h, apply_ite (Kept z0), ite_self,
      implies_true]

theorem switchTo_kept {z0 : State} (e k : Nat) (s : State) (h : Kept z0 s) :
    Kept z0 (switchTo e k s) := by
  unfold switchTo
  simp (maxDischargeDepth := 60) +contextual only [modD_kept, overN_kept, setOwner_kept, settle_kept, tellFlit_kept, h,
      implies_true]

theorem axisMoves_kept {z0 : State} (o e a : Nat) (s : State) (h : Kept z0 s) :
    Kept z0 (axisMoves o e a s) := by
  unfold axisMoves
  simp (maxDischargeDepth := 60) +contextual only [modAx_kept, modAxr_kept, modPwm_kept, putBit_kept, setReg_kept, h]

theorem axisLeaves_kept {z0 : State} (o a : Nat) (s : State) (h : Kept z0 s) :
    Kept z0 (axisLeaves o a s) := by
  unfold axisLeaves
  simp (maxDischargeDepth := 60) +contextual only [axisOff_kept, modAx_kept, modAxr_kept, putBit_kept, put_kept,
      setReg_kept, h]

theorem enginesMove_kept {z0 : State} (e : Nat) (as : List Nat) (s : State) (h : Kept z0 s) :
    Kept z0 (enginesMove e as s) := by
  unfold enginesMove
  simp (maxDischargeDepth := 60) +contextual only [engStop_kept, modEng_kept, off_kept, put_kept, h, kept_foldl,
      implies_true]

theorem switchAt_kept {z0 : State} (k e b : Nat) (st : Bool) (s : State) (h : Kept z0 s) :
    Kept z0 (switchAt k e b st s) := by
  unfold switchAt
  simp (maxDischargeDepth := 60) +contextual only [axisLeaves_kept, axisMoves_kept, enginesMove_kept, off_kept,
      overL_kept, overN_kept, refreshInact_kept, switchTo_kept, h, apply_ite (Kept z0), ite_self, implies_true]

theorem execHandoverBoundary_kept {z0 : State} (k : DDie) (s : State) (h : Kept z0 s) :
    OutKept z0 (execHandoverBoundary k s) := by
  unfold execHandoverBoundary
  refine onD_kept _ _ _ (fun t ht => ?_) h
  try dsimp only
  (repeat' split) <;> simp (maxDischargeDepth := 60) +contextual only [switchAt_kept, ht]

theorem hoDone_kept {z0 : State} (d k : Nat) (s : State) (h : Kept z0 s) :
    Kept z0 (hoDone d k s) := by
  unfold hoDone
  simp (maxDischargeDepth := 60) +contextual only [hoEnd_kept, modD_kept, modHdr_kept, on_kept, put_kept,
      recordEvent_kept, syncOwn_kept, h, apply_ite (Kept z0), ite_self]

theorem execHoDoneReceive_kept {z0 : State} (d : CDie) (k : DDie) (s : State) (h : Kept z0 s) :
    OutKept z0 (execHoDoneReceive d k s) := by
  unfold execHoDoneReceive
  simp (maxDischargeDepth := 60) +contextual only [hoDone_kept, onCD_kept, h, apply_ite (Kept z0), ite_self, implies_true]

/-! ### Machine/CueArrive.lean -/

theorem cueAct_kept {z0 : State} (d dst : Nat) (s : State) (h : Kept z0 s) :
    Kept z0 (cueAct d dst s) := by
  unfold cueAct
  (repeat' split) <;> simp (maxDischargeDepth := 60) +contextual only [canStamp_kept, engineTrigger_kept,
      flumeStart_kept, latchCue_kept, loadallArm_kept, modHdr_kept, onlyIf_kept, seqStart_kept, shuntStart_kept,
      syncCue_kept, tcapArm_kept, voltStart_kept, h, apply_ite (Kept z0), ite_self, implies_true]

theorem cueLate_kept {z0 : State} (d : Nat) (s : State) (h : Kept z0 s) :
    Kept z0 (cueLate d s) := by
  unfold cueLate
  simp (maxDischargeDepth := 60) +contextual only [count_kept, latchFault_kept, on_kept, h]

theorem execCueArrival_kept {z0 : State} (d : CDie) (dst : Byte) (late bad : Bool) (s : State) (h : Kept z0 s) :
    OutKept z0 (execCueArrival d dst late bad s) := by
  unfold execCueArrival
  refine onC_kept _ _ _ (fun t ht => ?_) h
  try dsimp only
  (repeat' split) <;> simp (maxDischargeDepth := 60) +contextual only [cueAct_kept, cueLate_kept, modHdr_kept,
      onlyIf_kept, implies_true, ht]

end Sys2Proof.Machine
end

