-- ==== Sys2Proof/Laws/KeptRun.lean ====
section
/-! SUPPORT. What the operations keep (`Kept`): the tick, the loader, register accesses, descriptors and frames. -/

namespace Sys2Proof.Machine

/-! ### Machine/Tick.lean -/

theorem clampCount_kept {z0 : State} (d : Nat) (s : State) (h : Kept z0 s) :
    Kept z0 (clampCount d s) := by
  unfold clampCount
  simp (maxDischargeDepth := 60) +contextual only [count_kept, modPrompt_kept, overN_kept, h, apply_ite (Kept z0),
      ite_self, implies_true]

theorem tickC_kept {z0 : State} (d : Nat) (s : State) (h : Kept z0 s) :
    Kept z0 (tickC d s) := by
  unfold tickC
  simp (maxDischargeDepth := 60) +contextual only [benchRefresh_kept, canClock_kept, chopCycle_kept, clampCount_kept,
      fbCycle_kept, fieldCycle_kept, loopCycle_kept, modSys_kept, overN_kept, pwmCycle_kept, slotsOutC_kept,
      stepsDue_kept, h, apply_ite (Kept z0), ite_self, implies_true]

theorem tickD_kept {z0 : State} (k : Nat) (s : State) (h : Kept z0 s) :
    Kept z0 (tickD k s) := by
  unfold tickD
  simp (maxDischargeDepth := 60) +contextual only [gateCycle_kept, modD_kept, slotsOutD_kept, voltAuto_kept, h,
      apply_ite (Kept z0), ite_self]

theorem tick_kept {z0 : State} (s : State) (h : Kept z0 s) :
    Kept z0 (tick s) := by
  unfold tick
  simp (maxDischargeDepth := 60) +contextual only [overN_kept, tickC_kept, tickD_kept, h, implies_true]

theorem ticks_kept {z0 : State} (n : Nat) (s : State) (h : Kept z0 s) :
    Kept z0 (ticks n s) := by
  unfold ticks
  simp (maxDischargeDepth := 60) +contextual only [overN_kept, tick_kept, h, implies_true]

/-! ### Machine/Cycles.lean -/

theorem execLoadGroupStart_kept {z0 : State} (d : CDie) (g : Fin 8) (s : State) (h : Kept z0 s) :
    OutKept z0 (execLoadGroupStart d g s) := by
  unfold execLoadGroupStart
  simp (maxDischargeDepth := 60) +contextual only [onC_kept, ticks_kept, h, apply_ite (Kept z0), ite_self, implies_true]

theorem execGroupBoundary_kept {z0 : State} (d : CDie) (g : Fin 8) (s : State) (h : Kept z0 s) :
    OutKept z0 (execGroupBoundary d g s) := by
  unfold execGroupBoundary
  simp (maxDischargeDepth := 60) +contextual only [onC_kept, ticks_kept, h, apply_ite (Kept z0), ite_self, implies_true]

/-! ### Machine/Lib.lean -/

theorem libCode_kept {z0 : State} (cmd code : Nat) (s : State) (h : Kept z0 s) :
    Kept z0 (libCode cmd code s) := by
  unfold libCode
  simp (maxDischargeDepth := 60) +contextual only [put_kept, h, apply_ite (Kept z0), ite_self]

theorem verifyBegin_kept {z0 : State} (cmd ax : Nat) (s : State) (h : Kept z0 s) :
    Kept z0 (verifyBegin cmd ax s) := by
  unfold verifyBegin
  simp (maxDischargeDepth := 60) +contextual only [modLib_kept, off_kept, overN_kept, put_kept, h, apply_ite (Kept z0),
      ite_self, implies_true]

theorem watchArm_kept {z0 : State} (ofRollback : Bool) (s : State) (h : Kept z0 s) :
    Kept z0 (watchArm ofRollback s) := by
  unfold watchArm
  simp (maxDischargeDepth := 60) +contextual only [modLib_kept, overL_kept, h, implies_true]

theorem rollbackRun_kept {z0 : State} (s : State) (h : Kept z0 s) :
    Kept z0 (rollbackRun s) := by
  unfold rollbackRun
  simp (maxDischargeDepth := 60) +contextual only [applyAll_kept, dirWrite_kept, exchangeRoles_kept, heldEnds_kept,
      libCode_kept, overL_kept, watchArm_kept, h, apply_ite (Kept z0), ite_self, implies_true]

theorem acceptRun_kept {z0 : State} (s : State) (h : Kept z0 s) :
    Kept z0 (acceptRun s) := by
  unfold acceptRun
  simp (maxDischargeDepth := 60) +contextual only [overN_kept, watchClose_kept, h, apply_ite (Kept z0), ite_self,
      implies_true]

theorem abortRun_kept {z0 : State} (s : State) (h : Kept z0 s) :
    Kept z0 (abortRun s) := by
  unfold abortRun
  simp (maxDischargeDepth := 60) +contextual only [libCode_kept, libRest_kept, reloadCancel_kept, h, apply_ite (Kept z0),
      ite_self]

theorem clearUdRun_kept {z0 : State} (s : State) (h : Kept z0 s) :
    Kept z0 (clearUdRun s) := by
  unfold clearUdRun
  simp (maxDischargeDepth := 60) +contextual only [modN_kept, overL_kept, refreshVersions_kept, h, implies_true]

theorem libCommand_kept {z0 : State} (d cmd ax : Nat) (s : State) (h : Kept z0 s) :
    Kept z0 (libCommand d cmd ax s) := by
  unfold libCommand
  simp (maxDischargeDepth := 60) +contextual only [abortRun_kept, acceptRun_kept, clearUdRun_kept, libCode_kept,
      put_kept, rollbackRun_kept, verifyBegin_kept, h, apply_ite (Kept z0), ite_self]

theorem libCmdWrite_kept {z0 : State} (d : Nat) (m : Master) (v : Word) (s : State) (h : Kept z0 s) :
    Kept z0 (libCmdWrite d m v s) := by
  unfold libCmdWrite
  simp (maxDischargeDepth := 60) +contextual only [libCommand_kept, put_kept, tkDisturb_kept, tkWrite_kept, h,
      apply_ite (Kept z0), ite_self, implies_true]

theorem execLibLoad_kept {z0 : State} (d : CDie) (m : Master) (s : State) (h : Kept z0 s) :
    OutKept z0 (execLibLoad d m s) := by
  unfold execLibLoad
  simp (maxDischargeDepth := 60) +contextual only [libCmdWrite_kept, onC_kept, h, implies_true]

theorem execLibReload_kept {z0 : State} (d : CDie) (m : Master) (ax : Fin 8) (s : State) (h : Kept z0 s) :
    OutKept z0 (execLibReload d m ax s) := by
  unfold execLibReload
  simp (maxDischargeDepth := 60) +contextual only [libCmdWrite_kept, onC_kept, h, implies_true]

theorem execLibRollback_kept {z0 : State} (d : CDie) (m : Master) (s : State) (h : Kept z0 s) :
    OutKept z0 (execLibRollback d m s) := by
  unfold execLibRollback
  simp (maxDischargeDepth := 60) +contextual only [libCmdWrite_kept, onC_kept, h, implies_true]

theorem execLibAccept_kept {z0 : State} (d : CDie) (m : Master) (s : State) (h : Kept z0 s) :
    OutKept z0 (execLibAccept d m s) := by
  unfold execLibAccept
  simp (maxDischargeDepth := 60) +contextual only [libCmdWrite_kept, onC_kept, h, implies_true]

theorem execLibAbort_kept {z0 : State} (d : CDie) (m : Master) (s : State) (h : Kept z0 s) :
    OutKept z0 (execLibAbort d m s) := by
  unfold execLibAbort
  simp (maxDischargeDepth := 60) +contextual only [libCmdWrite_kept, onC_kept, h, implies_true]

theorem execLibStoreUd_kept {z0 : State} (d : CDie) (m : Master) (s : State) (h : Kept z0 s) :
    OutKept z0 (execLibStoreUd d m s) := by
  unfold execLibStoreUd
  simp (maxDischargeDepth := 60) +contextual only [libCmdWrite_kept, onC_kept, h, implies_true]

theorem execLibClearUd_kept {z0 : State} (d : CDie) (m : Master) (s : State) (h : Kept z0 s) :
    OutKept z0 (execLibClearUd d m s) := by
  unfold execLibClearUd
  simp (maxDischargeDepth := 60) +contextual only [libCmdWrite_kept, onC_kept, h, implies_true]

theorem storeBegin_kept {z0 : State} (d cmd : Nat) (s : State) (h : Kept z0 s) :
    Kept z0 (storeBegin d cmd s) := by
  unfold storeBegin
  simp (maxDischargeDepth := 60) +contextual only [dirWrite_kept, modLib_kept, modN_kept, put_kept, refreshVersions_kept, h]

theorem execLibVerifyDone_kept {z0 : State} (s : State) (h : Kept z0 s) :
    OutKept z0 (execLibVerifyDone s) := by
  unfold execLibVerifyDone
  simp (maxDischargeDepth := 60) +contextual only [libCode_kept, libRest_kept, noteErrSect_kept, overL_kept,
      storeBegin_kept, h, apply_ite (Kept z0), ite_self, outKept_next, implies_true]

theorem storeImage_kept {z0 : State} (d cmd : Nat) (s : State) (h : Kept z0 s) :
    Kept z0 (storeImage d cmd s) := by
  unfold storeImage
  simp (maxDischargeDepth := 60) +contextual only [copyMem_kept, modN_kept, h, apply_ite (Kept z0), ite_self]

theorem stageReload_kept {z0 : State} (d ax : Nat) (s : State) (h : Kept z0 s) :
    Kept z0 (stageReload d ax s) := by
  unfold stageReload
  simp (maxDischargeDepth := 60) +contextual only [modLib_kept, on_kept, putAxst_kept, put_kept, h]

theorem loadStored_kept {z0 : State} (s : State) (h : Kept z0 s) :
    Kept z0 (loadStored s) := by
  unfold loadStored
  simp (maxDischargeDepth := 60) +contextual only [applyAll_kept, heldEnds_kept, libRest_kept, modLib_kept, overL_kept,
      rolesOfLoad_kept, watchArm_kept, h, implies_true]

theorem execLibStoreDone_kept {z0 : State} (s : State) (h : Kept z0 s) :
    OutKept z0 (execLibStoreDone s) := by
  unfold execLibStoreDone
  simp (maxDischargeDepth := 60) +contextual only [libCode_kept, libRest_kept, loadStored_kept, modN_kept, overL_kept,
      refreshVersions_kept, stageReload_kept, storeImage_kept, h, apply_ite (Kept z0), ite_self, outKept_next, implies_true]

theorem storesAgree_kept {z0 : State} (s : State) (h : Kept z0 s) :
    Kept z0 (storesAgree s) := by
  unfold storesAgree
  simp (maxDischargeDepth := 60) +contextual only [copyMem_kept, modN_kept, rolesOfLoad_kept, h, apply_ite (Kept z0),
      ite_self]

theorem holdStart_kept {z0 : State} (a code : Nat) (s : State) (h : Kept z0 s) :
    Kept z0 (holdStart a code s) := by
  unfold holdStart
  simp (maxDischargeDepth := 60) +contextual only [libRest_kept, modLib_kept, noteErrSect_kept, overN_kept, put_kept, h,
      apply_ite (Kept z0), ite_self, implies_true]

theorem startApplied_kept {z0 : State} (choose : NvC → Nat) (source : Nat) (fb : Bool) (s : State) (h : Kept z0 s) :
    Kept z0 (startApplied choose source fb s) := by
  unfold startApplied
  simp (maxDischargeDepth := 60) +contextual only [applyAll_kept, holdStart_kept, modLib_kept, overN_kept, put_kept, h,
      apply_ite (Kept z0), ite_self, implies_true]

theorem applyDefaults_kept {z0 : State} (fb : Bool) (s : State) (h : Kept z0 s) :
    Kept z0 (applyDefaults fb s) := by
  unfold applyDefaults
  simp (maxDischargeDepth := 60) +contextual only [startApplied_kept, h]

theorem configPick_kept {z0 : State} (s : State) (h : Kept z0 s) :
    Kept z0 (configPick s) := by
  unfold configPick
  simp (maxDischargeDepth := 60) +contextual only [applyDefaults_kept, holdStart_kept, startApplied_kept, h,
      apply_ite (Kept z0), ite_self]

theorem rejoinApplyOn_kept {z0 : State} (d : Nat) (s : State) (h : Kept z0 s) :
    Kept z0 (rejoinApplyOn d s) := by
  unfold rejoinApplyOn
  simp (maxDischargeDepth := 60) +contextual only [applyOn_kept, drawn_kept, loadOrphans_kept, modLib_kept, h,
      apply_ite (Kept z0), ite_self]

theorem execLibConfigApply_kept {z0 : State} (s : State) (h : Kept z0 s) :
    OutKept z0 (execLibConfigApply s) := by
  unfold execLibConfigApply
  simp (maxDischargeDepth := 60) +contextual only [configEnds_kept, configPick_kept, holdStart_kept, modLib_kept,
      onlyIf_kept, overN_kept, rejoinApplyOn_kept, storesAgree_kept, h, apply_ite (Kept z0), ite_self, outKept_next,
      implies_true]

theorem runBundle_kept {z0 : State} (d slot before : Nat) (news : SlotMap) (s : State) (h : Kept z0 s) :
    Kept z0 (runBundle d slot before news s) := by
  unfold runBundle
  simp (maxDischargeDepth := 60) +contextual only [newSlots_kept, runReload_kept, h, kept_foldl, implies_true]

theorem keepDrives_kept {z0 : State} (old s : State) (h : Kept z0 s) :
    Kept z0 (keepDrives old s) := by
  unfold keepDrives
  simp (maxDischargeDepth := 60) +contextual only [modCh_kept, modLeg_kept, overN_kept, h, apply_ite (Kept z0), ite_self,
      implies_true]

theorem transferOn_kept {z0 : State} (d ax : Nat) (news : SlotMap) (s : State) (h : Kept z0 s) :
    Kept z0 (transferOn d ax news s) := by
  unfold transferOn
  simp (maxDischargeDepth := 60) +contextual only [dirTry_kept, keepDrives_kept, keepSeqs_kept, modLib_kept,
      noteOffsets_kept, off_kept, on_kept, putAxst_kept, put_kept, recordEvent_kept, refreshInact_kept,
      releaseBlocks_kept, runBundle_kept, watchOpen_kept, h]

theorem execReloadTransfer_kept {z0 : State} (news : SlotMap) (s : State) (h : Kept z0 s) :
    OutKept z0 (execReloadTransfer news s) := by
  unfold execReloadTransfer
  simp (maxDischargeDepth := 60) +contextual only [overL_kept, transferOn_kept, h, apply_ite (Kept z0), ite_self,
      outKept_next, implies_true]

theorem execAcceptWindowExpiry_kept {z0 : State} (s : State) (h : Kept z0 s) :
    OutKept z0 (execAcceptWindowExpiry s) := by
  unfold execAcceptWindowExpiry
  simp (maxDischargeDepth := 60) +contextual only [overN_kept, watchClose_kept, h, apply_ite (Kept z0), ite_self,
      outKept_next, implies_true]

theorem revertIfDue_kept {z0 : State} (s : State) (h : Kept z0 s) :
    Kept z0 (revertIfDue s) := by
  unfold revertIfDue
  simp (maxDischargeDepth := 60) +contextual only [applyAll_kept, modLib_kept, overN_kept, watchArm_kept, h,
      apply_ite (Kept z0), ite_self, implies_true]

theorem revertAxis_kept {z0 : State} (s : State) (h : Kept z0 s) :
    Kept z0 (revertAxis s) := by
  unfold revertAxis
  simp (maxDischargeDepth := 60) +contextual only [modLib_kept, overL_kept, releaseBlocks_kept, runReload_kept, h,
      apply_ite (Kept z0), ite_self, implies_true]

theorem dirRetryAll_kept {z0 : State} (s : State) (h : Kept z0 s) :
    Kept z0 (dirRetryAll s) := by
  unfold dirRetryAll
  simp (maxDischargeDepth := 60) +contextual only [dirWrite_kept, overN_kept, h, apply_ite (Kept z0), ite_self,
      implies_true]

theorem libBoundary_kept {z0 : State} (s : State) (h : Kept z0 s) :
    Kept z0 (libBoundary s) := by
  unfold libBoundary
  simp (maxDischargeDepth := 60) +contextual only [dirRetryAll_kept, modLib_kept, revertAxis_kept, revertIfDue_kept, h,
      apply_ite (Kept z0), ite_self]

theorem execDirectoryWriteRetry_kept {z0 : State} (s : State) (h : Kept z0 s) :
    OutKept z0 (execDirectoryWriteRetry s) := by
  unfold execDirectoryWriteRetry
  simp (maxDischargeDepth := 60) +contextual only [dirRetryAll_kept, revertIfDue_kept, h, outKept_next]

theorem tkAddrWrite_kept {z0 : State} (d : Nat) (m : Master) (v : Word) (s : State) (h : Kept z0 s) :
    Kept z0 (tkAddrWrite d m v s) := by
  unfold tkAddrWrite
  simp (maxDischargeDepth := 60) +contextual only [modTk_kept, off_kept, on_kept, tkFail_kept, h, apply_ite (Kept z0),
      ite_self]

theorem tkKeyWrite_kept {z0 : State} (d : Nat) (m : Master) (v : Word) (s : State) (h : Kept z0 s) :
    Kept z0 (tkKeyWrite d m v s) := by
  unfold tkKeyWrite
  simp (maxDischargeDepth := 60) +contextual only [modTk_kept, on_kept, tkFail_kept, h, apply_ite (Kept z0), ite_self]

theorem execLibTkAddrWrite_kept {z0 : State} (d : CDie) (m : Master) (v : Word) (s : State) (h : Kept z0 s) :
    OutKept z0 (execLibTkAddrWrite d m v s) := by
  unfold execLibTkAddrWrite
  simp (maxDischargeDepth := 60) +contextual only [onC_kept, tkAddrWrite_kept, h, implies_true]

theorem execLibTkKeyWrite_kept {z0 : State} (d : CDie) (m : Master) (v : Word) (s : State) (h : Kept z0 s) :
    OutKept z0 (execLibTkKeyWrite d m v s) := by
  unfold execLibTkKeyWrite
  simp (maxDischargeDepth := 60) +contextual only [onC_kept, tkKeyWrite_kept, h, implies_true]

theorem execTwoKeyTimeout_kept {z0 : State} (d : CDie) (s : State) (h : Kept z0 s) :
    OutKept z0 (execTwoKeyTimeout d s) := by
  unfold execTwoKeyTimeout
  simp (maxDischargeDepth := 60) +contextual only [onC_kept, tkFail_kept, h, apply_ite (Kept z0), ite_self, implies_true]

/-! ### Machine/RegAccess.lean -/

theorem hdrLibWrite_kept {z0 : State} (d : Nat) (m : Master) (off : Nat) (v : Word) (s : State) (h : Kept z0 s) :
    Kept z0 (hdrLibWrite d m off v s) := by
  unfold hdrLibWrite
  split <;> simp (maxDischargeDepth := 60) +contextual only [hoCmdWrite_kept, libCmdWrite_kept, plainWrite_kept,
      protWrite_kept, tkAddrWrite_kept, tkKeyWrite_kept, tkWrite_kept, h, implies_true]

theorem ownWrite_kept {z0 : State} (d : Nat) (m : Master) (off : Nat) (v : Word) (s : State) (h : Kept z0 s) :
    Kept z0 (ownWrite d m off v s) := by
  unfold ownWrite
  simp (maxDischargeDepth := 60) +contextual only [blockWrite_kept, hdrLibWrite_kept, nvmWrite_kept, secWrite_kept, h,
      apply_ite (Kept z0), ite_self]

theorem mapWrite_kept {z0 : State} (d : Nat) (m : Master) (off addr : Nat) (v : Word) (s : State) (h : Kept z0 s) :
    Kept z0 (mapWrite d m off addr v s) := by
  unfold mapWrite
  split <;> simp (maxDischargeDepth := 60) +contextual only [drvWrite_kept, ownWrite_kept, h]

theorem peerStore_kept {z0 : State} (d : Nat) (m : Master) (addr : Nat) (v : Word) (s : State) (h : Kept z0 s) :
    Kept z0 (peerStore d m addr v s) := by
  unfold peerStore
  extract_lets i off
  clear_value i off
  refine kept_ite2 (kept_ite2 (busTrap_kept _ _ _ _ _ h) (mapWrite_kept _ _ _ _ _ _ h)) ?_
  refine kept_ite2 (kept_ite2 (drvWrite_kept _ _ _ _ _ _ _ h) (drvStoreAt_kept _ _ _ _ _ _ _ (fun _ ht => ht) h)) ?_
  refine kept_ite2 (accErr_kept _ _ _ _ _ _ _ h) ?_
  have hp := peerFlits_kept (z0 := z0) d addr v s h
  exact kept_ite2 hp (kept_ite2 (accErr_kept _ _ _ _ _ _ _ hp) (mapWrite_kept _ _ _ _ _ _ hp))

theorem timerStore_kept {z0 : State} (d off : Nat) (v : Word) (s : State) (h : Kept z0 s) :
    Kept z0 (timerStore d off v s) := by
  unfold timerStore
  simp (maxDischargeDepth := 60) +contextual only [modSys_kept, h, apply_ite (Kept z0), ite_self]

theorem storeGo_kept {z0 : State} (d : Nat) (m : Master) (addr : Nat) (v : Word) (s : State) (h : Kept z0 s) :
    Kept z0 (storeGo d m addr v s) := by
  unfold storeGo
  simp (maxDischargeDepth := 60) +contextual only [busTrap_kept, mapWrite_kept, peerStore_kept, plicWrite_kept,
      timerStore_kept, wr32_kept, h, apply_ite (Kept z0), ite_self]

theorem storeAt_kept {z0 : State} (d : Nat) (m : Master) (addr : Nat) (v : Word) (s : State) (h : Kept z0 s) :
    Kept z0 (storeAt d m addr v s) := by
  unfold storeAt
  simp (maxDischargeDepth := 60) +contextual only [storeGo_kept, tkDisturb_kept, tkFail_kept, h, apply_ite (Kept z0),
      ite_self]

theorem viaRdata_kept {z0 : State} (d : Nat) (f : State → State) (s : State) (hf : ∀ t : State,
      Kept z0 t → Kept z0 (f t)) (h : Kept z0 s) : Kept z0 (viaRdata d f s).2 := by
  exact returnData_kept _ _ _ (hf s h)

theorem fbLoad_kept {z0 : State} (d n o core : Nat) (s : State) (h : Kept z0 s) : Kept z0 (fbLoad d n o core s).2 := by
  unfold fbLoad
  dsimp only
  (repeat' split) <;> simp (maxDischargeDepth := 60) +contextual only [viaRdata_kept, posRead_kept, off_kept, h,
      implies_true]

theorem kept_snd {z0 s : State} {α : Type} (a : α) (h : Kept z0 s) : Kept z0 (a, s).2 := h

theorem ownLoad_kept {z0 : State} (d : Nat) (m : Master) (off : Nat) (s : State) (h : Kept z0 s) : Kept z0 (ownLoad d m off s).2 := by
  have hv : ∀ f : State → State, (∀ t : State, Kept z0 t → Kept z0 (f t)) → Kept z0 (viaRdata d f s).2 :=
    fun f hf => viaRdata_kept d f s hf h
  unfold ownLoad
  extract_lets plain
  have hp : Kept z0 plain.2 := kept_snd _ h
  clear_value plain
  refine kept_ite3 (kept_ite3 (kept_snd _ (modSys_kept _ _ _ h)) (kept_ite3 (kept_snd _ h) hp)) ?_
  refine kept_ite3 (hv _ (fun t ht => optimeRead_kept _ _ _ ht)) ?_
  refine kept_ite3 (kept_snd _ h) ?_
  refine kept_ite3 (kept_snd _ (watchRemain_kept _ _ h)) ?_
  refine kept_ite3 (kept_ite3 (hv _ (fun t ht => fifoRead_kept _ _ _ ht))
    (kept_ite3 (hv _ (fun t ht => resRead_kept _ _ _ _ ht)) hp)) ?_
  refine kept_ite3 (kept_ite3 (hv _ (fun t ht => shFifoRead_kept _ _ _ ht))
    (kept_ite3 (hv _ (fun t ht => shResRead_kept _ _ _ _ ht)) hp)) ?_
  refine kept_ite3 (fbLoad_kept _ _ _ _ _ h) ?_
  exact kept_ite3 (kept_ite3 (kept_snd _ h) (kept_ite3 (kept_snd _ (off_kept _ _ _ h))
    (kept_ite3 (kept_snd _ (canTime_kept _ _ _ h)) hp))) hp

theorem drvLoad_kept {z0 : State} (d k off addr : Nat) (s : State) (h : Kept z0 s) : Kept z0 (drvLoad d k off addr s).2 := by
  unfold drvLoad
  dsimp only
  (repeat' split) <;> simp (maxDischargeDepth := 60) +contextual only [viaRdata_kept, telmaxRead_kept, accErr_kept, h,
      implies_true]

theorem mapLoad_kept {z0 : State} (d : Nat) (m : Master) (off addr : Nat) (s : State) (h : Kept z0 s) : Kept z0 (mapLoad d m off addr s).2 := by
  unfold mapLoad
  dsimp only
  (repeat' split) <;> simp (maxDischargeDepth := 60) +contextual only [drvLoad_kept, ownLoad_kept, h]

theorem peerLoad_kept {z0 : State} (d : Nat) (m : Master) (addr : Nat) (s : State) (h : Kept z0 s) : Kept z0 (peerLoad d m addr s).2 := by
  unfold peerLoad
  extract_lets i off
  clear_value i off
  split
  · split
    · exact kept_snd _ h
    · exact mapLoad_kept d m _ _ s h
  · split
    · exact drvLoad_kept d _ _ _ s h
    · split
      · exact kept_snd _ (accErr_kept _ _ _ _ _ _ _ h)
      · split
        · exact kept_snd _ (accErr_kept _ _ _ _ _ _ _ h)
        split
        · exact kept_snd _ (accErr_kept _ _ _ _ _ _ _ h)
        · have hm := mapLoad_kept i .peer off (own off) s h
          split
          · rename_i heq; rw [heq] at hm; exact kept_snd _ hm
          · rename_i heq; rw [heq] at hm; exact kept_snd _ (accErr_kept _ _ _ _ _ _ _ hm)

theorem plicLoad_kept {z0 : State} (d off : Nat) (s : State) (h : Kept z0 s) : Kept z0 (plicLoad d off s).2 := by
  unfold plicLoad
  split
  · exact plicTake_kept d 0 s h
  · split
    · exact plicTake_kept d 1 s h
    · exact kept_snd _ h

theorem loadRaw_kept {z0 : State} (d : Nat) (m : Master) (addr : Nat) (s : State) (h : Kept z0 s) : Kept z0 (loadRaw d m addr s).2 := by
  unfold loadRaw
  split
  · exact kept_snd _ h
  split
  · split
    · exact kept_snd _ h
    · exact kept_snd _ h
  split
  · exact peerLoad_kept d m addr s h
  split
  · exact mapLoad_kept d m _ addr s h
  split
  · exact kept_snd _ h
  split
  · exact kept_snd _ (plicLoad_kept d _ s h)
  split
  · exact kept_snd _ h
  · exact kept_snd _ h

theorem loadAt_kept {z0 : State} (d : Nat) (m : Master) (addr : Nat) (s : State) (h : Kept z0 s) : Kept z0 (loadAt d m addr s).2 := by
  have hl := loadRaw_kept d m addr s h
  unfold loadAt
  split
  · rename_i heq; rw [heq] at hl; exact hl
  · rename_i heq; rw [heq] at hl; exact busTrap_kept _ _ _ _ _ hl

theorem execRegisterWrite_kept {z0 : State} (d : CDie) (m : Master) (addr : Word) (v : Word) (s : State) (h : Kept z0 s) :
    OutKept z0 (execRegisterWrite d m addr v s) := by
  unfold execRegisterWrite
  simp (maxDischargeDepth := 60) +contextual only [onC_kept, storeAt_kept, h, implies_true]

theorem execBlockResetWrite_kept {z0 : State} (d : CDie) (v : Word) (s : State) (h : Kept z0 s) :
    OutKept z0 (execBlockResetWrite d v s) := by
  unfold execBlockResetWrite
  simp (maxDischargeDepth := 60) +contextual only [brstWrite_kept, onCW_kept, h, implies_true]

theorem execTwoKeyTargetWrite_kept {z0 : State} (d : CDie) (m : Master) (v : Word) (s : State) (h : Kept z0 s) :
    OutKept z0 (execTwoKeyTargetWrite d m v s) := by
  unfold execTwoKeyTargetWrite
  simp (maxDischargeDepth := 60) +contextual only [onC_kept, storeAt_kept, h, apply_ite (Kept z0), ite_self, implies_true]

theorem execRemoteWrite_kept {z0 : State} (d : CDie) (m : Master) (addr : Word) (v : Word) (s : State) (h : Kept z0 s) :
    OutKept z0 (execRemoteWrite d m addr v s) := by
  unfold execRemoteWrite
  simp (maxDischargeDepth := 60) +contextual only [onC_kept, storeAt_kept, h, apply_ite (Kept z0), ite_self, implies_true]

theorem remoteAnswer_kept {z0 : State} (d i off addr : Nat) (m : Master) (s : State) (h : Kept z0 s) :
    Kept z0 (remoteAnswer d i off addr m s).2 := by
  unfold remoteAnswer
  split
  · split
    · exact kept_snd _ h
    · split
      · exact kept_snd _ h
      · have hm := mapLoad_kept i (if i == d then m else .peer) off (own off) s h
        split
        · rename_i heq; rw [heq] at hm; exact kept_snd _ hm
        · rename_i heq; rw [heq] at hm; exact kept_snd _ hm
  · split
    · exact kept_snd _ h
    · have hm := drvLoad_kept d (i - 2) off addr s h
      split
      · rename_i heq; rw [heq] at hm; exact kept_snd _ hm
      · exact kept_snd _ h

theorem answerFlit_kept {z0 : State} (d i : Nat) (r : Option (Nat × Nat)) (s : State) (h : Kept z0 s) :
    Kept z0 (answerFlit d i r s) := by
  unfold answerFlit
  split <;> simp (maxDischargeDepth := 60) +contextual only [sendFlit_kept, h, apply_ite (Kept z0), ite_self]

theorem remoteRead_kept {z0 : State} (d : Nat) (k : Fin 4) (machine : Bool) (addr : Nat) (s : State) (h : Kept z0 s) :
    Kept z0 (remoteRead d k machine addr s) := by
  unfold remoteRead
  split <;> simp (maxDischargeDepth := 60) +contextual only [accErr_kept, answerFlit_kept, busTrap_kept, modHdr_kept,
      remoteAnswer_kept, sendFlit_kept, h, apply_ite (Kept z0), ite_self]

theorem execRemoteRead_kept {z0 : State} (d : CDie) (k : Fin 4) (machine : Bool) (addr : Word) (s : State) (h : Kept z0 s) :
    OutKept z0 (execRemoteRead d k machine addr s) := by
  unfold execRemoteRead
  simp (maxDischargeDepth := 60) +contextual only [onC_kept, remoteRead_kept, h, implies_true]

theorem replicatedRead_kept {z0 : State} (d : Nat) (core : Fin 4) (machine : Bool) (addr csr data lag : Nat) (s : State) (h : Kept z0 s) :
    Kept z0 (replicatedRead d core machine addr csr data lag s) := by
  unfold replicatedRead
  split
  · exact h
  split
  · exact modSys_kept _ _ _ h
  split
  · exact h
  · dsimp only
    refine leads_kept _ _ _ _ ?_
    split
    · refine readDone_kept _ _ _ _ _ ?_
      split
      · exact loadAt_kept _ _ _ _ h
      · exact h
      · exact h
      · exact h
    · refine onlyIf_kept _ _ _ (fun t ht => record_kept _ _ _ _ ht) ?_
      split
      · exact loadAt_kept _ _ _ _ h
      · exact h
      · exact h
      · exact h

theorem execReplicatedRead_kept {z0 : State} (d : CDie) (core : Fin 4) (machine : Bool) (addr : Word) (csr : Fin 5) (data : Word) (lag : Fin 4097) (s : State) (h : Kept z0 s) :
    OutKept z0 (execReplicatedRead d core machine addr csr data lag s) := by
  unfold execReplicatedRead
  simp (maxDischargeDepth := 60) +contextual only [onC_kept, replicatedRead_kept, h, implies_true]

theorem storeBytes_kept {z0 : State} (d addr data be : Nat) (s : State) (h : Kept z0 s) :
    Kept z0 (storeBytes d addr data be s) := by
  unfold storeBytes
  simp (maxDischargeDepth := 60) +contextual only [overN_kept, wrB_kept, h, apply_ite (Kept z0), ite_self, implies_true]

theorem storePerform_kept {z0 : State} (d : Nat) (m : Master) (data be addr : Nat) (s : State) (h : Kept z0 s) :
    Kept z0 (storePerform d m data be addr s) := by
  unfold storePerform
  simp (maxDischargeDepth := 60) +contextual only [busTrap_kept, storeAt_kept, storeBytes_kept, h, apply_ite (Kept z0),
      ite_self]

theorem protectedStore_kept {z0 : State} (d : Nat) (core : Fin 4) (machine : Bool) (addr data be : Nat) (disagree : Bool) (ecc : Nat) (atomic : Bool) (s : State) (h : Kept z0 s) :
    Kept z0 (protectedStore d core machine addr data be disagree ecc atomic s) := by
  unfold protectedStore
  simp (maxDischargeDepth := 60) +contextual only [ocbStore_kept, sramStore_kept, storePerform_kept, h,
      apply_ite (Kept z0), ite_self, implies_true]

theorem execProtectedStore_kept {z0 : State} (d : CDie) (core : Fin 4) (machine : Bool) (addr data : Word) (be : BitVec 4) (disagree : Bool) (ecc : Fin 3) (atomic : Bool) (s : State) (h : Kept z0 s) :
    OutKept z0 (execProtectedStore d core machine addr data be disagree ecc atomic s) := by
  unfold execProtectedStore
  simp (maxDischargeDepth := 60) +contextual only [onC_kept, protectedStore_kept, h, implies_true]

/-! ### Machine/FlumeMove.lean -/

theorem flumeWords_kept {z0 : State} (d : Nat) (n : Fin 16) (a : Nat) : ∀ (is : List Nat) (s : State)
    (_ : Kept z0 s), Kept z0 (flumeWords d n a is s).2
  | [], _, h => h
  | i :: is, s, h => by
    unfold flumeWords
    have hl := loadRaw_kept d (.flume n) (a + 4 * i) s h
    split
    · rename_i heq; rw [heq] at hl; exact hl
    · rename_i v t heq
      rw [heq] at hl
      have ih := flumeWords_kept d n a is t hl
      split
      · rename_i heq2; rw [heq2] at ih; exact ih
      · rename_i heq2; rw [heq2] at ih; exact ih

theorem flumeSource_kept {z0 : State} (d : Nat) (n : Fin 16) (x : DescW) (lo b : Nat) (s : State) (h : Kept z0 s) :
    Kept z0 (flumeSource d n x lo b s).2 := by
  unfold flumeSource
  dsimp only
  split
  · have hw := flumeWords_kept d n x.src (x.wordsOf (lo / 4) ((lo + b + 3) / 4 - lo / 4)) s h
    split
    · rename_i heq; rw [heq] at hw; exact hw
    · rename_i heq; rw [heq] at hw; exact hw
  · split
    · have hw := flumeWords_kept d n x.src ((List.range ((x.srcFoot.map (·.2)).getD 0 / 4)).filter x.needs) s h
      split
      · rename_i heq; rw [heq] at hw; exact modFl_kept _ _ _ _ hw
      · rename_i heq; rw [heq] at hw; exact hw
    · exact h

theorem flumeByte_kept {z0 : State} (d a v : Nat) (s : State) (h : Kept z0 s) :
    Kept z0 (flumeByte d a v s) := by
  unfold flumeByte
  simp (maxDischargeDepth := 60) +contextual only [wrB_kept, h, apply_ite (Kept z0), ite_self]

theorem flumeWord_kept {z0 : State} (d : Nat) (n : Fin 16) (x : DescW) (data : Nat → Nat) (crc : Nat → Option Nat) (w : Nat) (s : State) (h : Kept z0 s) :
    Kept z0 (flumeWord d n x data crc w s) := by
  unfold flumeWord
  simp (maxDischargeDepth := 60) +contextual only [storeAt_kept, h]

theorem flumePut_kept {z0 : State} (d : Nat) (n : Fin 16) (x : DescW) (lo b : Nat) (data : Nat → Nat) (s : State) (h : Kept z0 s) :
    Kept z0 (flumePut d n x lo b data s) := by
  unfold flumePut
  simp (maxDischargeDepth := 60) +contextual only [flumeByte_kept, flumeWord_kept, h, apply_ite (Kept z0), ite_self,
      kept_foldl, implies_true]

theorem flumeBurst_kept {z0 : State} (d : Nat) (n : Fin 16) (lim : Nat) (x : DescW) (s : State) (h : Kept z0 s) :
    Kept z0 (flumeBurst d n lim x s) := by
  unfold flumeBurst
  extract_lets w b lo
  clear_value w b lo
  refine kept_ite2 (flumeError_kept _ _ _ _ _ h) ?_
  have hs : Kept z0 (if x.srcMem then (some (0, []), s) else flumeSource d n x lo b s).2 := by
    split
    · exact h
    · exact flumeSource_kept _ _ _ _ _ _ h
  split
  · rename_i heq; rw [heq] at hs; exact flumeError_kept _ _ _ _ _ hs
  · rename_i heq; rw [heq] at hs
    exact flumePut_kept _ _ _ _ _ _ _ (put_kept _ _ _ _ (modFl_kept _ _ _ _ hs))

theorem flumeServe_kept {z0 : State} (d : Nat) (n : Fin 16) (lim : Nat) : ∀ (k : Nat) (s : State) (_ : Kept z0 s),
    Kept z0 (flumeServe d n lim k s)
  | 0, _, h => h
  | k + 1, s, h => by
    have ih := flumeServe_kept (z0 := z0) d n lim k
    unfold flumeServe
    split
    · split
      · exact h
      · split
        · exact h
        · exact ih _ (flumeBurst_kept _ _ _ _ _ (modC_kept _ _ _ h))
    · exact h

theorem flumeUpTo_kept {z0 : State} (d : Nat) (n : Fin 16) (lim : Nat) (s : State) (h : Kept z0 s) :
    Kept z0 (flumeUpTo d n lim s) := by
  unfold flumeUpTo
  simp (maxDischargeDepth := 60) +contextual only [flumeServe_kept, h]

theorem storeCrc_kept {z0 : State} (d : Nat) (n : Fin 16) (x : DescW) (s : State) (h : Kept z0 s) :
    Kept z0 (storeCrc d n x s) := by
  unfold storeCrc
  simp (maxDischargeDepth := 60) +contextual only [flumeByte_kept, flumeWord_kept, overN_kept, h, apply_ite (Kept z0),
      ite_self, kept_foldl, implies_true]

theorem descComplete_kept {z0 : State} (d : Nat) (n : Fin 16) (s : State) (h : Kept z0 s) :
    Kept z0 (descComplete d n s) := by
  unfold descComplete
  split <;> simp (maxDischargeDepth := 60) +contextual only [descDone_kept, flumeUpTo_kept, follow_kept, storeCrc_kept,
      h, apply_ite (Kept z0), ite_self]

theorem execDescriptorComplete_kept {z0 : State} (d : CDie) (n : Fin 16) (s : State) (h : Kept z0 s) :
    OutKept z0 (execDescriptorComplete d n s) := by
  unfold execDescriptorComplete
  simp (maxDischargeDepth := 60) +contextual only [descComplete_kept, onC_kept, h, implies_true]

theorem execDescriptorError_kept {z0 : State} (d : CDie) (n : Fin 16) (written : BitVec 24) (s : State) (h : Kept z0 s) :
    OutKept z0 (execDescriptorError d n written s) := by
  unfold execDescriptorError
  refine onC_kept _ _ _ (fun t ht => ?_) h
  have hu := flumeUpTo_kept (z0 := z0) d.val n written.toNat t ht
  dsimp only
  split
  · exact hu
  · exact flumeError_kept _ _ _ _ _ hu

theorem flumeAbortRun_kept {z0 : State} (d : Nat) (n : Fin 16) (written : Nat) (accepted : Bool) (s : State) (h : Kept z0 s) :
    Kept z0 (flumeAbortRun d n written accepted s) := by
  unfold flumeAbortRun
  split <;> simp (maxDischargeDepth := 60) +contextual only [abortLate_kept, abortWon_kept, flumeAbort_kept,
      flumeUpTo_kept, storeCrc_kept, h, apply_ite (Kept z0), ite_self, implies_true]

theorem execFlumeAbort_kept {z0 : State} (d : CDie) (n : Fin 16) (written : BitVec 24) (accepted : Bool) (s : State) (h : Kept z0 s) :
    OutKept z0 (execFlumeAbort d n written accepted s) := by
  unfold execFlumeAbort
  simp (maxDischargeDepth := 60) +contextual only [flumeAbortRun_kept, flumeAbort_kept, onCW_kept, h, implies_true]

/-! ### Machine/Frame.lean -/

theorem execFrameBoundary_kept {z0 : State} (s : State) (h : Kept z0 s) :
    OutKept z0 (execFrameBoundary s) := by
  unfold execFrameBoundary
  simp (maxDischargeDepth := 60) +contextual only [boundaryOn_kept, libBoundary_kept, overN_kept, h, apply_ite (Kept z0),
      ite_self, outKept_next, implies_true]

end Sys2Proof.Machine
end

