-- ==== Sys2Proof/Machine/Pins.lean ====
section
/-! DEFINITION. What the output terminals show (R53, R79, R300); the answer `none` stands for high impedance. -/

namespace Sys2Proof.Machine

/-- Terminal PWMXm: high impedance in reset (Table 3-5) and while bank C is low (R53). -/
def State.pinPwmx (s : State) (d m : Nat) : Option Bool :=
  if s.runs d && !(s.c d).sys.vioCLow then some (s.pwmx d m) else none

/-- The A, B and Z terminals of encoder emulator m, on bank B. -/
def State.pinEmu (s : State) (d m : Nat) : Option (Bool × Bool × Bool) :=
  if s.runs d && !(s.c d).sys.vioBLow then some ((s.emu d m).a, (s.emu d m).b, (s.emu d m).z) else none

/-- A C die drives the cue terminals of bank C. -/
def State.gpcDriven (s : State) (d : Nat) : Bool := s.runs d && !(s.c d).sys.vioCLow

/-- A C die drives CANn_TX, DBG_TXD and DBG_MISO of bank A. -/
def State.bankADriven (s : State) (d : Nat) : Bool := s.runs d && !s.bankALow

/-- FAULT_N, open drain on bank A: driven low in reset (R79), while the ROM holds the die and as fault collection says (R407);
otherwise released. -/
def State.pinFaultN (s : State) (d : Nat) : Option Bool :=
  if s.bankALow then none
  else if s.hasC d && (!s.runs d || s.flag d F.SAFE_FC_STAT_FAULTN) then some false
  else none

/-- The excitation terminals of feedback interface n: at the common-mode level of 0.9 V, without signal, in reset and
while EXCEN is 0 (R79, R184). -/
def State.excDriven (s : State) (d n : Nat) : Bool := s.runs d && s.flag d (F.FB_FB_CTRL_EXCEN n)

end Sys2Proof.Machine
end

