-- ==== Sys2Proof/Tests/Slice0.lean ====
section
/-! SUPPORT. The model's own tests: an ill-formed command for each check of WellFormed, worked values of spec/, and for
every statement with hypotheses a state and operands that meet them, clause by clause. -/

namespace Sys2Proof.Tests

open Sys2Proof Sys2Proof.Machine

/-- A state with some fields of registers set: (die, field, value). -/
def w (s : State) (fs : List (Nat × Fld × Nat)) : State := fs.foldl (fun s e => s.put e.1 e.2.1 e.2.2) s

/-- The safety master. -/
def sm : Master := .core 2 true

/-- A state with the two-key sequence of die d armed for an address. -/
def armed (d a : Nat) (s : State) : State :=
  (s.put d F.LIB_TK_STAT_ARMED 1).modTk d (fun _ => ⟨a, 2, s.now d⟩)

/-- The reset state with C1 held in reset. -/
def alone : State := State.reset.modSys 1 (fun y => { y with inReset := true })

set_option Elab.async false
/-- The reset state in a device state n. -/
def inDev (n : Nat) (s : State) : State := w s [(0, F.SYS_DSTATE_STATE, n), (1, F.SYS_DSTATE_STATE, n)]

/-- STANDBY of a deployed device with every headrace link of both C dies up. -/
def up : State :=
  w (inDev 5 State.reset) ([(0, F.SEC_LC_STATE, 2), (1, F.SEC_LC_STATE, 2), (0, F.THERM_STAT_NVMOK, 1), (1, F.THERM_STAT_NVMOK, 1)] ++
    (List.range 7).map (fun n => (0, F.HDR_L_STAT_UP n, 1)) ++ (List.range 7).map (fun n => (1, F.HDR_L_STAT_UP n, 1)))

/-- Roll call at a phase of HDR_RC_STATUS. -/
def rc (p : Nat) : State := w (inDev 2 State.reset) [(0, F.HDR_RC_STATUS_PHASE, p)]

/-- C0 alone, in a device state. -/
def solo (n : Nat) : State := inDev n alone

/-- The HO state of C die d with a change. -/
def ho (d : Nat) (f : HdrC → HdrC) (fs : List (Nat × Fld × Nat)) : State := (w up fs).modHdr d f

/-- Every C and D die runs with the D dies owned by C0 and axis a on leg 0 of D die 0. -/
def served (a p : Nat) : State := w up [(2, F.DRV_D_LEGAX, 504 + a), (0, F.FIELD_AX_STAT_PHASE a, p)]

/-- A feedback interface 3 of C1 that runs in a mode. -/
def fbUp (m : Nat) (fs : List (Nat × Fld × Nat)) : State :=
  w up ([(1, F.FB_FB_STAT_RUN 3, 1), (1, F.FB_FB_CFG_MODE 3, m)] ++ fs)

/-- D die 5 owned by C0 with its legs on axis 0, its microcode and its torque-off inputs at run, and nothing latched. -/
def gate (fs : List (Nat × Fld × Nat)) : State :=
  (w up ([(7, F.DRV_D_STAT_UCODE, 1), (7, F.DRV_D_STAT_LOCKOUT, 0), (7, F.DRV_D_SLST_STO_A, 1), (7, F.DRV_D_SLST_STO_B, 1),
    (7, F.DRV_D_LEGAX, 0), (7, F.DRV_D_CURTAIN, 0)] ++ (List.range 6).map (fun c => (7, F.DRV_D_CH_FSTAT_STATE c, 0)) ++ fs)).modD 5
    (fun x => { x with legs := (List.range 3).map (fun k => (k, { (default : LegD) with measured := true })) })

/-- Axis 0 may be enabled by C0: it is valid, START_RDY is set, no supply of the bench is asked for, its leg is owned. -/
def ready : State :=
  w up ([(0, F.LIB_AXST, 0x111111), (0, F.HDR_RC_STATUS_START_RDY, 1), (0, F.FIELD_AX_CFG_TYPE 0, 1), (2, F.DRV_D_LEGAX, 504),
    (0, F.DISCH_BUS_CFG_EN 0, 1), (0, F.PWM_PP_CFG_AX 0, 0)] ++ (List.range 5).map (fun k => (3 + k, F.DRV_D_LEGAX, 511)) ++
    (List.range 17).map (fun k => (0, F.PWM_PP_CFG_AX (k + 1), 7)))

/-- A change of the core pair 1 of C1. -/
def chkUp (f : ChkPair → ChkPair) (fs : List (Nat × Fld × Nat)) : State := modChk 1 1 f (w up fs)

/-- CAN controller 3 of C1 on the bus, with changes. -/
def canUp (a : Nat) (fs : List (Nat × Fld × Nat)) : State :=
  w up ([(1, F.CAN_CAN_CTRL_HALT 3, 0), (1, F.CAN_CAN_STAT_ACTY 3, a)] ++ fs)

/-- Flume channel 15 of C1 enabled, in state n, with changes. -/
def flUp (n : Nat) (x : Option DescW) (fs : List (Nat × Fld × Nat)) : State :=
  modFl 1 15 (fun f => { f with desc := x }) (w up ([(1, F.FLUME_FL_CFG_EN 15, 1), (1, F.FLUME_FL_STAT_STATE 15, n)] ++ fs))

/-- A FILL of eight bytes at the start of SRAM. -/
def fill : DescW := ⟨0, 0x20000000, 8, 1, 1, 0x01020304, 0⟩

/-! ### WellFormed refuses each kind of ill-formed command -/

/-- A part without the die a command acts on: D2 on a TV-42, C1 and D1 on a TV-21 (Table 0-1). -/
theorem test_wf_refuses_an_absent_die :
    (Instr.microcodeReadback 2 true).wf .tv42 = false ∧ (Instr.microcodeReadback 1 true).wf .tv42 = true ∧
      (Instr.stageTimeRead 1 .debug).wf .tv21 = false ∧ (Instr.shuntStart 1).wf .tv21 = false := by decide

theorem test_wf_refuses_an_access_of_three_bytes :
    (Instr.narrowOrMisalignedAccess 0 .debug 0x40000001#32 3 true).wf .tv86 = false ∧
      (Instr.narrowOrMisalignedAccess 0 .debug 0x40000001#32 2 true).wf .tv86 = true := by decide

/-- A remote frame in the FD format, and BRS in the classical format. -/
theorem test_wf_refuses_frame_formats :
    (Instr.canFrameReceive 0 0 ⟨false, true, true, false, false, 1#29, 0, []⟩).wf .tv86 = false ∧
      (Instr.canFrameReceive 0 0 ⟨false, false, false, true, false, 1#29, 0, []⟩).wf .tv86 = false ∧
      (Instr.canFrameReceive 0 0 ⟨false, false, true, true, false, 1#29, 0, []⟩).wf .tv86 = true := by decide

/-- A 12-bit identifier in the base format, and nine data bytes in the classical format. -/
theorem test_wf_refuses_frame_contents :
    (Instr.canFrameReceive 0 0 ⟨false, false, false, false, false, 2048#29, 0, []⟩).wf .tv86 = false ∧
      (Instr.canFrameReceive 0 0 ⟨false, false, false, false, false, 1#29, 8, List.replicate 9 0#8⟩).wf .tv86 = false ∧
      (Instr.canFrameReceive 0 0 ⟨true, false, false, false, false, 2048#29, 8, List.replicate 8 0#8⟩).wf .tv86 = true := by
  decide

theorem test_wf_refuses_a_long_context :
    (Instr.checkpointWrite 0 0 1#16 true ⟨0, List.replicate 32 0, [], 0, [], 0⟩ true true false 0).wf .tv86 = false ∧
      (Instr.checkpointWrite 0 0 1#16 true ⟨0, List.replicate 31 0, [], 0, [], 0⟩ true true false 0).wf .tv86 = true := by
  decide

theorem test_wf_refuses_slot_63_in_a_slot_map :
    (Instr.reloadTransfer [(0, 63, 1)]).wf .tv86 = false ∧ (Instr.reloadTransfer [(1, 62, 65535)]).wf .tv86 = true := by decide

theorem test_wf_refuses_a_tenth_unit_in_captures :
    (Instr.zcapDone 0 [(10, 0, 0)]).wf .tv86 = false ∧ (Instr.zcapDone 0 [(9, 2, -5)]).wf .tv86 = true := by decide

/-- A D die has six sensors, a C die eight; a D die has six module inputs. -/
theorem test_wf_refuses_a_seventh_sensor :
    (Instr.thermalSample 2 (List.replicate 7 0#16)).wf .tv86 = false ∧
      (Instr.thermalSample 1 (List.replicate 8 0#16)).wf .tv86 = true ∧
      (Instr.tmodSample 0 (List.replicate 7 0#16)).wf .tv86 = false := by decide

theorem test_wf_refuses_a_short_key :
    (Instr.keyProgram 0 0 1#4 (List.replicate 15 0#32)).wf .tv86 = false ∧
      (Instr.keyProgram 0 0 1#4 (List.replicate 16 0#32)).wf .tv86 = true := by decide

theorem test_wf_refuses_a_long_chunk :
    (Instr.recoveryChunk 0 0#16 (List.replicate 4097 0#8)).wf .tv86 = false ∧
      (Instr.recoveryChunk 0 0#16 (List.replicate 4096 0#8)).wf .tv86 = true := by decide +kernel

theorem test_wf_refuses_a_long_manifest :
    (Instr.recoveryOpen 0 (List.replicate 40961 0#8)).wf .tv86 = false ∧
      (Instr.recoveryOpen 0 (List.replicate 40960 0#8)).wf .tv86 = true := by decide +kernel

/-- No row of the table has bits, so no word spells a command. -/
theorem test_no_word_spells_a_command : decodeTableWord 32 0xFFFFFFFF = none := by decide

/-! ### The worked examples of spec/ -/

/-- The state after a command; the state before where it stops. -/
def after (c : Instr) (s : State) : State :=
  match exec c s with
  | .next t => t
  | _ => s

/-- A command for the D die 2 of a TV-42, a die that the part lacks, changes nothing. -/
theorem test_an_absent_die_does_nothing :
    let s := { State.reset with part := .tv42 }
    (match exec (.scDetection 2 0 0#11 0#8) s with
      | .next t => decide (t = s)
      | _ => false) = true := by decide +kernel

/-- The keys of the example of R131, up to its second key, on a device whose LIB_TK_STAT.SEQ is 0x12. -/
def twoKeys : State :=
  after (.libTkKeyWrite 0 sm 0x5CA3FFED#32) (after (.libTkKeyWrite 0 sm 0xA35C0012#32)
    (after (.libTkAddrWrite 0 sm 0x40000028#32) (w up [(0, F.LIB_TK_STAT_SEQ, 0x12)])))

/-- Chapter 5: SYS_PFCFG = 1, LIB_TK_STAT = 0x0000_0013. -/
theorem test_two_key_example :
    let t := after (.twoKeyTargetWrite 0 sm 1#32) twoKeys
    t.wd 0 0x28 = 1 ∧ t.wd 0 F.LIB_TK_STAT_SEQ.off = 0x13 := by decide +kernel

/-- Chapter 5: a store to a PWM register in between leaves LIB_TK_STAT = 0x0040_0012 and SYS_ERR.WRREF = 1. -/
theorem test_two_key_example_disturbed :
    let t := after (.twoKeyTargetWrite 0 sm 1#32) (after (.registerWrite 0 sm 0x401C0304#32 0#32) twoKeys)
    t.wd 0 0x28 = 0 ∧ t.wd 0 F.LIB_TK_STAT_SEQ.off = 0x400012 ∧ t.get 0 F.SYS_ERR_WRREF = 1 := by decide +kernel

/-- Chapter 18: the eight record words of the same write, byte by byte from the least significant. -/
theorem test_record_example :
    recordBytes 147600000000 18512 ⟨0x40, 11, 0, 0, 1, 0x40000028, 0, 1, 0x3A91C0F4⟩ 0 0 =
      [0x00, 0x44, 0xA5, 0x5D, 0x22, 0x50, 0x48, 0x00, 0x40, 0x00, 0x58, 0x00, 0x01, 0x00, 0x00, 0x00,
       0x28, 0x00, 0x00, 0x40, 0x00, 0x00, 0x00, 0x00, 0x01, 0x00, 0x00, 0x00, 0xF4, 0xC0, 0x91, 0x3A] := by decide

/-- Chapter 7: code 495 (u = 7,920) with OFFSET 48, GAIN 17,067 and SHIFT 1 gives 8,200; its word with tag 5. -/
theorem test_shunt_scaling_example :
    scaleQ15 7920 48 17067 1 = 8200 ∧ resWord 8200 5 false false false = 0x01052008#32 := by decide

/-- Chapter 8: P = 217,088 with four pole pairs and ELOFS −45° gives θm = 20,480 and θe = 8,192. -/
theorem test_resolver_angle_example :
    angleMech 65536 (217088 * 65536) = 20480 ∧ angleElec 65536 4 0xE000 (217088 * 65536) = 8192 := by decide

/-- Chapter 8: 6,000 rpm of 20,000 rpm is 9,830. The observer's speed is in 2^-32 counts a second. -/
theorem test_resolver_speed_example :
    ((fbUp 1 [(1, F.FB_FB_CPR 3, 65536), (1, F.FB_FB_SCALE_SPDFS 3, 20000)]).modFb 1 3
      (fun x => { x with omega := 100 * 65536 * 2 ^ 32 })).fbSpeed 1 3 = 9830 := by decide +kernel

/-- Chapter 9: LE12 with the P and integrator steps of the example, an error of 1,365 at IN0, empty integrator. -/
def currentLoop : State :=
  let e := fun (op s a b d : Nat) => op * 2 ^ 27 + s * 2 ^ 26 + a * 2 ^ 17 + b * 2 ^ 10 + d * 8
  let prog := [e 1 1 0 0x40 0, e 0x0A 0 0 0 0x20, e 4 0 0x10 0 0, e 2 0 0 0x41 0, e 3 0 0 0x42 0, e 0x0B 0 0 0 0x10, e 0x10 0 0 0 0]
  let s := (w up [(0, F.LOOP_LE_CFG_MODE 12, 1), (0, F.LOOP_LE_CFG_SHIFT 12, 2), (0, F.LOOP_LE_CFG_LEN 12, 7),
    (0, F.LOOP_LE_COEF 12 0, 0x41CD), (0, F.LOOP_LE_COEF 12 1, 5), (0, F.LOOP_LE_COEF 12 2, 0x31FC),
    (0, F.LOOP_LE_ILIM_LO 12 0, 0x8CCD), (0, F.LOOP_LE_ILIM_HI 12 0, 0x7333), (0, F.LOOP_LE_IN_SRC 12 0, 5),
    (0, F.LOOP_LE_IN_EN 12 0, 1), (0, F.LOOP_CH_VAL_VALUE 5, 1365)])
  (List.range 7).foldl (fun s k => s.setReg 0 (0x160000 + 0x400 * 12 + 4 * k) (BitVec.ofNat 32 (prog.getD k 0))) s

/-- Chapter 9: the seven steps of a run store P = 0x0AF7 and S0 = 0x1CBE. -/
theorem test_current_loop_example :
    let t := overN 7 (fun _ s => engExec 0 12 s) (engineStart 0 12 currentLoop)
    t.wd 0 (0x140200 + 0x400 * 12) = 0x0AF7 ∧ t.wd 0 (0x140280 + 0x400 * 12) = 0x1CBE ∧
      t.wd 0 (0x140284 + 0x400 * 12) = 0 := by decide +kernel

/-- Chapter 9: WR5 with the inputs of Table 9-8 before LE20 stores 17,004. -/
def weirFive : State :=
  w up ([(0, F.LOOP_WR_CFG_EN 5, 1), (0, F.LOOP_WR_CFG_INEN 5, 7), (0, F.LOOP_WR_OUT_SEL 5, 1),
    (0, F.LOOP_WR_IN_VAL_P 5 0, 8000), (0, F.LOOP_WR_IN_VAL_Y 5 0, 21000), (0, F.LOOP_WR_IN_VAL_P 5 1, 2000),
    (0, F.LOOP_WR_IN_VAL_Y 5 1, 18000), (0, F.LOOP_WR_IN_VAL_Y 5 2, 24000)] ++
    (List.range 3).flatMap (fun j => [(0, F.LOOP_WR_IN_CFG_ENG 5 j, 20 + j), (0, F.LOOP_WR_IN_CFG_TRK 5 j, 1)]))

/-- At 30 ns the output is 17,004, SELCHG sets, and the pending presets are 15,004 for LE21 and 17,004 for LE22. -/
theorem test_weir_example :
    let t := weirTurn 0 5 (weirStoreY 0 5 0 17004 weirFive)
    t.wd 0 (F.LOOP_WR_OUT_VALUE 5).off = 0x426C ∧ t.wd 0 (F.LOOP_WR_EVT_SELCHG 5).off = 1 ∧
      t.wd 0 (F.LOOP_WR_IN_VAL_Y 5 0).off = 0x1F40426C ∧
      ((t.eng 0 21).presets.at 0, (t.eng 0 22).presets.at 0, (t.eng 0 20).presets.at 0) =
        (some (15004 * 32768), some (17004 * 32768), none) := by decide +kernel

/-- Chapter 11: PP4 at 99 % with DROP stays on; with STRETCH it rises at 400 ns and falls at 24,600 ns. -/
theorem test_pulse_rule_example :
    ((patOf 1 0 12800 12800 7680 false 633600 0 10000).rise, (patOf 1 0 12800 12800 7680 false 633600 0 10000).rest) =
        (none, some true) ∧
      ((patOf 1 1 12800 12800 7680 false 633600 0 10000).rise, (patOf 1 1 12800 12800 7680 false 633600 0 10000).fall) =
        (some 10240, some 629760) := by decide

/-- Chapter 13: at 14,746 the speed term holds and the voltage term does not. -/
theorem test_curtain_rule_example :
    let s := w up [(0, F.FIELD_AX_CFG_TYPE 0, 1), (0, F.SAFE_AX_ASC_ASCSPD 0, 9830), (0, F.SAFE_AX_ASC_ASCHYS 0, 983),
      (0, F.SAFE_AX_VMARG 0, 1489), (0, F.FIELD_AX_MOT_KE 0, 14974), (0, F.DISCH_BUS_STAT_VDC 0, 25619),
      (0, F.DISCH_BUS_STAT_VDCOK 0, 1), (0, F.SAFE_AX_RULE_VTERM 0, 1)]
    s.speedTerm 0 0 14746 = true ∧ s.voltTerm 0 0 14746 = false := by decide +kernel

/-- Chapter 17: the example's timing words are accepted by a halted controller. -/
theorem test_can_timing_example :
    let s := w up [(0, F.CAN_CAN_CTRL_HALT 0, 1)]
    (after (.canBitTimingWrite 0 0 false 0x001F8F9F#32) s).wd 0 (F.CAN_CAN_ARBT_PH1 0).off = 0x001F8F9F ∧
      (after (.canBitTimingWrite 0 0 true 0x81010600#32) s).wd 0 (F.CAN_CAN_FDT_FPH1 0).off = 0x81010600 := by decide +kernel

/-- R508: the identification code of a TV-86. -/
theorem test_idcode : State.reset.idcode 0 = 0xB00869CF := by decide +kernel

/-- Chapter 10: the caught speed −3,932 with KE = 14,974 gives the q preset −1,797. -/
theorem test_caught_preset_example : rndDiv (-3932 * 14974) 32768 = -1797 := by decide
/-- From the reset state a step answers a next state, so that EveryStepKeepsTheState speaks of one. -/
theorem wit_EveryStepKeepsTheState : ∃ s t : State, s.wf = true ∧ step s = .next t :=
  ⟨State.reset, tick State.reset, by decide +kernel, rfl⟩

/-- A plain register, a write that nothing refuses, one that a protected bit refuses, and REGISTER_WRITE of the first. -/
theorem wit_PlainWritesFollowTheAccessCodes :
    (∃ r, rowAt 0 0x38 = some r ∧ (1#32 ^^^ up.reg 0 0x38) &&& maskW (r.rwp + 0) = 0) ∧
    (∃ r f, rowAt 0 0x28 = some r ∧ (0xFFFFFFFF#32 ^^^ up.reg 0 0x28) &&& maskW (r.rwp + 0) ≠ 0 ∧ wrrefOf 0 0x28 = some f ∧
      f.off < 0x1000000 ∧ f.lo = f.hi ∧ f.hi < 32) ∧
    (up.runs 1 = true ∧ up.flag 1 F.LIB_TK_STAT_ARMED = false ∧ 0x38 ∈ [0x10, 0x18, 0x1C, 0x20, 0x34, 0x38]) := by
  refine ⟨⟨_, rfl, by decide +kernel⟩, ⟨_, _, rfl, by decide +kernel, rfl, by decide +kernel⟩, by decide +kernel⟩

/-- What IdleStepIsATick asks for can be met. -/
theorem wit_IdleStepIsATick :
    ∃ (s : State), s.pending = [] ∧ (∀ k < 6, s.runsD k = false) ∧ (∀ d < 2, s.hasC d = true → (s.c d).sys.inReset =
      false → s.romHeld d = true ∧ s.fabric d = true) :=
  ⟨{ State.reset with pkg := { State.reset.pkg with anchorHold := true }, ddie := (List.range 6).map (fun k => (k, { (default : DieD) with inReset := true })) }, by decide +kernel⟩

/-- What ResetRegistersHoldTheirResetValues asks for can be met. -/
theorem wit_ResetRegistersHoldTheirResetValues :
    ∃ (i : _) (o : _), i < 8 ∧ o < 0x1000000 ∧ (i, o) ∉ [(0, 0x4), (0, 0x50020), (0, 0x7000C), (1, 0x4), (1,
      0x7000C)] :=
  ⟨7, 0x3FFC, by decide +kernel⟩

/-- What StageTimeReadLatches asks for can be met. -/
theorem wit_StageTimeReadLatches :
    ∃ (s : State) (d : CDie), s.runs d.val = true :=
  ⟨State.reset, 1, by decide +kernel⟩

/-- What OperatingTimeReadLatches asks for can be met. -/
theorem wit_OperatingTimeReadLatches :
    ∃ (s : State) (d : CDie), s.runs d.val = true :=
  ⟨State.reset, 1, by decide +kernel⟩

/-- What UnmappedAccessesRaiseBusErrors asks for can be met. -/
theorem wit_UnmappedAccessesRaiseBusErrors :
    ∃ (s : State) (d : CDie) (addr : Word), s.runs d.val = true ∧
      (let a := addr.toNat;
      ((0x00040000 ≤ a ∧ a < 0x02000000) ∨ (0x02010000 ≤ a ∧ a < 0x0C000000) ∨ (0x10C00000 ≤ a ∧ a < 0x20000000) ∨
      (0x20600000 ≤ a ∧ a < 0x40000000) ∨ (0x400C0000 ≤ a ∧ a < 0x40100000) ∨ (0x402E0000 ≤ a ∧ a < 0x40300000) ∨
      (0x40310000 ≤ a ∧ a < 0x60000000) ∨ 0x68000000 ≤ a ∨ (∃ j < 16, 0x40280000 + 0x4000 * j ≤ a ∧ a < 0x40280000 +
      0x4000 * (j + 1) ∧ s.hasD j = false) ∨ (∃ i < 8, 0x60000000 + 0x1000000 * i ≤ a ∧ a < 0x60000000 + 0x1000000 *
      (i + 1) ∧ s.hasDie i = false))) :=
  ⟨{ State.reset with part := .tv42 }, 0, 0x4028FFFF#32, by decide +kernel⟩

/-- What the clauses of OnlyTheOwnerWritesADriverDie ask for can be met, clause by clause. -/
theorem wit_OnlyTheOwnerWritesADriverDie :
    (∃ (s : State) (d : CDie) (k : DDie) (off : Nat), s.runs d.val = true ∧ s.linkD d.val k.val = true ∧ s.runsD k.val
      = true ∧ off < 0x4000 ∧ off % 4 = 0 ∧ s.flag d.val F.LIB_TK_STAT_ARMED = false ∧ s.owns d.val k.val = true) ∧
    (∃ (s : State) (d : CDie) (k : DDie) (off : Nat), s.runs d.val = true ∧ s.linkD d.val k.val = true ∧ s.runsD k.val
      = true ∧ off < 0x4000 ∧ off % 4 = 0 ∧ s.flag d.val F.LIB_TK_STAT_ARMED = false ∧ s.owns d.val k.val = false) ∧
    (∃ (s : State) (d : CDie) (k : DDie) (off : Nat) (c : Fin 4), s.runs d.val = true ∧ s.linkD d.val k.val = true ∧
      s.runsD k.val = true ∧ off < 0x4000 ∧ off % 4 = 0 ∧ s.flag d.val F.LIB_TK_STAT_ARMED = false ∧ ((s.c
      d.val).hdr.reads.at c.val).active = false) := by
  refine ⟨
    ⟨up, 0, 5, 0x3FFC, ?_⟩,
    ⟨up, 1, 5, 0, ?_⟩,
    ⟨up, 1, 0, 0x114, 3, ?_⟩⟩
  all_goals decide +kernel

/-- What OnlyTheSafetyMasterCompletesProtectedWrites asks for can be met. -/
theorem wit_OnlyTheSafetyMasterCompletesProtectedWrites :
    ∃ (s : State) (d : CDie) (m : Master), s.wf = true ∧ s.runs d.val = true ∧ m.safety = false :=
  ⟨up, 1, .core 2 false, by decide +kernel⟩

/-- What the clauses of SramStoresReadBack ask for can be met, clause by clause. -/
theorem wit_SramStoresReadBack :
    (∃ (s : State) (d : CDie) (addr : Word), s.runs d.val = true ∧ s.flag d.val F.LIB_TK_STAT_ARMED = false ∧
      addr.toNat % 4 = 0 ∧ 0x20000000 ≤ addr.toNat ∧ addr.toNat < 0x205C0000) ∧
    (∃ (s : State) (d : CDie) (addr : Word), s.runs d.val = true ∧ s.flag d.val F.LIB_TK_STAT_ARMED = false ∧
      addr.toNat % 4 = 0 ∧ 0x205C0000 ≤ addr.toNat ∧ addr.toNat < 0x20600000) := by
  refine ⟨
    ⟨up, 0, 0x205BFFFC#32, ?_⟩,
    ⟨up, 1, 0x205C0000#32, ?_⟩⟩
  all_goals decide +kernel

/-- What the clauses of RegisterAccessCommands ask for can be met, clause by clause. -/
theorem wit_RegisterAccessCommands :
    (∃ (s : State) (d : CDie), s.runs d.val = true) ∧
    (∃ (s : State) (d : CDie) (off : Nat), s.runs d.val = true ∧ s.flag d.val F.LIB_TK_STAT_ARMED = false ∧ off ∈
      [0x10, 0x18, 0x1C, 0x20, 0x34, 0x38]) ∧
    (∃ (s : State) (d : CDie) (addr : Word) (size : Nat), s.runs d.val = true ∧ regWindow addr.toNat = true ∧ (size ≠
      4 ∨ addr.toNat % 4 ≠ 0)) := by
  refine ⟨
    ⟨State.reset, 0, ?_⟩,
    ⟨up, 0, 0x38, ?_⟩,
    ⟨up, 0, 0x40000002#32, 4, ?_⟩⟩
  all_goals decide +kernel

/-- What the clauses of SupplyCommands ask for can be met, clause by clause. -/
theorem wit_SupplyCommands :
    (∃ (s : State) (d : CDie), s.hasC d.val = true) ∧
    (∃ (s : State) (k : DDie), s.hasD k.val = true) ∧
    (∃ (s : State), s.pkg.off = true) := by
  refine ⟨
    ⟨State.reset, 0, ?_⟩,
    ⟨State.reset, 0, ?_⟩,
    ⟨{ State.reset with pkg := { State.reset.pkg with off := true } }, ?_⟩⟩
  all_goals decide +kernel

/-- What the clauses of ClockAndResetCommands ask for can be met, clause by clause. -/
theorem wit_ClockAndResetCommands :
    (∃ (s : State) (d : CDie), s.hasC d.val = true) ∧
    (∃ (s : State) (d : CDie), s.runs d.val = true) ∧
    (∃ (s : State) (k : DDie), s.runsD k.val = true) ∧
    (∃ (s : State) (i : DieIx), i.val < 2 ∧ s.hasC i.val = true ∧ (s.c i.val).sys.inReset = true ∧ s.mayRun i.val =
      true ∧ s.pkg.resetNLow = false ∧ s.pkg.off = false ∧ s.pkg.inReset = true ∧ i.val = 0 ∧ s.pkgMayRun = true) ∧
    (∃ (s : State) (i : DieIx), i.val < 2 ∧ s.hasC i.val = true ∧ (s.c i.val).sys.inReset = true ∧ s.mayRun i.val =
      true ∧ s.pkg.resetNLow = false ∧ s.pkg.off = false ∧ s.pkg.inReset = false ∧ s.romHeld 0 = false ∧ s.flag 0
      F.BIST_MARK0_C1 = false) ∧
    (∃ (s : State) (i : DieIx), i.val < 2 ∧ s.hasC i.val = true ∧ (s.c i.val).sys.inReset = true ∧ (s.mayRun i.val =
      false ∨ s.pkg.resetNLow = true ∨ s.pkg.off = true)) ∧
    (∃ (s : State) (i : DieIx), i.val < 2 ∧ s.hasC i.val = true ∧ (s.c i.val).sys.inReset = false ∧ i.val = 0 ∧ s.dev
      = 2 ∧ s.get 0 F.HDR_RC_STATUS_PHASE = 0 ∧ (s.c 0).sys.romHold = false) ∧
    (∃ (s : State) (k : DDie) (i : DieIx), i.val = 2 + k.val ∧ s.hasD k.val = true) ∧
    (∃ (s : State), s.runs 0 = true ∧ s.runs 1 = false ∧ s.flag 0 F.SYS_PFCFG_REACT = true ∧ (∀ b < 3, s.flag 0
      (F.DISCH_BUS_CFG_PFDIS b) = false)) := by
  refine ⟨
    ⟨State.reset, 0, ?_⟩,
    ⟨up, 1, ?_⟩,
    ⟨up, 5, ?_⟩,
    ⟨{ State.reset.modSys 0 (fun y => { y with inReset := true }) with pkg := { State.reset.pkg with inReset := true } }, 0, ?_⟩,
    ⟨alone, 1, ?_⟩,
    ⟨{ alone with pkg := { alone.pkg with resetNLow := true } }, 1, ?_⟩,
    ⟨State.reset, 0, ?_⟩,
    ⟨up, 5, 7, ?_⟩,
    ⟨w (solo 5) [(0, F.SYS_PFCFG_REACT, 1)], ?_⟩⟩
  all_goals decide +kernel

/-- What the clauses of RollCallCommands ask for can be met, clause by clause. -/
theorem wit_RollCallCommands :
    (∃ (s : State) (k : DDie), s.hasD k.val = true) ∧
    (∃ (s : State) (d : CDie), s.runs d.val = true) ∧
    (∃ (s : State), s.hasC 1 = true ∧ s.rolling = true ∧ s.rcPhase = 1 ∧ s.runs 1 = true ∧ s.bitOf 0
      F.HDR_RC_DIEMAP_PRESENT 1 = false ∧ (s.c 0).hdr.c1Missing = false ∧ s.now 0 ≤ (s.c 0).hdr.winC1 + rcWindow) ∧
    (∃ (s : State) (ctl : Bool) (pos : DieIx) (step : Byte), s.hasC 1 = true ∧ s.rolling = true ∧ s.rcPhase = 1 ∧
      s.runs 1 = true ∧ s.bitOf 0 F.HDR_RC_DIEMAP_PRESENT 1 = false ∧ (s.c 0).hdr.c1Missing = false ∧ s.now 0 ≤ (s.c
      0).hdr.winC1 + rcWindow ∧ s.get 0 F.HDR_RC_STATUS_CODE = 0 ∧ (ctl = false ∨ pos.val ≠ 1 ∨ step.toNat ≠ 0xB0)) ∧
    (∃ (s : State), s.rolling = true ∧ s.rcPhase = 1 ∧ s.c1Settled = true ∧ (∀ k < 6, s.hasD k = true → s.inOrphan k =
      false ∧ s.orphan k = false ∧ (s.dd k).noticeDue = false)) ∧
    (∃ (s : State) (i : DieIx), i.val = 1 ∧ s.hasDie 1 = true ∧ s.rolling = true ∧ s.rcPhase = 1 ∧ s.bitOf 0
      F.HDR_RC_DIEMAP_PRESENT 1 = false ∧ s.get 0 F.HDR_RC_STATUS_CODE = 0 ∧ (s.c 0).hdr.winC1 + rcWindow ≤ s.now 0) := by
  refine ⟨
    ⟨up, 5, ?_⟩,
    ⟨State.reset, 0, ?_⟩,
    ⟨rc 1, ?_⟩,
    ⟨rc 1, true, 0, 0xB0, ?_⟩,
    ⟨w (rc 1) [(0, F.HDR_RC_DIEMAP_PRESENT, 2)], ?_⟩,
    ⟨(rc 1).modSys 0 (fun y => { y with stage := 0xFFFFFFFFFF }), 1, ?_⟩⟩
  all_goals decide +kernel

/-- What the clauses of LoaderCommands ask for can be met, clause by clause. -/
theorem wit_LoaderCommands :
    (∃ (s : State) (d : CDie), s.runs d.val = true) ∧
    (∃ (s : State) (m : Master), s.wf = true ∧ s.runs 0 = true ∧ m.safety = true ∧ s.tkReady 0 0x400B0004 = true) ∧
    (∃ (s : State) (d : CDie) (m : Master), s.runs d.val = true ∧ m.safety = false) ∧
    (∃ (s : State) (d : CDie) (m : Master) (v : Word), s.runs d.val = true ∧ m.safety = true ∧ s.flag d.val
      F.LIB_TK_STAT_ARMED = false ∧ (s.c d.val).lib.tk.keys = 0 ∧ v.toNat = 0xA35C0000 + s.get d.val
      F.LIB_TK_STAT_SEQ) ∧
    (∃ (s : State) (d : CDie) (m : Master) (v : Word), s.runs d.val = true ∧ m.safety = true ∧ s.flag d.val
      F.LIB_TK_STAT_ARMED = false ∧ (s.c d.val).lib.tk.keys = 1 ∧ v.toNat = 0xFFFFFFFF - (0xA35C0000 + s.get d.val
      F.LIB_TK_STAT_SEQ)) ∧
    (∃ (s : State) (d : CDie) (m : Master) (v : Word), s.runs d.val = true ∧ m.safety = true ∧ s.flag d.val
      F.LIB_TK_STAT_ARMED = false ∧ (s.c d.val).lib.tk.keys = 0 ∧ v.toNat ≠ 0xA35C0000 + s.get d.val
      F.LIB_TK_STAT_SEQ) := by
  refine ⟨
    ⟨State.reset, 0, ?_⟩,
    ⟨armed 0 0x400B0004 up, sm, ?_⟩,
    ⟨up, 1, .core 2 false, ?_⟩,
    ⟨up, 0, sm, 0xA35C0000#32, ?_⟩,
    ⟨up.modTk 0 (fun t => { t with keys := 1 }), 0, sm, 0x5CA3FFFF#32, ?_⟩,
    ⟨up, 1, sm, 0xA35C0001#32, ?_⟩⟩
  all_goals decide +kernel

/-- What LoaderEvents asks for can be met. -/
theorem wit_LoaderEvents :
    ∃ (s : State), s.runs 0 = true ∧ s.runs 1 = false ∧ s.flag 0 F.LIB_STAT_WATCH = true ∧ (s.c 0).lib.watchFrom +
      400000000 * s.get 0 F.LIB_WATCH_WIN ≤ s.now 0 :=
  ⟨(w (solo 5) [(0, F.LIB_STAT_WATCH, 1)]).modSys 0 (fun y => { y with stage := 0xFFFFFFFFFFF }), by decide +kernel⟩

/-- What the clauses of HeadraceLinkCommands ask for can be met, clause by clause. -/
theorem wit_HeadraceLinkCommands :
    (∃ (s : State) (i : DieIx) (n : Fin 7) (w : BitVec 64), s.hasLink i.val n.val = true ∧ s.dieRuns i.val = true ∧
      flitOk w.toNat = false) ∧
    (∃ (s : State) (i : DieIx) (n : Fin 7) (w : BitVec 64), s.hasLink i.val n.val = true ∧ s.dieRuns i.val = true ∧
      flitOk w.toNat = true ∧ flitType w.toNat = Fl.idle) ∧
    (∃ (s : State) (i : DieIx) (n : Fin 7) (w : BitVec 64), s.hasLink i.val n.val = true ∧ s.dieRuns i.val = true ∧
      flitOk w.toNat = true ∧ flitType w.toNat = Fl.nak) ∧
    (∃ (s : State) (i : DieIx) (n : Fin 7) (w : BitVec 64), s.hasLink i.val n.val = true ∧ s.dieRuns i.val = true ∧
      flitOk w.toNat = true ∧ flitType w.toNat ≠ Fl.idle ∧ flitType w.toNat ≠ Fl.nak) ∧
    (∃ (s : State) (i : DieIx) (n : Fin 7), s.hasLink i.val n.val = true ∧ s.dieRuns i.val = true) ∧
    (∃ (s : State) (i : DieIx) (n : Fin 7), s.hasLink i.val n.val = true ∧ s.dieRuns i.val = true ∧ (s.link i.val
      n.val).timeT = none) ∧
    (∃ (s : State) (i : DieIx) (n : Fin 7) (v : _), s.hasLink i.val n.val = true ∧ s.dieRuns i.val = true ∧ (s.link
      i.val n.val).timeT = some v ∧ s.timeReached i.val n.val v = false) ∧
    (∃ (s : State) (i : DieIx) (n : Fin 7) (v : _), s.hasLink i.val n.val = true ∧ s.dieRuns i.val = true ∧ (s.link
      i.val n.val).timeT = some v ∧ s.timeReached i.val n.val v = true ∧ 2 ≤ i.val) ∧
    (∃ (s : State) (i : DieIx) (n : Fin 7) (v : _), s.hasLink i.val n.val = true ∧ s.dieRuns i.val = true ∧ (s.link
      i.val n.val).timeT = some v ∧ s.timeReached i.val n.val v = true ∧ i.val < 2) ∧
    (∃ (s : State) (d : CDie), s.runs d.val = true) ∧
    (∃ (s : State) (k : DDie), s.runsD k.val = true) := by
  refine ⟨
    ⟨up, 1, 6, 1#64, ?_⟩,
    ⟨up, 1, 3, BitVec.ofNat 64 (flitWord 0 0 0), ?_⟩,
    ⟨up, 0, 0, BitVec.ofNat 64 (flitWord 1 0 0), ?_⟩,
    ⟨up, 7, 1, BitVec.ofNat 64 (flitWord 11 0 0), ?_⟩,
    ⟨up, 7, 1, ?_⟩,
    ⟨up, 1, 6, ?_⟩,
    ⟨up.modD 5 (fun x => { x with links := x.links.set 1 { (default : LinkC) with timeT := some 7 } }), 7, 1, 7, ?_⟩,
    ⟨up.modD 5 (fun x => { x with links := x.links.set 1 { (default : LinkC) with timeT := some 0 } }), 7, 1, 0, ?_⟩,
    ⟨up.modHdr 1 (fun h => { h with links := h.links.set 6 { (default : LinkC) with timeT := some 0 } }), 1, 6, 0, ?_⟩,
    ⟨State.reset, 0, ?_⟩,
    ⟨State.reset, 0, ?_⟩⟩
  all_goals decide +kernel

/-- What the clauses of RemoteAndCueCommands ask for can be met, clause by clause. -/
theorem wit_RemoteAndCueCommands :
    (∃ (s : State) (d : CDie), s.runs d.val = true) ∧
    (∃ (s : State) (d : CDie) (c : Fin 4) (k : DDie), s.runs d.val = true ∧ s.hasD k.val = true ∧ s.linkD d.val k.val
      = false ∧ ((s.c d.val).hdr.reads.at c.val).active = false) ∧
    (∃ (s : State) (d : CDie) (c : Fin 5), s.runs d.val = true ∧ c.val = 4) ∧
    (∃ (s : State) (d : CDie) (c : Fin 5) (k : Fin 4), s.runs d.val = true ∧ c.val = k.val ∧
      (let r := (s.c d.val).hdr.reads.at k.val;
      (r.active = false ∨ r.rsp = none))) ∧
    (∃ (s : State) (d : CDie) (c : Fin 5) (k : Fin 4) (x : _), s.runs d.val = true ∧ c.val = k.val ∧
      (let r := (s.c d.val).hdr.reads.at k.val;
      r.active = true ∧ r.rsp = some (x, 0))) ∧
    (∃ (s : State) (d : CDie) (c : Fin 5) (k : Fin 4) (x : _) (e : _), s.runs d.val = true ∧ c.val = k.val ∧
      (let r := (s.c d.val).hdr.reads.at k.val;
      r.active = true ∧ r.rsp = some (x, e) ∧ e ≠ 0)) ∧
    (∃ (s : State) (d : CDie) (dst : Byte), s.runs d.val = true ∧ s.cueTo d.val dst.toNat = none) ∧
    (∃ (s : State) (d : CDie) (dst : Byte) (c : _), s.runs d.val = true ∧ s.cueTo d.val dst.toNat = some c ∧ s.now
      d.val < c.due) ∧
    (∃ (s : State) (d : CDie) (dst : Byte) (c : _), s.runs d.val = true ∧ s.cueTo d.val dst.toNat = some c ∧ c.due ≤
      s.now d.val ∧ c.cross = false) ∧
    (∃ (s : State) (d : CDie) (dst : Byte) (bad : Bool) (c : _), s.runs d.val = true ∧ s.cueTo d.val dst.toNat = some
      c ∧ c.due ≤ s.now d.val ∧ c.cross = true ∧ bad = true) ∧
    (∃ (s : State) (d : CDie) (dst : Byte) (late : Bool) (bad : Bool) (c : _), s.runs d.val = true ∧ s.cueTo d.val
      dst.toNat = some c ∧ c.due ≤ s.now d.val ∧ c.cross = true ∧ bad = false ∧ (late = true ∨ c.crowded = true ∨
      c.due < s.now d.val)) := by
  refine ⟨
    ⟨State.reset, 0, ?_⟩,
    ⟨State.reset, 1, 3, 5, ?_⟩,
    ⟨up, 1, 4, ?_⟩,
    ⟨up.modHdr 1 (fun h => { h with reads := h.reads.set 3 ⟨true, 2, 0, 0, none⟩ }), 1, 3, 3, ?_⟩,
    ⟨up.modHdr 1 (fun h => { h with reads := h.reads.set 3 ⟨true, 2, 0, 0, some (9, 0)⟩ }), 1, 3, 3, 9, ?_⟩,
    ⟨up.modHdr 1 (fun h => { h with reads := h.reads.set 3 ⟨true, 2, 0, 0, some (9, 3)⟩ }), 1, 3, 3, 9, 3, ?_⟩,
    ⟨up, 1, 0xFF#8, ?_⟩,
    ⟨up.modHdr 1 (fun h => { h with cues := [⟨255, false, 3, 1, false⟩] }), 1, 0xFF#8, ⟨255, false, 3, 1, false⟩, ?_⟩,
    ⟨up.modHdr 1 (fun h => { h with cues := [⟨255, false, 3, 0, false⟩] }), 1, 0xFF#8, ⟨255, false, 3, 0, false⟩, ?_⟩,
    ⟨up.modHdr 1 (fun h => { h with cues := [⟨255, true, 3, 0, false⟩] }), 1, 0xFF#8, true, ⟨255, true, 3, 0, false⟩, ?_⟩,
    ⟨up.modHdr 1 (fun h => { h with cues := [⟨255, true, 3, 0, false⟩] }), 1, 0xFF#8, true, false, ⟨255, true, 3, 0, false⟩, ?_⟩⟩
  all_goals decide +kernel

/-- What the clauses of HandoverCommands ask for can be met, clause by clause. -/
theorem wit_HandoverCommands :
    (∃ (s : State) (d : CDie), s.runs d.val = true) ∧
    (∃ (s : State) (k : DDie), s.runsD k.val = true) ∧
    (∃ (s : State) (d : CDie) (k : DDie), s.runs d.val = true ∧ s.hasD k.val = true) ∧
    (∃ (s : State) (d : CDie) (k : DDie), s.hasC d.val = true ∧ s.runsD k.val = true) ∧
    (∃ (s : State) (d : CDie) (m : Master) (k : Fin 8), s.wf = true ∧ s.runs d.val = true ∧ m.safety = true ∧
      s.tkReady d.val 0x400A0210 = true ∧ s.hoRefusal d.val k.val = 0) ∧
    (∃ (s : State) (d : CDie) (m : Master) (k : Fin 8), s.wf = true ∧ s.runs d.val = true ∧ m.safety = true ∧
      s.tkReady d.val 0x400A0210 = true ∧ s.hoRefusal d.val k.val ≠ 0) := by
  refine ⟨
    ⟨State.reset, 0, ?_⟩,
    ⟨up, 5, ?_⟩,
    ⟨up, 1, 5, ?_⟩,
    ⟨up, 1, 5, ?_⟩,
    ⟨armed 0 0x400A0210 up, 0, sm, 5, ?_⟩,
    ⟨armed 0 0x400A0210 up, 0, sm, 6, ?_⟩⟩
  all_goals decide +kernel

/-- What the clauses of ConverterCommands ask for can be met, clause by clause. -/
theorem wit_ConverterCommands :
    (∃ (s : State) (d : CDie), s.runs d.val = true) ∧
    (∃ (s : State) (d : CDie) (g : Fin 4) (q : Fin 4), s.runs d.val = true ∧ s.flag d.val (F.ADC_AG_CTRL_EN g.val) =
      true ∧ s.flag d.val (F.ADC_AG_STAT_GFAULT g.val) = false ∧ s.get d.val (F.ADC_AG_SEQ_CFG_LEN g.val q.val) ≠ 0 ∧
      s.fabric d.val = true ∧ (s.seqBusy d.val g.val q.val = true ∨ s.flag d.val (F.ADC_AG_STAT_CALBUSY g.val) =
      true)) ∧
    (∃ (s : State) (d : CDie) (g : Fin 4) (q : Nat), s.runs d.val = true ∧ s.fabric d.val = true ∧ s.burstSeq d.val
      g.val = some q ∧ 128 ≤ (s.ag d.val g.val).fifo.length) := by
  refine ⟨
    ⟨State.reset, 0, ?_⟩,
    ⟨w up [(0, F.ADC_AG_CTRL_EN 3, 1), (0, F.ADC_AG_SEQ_CFG_LEN 3 3, 1), (0, F.ADC_AG_STAT_SEQBUSY 3, 8)], 0, 3, 3, ?_⟩,
    ⟨(w up [(0, F.ADC_AG_STAT_SEQBUSY 3, 8), (0, F.ADC_AG_SEQ_CFG_MODE 3 3, 1)]).modAg 0 3 (fun x => { x with fifo := List.replicate 128 0 }), 0, 3, 3, ?_⟩⟩
  all_goals decide +kernel

/-- What the clauses of ShuntCommands ask for can be met, clause by clause. -/
theorem wit_ShuntCommands :
    (∃ (s : State) (k : DDie), s.runsD k.val = true) ∧
    (∃ (s : State) (d : CDie) (k : DDie), s.runs d.val = true ∧ s.hasD k.val = true) ∧
    (∃ (s : State) (k : DDie), s.runsD k.val = true ∧ s.flag (dix k.val) F.DRV_D_SHCCTRL_EN = true ∧ s.orphan k.val =
      false ∧ s.flag (dix k.val) F.DRV_D_SHCSTAT_BURST = false ∧ s.shCapturing k.val = false ∧ (s.dd k.val).shunt.iAt
      = 0 ∧ s.flag (dix k.val) F.DRV_D_SHCCTRL_MODE = false) ∧
    (∃ (s : State) (k : DDie), s.runsD k.val = true ∧ s.flag (dix k.val) F.DRV_D_SHCCTRL_EN = true ∧ s.orphan k.val =
      false ∧ s.flag (dix k.val) F.DRV_D_SHCSTAT_BURST = false ∧ s.shCapturing k.val = false ∧ (s.dd k.val).shunt.iAt
      ≠ 0 ∧ (s.dd k.val).stage.toNat + 1 < (s.dd k.val).shunt.iAt + 40) ∧
    (∃ (s : State) (k : DDie), s.runsD k.val = true ∧ s.flag (dix k.val) F.DRV_D_SHCCTRL_EN = true ∧ s.orphan k.val =
      false ∧ s.flag (dix k.val) F.DRV_D_SHCSTAT_BURST = false ∧ (s.dd k.val).shunt.vBusy = false) := by
  refine ⟨
    ⟨State.reset, 0, ?_⟩,
    ⟨up, 1, 5, ?_⟩,
    ⟨w up [(7, F.DRV_D_SHCCTRL_EN, 1)], 5, ?_⟩,
    ⟨(w up [(7, F.DRV_D_SHCCTRL_EN, 1)]).modShunt 5 (fun x => { x with iAt := 1 }), 5, ?_⟩,
    ⟨w up [(7, F.DRV_D_SHCCTRL_EN, 1)], 5, ?_⟩⟩
  all_goals decide +kernel

/-- What the clauses of CalibrationCommands ask for can be met, clause by clause. -/
theorem wit_CalibrationCommands :
    (∃ (s : State) (d : CDie), s.runs d.val = true) ∧
    (∃ (s : State), s.dev = 4 ∧ s.runs 0 = true ∧ s.runs 1 = false ∧ s.rcIsHeld = false) ∧
    (∃ (s : State) (d : CDie), s.runs d.val = true ∧ s.flag d.val F.ADC_GSTAT_CALBUSY = true ∧ s.dev ≠ 4) ∧
    (∃ (s : State) (d : CDie), s.runs d.val = true ∧ s.flag d.val F.LIB_TK_STAT_ARMED = false ∧ s.calRefusal d.val = 0) ∧
    (∃ (s : State) (d : CDie), s.runs d.val = true ∧ s.flag d.val F.LIB_TK_STAT_ARMED = false ∧ s.calRefusal d.val ≠ 0) ∧
    (∃ (s : State) (d : CDie), s.runs d.val = true ∧ s.flag d.val F.LIB_TK_STAT_ARMED = false ∧ s.zcapRefusal d.val =
      0) ∧
    (∃ (s : State) (d : CDie), s.runs d.val = true ∧ s.flag d.val F.LIB_TK_STAT_ARMED = false ∧ s.zcapRefusal d.val ≠
      0) := by
  refine ⟨
    ⟨State.reset, 0, ?_⟩,
    ⟨solo 4, ?_⟩,
    ⟨w up [(1, F.ADC_GSTAT_CALBUSY, 1)], 1, ?_⟩,
    ⟨up, 0, ?_⟩,
    ⟨w up [(1, F.ADC_GSTAT_CALBUSY, 1)], 1, ?_⟩,
    ⟨up, 1, ?_⟩,
    ⟨w up [(1, F.ADC_GSTAT_ZCAPBUSY, 1)], 1, ?_⟩⟩
  all_goals decide +kernel

/-- What the clauses of SelfTestCommands ask for can be met, clause by clause. -/
theorem wit_SelfTestCommands :
    (∃ (s : State) (i : DieIx), s.hasDie i.val = true) ∧
    (∃ (s : State) (d : CDie), s.runs d.val = true) ∧
    (∃ (s : State), s.runs 0 = true ∧ s.dev = 3 ∧ s.get 0 F.BIST_STAT_PHASE = 0 ∧ s.get 0 F.HDR_RC_STATUS_HOLD = 0 ∧
      s.anyAt 150 = false) ∧
    (∃ (s : State), s.runs 0 = true ∧ s.dev = 3 ∧ s.get 0 F.HDR_RC_STATUS_HOLD = 1 ∧ s.anyAt 135 = false ∧ (s.c
      0).bist.holdAt + 40000 ≤ s.now 0) ∧
    (∃ (s : State) (d : CDie) (t : Nat) (u : Nat) (xs : List (Nat × Nat)), s.runs d.val = true ∧ (s.c
      d.val).bist.tests = (t, u) :: xs ∧ s.get d.val F.BIST_ROTST_DONE + 1 < (if t = 0 then 10 else 6) ∧
      (let b := (s.c d.val).prompt.lastBoundary;
      (s.c d.val).bist.svcAt ≠ b + 1 ∧ b + 4000 ≤ s.now d.val ∧ s.now d.val ≤ b + 12000)) := by
  refine ⟨
    ⟨State.reset, 0, ?_⟩,
    ⟨State.reset, 0, ?_⟩,
    ⟨inDev 3 State.reset, ?_⟩,
    ⟨(w (inDev 3 State.reset) [(0, F.HDR_RC_STATUS_HOLD, 1)]).modSys 0 (fun y => { y with stage := 40000 }), ?_⟩,
    ⟨(modBist 1 (fun x => { x with tests := [(4, 7)] }) up).modSys 1 (fun y => { y with stage := 12000 }), 1, 4, 7, [], ?_⟩⟩
  all_goals decide +kernel

/-- What the clauses of FeedbackCommands ask for can be met, clause by clause. -/
theorem wit_FeedbackCommands :
    (∃ (s : State) (d : CDie), s.runs d.val = true) ∧
    (∃ (s : State) (d : CDie) (n : Fin 4) (held : Byte), s.runs d.val = true ∧ s.bitOf d.val F.SYS_BRST_FB n.val =
      false ∧ s.bitOf d.val F.SYS_CLKGATE_FB n.val = true ∧ held.toNat ≤ s.get d.val (F.FB_FB_CFG_FILT n.val)) ∧
    (∃ (s : State) (d : CDie) (n : Fin 4), s.runs d.val = true ∧ s.bitOf d.val F.SYS_BRST_FB n.val = false ∧ s.bitOf
      d.val F.SYS_CLKGATE_FB n.val = true ∧ s.fbRun d.val n.val = true ∧ s.fbMode d.val n.val = Fbm.serial ∧ (s.c
      d.val).sys.vioBLow = false ∧ (s.fb d.val n.val).frameAt.isSome = true) := by
  refine ⟨
    ⟨State.reset, 0, ?_⟩,
    ⟨up, 1, 3, 0#8, ?_⟩,
    ⟨(fbUp 4 []).modFb 1 3 (fun x => { x with frameAt := some 9 }), 1, 3, ?_⟩⟩
  all_goals decide +kernel

/-- What the clauses of LatchAndEmulatorCommands ask for can be met, clause by clause. -/
theorem wit_LatchAndEmulatorCommands :
    (∃ (s : State) (d : CDie), s.runs d.val = true) ∧
    (∃ (s : State) (d : CDie) (n : Fin 4), s.runs d.val = true ∧ s.bitOf d.val F.SYS_BRST_FB n.val = false ∧ s.bitOf
      d.val F.SYS_CLKGATE_FB n.val = true ∧ s.fbRun d.val n.val = true ∧ s.fbMode d.val n.val ≠ Fbm.serial ∧ s.flag
      d.val F.LIB_TK_STAT_ARMED = false ∧ (s.fb d.val n.val).latchAt ≠ s.now d.val + 1) ∧
    (∃ (s : State) (d : CDie) (n : Fin 4), s.runs d.val = true ∧ s.bitOf d.val F.SYS_BRST_FB n.val = false ∧ s.bitOf
      d.val F.SYS_CLKGATE_FB n.val = true ∧ s.fbRun d.val n.val = true ∧ s.fbMode d.val n.val ≠ Fbm.serial ∧ s.flag
      d.val F.LIB_TK_STAT_ARMED = false ∧ (s.fb d.val n.val).latchAt = s.now d.val + 1) ∧
    (∃ (s : State) (d : CDie) (n : Fin 4), s.runs d.val = true ∧ s.bitOf d.val F.SYS_BRST_FB n.val = false ∧ s.flag
      d.val F.LIB_TK_STAT_ARMED = false ∧ s.flag d.val (F.FB_FB_EVT_FAULT n.val) = true ∧ s.get d.val
      (F.FB_FB_ERRCNT_CONSEC n.val) ≠ 0) ∧
    (∃ (s : State) (d : CDie) (m : Fin 2), s.runs d.val = true ∧ s.flag d.val (F.FB_EMU_STAT_RUN m.val) = true ∧
      s.flag d.val (F.FB_FB_STAT_VALID (s.get d.val (F.FB_EMU_CTRL_SRC m.val))) = false) := by
  refine ⟨
    ⟨State.reset, 0, ?_⟩,
    ⟨fbUp 1 [], 1, 3, ?_⟩,
    ⟨(fbUp 1 []).modFb 1 3 (fun x => { x with latchAt := 1 }), 1, 3, ?_⟩,
    ⟨w up [(1, F.FB_FB_EVT_FAULT 3, 1), (1, F.FB_FB_ERRCNT_CONSEC 3, 1)], 1, 3, ?_⟩,
    ⟨w up [(1, F.FB_EMU_STAT_RUN 1, 1), (1, F.FB_EMU_CTRL_SRC 1, 3)], 1, 1, ?_⟩⟩
  all_goals decide +kernel

/-- What the clauses of EngineCommands ask for can be met, clause by clause. -/
theorem wit_EngineCommands :
    (∃ (s : State) (d : CDie), s.runs d.val = true) ∧
    (∃ (s : State) (d : CDie) (n : Fin 64), s.runs d.val = true ∧ s.flag d.val F.LIB_TK_STAT_ARMED = false ∧ n.val <
      63 ∧ s.get d.val (F.LOOP_LE_CFG_MODE n.val) = 1 ∧ s.fabric d.val = true ∧ s.flag d.val (F.LOOP_LE_EVT_ECCFAULT
      n.val) = false ∧ s.engIdle d.val n.val = false ∧ (s.eng d.val n.val).startAt ≠ s.now d.val + 1) ∧
    (∃ (s : State) (d : CDie) (n : Fin 63) (v : Word), s.runs d.val = true ∧ s.flag d.val F.LIB_TK_STAT_ARMED = false
      ∧ s.loading = false ∧ (F.LOOP_LE_CFG_MODE n.val).ofWord v = 3) ∧
    (∃ (s : State) (d : CDie) (n : Fin 63), s.runs d.val = true ∧ s.flag d.val F.LIB_TK_STAT_ARMED = false ∧ s.dev ≠
      Dev.standby ∧ s.get d.val (F.LOOP_LE_CFG_MODE n.val) ≠ 0) := by
  refine ⟨
    ⟨State.reset, 0, ?_⟩,
    ⟨w up [(1, F.LOOP_LE_CFG_MODE 62, 1), (1, F.LOOP_LE_STAT_RUN 62, 1)], 1, 62, ?_⟩,
    ⟨up, 1, 62, 3#32, ?_⟩,
    ⟨inDev 6 (w up [(1, F.LOOP_LE_CFG_MODE 62, 1)]), 1, 62, ?_⟩⟩
  all_goals decide +kernel

/-- What the clauses of WeirAndChannelCommands ask for can be met, clause by clause. -/
theorem wit_WeirAndChannelCommands :
    (∃ (s : State) (d : CDie), s.runs d.val = true) ∧
    (∃ (s : State) (d : CDie) (c : Byte), s.runs d.val = true ∧ s.flag d.val F.LIB_TK_STAT_ARMED = false ∧ s.get d.val
      (F.LOOP_CH_CFG_WRITER c.toNat) ≠ 0x7F) ∧
    (∃ (s : State) (d : CDie) (w : Fin 64) (v : Word), s.runs d.val = true ∧ s.flag d.val F.LIB_TK_STAT_ARMED = false
      ∧
      (let en := F.LOOP_WR_CFG_EN w.val;
      (let man := fun (t : State) => onlyIf (t.flag d.val (F.LOOP_WR_CFG_MANEN w.val) && !s.flag d.val (F.LOOP_WR_CFG_MANEN w.val)) (weirMan d.val w.val) t;
      en.ofWord v = 1 ∧ s.flag d.val en = false ∧ s.loading = false ∧ (man (plainWrite d.val en.off v true s)).treeOk
      d.val = false))) := by
  refine ⟨
    ⟨State.reset, 0, ?_⟩,
    ⟨w up [(1, F.LOOP_CH_CFG_WRITER 255, 0x7E)], 1, 255, ?_⟩,
    ⟨w up [(1, F.LOOP_WR_CFG_DOWNEN 63, 1), (1, F.LOOP_WR_CFG_DWEIR 63, 63)], 1, 63, (F.LOOP_WR_CFG_EN 63).into ((F.LOOP_WR_CFG_DOWNEN 63).into ((F.LOOP_WR_CFG_DWEIR 63).into 0 63) 1) 1, ?_⟩⟩
  all_goals decide +kernel

/-- What WeirSelectsTheLowestInput asks for can be met. -/
theorem wit_WeirSelectsTheLowestInput :
    ∃ (s : State) (d : CDie) (w : Fin 64), s.runs d.val = true ∧ s.flag d.val (F.LOOP_WR_CFG_EN w.val) = true ∧ (s.c
      d.val).loop.weirDue.contains w.val = true ∧ s.flag d.val (F.LOOP_WR_CFG_MANEN w.val) = false :=
  ⟨(w up [(1, F.LOOP_WR_CFG_EN 63, 1)]).modLoop 1 (fun l => { l with weirDue := [63] }), 1, 63, by decide +kernel⟩

/-- What the clauses of FieldCommands ask for can be met, clause by clause. -/
theorem wit_FieldCommands :
    (∃ (s : State) (d : CDie), s.runs d.val = true) ∧
    (∃ (s : State) (d : CDie) (a : Axis), s.runs d.val = true ∧ s.flag d.val F.LIB_TK_STAT_ARMED = false ∧ (s.axr
      d.val a.val).cmdAt ≠ s.now d.val + 1 ∧ s.phase d.val a.val = Ph.curtain) ∧
    (∃ (s : State) (d : CDie) (a : Axis), s.runs d.val = true ∧ s.flag d.val F.LIB_TK_STAT_ARMED = false ∧ (s.axr
      d.val a.val).cmdAt ≠ s.now d.val + 1 ∧ s.phase d.val a.val = Ph.idle) ∧
    (∃ (s : State) (d : CDie) (a : Axis), s.runs d.val = true ∧ s.flag d.val F.LIB_TK_STAT_ARMED = false ∧ (s.axr
      d.val a.val).cmdAt ≠ s.now d.val + 1 ∧ s.phase d.val a.val ≠ Ph.curtain) ∧
    (∃ (s : State) (d : CDie) (a : Axis) (v : Word), s.runs d.val = true ∧ s.flag d.val F.LIB_TK_STAT_ARMED = false ∧
      (s.axr d.val a.val).cmdAt ≠ s.now d.val + 1 ∧ s.spRuled d.val a.val (s.phase d.val a.val) = true ∧ s.against
      d.val a.val (sx16 v.toNat) (s.speed d.val a.val) = true ∧ s.epath d.val a.val = false) := by
  refine ⟨
    ⟨State.reset, 0, ?_⟩,
    ⟨w up [(1, F.FIELD_AX_STAT_PHASE 5, Ph.curtain)], 1, 5, ?_⟩,
    ⟨up, 1, 5, ?_⟩,
    ⟨w up [(1, F.FIELD_AX_STAT_PHASE 5, Ph.run)], 1, 5, ?_⟩,
    ⟨w up [(1, F.FIELD_AX_STAT_PHASE 5, Ph.run), (1, F.FIELD_AX_CFG_TYPE 5, 3), (1, F.FIELD_AX_GRIDST_FREQ 5, 5000), (1, F.FIELD_AX_SCALE_SPDFS 5, 6000), (1, F.FIELD_AX_REV_REVTH 5, 0)], 1, 5, 0xFFFF#32, ?_⟩⟩
  all_goals decide +kernel

/-- What the clauses of FieldPhases ask for can be met, clause by clause. -/
theorem wit_FieldPhases :
    (∃ (s : State) (d : CDie), s.runs d.val = true) ∧
    (∃ (s : State) (d : CDie) (a : Axis), s.runs d.val = true ∧ s.phase d.val a.val = Ph.reversing ∧ 0 < s.geti d.val
      (F.FIELD_AX_SPSET a.val) ∧ 0 < s.speed d.val a.val ∧ s.get d.val (F.FIELD_AX_CATCH_STILL a.val) < absQ15
      (s.speed d.val a.val)) ∧
    (∃ (s : State) (d : CDie) (a : Axis), s.runs d.val = true ∧ (s.axr d.val a.val).since + s.get d.val
      (F.FIELD_AX_REV_REVTMO a.val) * 400000 ≥ s.now d.val) := by
  refine ⟨
    ⟨State.reset, 0, ?_⟩,
    ⟨w up [(1, F.FIELD_AX_STAT_PHASE 5, Ph.reversing), (1, F.FIELD_AX_CFG_TYPE 5, 3), (1, F.FIELD_AX_GRIDST_FREQ 5, 5000), (1, F.FIELD_AX_SCALE_SPDFS 5, 6000), (1, F.FIELD_AX_SPSET 5, 1)], 1, 5, ?_⟩,
    ⟨up, 1, 5, ?_⟩⟩
  all_goals decide +kernel

/-- What the clauses of PwmCommands ask for can be met, clause by clause. -/
theorem wit_PwmCommands :
    (∃ (s : State) (d : CDie), s.runs d.val = true) ∧
    (∃ (s : State) (d : CDie) (g : Fin 8) (v : Word), s.runs d.val = true ∧ s.flag d.val F.LIB_TK_STAT_ARMED = false ∧
      s.flag d.val (F.PWM_LG_CFG_EN g.val) = false ∧ (F.PWM_LG_CFG_EN g.val).ofWord v = 1 ∧
      (let u := plainWrite d.val (F.PWM_LG_CFG_EN g.val).off ((F.PWM_LG_CFG_EN g.val).into v 0) true s;
      u.groupOk d.val g.val = true)) ∧
    (∃ (s : State) (d : CDie) (g : Fin 8) (v : Word), s.runs d.val = true ∧ s.flag d.val F.LIB_TK_STAT_ARMED = false ∧
      s.flag d.val (F.PWM_LG_CFG_EN g.val) = false ∧ (F.PWM_LG_CFG_EN g.val).ofWord v = 1 ∧
      (let u := plainWrite d.val (F.PWM_LG_CFG_EN g.val).off ((F.PWM_LG_CFG_EN g.val).into v 0) true s;
      u.groupOk d.val g.val = false)) ∧
    (∃ (s : State) (d : CDie) (a : Axis), s.runs d.val = true ∧ s.flag d.val F.LIB_TK_STAT_ARMED = false ∧ s.enabled
      d.val a.val = false ∧ s.enCheck d.val a.val ≠ 0) ∧
    (∃ (s : State) (d : CDie) (n : Fin 4) (level : Bool) (held : Byte), s.runs d.val = true ∧ s.tripLevel d.val n.val
      level = true ∧ s.tripAccepts d.val n.val held.toNat = true ∧ ((s.c d.val).pwm.trips.at n.val).active = false ∧
      s.blanking d.val n.val = false) := by
  refine ⟨
    ⟨State.reset, 0, ?_⟩,
    ⟨w up [(1, F.PWM_LG_PER 7, 100)], 1, 7, 1#32, ?_⟩,
    ⟨w up ((List.range 18).flatMap (fun k => [(1, F.PWM_PP_CFG_LGRP k, 7), (1, F.PWM_PP_DTR k, 64), (1, F.PWM_PP_DTF k, 64), (1, F.PWM_PP_MINP k, 64)]) ++ [(1, F.PWM_LG_PER 7, 1)]), 1, 7, 1#32, ?_⟩,
    ⟨up, 1, 5, ?_⟩,
    ⟨up, 1, 3, false, 255#8, ?_⟩⟩
  all_goals decide +kernel

/-- What the clauses of GateLineCommands ask for can be met, clause by clause. -/
theorem wit_GateLineCommands :
    (∃ (s : State) (d : CDie) (k : DDie), s.hasC d.val = true ∧ s.runsD k.val = true) ∧
    (∃ (s : State) (k : DDie), s.runsD k.val = true) ∧
    (∃ (s : State) (d : CDie) (k : DDie), s.hasC d.val = true ∧ s.runsD k.val = true ∧ s.owner k.val ≠ d.val) ∧
    (∃ (s : State) (d : CDie) (k : DDie), s.runs d.val = true ∧ s.hasD k.val = true ∧ s.linkD d.val k.val = false) := by
  refine ⟨
    ⟨up, 1, 5, ?_⟩,
    ⟨up, 5, ?_⟩,
    ⟨up, 1, 5, ?_⟩,
    ⟨State.reset, 1, 5, ?_⟩⟩
  all_goals decide +kernel

/-- What the clauses of GateProtectionCommands ask for can be met, clause by clause. -/
theorem wit_GateProtectionCommands :
    (∃ (s : State) (k : DDie), s.runsD k.val = true) ∧
    (∃ (s : State) (k : DDie) (x : CDie), s.hasC x.val = true ∧ s.runsD k.val = true) ∧
    (∃ (s : State) (k : DDie) (leg : Fin 3), s.runsD k.val = true ∧ s.legUnused k.val leg.val = false ∧ ((s.dd
      k.val).legs.at leg.val).measured = false ∧ s.flag (dix k.val) F.DRV_D_LOCKST_VDRV = false) ∧
    (∃ (s : State) (k : DDie) (leg : Fin 3) (mv : BitVec 10) (held : Byte), s.runsD k.val = true ∧ (s.flag (dix k.val)
      (F.DRV_D_LEG_SHCMP_EN leg.val) = false ∨ mv.toNat < 2 * s.get (dix k.val) (F.DRV_D_LEG_SHCMP_SHTH leg.val) ∨
      held.toNat ≤ s.get (dix k.val) (F.DRV_D_LEG_SHCMP_SHFILT leg.val))) ∧
    (∃ (s : State) (k : DDie) (held : BitVec 16), s.runsD k.val = true ∧ held.toNat < 2 * s.get (dix k.val)
      F.DRV_D_STOCFG_STOFILT) := by
  refine ⟨
    ⟨State.reset, 0, ?_⟩,
    ⟨up, 5, 1, ?_⟩,
    ⟨(gate [(7, F.DRV_D_LOCKST_VDRV, 0)]).modD 5 (fun x => { x with legs := [] }), 5, 2, ?_⟩,
    ⟨gate [(7, F.DRV_D_LEG_SHCMP_EN 2, 1)], 5, 2, 1023#10, 0#8, ?_⟩,
    ⟨up, 5, 0#16, ?_⟩⟩
  all_goals decide +kernel

/-- What SluiceLatchHoldsTheLegs asks for can be met. -/
theorem wit_SluiceLatchHoldsTheLegs :
    ∃ (s : State) (k : DDie) (x : CDie) (n : Fin 4), s.runsD k.val = true ∧ s.hasC x.val = true ∧ s.sluiceLine x.val
      n.val = true :=
  ⟨w up [(1, F.PWM_TRIPST_ACTIVE, 8)], 5, 1, 3, by decide +kernel⟩

/-- What StoForcesEveryChannelOff asks for can be met. -/
theorem wit_StoForcesEveryChannelOff :
    ∃ (s : State) (k : DDie) (a : Bool) (b : Bool) (held : BitVec 16), s.runsD k.val = true ∧ (a = true ∨ b = true) ∧
      2 * s.get (dix k.val) F.DRV_D_STOCFG_STOFILT ≤ held.toNat :=
  ⟨up, 5, false, true, 0xFFFF#16, by decide +kernel⟩

/-- What the clauses of SequencerAndLevelCommands ask for can be met, clause by clause. -/
theorem wit_SequencerAndLevelCommands :
    (∃ (s : State) (d : CDie) (k : DDie), s.runs d.val = true ∧ s.hasD k.val = true) ∧
    (∃ (s : State) (k : DDie), s.runsD k.val = true) ∧
    (∃ (s : State) (d : CDie), s.runs d.val = true) ∧
    (∃ (s : State) (k : DDie), s.runsD k.val = true ∧ (s.dd k.val).ucCommit = true ∧ s.allOff k.val = true ∧ (s.dd
      k.val).seq = none ∧ (s.dd k.val).seqDue = []) ∧
    (∃ (s : State) (d : CDie) (k : DDie), s.runs d.val = true ∧ s.hasD k.val = true ∧ s.flag d.val F.LIB_TK_STAT_ARMED
      = false ∧ s.owns d.val k.val = false) := by
  refine ⟨
    ⟨up, 1, 5, ?_⟩,
    ⟨State.reset, 0, ?_⟩,
    ⟨State.reset, 0, ?_⟩,
    ⟨(gate []).modD 5 (fun x => { x with ucCommit := true }), 5, ?_⟩,
    ⟨up, 1, 5, ?_⟩⟩
  all_goals decide +kernel

/-- What the clauses of CurtainCommands ask for can be met, clause by clause. -/
theorem wit_CurtainCommands :
    (∃ (s : State) (d : CDie), s.runs d.val = true) ∧
    (∃ (s : State) (d : CDie) (a : Axis) (j : Fin 10), s.runs d.val = true ∧ s.causeHolds d.val a.val j.val = true ∧
      s.home d.val a.val = true ∧ s.inCurtain d.val a.val = false) ∧
    (∃ (s : State) (d : CDie) (a : Axis), s.runs d.val = true ∧ s.inCurtain d.val a.val = false) ∧
    (∃ (s : State) (d : CDie) (m : Master), s.wf = true ∧ s.runs d.val = true ∧ m.safety = true ∧ s.tkReady d.val (own
      0x18004) = true) := by
  refine ⟨
    ⟨State.reset, 0, ?_⟩,
    ⟨w (served 5 0) [(0, F.SAFE_REQ_AX, 32)], 0, 5, 7, ?_⟩,
    ⟨up, 1, 5, ?_⟩,
    ⟨armed 1 (own 0x18004) up, 1, sm, ?_⟩⟩
  all_goals decide +kernel

/-- What AClearedAxisFollowsAgain asks for can be met. -/
theorem wit_AClearedAxisFollowsAgain :
    ∃ (s : State) (d : CDie) (m : Master), s.wf = true ∧ s.runs d.val = true ∧ s.inCurtain d.val 0 = true ∧ m.safety
      = true ∧ s.tkReady d.val (own 0x18004) = true :=
  ⟨armed 1 (own 0x18004) (w up [(1, F.SAFE_AX_STAT_STATE 0, 1)]), 1, sm, by decide +kernel⟩

/-- What the clauses of BusCommands ask for can be met, clause by clause. -/
theorem wit_BusCommands :
    (∃ (s : State) (k : DDie), s.hasD k.val = true) ∧
    (∃ (s : State) (d : CDie), s.runs d.val = true) ∧
    (∃ (s : State) (d : CDie) (b : Fin 3), s.runs d.val = true ∧ s.discharging d.val b.val = false) ∧
    (∃ (s : State) (d : CDie) (b : Fin 3), s.runs d.val = true ∧ s.get d.val (F.DISCH_BUS_STAT_STATE b.val) =
      Ds.resistor) ∧
    (∃ (s : State) (d : CDie) (m : Master) (b : Fin 3), s.wf = true ∧ s.runs d.val = true ∧ m.safety = true ∧
      s.tkReady d.val (own (dcmdOff b.val)) = true ∧ s.dischRefusal d.val b.val 1 0 = 0) := by
  refine ⟨
    ⟨up, 5, ?_⟩,
    ⟨State.reset, 0, ?_⟩,
    ⟨up, 1, 2, ?_⟩,
    ⟨w up [(1, F.DISCH_BUS_STAT_STATE 2, Ds.resistor)], 1, 2, ?_⟩,
    ⟨armed 1 (own (dcmdOff 2)) (w up [(1, F.DISCH_BUS_CFG_DDIE 2, 5), (1, F.DISCH_BUS_DIS_VEND 2, 0)]), 1, sm, 2, ?_⟩⟩
  all_goals decide +kernel

/-- What the clauses of TorqueMonitorCommands ask for can be met, clause by clause. -/
theorem wit_TorqueMonitorCommands :
    (∃ (s : State) (d : CDie), s.runs d.val = true) ∧
    (∃ (s : State) (d : CDie) (a : Axis), s.runs d.val = true ∧ s.flag d.val (F.TMON_AX_CFG_EN a.val) = false) ∧
    (∃ (s : State) (d : CDie) (a : Axis) (v : Word), s.runs d.val = true ∧ s.flag d.val F.LIB_TK_STAT_ARMED = false ∧
      s.loading = false ∧ (F.TMON_AX_CFG_EN a.val).ofWord v = 1 ∧
      (let u := plainWrite d.val (F.TMON_AX_CFG_EN a.val).off v (!s.flag d.val (F.TMON_AX_CFG_EN a.val)) s;
      u.tmonOk d.val a.val = true)) ∧
    (∃ (s : State) (d : CDie) (a : Axis) (v : Word), s.runs d.val = true ∧ s.flag d.val F.LIB_TK_STAT_ARMED = false ∧
      s.loading = false ∧ (F.TMON_AX_CFG_EN a.val).ofWord v = 1 ∧
      (let u := plainWrite d.val (F.TMON_AX_CFG_EN a.val).off v (!s.flag d.val (F.TMON_AX_CFG_EN a.val)) s;
      u.tmonOk d.val a.val = false)) := by
  refine ⟨
    ⟨State.reset, 0, ?_⟩,
    ⟨up, 1, 5, ?_⟩,
    ⟨w up [(1, F.ADC_AG_ENT_TMON 0 0, 1), (1, F.ADC_AG_ENT_TMON 0 1, 1), (1, F.ADC_AG_ENT_TMON 0 2, 1)], 1, 5, (F.TMON_AX_CFG_ANG 5).into ((F.TMON_AX_CFG_EN 5).into 0 1) 1, ?_⟩,
    ⟨up, 1, 5, (F.TMON_AX_CFG_EN 5).into 0 1, ?_⟩⟩
  all_goals decide +kernel

/-- What the clauses of RedundantAccessCommands ask for can be met, clause by clause. -/
theorem wit_RedundantAccessCommands :
    (∃ (s : State) (d : CDie), s.runs d.val = true) ∧
    (∃ (s : State) (d : CDie) (p : Fin 2) (addr : Word) (e : DqEnt) (es : List DqEnt), s.runs d.val = true ∧ (s.chk
      d.val p.val).delay = e :: es ∧ e.trap = 0 ∧ e.addr = addr.toNat) ∧
    (∃ (s : State) (d : CDie) (p : Fin 2) (addr : Word) (e : DqEnt) (es : List DqEnt), s.runs d.val = true ∧ (s.chk
      d.val p.val).delay = e :: es ∧ e.trap = 0 ∧ e.addr ≠ addr.toNat) ∧
    (∃ (s : State) (d : CDie) (core : Fin 4), s.runs d.val = true ∧ s.coreStalls d.val core.val = false ∧ s.split
      d.val (pairOf core.val) = true) := by
  refine ⟨
    ⟨State.reset, 0, ?_⟩,
    ⟨chkUp (fun x => { x with delay := [⟨0, 0x40000010, 5⟩] }) [], 1, 1, 0x40000010#32, ⟨0, 0x40000010, 5⟩, [], ?_⟩,
    ⟨chkUp (fun x => { x with delay := [⟨0, 0x40000010, 5⟩] }) [], 1, 1, 0x40000014#32, ⟨0, 0x40000010, 5⟩, [], ?_⟩,
    ⟨w up [(1, F.CHK_P_STAT_SPLIT 1, 1)], 1, 2, ?_⟩⟩
  all_goals decide +kernel

/-- What the clauses of CheckpointCommands ask for can be met, clause by clause. -/
theorem wit_CheckpointCommands :
    (∃ (s : State) (d : CDie), s.runs d.val = true) ∧
    (∃ (s : State) (d : CDie) (p : Fin 2), s.runs d.val = true ∧ (s.chk d.val p.val).cp = none) ∧
    (∃ (s : State) (d : CDie) (p : Fin 2), s.runs d.val = true ∧ s.split d.val p.val = true) ∧
    (∃ (s : State) (d : CDie) (p : Fin 2), s.runs d.val = true ∧ s.split d.val p.val = false ∧ (s.chk d.val
      p.val).cpAt + s.get d.val (F.CHK_P_CPMAX p.val) * 400 ≤ s.now d.val) ∧
    (∃ (s : State) (d : CDie) (m : Master) (p : Fin 2), s.wf = true ∧ s.runs d.val = true ∧ m.safety = true ∧
      (let off := (F.CHK_P_RSCMD_GO p.val).off;
      s.tkReady d.val (own off) = true)) ∧
    (∃ (s : State) (d : CDie) (core : Fin 4), s.runs d.val = true ∧ s.debugOpen d.val (pairOf core.val) = false) := by
  refine ⟨
    ⟨State.reset, 0, ?_⟩,
    ⟨State.reset, 0, 0, ?_⟩,
    ⟨w up [(1, F.CHK_P_STAT_SPLIT 1, 1)], 1, 1, ?_⟩,
    ⟨(w up []).modSys 1 (fun y => { y with stage := 0xFFFFFFFFFF }), 1, 1, ?_⟩,
    ⟨armed 1 (own (F.CHK_P_RSCMD_GO 1).off) up, 1, sm, 1, ?_⟩,
    ⟨up, 1, 3, ?_⟩⟩
  all_goals decide +kernel

/-- What the clauses of AMismatchedCheckpointLatches ask for can be met, clause by clause. -/
theorem wit_AMismatchedCheckpointLatches :
    (∃ (s : State) (d : CDie) (core : Fin 4) (id : BitVec 16) (e : CpEnt), s.runs d.val = true ∧ s.flag d.val
      F.LIB_TK_STAT_ARMED = false ∧ s.split d.val (pairOf core.val) = false ∧ (s.chk d.val (pairOf core.val)).held =
      false ∧ (s.chk d.val (pairOf core.val)).cp = some e ∧ e.core ≠ core.val ∧ e.full = false ∧
      (let dg := [id.toNat % 256, id.toNat / 256 % 256].foldl crc32Byte (s.digest d.val core.val);
      (e.id ≠ id.toNat ∨ e.digest ≠ dg))) ∧
    (∃ (s : State) (d : CDie) (core : Fin 4) (id : BitVec 16) (e : CpEnt), s.runs d.val = true ∧ s.flag d.val
      F.LIB_TK_STAT_ARMED = false ∧ s.split d.val (pairOf core.val) = false ∧ (s.chk d.val (pairOf core.val)).held =
      false ∧ (s.chk d.val (pairOf core.val)).cp = some e ∧ e.core ≠ core.val ∧ e.full = false ∧
      (let dg := [id.toNat % 256, id.toNat / 256 % 256].foldl crc32Byte (s.digest d.val core.val);
      e.id = id.toNat ∧ e.digest = dg)) := by
  refine ⟨
    ⟨chkUp (fun x => { x with cp := some { (default : CpEnt) with core := 2, id := 7 } }) [], 1, 3, 7, { (default : CpEnt) with core := 2, id := 7 }, ?_⟩,
    ⟨chkUp (fun x => { x with cp := some { (default : CpEnt) with core := 2, id := 7, digest := [7, 0].foldl crc32Byte 0xFFFFFFFF } }) [], 1, 3, 7, { (default : CpEnt) with core := 2, id := 7, digest := [7, 0].foldl crc32Byte 0xFFFFFFFF }, ?_⟩⟩
  all_goals decide +kernel

/-- What the clauses of FaultCollectionCommands ask for can be met, clause by clause. -/
theorem wit_FaultCollectionCommands :
    (∃ (s : State) (d : CDie), s.runs d.val = true) ∧
    (∃ (s : State) (d : CDie) (g : Fin 32), s.runs d.val = true ∧ s.deferring d.val g.val = false) ∧
    (∃ (s : State) (d : CDie) (v : Word), s.runs d.val = true ∧ s.flag d.val F.LIB_TK_STAT_ARMED = false ∧
      F.SAFE_FC_SWREP_GO.ofWord v = 1) ∧
    (∃ (s : State) (d : CDie) (x : Fin 2) (i : Byte), s.runs d.val = true ∧ s.flag d.val F.LIB_TK_STAT_ARMED = false ∧
      (s.plic d.val).enable.at (256 * x.val + i.toNat) = true) ∧
    (∃ (s : State) (d : CDie) (x : Fin 2) (i : Byte), s.runs d.val = true ∧ s.flag d.val F.LIB_TK_STAT_ARMED = false ∧
      (s.plic d.val).enable.at (256 * x.val + i.toNat) = false) := by
  refine ⟨
    ⟨State.reset, 0, ?_⟩,
    ⟨up, 1, 31, ?_⟩,
    ⟨up, 1, F.SAFE_FC_SWREP_GO.into 0 1, ?_⟩,
    ⟨modPlic 1 (fun p => { p with enable := p.enable.set 511 true }) up, 1, 1, 255, ?_⟩,
    ⟨up, 1, 1, 255, ?_⟩⟩
  all_goals decide +kernel

/-- What the clauses of ThermalCommands ask for can be met, clause by clause. -/
theorem wit_ThermalCommands :
    (∃ (s : State) (k : DDie), s.runsD k.val = true) ∧
    (∃ (s : State) (d : CDie), s.runs d.val = true) ∧
    (∃ (s : State) (i : DieIx), i.val < 2 ∧ s.runs i.val = true) ∧
    (∃ (s : State) (i : DieIx), 2 ≤ i.val ∧ s.runsD (i.val - 2) = true) ∧
    (∃ (s : State) (k : DDie), s.runsD k.val = true ∧ (s.dd k.val).hot = false) ∧
    (∃ (s : State) (d : CDie), s.runs d.val = true ∧ (s.c d.val).therm.pend = none) ∧
    (∃ (s : State) (d : CDie) (m : Master), s.wf = true ∧ s.runs d.val = true ∧ m.safety = true ∧ s.tkReady d.val (own
      F.THERM_LACK_GO.off) = true ∧ s.ackRefusal d.val ≠ 0) := by
  refine ⟨
    ⟨State.reset, 0, ?_⟩,
    ⟨State.reset, 0, ?_⟩,
    ⟨up, 1, ?_⟩,
    ⟨up, 7, ?_⟩,
    ⟨up, 5, ?_⟩,
    ⟨up, 1, ?_⟩,
    ⟨armed 1 (own F.THERM_LACK_GO.off) up, 1, sm, ?_⟩⟩
  all_goals decide +kernel

/-- What the clauses of FlumeCommands ask for can be met, clause by clause. -/
theorem wit_FlumeCommands :
    (∃ (s : State) (d : CDie), s.runs d.val = true) ∧
    (∃ (s : State) (d : CDie) (n : Fin 16), s.runs d.val = true ∧ s.flag d.val F.LIB_TK_STAT_ARMED = false ∧ s.flag
      d.val F.SYS_BRST_FLUME = false ∧ s.flag d.val (F.FLUME_FL_CFG_EN n.val) = false) ∧
    (∃ (s : State) (d : CDie) (n : Fin 16), s.runs d.val = true ∧ s.flag d.val F.LIB_TK_STAT_ARMED = false ∧ s.flag
      d.val F.SYS_BRST_FLUME = false ∧ s.flag d.val (F.FLUME_FL_CFG_EN n.val) = true ∧ s.flState d.val n.val ≠ 1 ∧
      s.flState d.val n.val ≠ 2) ∧
    (∃ (s : State) (d : CDie) (n : Fin 16), s.runs d.val = true ∧ s.flState d.val n.val = 1 ∧ (s.fl d.val n.val).desc
      = none ∧
      (let a := s.get d.val (F.FLUME_FL_CUR n.val);
      (a % 32 ≠ 0 ∨ a < 0x20000000 ∨ 0x20600000 < a + 32))) ∧
    (∃ (s : State) (d : CDie) (n : Fin 16), s.runs d.val = true ∧ s.flState d.val n.val = 1 ∧ (s.fl d.val n.val).desc
      = none ∧
      (let a := s.get d.val (F.FLUME_FL_CUR n.val);
      a % 32 = 0 ∧ 0x20000000 ≤ a ∧ a + 32 ≤ 0x20600000)) := by
  refine ⟨
    ⟨State.reset, 0, ?_⟩,
    ⟨up, 1, 15, ?_⟩,
    ⟨flUp 0 none [], 1, 15, ?_⟩,
    ⟨flUp 1 none [(1, F.FLUME_FL_CUR 15, 0x20600000)], 1, 15, ?_⟩,
    ⟨flUp 1 none [(1, F.FLUME_FL_CUR 15, 0x205FFFE0)], 1, 15, ?_⟩⟩
  all_goals decide +kernel

/-- What AFilledBlockIsWritten asks for can be met. -/
theorem wit_AFilledBlockIsWritten :
    ∃ (s : State) (d : CDie) (n : Fin 16) (x : DescW), s.runs d.val = true ∧ s.flState d.val n.val = 1 ∧ (s.fl d.val
      n.val).desc = some x ∧ (∀ m < 16, m ≠ n.val → s.flWaits d.val m = none) ∧ x.mode = 1 ∧ x.crc = 0 ∧ x.cue =
      false ∧ x.next % 2 = 1 ∧ 0x20000000 ≤ x.dst ∧ x.dst + x.n ≤ 0x205C0000 ∧ s.flag d.val (F.FLUME_FL_STAT_DBPEND
      n.val) = false ∧
      (let wb := s.get d.val (F.FLUME_FL_CUR n.val) + 0x1C;
      0x20000000 ≤ wb ∧ wb + 4 ≤ 0x205C0000 ∧ (wb + 4 ≤ x.dst ∨ x.dst + x.n ≤ wb)) :=
  ⟨flUp 1 (some fill) [(1, F.FLUME_FL_CUR 15, 0x20000020)], 1, 15, fill, by decide +kernel⟩

/-- What the clauses of CanControlCommands ask for can be met, clause by clause. -/
theorem wit_CanControlCommands :
    (∃ (s : State) (d : CDie), s.runs d.val = true) ∧
    (∃ (s : State) (d : CDie) (n : Fin 4) (q : Byte), s.runs d.val = true ∧ s.flag d.val (F.CAN_CAN_STAT_OFF n.val) =
      true ∧ s.canLive d.val n.val = true ∧ s.get d.val (F.CAN_CAN_STAT_RECSEQ n.val) + q.toNat < 128) := by
  refine ⟨
    ⟨State.reset, 0, ?_⟩,
    ⟨canUp 0 [(1, F.CAN_CAN_STAT_OFF 3, 1), (1, F.CAN_CAN_STAT_RECSEQ 3, 127)], 1, 3, 0, ?_⟩⟩
  all_goals decide +kernel

/-- What the clauses of CanQueueCommands ask for can be met, clause by clause. -/
theorem wit_CanQueueCommands :
    (∃ (s : State) (d : CDie), s.runs d.val = true) ∧
    (∃ (s : State) (d : CDie) (n : Fin 4) (i : BitVec 6), s.runs d.val = true ∧ s.flag d.val F.LIB_TK_STAT_ARMED =
      false ∧ s.bitOf d.val F.SYS_BRST_CAN n.val = false ∧
      (let lev := s.get d.val (F.CAN_CAN_TEQST_LEVEL n.val);
      (let k := (i.toNat + 64 - s.get d.val (F.CAN_CAN_TEQST_RDIDX n.val)) % 64;
      k < lev))) ∧
    (∃ (s : State) (d : CDie) (n : Fin 4) (i : BitVec 6), s.runs d.val = true ∧ s.flag d.val F.LIB_TK_STAT_ARMED =
      false ∧ s.bitOf d.val F.SYS_BRST_CAN n.val = false ∧
      (let lev := s.get d.val (F.CAN_CAN_TEQST_LEVEL n.val);
      (let k := (i.toNat + 64 - s.get d.val (F.CAN_CAN_TEQST_RDIDX n.val)) % 64;
      lev ≤ k))) ∧
    (∃ (s : State) (d : CDie) (n : Fin 4) (k : Fin 2), s.runs d.val = true ∧ s.flag d.val F.LIB_TK_STAT_ARMED = false
      ∧ s.bitOf d.val F.SYS_BRST_CAN n.val = false ∧ s.bitOf d.val (F.CAN_CAN_MBCTRL_PEND n.val) k.val = false) ∧
    (∃ (s : State) (d : CDie) (n : Fin 4) (k : Fin 2), s.runs d.val = true ∧ s.flag d.val F.LIB_TK_STAT_ARMED = false
      ∧ s.bitOf d.val F.SYS_BRST_CAN n.val = false ∧ s.bitOf d.val (F.CAN_CAN_MBCTRL_PEND n.val) k.val = true) := by
  refine ⟨
    ⟨State.reset, 0, ?_⟩,
    ⟨w up [(1, F.CAN_CAN_TEQST_LEVEL 3, 1), (1, F.CAN_CAN_TEQST_RDIDX 3, 63)], 1, 3, 63#6, ?_⟩,
    ⟨up, 1, 3, 63#6, ?_⟩,
    ⟨up, 1, 3, 1, ?_⟩,
    ⟨w up [(1, F.CAN_CAN_MBCTRL_PEND 3, 2)], 1, 3, 1, ?_⟩⟩
  all_goals decide +kernel

/-- What the clauses of CanBusCommands ask for can be met, clause by clause. -/
theorem wit_CanBusCommands :
    (∃ (s : State) (d : CDie), s.runs d.val = true) ∧
    (∃ (s : State) (d : CDie) (n : Fin 4) (x : CanTx), s.runs d.val = true ∧ (s.can d.val n.val).tx = some x ∧
      s.canOnBus d.val n.val = true ∧ s.canMode d.val n.val ≠ CanMode.normal) ∧
    (∃ (s : State) (d : CDie) (n : Fin 4), s.runs d.val = true ∧ s.get d.val (F.CAN_CAN_STAT_ACTY n.val) ≠ 1) := by
  refine ⟨
    ⟨State.reset, 0, ?_⟩,
    ⟨modCan 1 3 (fun c => { c with tx := some ⟨1, 0, 0, [], 0, false⟩ }) (canUp 3 [(1, F.CAN_CAN_CTRL_MODE 3, 1)]), 1, 3, ⟨1, 0, 0, [], 0, false⟩, ?_⟩,
    ⟨canUp 2 [], 1, 3, ?_⟩⟩
  all_goals decide +kernel

/-- What AReceivedFrameIsStored asks for can be met. -/
theorem wit_AReceivedFrameIsStored :
    ∃ (s : State) (d : CDie) (n : Fin 4) (x : CanFrame), s.runs d.val = true ∧ s.canHears d.val n.val = true ∧
      s.canMode d.val n.val = 0 ∧ s.get d.val (F.CAN_CAN_STAT_ACTY n.val) = 2 ∧ (s.can d.val n.val).haltReq = false ∧
      s.get d.val (F.CAN_CAN_FLTCFG_USED n.val) = 0 ∧ s.get d.val (F.CAN_CAN_FLTCFG_NOMATCH n.val) = 1 ∧ s.get d.val
      (F.CAN_CAN_TTCFG_ROLE n.val) = 0 ∧ s.get d.val (F.CAN_CAN_ERRC_RXCNT n.val) = 0 ∧ s.get d.val
      (F.CAN_CAN_ERRC_TXCNT n.val) = 0 ∧ s.get d.val (F.CAN_CAN_STAT_WARN n.val) = 0 ∧ s.get d.val
      (F.CAN_CAN_STAT_PASSIVE n.val) = 0 ∧ x.ext = false ∧ x.rem = false ∧ x.fd = false ∧ (x.data.length = x.dlc.val
      ∧ x.dlc.val ≤ 8) ∧
      (let lev := s.get d.val (F.CAN_CAN_RQST_LEVEL n.val 0);
      lev < 384) :=
  ⟨canUp 2 [(1, F.CAN_CAN_FLTCFG_NOMATCH 3, 1), (1, F.CAN_CAN_RQST_LEVEL 3 0, 383)], 1, 3, { (default : CanFrame) with ext := false, rem := false, fd := false, dlc := 8, data := [1, 2, 3, 4, 5, 6, 7, 8] }, by decide +kernel⟩

/-- What the clauses of RecordAndFlushCommands ask for can be met, clause by clause. -/
theorem wit_RecordAndFlushCommands :
    (∃ (s : State) (d : CDie), s.runs d.val = true) ∧
    (∃ (s : State), s.runs 0 = true) ∧
    (∃ (s : State) (d : CDie), s.runs d.val = true ∧ s.flag d.val F.LIB_TK_STAT_ARMED = false ∧ s.flag d.val
      F.PROMPT_STAT_FLUSHING = true) ∧
    (∃ (s : State), s.runs 0 = true ∧ (s.c 0).prompt.saveAt + 24000000000 ≤ s.now 0 ∧ s.nvmWindow 0 = true) := by
  refine ⟨
    ⟨State.reset, 0, ?_⟩,
    ⟨State.reset, ?_⟩,
    ⟨w up [(1, F.PROMPT_STAT_FLUSHING, 1)], 1, ?_⟩,
    ⟨up.modSys 0 (fun y => { y with stage := 24000000000 }), ?_⟩⟩
  all_goals decide +kernel

/-- What AnEventGoesIntoTheRing asks for can be met. -/
theorem wit_AnEventGoesIntoTheRing :
    ∃ (s : State) (d : CDie) (src : DieIx) (code : BitVec 16), s.runs d.val = true ∧ codeKnown code.toNat = true ∧
      s.recordsFor d.val src.val = true ∧ mergeable code.toNat = false ∧ s.get d.val F.PROMPT_STAT_UNFL < 2048 ∧
      s.get d.val F.PROMPT_STAT_UNFL + 1 < s.get d.val F.PROMPT_FLTH :=
  ⟨w up [(0, F.PROMPT_FLTH, 2048), (0, F.PROMPT_STAT_UNFL, 2046)], 0, 7, 0x0001, by decide +kernel⟩

/-- What the clauses of FrameCommands ask for can be met, clause by clause. -/
theorem wit_FrameCommands :
    (∃ (s : State) (d : CDie), s.runs d.val = true) ∧
    (∃ (s : State), (∀ d < 2, s.boundaryDue d = false)) ∧
    (∃ (s : State), s.runs 0 = true ∧ s.fabric 0 = true ∧ s.flag 0 F.PROMPT_FCFG_SRC = true ∧ (s.can 0 (s.get 0
      F.PROMPT_FCFG_CAN)).refAt = s.now 0 + 1 ∧ (s.c 0).prompt.due = false ∧ tooSoon (s.now 0) (s.c
      0).prompt.lastTick = true) := by
  refine ⟨
    ⟨State.reset, 0, ?_⟩,
    ⟨State.reset, ?_⟩,
    ⟨modCan 0 0 (fun c => { c with refAt := 1 }) ((w up [(0, F.PROMPT_FCFG_SRC, 1)]).modPrompt 0 (fun p => { p with lastTick := 1 })), ?_⟩⟩
  all_goals decide +kernel

/-- What the clauses of UpdateCommands ask for can be met, clause by clause. -/
theorem wit_UpdateCommands :
    (∃ (s : State) (d : CDie), s.runs d.val = true) ∧
    (∃ (s : State) (d : CDie), s.runs d.val = true ∧ s.flag d.val F.LIB_TK_STAT_ARMED = false ∧ s.flag d.val
      F.NVM_ST_BUSY = true) ∧
    (∃ (s : State) (d : CDie), s.runs d.val = true ∧ (s.nvm d.val).busy = none) := by
  refine ⟨
    ⟨State.reset, 0, ?_⟩,
    ⟨w up [(1, F.NVM_ST_BUSY, 1)], 1, ?_⟩,
    ⟨up, 1, ?_⟩⟩
  all_goals decide +kernel

/-- What the clauses of RecoveryCommands ask for can be met, clause by clause. -/
theorem wit_RecoveryCommands :
    (∃ (s : State) (d : CDie), s.runs d.val = true) ∧
    (∃ (s : State) (d : CDie), s.runs d.val = true ∧ s.recovering d.val = false) ∧
    (∃ (s : State) (d : CDie), s.runs d.val = true ∧ s.recovering d.val = true) := by
  refine ⟨
    ⟨State.reset, 0, ?_⟩,
    ⟨up, 1, ?_⟩,
    ⟨w up [(1, F.SYS_DSTATE_STATE, Dev.recovery)], 1, ?_⟩⟩
  all_goals decide +kernel

/-- What the clauses of SecurityCommands ask for can be met, clause by clause. -/
theorem wit_SecurityCommands :
    (∃ (s : State) (d : CDie), s.runs d.val = true) ∧
    (∃ (s : State) (d : CDie), s.hasC d.val = true) ∧
    (∃ (s : State) (d : CDie), s.runs d.val = true ∧ s.flag d.val F.LIB_TK_STAT_ARMED = false ∧ s.lc d.val ≠ 2) ∧
    (∃ (s : State) (d : CDie), s.runs d.val = true ∧ s.flag d.val F.LIB_TK_STAT_ARMED = false ∧ s.lc d.val = 2 ∧
      s.flag d.val F.SEC_DBGST_LOCKED = true) ∧
    (∃ (s : State) (d : CDie), s.hasC d.val = true ∧ s.tapOpens d.val 0x03 = true) ∧
    (∃ (s : State) (d : CDie), s.hasC d.val = true ∧ s.tapOpens d.val 0x03 = false) := by
  refine ⟨
    ⟨State.reset, 0, ?_⟩,
    ⟨State.reset, 0, ?_⟩,
    ⟨w up [(1, F.SEC_LC_STATE, 4)], 1, ?_⟩,
    ⟨w up [(1, F.SEC_DBGST_LOCKED, 1)], 1, ?_⟩,
    ⟨State.reset, 1, ?_⟩,
    ⟨w up [(1, F.SEC_LC_STATE, 4)], 1, ?_⟩⟩
  all_goals decide +kernel


end Sys2Proof.Tests
end

section
/-! PROOFS. The statements of 01_architecture: the latched read of the stage time (R28) and the bus error of an unmapped
access (R32). -/

namespace Sys2Proof.Machine

/-! ### What a failed two-key sequence leaves unchanged -/

theorem refuseAt_c (i off : Nat) (s : State) (e : Nat) : (refuseAt i off s).c e = s.c e := by
  unfold refuseAt; split <;> simp

theorem refuseAt_mem (i off : Nat) (s : State) : (refuseAt i off s).mem = s.mem := by
  unfold refuseAt; split <;> simp

theorem State.sys_modLib (s : State) (d : Nat) (f : LibC → LibC) (e : Nat) :
    ((s.modLib d f).c e).sys = (s.c e).sys := by
  unfold State.modLib
  by_cases h : e = d
  · subst h; simp
  · rw [State.c_modC_other h]

theorem tkFail_sys (d code : Nat) (s : State) (e : Nat) : ((tkFail d code s).c e).sys = (s.c e).sys := by
  unfold tkFail
  dsimp only
  split <;> simp [refuseAt_c, State.modTk, State.sys_modLib]

theorem tkFail_mem (d code : Nat) (s : State) : (tkFail d code s).mem = s.mem := by
  unfold tkFail
  dsimp only
  split <;> simp [refuseAt_mem, State.modTk, State.modLib]

theorem tkTrap_sys (d : Nat) (m : Master) (s : State) (e : Nat) : ((tkTrap d m s).c e).sys = (s.c e).sys := by
  unfold tkTrap; split <;> simp [tkFail_sys]

theorem tkTrap_mem (d : Nat) (m : Master) (s : State) : (tkTrap d m s).mem = s.mem := by
  unfold tkTrap; split <;> simp [tkFail_mem]

/-! ### The bus error of a core -/

theorem busTrap_core_busErr (d : Nat) (k : Fin 4) (mm : Bool) (addr : Nat) (write : Bool) (s : State) :
    ((busTrap d (.core k mm) addr write s).c d).sys.busErr =
      (s.c d).sys.busErr.mod k.val (fun b => ⟨true, addr, write, b.count + 1⟩) := by
  simp [busTrap, tkTrap_sys, busError, State.modSys]

theorem busTrap_mem (d : Nat) (m : Master) (addr : Nat) (write : Bool) (s : State) :
    (busTrap d m addr write s).mem = s.mem := by
  rw [busTrap, tkTrap_mem]
  cases m <;> simp [busError, State.modSys]

/-! ### Which addresses are unmapped -/

theorem State.unmapped_of_outside {s : State} {a : Nat} (h : inRegion a = false) : s.unmapped a = true := by
  simp [State.unmapped, h]

theorem State.unmapped_of_window {s : State} {a i : Nat} (hw : windowDie a = some i)
    (hi : 8 ≤ i ∨ s.hasDie i = false) : s.unmapped a = true := by
  simp [State.unmapped, hw, hi]

theorem inRegion_false_iff {a : Nat} : inRegion a = false ↔
    (0x00040000 ≤ a ∧ a < 0x02000000) ∨ (0x02010000 ≤ a ∧ a < 0x0C000000) ∨ (0x10C00000 ≤ a ∧ a < 0x20000000) ∨
    (0x20600000 ≤ a ∧ a < 0x40000000) ∨ (0x400C0000 ≤ a ∧ a < 0x40100000) ∨ (0x402E0000 ≤ a ∧ a < 0x40300000) ∨
    (0x40310000 ≤ a ∧ a < 0x60000000) ∨ 0x68000000 ≤ a := by
  simp only [inRegion, busRegions, List.any_cons, List.any_nil, Bool.or_false, Bool.or_eq_false_iff,
    Bool.and_eq_false_iff, decide_eq_false_iff_not]
  omega

theorem windowDie_drvWindow {j a : Nat} (hj : j < 16) (lo : 0x40280000 + 0x4000 * j ≤ a)
    (hi : a < 0x40280000 + 0x4000 * (j + 1)) : windowDie a = some (dix j) := by
  have hd : (a - 0x40280000) / 0x4000 = j := by omega
  rw [windowDie, if_pos (by omega), hd]

theorem windowDie_peerWindow {i a : Nat} (hi : i < 8) (lo : 0x60000000 + 0x1000000 * i ≤ a)
    (hi' : a < 0x60000000 + 0x1000000 * (i + 1)) : windowDie a = some i := by
  have hd : (a - 0x60000000) / 0x1000000 = i := by omega
  rw [windowDie, if_neg (by omega), if_pos (by omega), hd]

theorem State.hasDie_dix (s : State) (k : Nat) : s.hasDie (dix k) = s.hasD k := by
  have h : ¬ dix k < 2 := by unfold dix; omega
  simp only [State.hasDie, if_neg h]
  simp [dix]

theorem State.unmapped_drvWindow {s : State} {j a : Nat} (hj : j < 16) (lo : 0x40280000 + 0x4000 * j ≤ a)
    (hi : a < 0x40280000 + 0x4000 * (j + 1)) (hD : s.hasD j = false) : s.unmapped a = true :=
  State.unmapped_of_window (windowDie_drvWindow hj lo hi) (.inr ((s.hasDie_dix j).trans hD))

theorem State.unmapped_peerWindow {s : State} {i a : Nat} (hi : i < 8) (lo : 0x60000000 + 0x1000000 * i ≤ a)
    (hi' : a < 0x60000000 + 0x1000000 * (i + 1)) (hI : s.hasDie i = false) : s.unmapped a = true :=
  State.unmapped_of_window (windowDie_peerWindow hi lo hi') (.inr hI)

theorem exec_unmappedAccess {s : State} {d : CDie} {addr : Word} (m : Master) (write : Bool)
    (hr : s.runs d.val = true) (hu : s.unmapped addr.toNat = true) :
    exec (.unmappedAccess d m addr write) s = .next (busTrap d.val m addr.toNat write s) := by
  show execUnmappedAccess d m addr write s = _
  rw [execUnmappedAccess, onC_next hr, if_pos hu]

/-- Settles O9: such an address is unmapped, and the trap of a core writes that core's bus-error record alone, whether or
not it also fails a two-key sequence. -/
theorem unmappedAccessesRaiseBusErrors : Obligations.UnmappedAccessesRaiseBusErrors := by
  unfold Obligations.UnmappedAccessesRaiseBusErrors
  intro s d k mm addr write hr a ha
  have hu : s.unmapped a = true := by
    simp only [← or_assoc] at ha
    rcases ha with (hout | ⟨j, hj, lo, hi, hD⟩) | ⟨i, hi, lo, hi', hI⟩
    · exact State.unmapped_of_outside (inRegion_false_iff.mpr (by simpa only [or_assoc] using hout))
    · exact State.unmapped_drvWindow hj lo hi hD
    · exact State.unmapped_peerWindow hi lo hi' hI
  refine ⟨_, exec_unmappedAccess _ _ hr hu, ?_, ?_, busTrap_mem ..⟩
  · rw [busTrap_core_busErr, Tab.at_mod_same]
  · intro j hj
    rw [busTrap_core_busErr, Tab.at_mod_other _ _ hj]

/-! ### The read of the stage time -/

/-- The state after core k of C die d has read SYS_STLO: bits 31:0 as its data, bits 63:32 latched for that core (R28). -/
def stloRead (d k : Nat) (s : State) : State :=
  s.modSys d (fun y =>
    { y with rdata := y.stage.extractLsb' 0 32, sthi := y.sthi.set k (y.stage.extractLsb' 32 32) })

theorem sys_stloRead (d k : Nat) (s : State) : ((stloRead d k s).c d).sys =
    { (s.c d).sys with
      rdata := (s.c d).sys.stage.extractLsb' 0 32
      sthi := (s.c d).sys.sthi.set k ((s.c d).sys.stage.extractLsb' 32 32) } := by
  simp [stloRead, State.modSys]

theorem exec_stageTimeRead {s : State} {d : CDie} (k : Fin 4) (mm : Bool) (hr : s.runs d.val = true) :
    exec (.stageTimeRead d (.core k mm)) s = .next (stloRead d.val k.val s) := by
  show execStageTimeRead d (.core k mm) s = _
  rw [execStageTimeRead, onC_next hr]
  simp [stloRead, State.modSys, State.modC, State.c, Tab.mod, Master.coreIx]

/-- The address of SYS_STHI is a register of the die's own map, in every part. -/
theorem State.unmapped_sthi (s : State) : s.unmapped 0x40000034 = false := by
  have hr : inRegion 0x40000034 = true := by decide
  have hw : windowDie 0x40000034 = none := by decide
  simp [State.unmapped, hr, hw]

/-- A read of SYS_STHI answers what is latched for the reading core. -/
theorem loadAt_sthi (d : Nat) (m : Master) (s : State) :
    (loadAt d m 0x40000034 s).1 = some ((s.c d).sys.sthi.at m.coreIx).toNat := by
  simp [loadAt, loadRaw, State.unmapped_sthi, mapLoad, drvAt, ownLoad]

theorem State.stage_extract_high (s : State) (d : Nat) :
    ((s.c d).sys.stage.extractLsb' 32 32).toNat = s.now d / 2 ^ 32 := by
  have hlt : s.now d < 2 ^ 64 := (s.c d).sys.stage.isLt
  rw [BitVec.extractLsb'_toNat, Nat.shiftRight_eq_div_pow]
  exact Nat.mod_eq_of_lt (Nat.div_lt_of_lt_mul hlt)

/-- Settles O7: SYS_STHI answers the latch of the reading core, and the read of SYS_STLO sets that one latch. -/
theorem stageTimeReadLatches : Obligations.StageTimeReadLatches := by
  unfold Obligations.StageTimeReadLatches
  intro s d k mm hr
  refine ⟨_, exec_stageTimeRead k mm hr, ?_, ?_, ?_, ?_, ?_⟩
  · rw [sys_stloRead]
  · rw [loadAt_sthi, sys_stloRead, Master.coreIx, Tab.at_set_same, State.stage_extract_high]
  · intro j hj b
    have hne : j.val ≠ k.val := Fin.val_ne_of_ne hj
    rw [loadAt_sthi, loadAt_sthi, sys_stloRead, Master.coreIx, Tab.at_set_other _ _ hne]
  · simp [stloRead, State.modSys]
  · simp [stloRead, State.modSys]

end Sys2Proof.Machine
end

section
/-! PROOFS. The statements of 18_prompt_book_statistics: the latched read of the operating time (R473) and a record in the
ring (R471, R474, R476). -/

namespace Sys2Proof.Machine

/-! ### Bytes written in a row -/

@[simp] theorem State.wrBytes_regs (s : State) (i a : Nat) (bs : List Nat) : (s.wrBytes i a bs).regs = s.regs := by
  induction bs generalizing s a with
  | nil => rfl
  | cons b bs ih => rw [State.wrBytes, ih, State.wrB_regs]

@[simp] theorem State.wrBytes_reg (s : State) (i a : Nat) (bs : List Nat) (j o : Nat) :
    (s.wrBytes i a bs).reg j o = s.reg j o := by
  simp only [State.reg, State.wrBytes_regs]

@[simp] theorem State.wrBytes_get (s : State) (i a : Nat) (bs : List Nat) (j : Nat) (g : Fld) :
    (s.wrBytes i a bs).get j g = s.get j g := by
  simp only [State.get, State.wrBytes_reg]

/-- A byte whose key is none of those written is as it was. -/
theorem State.rdB_wrBytes_other {s : State} {i a j x : Nat} {bs : List Nat}
    (h : ∀ k < bs.length, memKey j x ≠ memKey i (a + k)) : (s.wrBytes i a bs).rdB j x = s.rdB j x := by
  induction bs generalizing s a with
  | nil => rfl
  | cons b bs ih =>
    have hhead : memKey j x ≠ memKey i a := h 0 (by simp)
    have htail : ∀ k < bs.length, memKey j x ≠ memKey i (a + 1 + k) := fun k hk => by
      rw [Nat.add_assoc, Nat.add_comm 1 k]
      exact h (k + 1) (by simpa using hk)
    rw [State.wrBytes, ih htail, State.rdB_wrB_other hhead]

/-- Byte k of those written lies k places above the first. -/
theorem State.rdB_wrBytes_at {s : State} {i a k : Nat} {bs : List Nat} (hk : k < bs.length) :
    (s.wrBytes i a bs).rdB i (a + k) = bs[k] % 256 := by
  induction bs generalizing s a k with
  | nil => simp at hk
  | cons b bs ih =>
    cases k with
    | zero =>
      have hout : ∀ k < bs.length, memKey i (a + 0) ≠ memKey i (a + 1 + k) := fun k _ => by unfold memKey; omega
      rw [State.wrBytes, State.rdB_wrBytes_other hout]
      exact State.rdB_wrB_same s i a b
    | succ k =>
      rw [State.wrBytes, show a + (k + 1) = a + 1 + k by omega, ih (by simpa using hk), List.getElem_cons_succ]

/-- Bytes of memory read after a row of bytes was written over them: that part of the row. -/
theorem State.rdBytes_wrBytes {s : State} {i a k n : Nat} {bs : List Nat} (h : k + n ≤ bs.length) :
    (s.wrBytes i a bs).rdBytes i (a + k) n = ((bs.drop k).take n).map (· % 256) := by
  refine List.ext_getElem (by simp [State.rdBytes]; omega) (fun j hj _ => ?_)
  have hjn : j < n := by simpa [State.rdBytes] using hj
  simp only [State.rdBytes, List.getElem_map, List.getElem_range, List.getElem_take, List.getElem_drop]
  rw [Nat.add_assoc, State.rdB_wrBytes_at (by omega)]

/-- The little-endian number of n bytes that lies k places into a row of bytes. -/
def fieldAt (bs : List Nat) (k n : Nat) : Nat :=
  (((bs.drop k).take n).map (· % 256)).foldr (fun b acc => b + 256 * acc) 0

theorem State.rdLE_wrBytes {s : State} {i a k n : Nat} {bs : List Nat} (h : k + n ≤ bs.length) :
    (s.wrBytes i a bs).rdLE i (a + k) n = fieldAt bs k n := by
  rw [State.rdLE, State.rdBytes_wrBytes h, fieldAt]

theorem State.rdB_eq_rdLE (s : State) (i a : Nat) : s.rdB i a = s.rdLE i a 1 := by
  simp [State.rdLE, State.rdBytes]

theorem State.rdB_of_mem {s t : State} (h : t.mem = s.mem) (i a : Nat) : t.rdB i a = s.rdB i a := by
  simp only [State.rdB, h]

theorem State.rdLE_of_mem {s t : State} (h : t.mem = s.mem) (i a n : Nat) : t.rdLE i a n = s.rdLE i a n := by
  simp only [State.rdLE, State.rdBytes, State.rdB_of_mem h]

/-! ### A record in the ring -/

/-- Table 18-1: where each field of a record lies, and that it is little-endian. -/
theorem recordBytes_layout (t p f r : Nat) (e : Event) :
    let bs := recordBytes t p e f r
    fieldAt bs 0 5 = t % 2 ^ 40 ∧ fieldAt bs 5 3 = p % 2 ^ 24 ∧ fieldAt bs 8 2 = e.code % 2 ^ 16 ∧
      fieldAt bs 10 1 = e.source % 2 ^ 8 ∧ fieldAt bs 11 1 = e.inst % 2 ^ 8 ∧ fieldAt bs 12 1 = e.sev % 2 ^ 8 ∧
      fieldAt bs 13 1 = f % 2 ^ 8 ∧ fieldAt bs 14 2 = r % 2 ^ 16 ∧ fieldAt bs 16 4 = e.w0 % 2 ^ 32 ∧
      fieldAt bs 20 4 = e.w1 % 2 ^ 32 ∧ fieldAt bs 24 4 = e.w2 % 2 ^ 32 ∧ fieldAt bs 28 4 = e.w3 % 2 ^ 32 := by
  simp only [fieldAt, recordBytes, wordBytes, List.cons_append, List.nil_append, List.drop_succ_cons, List.drop_zero,
    List.take_succ_cons, List.take_zero, List.map_cons, List.map_nil, List.foldr_cons, List.foldr_nil]
  refine ⟨?_, ?_, ?_, ?_, ?_, ?_, ?_, ?_, ?_, ?_, ?_, ?_⟩ <;> omega

/-- The bytes that the record of an event has when C die d stores it now: LOST where records were lost, REPEAT 0. -/
def newRecord (d : Nat) (e : Event) (s : State) : List Nat :=
  recordBytes (s.opMs d) (s.get d F.PROMPT_PCYCLE) e (if (s.c d).prompt.lostNext then 8 else 0) 0

/-- The state after C die d has put the record of an event into its ring, before a full ring flushes. -/
def ringPut (d : Nat) (e : Event) (s : State) : State :=
  (((s.wrBytes d (ringAddr (s.get d F.PROMPT_RING_HEAD)) (newRecord d e s)).modPrompt d
    (fun p => { p with lostNext := false })).put d F.PROMPT_RING_HEAD ((s.get d F.PROMPT_RING_HEAD + 1) % 8192)).put d
    F.PROMPT_STAT_UNFL (s.get d F.PROMPT_STAT_UNFL + 1)

theorem ringAddr_head (d : Nat) (s : State) :
    ringAddr (s.get d F.PROMPT_RING_HEAD) = 0x205C0000 + 32 * s.get d F.PROMPT_RING_HEAD := by
  have hlt : s.get d F.PROMPT_RING_HEAD < 8192 := s.get_lt d F.PROMPT_RING_HEAD
  rw [ringAddr, Nat.mod_eq_of_lt hlt]

theorem ringPut_mem (d : Nat) (e : Event) (s : State) : (ringPut d e s).mem =
    (s.wrBytes d (0x205C0000 + 32 * s.get d F.PROMPT_RING_HEAD) (newRecord d e s)).mem := by
  simp [ringPut, State.modPrompt, ringAddr_head]

/-- A value that fits its field of the stored record is read back from there. -/
theorem ringPut_rdLE {d k n m v : Nat} {e : Event} {s : State} (hf : fieldAt (newRecord d e s) k n = v % m)
    (hk : k + n ≤ 32) (hv : v < m) :
    (ringPut d e s).rdLE d (0x205C0000 + 32 * s.get d F.PROMPT_RING_HEAD + k) n = v := by
  rw [State.rdLE_of_mem (ringPut_mem d e s), State.rdLE_wrBytes (by rwa [newRecord, recordBytes_length]), hf,
    Nat.mod_eq_of_lt hv]

theorem ringPut_rdB {d k m v : Nat} {e : Event} {s : State} (hf : fieldAt (newRecord d e s) k 1 = v % m)
    (hk : k + 1 ≤ 32) (hv : v < m) :
    (ringPut d e s).rdB d (0x205C0000 + 32 * s.get d F.PROMPT_RING_HEAD + k) = v :=
  (State.rdB_eq_rdLE ..).trans (ringPut_rdLE hf hk hv)

theorem ringPut_rdB_other {d j b : Nat} {s : State} (e : Event) (hb : b < 0x100000000)
    (h : j ≠ d ∨ b < 0x205C0000 + 32 * s.get d F.PROMPT_RING_HEAD ∨
      0x205C0000 + 32 * s.get d F.PROMPT_RING_HEAD + 32 ≤ b) : (ringPut d e s).rdB j b = s.rdB j b := by
  have hlt : s.get d F.PROMPT_RING_HEAD < 8192 := s.get_lt d F.PROMPT_RING_HEAD
  rw [State.rdB_of_mem (ringPut_mem d e s)]
  refine State.rdB_wrBytes_other (fun k hk => ?_)
  rw [newRecord, recordBytes_length] at hk
  unfold memKey
  omega

theorem ringPut_head (d : Nat) (e : Event) (s : State) :
    (ringPut d e s).get d F.PROMPT_RING_HEAD = (s.get d F.PROMPT_RING_HEAD + 1) % 8192 := by
  rw [ringPut, State.get_put_other (by decide) (by decide) (.inr (by decide)), State.get_put_same _ _ _ _ (by decide)]
  exact Nat.mod_mod _ _

theorem ringPut_unfl {d : Nat} {s : State} (e : Event) (h : s.get d F.PROMPT_STAT_UNFL < 2048) :
    (ringPut d e s).get d F.PROMPT_STAT_UNFL = s.get d F.PROMPT_STAT_UNFL + 1 := by
  rw [ringPut, State.get_put_same _ _ _ _ (by decide)]
  exact Nat.mod_eq_of_lt (show _ < 4096 by omega)

theorem ringPut_reg_other {d i o : Nat} (e : Event) (s : State) (ho : o < 0x1000000)
    (h : i ≠ d ∨ (o ≠ F.PROMPT_RING_HEAD.off ∧ o ≠ F.PROMPT_STAT_UNFL.off)) : (ringPut d e s).reg i o = s.reg i o := by
  rw [ringPut, State.reg_put_other (by decide) ho (h.imp id And.right),
    State.reg_put_other (by decide) ho (h.imp id And.left), State.modPrompt, State.modC_reg, State.wrBytes_reg]

/-- With room in the ring and the flush threshold not reached, a record is stored and nothing flushes (R476, R477). -/
theorem storeRecord_eq_ringPut {d : Nat} {s : State} (e : Event) (hroom : s.get d F.PROMPT_STAT_UNFL < 2048)
    (hth : s.get d F.PROMPT_STAT_UNFL + 1 < s.get d F.PROMPT_FLTH) : storeRecord d e false s = ringPut d e s := by
  have hflags : 2 * b2n false + 8 * b2n (s.c d).prompt.lostNext = if (s.c d).prompt.lostNext then 8 else 0 := by
    cases (s.c d).prompt.lostNext <;> rfl
  have hkept : (ringPut d e s).get d F.PROMPT_FLTH = s.get d F.PROMPT_FLTH := by
    unfold State.get
    rw [ringPut_reg_other e s (by decide) (.inr (by decide))]
  rw [storeRecord, if_neg (by omega)]
  dsimp only
  rw [hflags]
  exact if_neg (show ¬ (ringPut d e s).get d F.PROMPT_FLTH ≤ _ by omega)

theorem mergesInto_of_not_mergeable {d : Nat} {e : Event} (s : State) (h : mergeable e.code = false) :
    mergesInto s d e = false := by
  simp [mergesInto, h]

theorem recordEvent_eq_ringPut {d : Nat} {e : Event} {s : State} (hr : s.runs d = true)
    (hm : mergeable e.code = false) (hroom : s.get d F.PROMPT_STAT_UNFL < 2048)
    (hth : s.get d F.PROMPT_STAT_UNFL + 1 < s.get d F.PROMPT_FLTH) : recordEvent d e s = ringPut d e s := by
  rw [recordEvent, if_pos hr, mergesInto_of_not_mergeable s hm]
  exact storeRecord_eq_ringPut e hroom hth

/-- The event that RECORD_WRITE names by its operands. -/
def recordWriteEvent (src : DieIx) (blk : Fin 32) (code : BitVec 16) (inst : Byte) (sev : Fin 5) (w0 w1 w2 w3 : Word) :
    Event :=
  ⟨code.toNat, blk.val, src.val, inst.toNat, sev.val, w0.toNat, w1.toNat, w2.toNat, w3.toNat⟩

theorem recordWriteEvent_source (src : DieIx) (blk : Fin 32) (code : BitVec 16) (inst : Byte) (sev : Fin 5)
    (w0 w1 w2 w3 : Word) :
    (recordWriteEvent src blk code inst sev w0 w1 w2 w3).source = 8 * blk.val + src.val := by
  simp only [recordWriteEvent, Event.source]
  omega

theorem exec_recordWrite {s : State} {d : CDie} {src : DieIx} {code : BitVec 16} (blk : Fin 32) (inst : Byte)
    (sev : Fin 5) (w0 w1 w2 w3 : Word) (hr : s.runs d.val = true) (hk : codeKnown code.toNat = true)
    (hs : s.recordsFor d.val src.val = true) :
    exec (.recordWrite d src blk code inst sev w0 w1 w2 w3) s =
      .next (recordEvent d.val (recordWriteEvent src blk code inst sev w0 w1 w2 w3) s) := by
  show execRecordWrite d src blk code inst sev w0 w1 w2 w3 s = _
  rw [execRecordWrite, onC_next hr, hk, hs]
  rfl

theorem State.opMs_lt (s : State) (d : Nat) : s.opMs d < 2 ^ 40 := Nat.mod_lt _ (by decide)

/-- Settles O56: the event is put into the ring, and every field of its record is read back from the bytes stored. -/
theorem anEventGoesIntoTheRing : Obligations.AnEventGoesIntoTheRing := by
  unfold Obligations.AnEventGoesIntoTheRing
  intro s d src blk code inst sev w0 w1 w2 w3 hr hk hs hm hroom hth
  have hexec := exec_recordWrite blk inst sev w0 w1 w2 w3 hr hk hs
  rw [recordEvent_eq_ringPut hr hm hroom hth] at hexec
  obtain ⟨htime, hcycle, hcode, hsrc, hinst, hsev, hflags, hrep, hw0, hw1, hw2, hw3⟩ :=
    recordBytes_layout (s.opMs d.val) (s.get d.val F.PROMPT_PCYCLE) (if (s.c d.val).prompt.lostNext then 8 else 0) 0
      (recordWriteEvent src blk code inst sev w0 w1 w2 w3)
  rw [recordWriteEvent_source] at hsrc
  refine ⟨_, hexec, ?_, ?_, ?_, ?_, ?_, ?_, ?_, ?_, ?_, ?_, ?_, ?_, ringPut_head _ _ s, ringPut_unfl _ hroom,
    fun j b hb h => ringPut_rdB_other _ hb h, fun i o ho h => ringPut_reg_other _ s ho h⟩
  · exact ringPut_rdLE (k := 0) htime (by decide) (s.opMs_lt _)
  · exact ringPut_rdLE hcycle (by decide) (s.get_lt _ F.PROMPT_PCYCLE)
  · exact ringPut_rdLE hcode (by decide) code.isLt
  · exact ringPut_rdB hsrc (by decide) (by omega)
  · exact ringPut_rdB hinst (by decide) inst.isLt
  · exact ringPut_rdB hsev (by decide) (Nat.lt_trans sev.isLt (by decide))
  · exact ringPut_rdB hflags (by decide) (by split <;> decide)
  · exact ringPut_rdLE hrep (by decide) (by decide)
  · exact ringPut_rdLE hw0 (by decide) w0.isLt
  · exact ringPut_rdLE hw1 (by decide) w1.isLt
  · exact ringPut_rdLE hw2 (by decide) w2.isLt
  · exact ringPut_rdLE hw3 (by decide) w3.isLt

/-! ### The read of the operating time -/

theorem sys_optimeRead (d : Nat) (m : Master) (s : State) : ((optimeRead d m s).c d).sys =
    { (s.c d).sys with
      rdata := BitVec.ofNat 32 (s.opMs d)
      opthi := (s.c d).sys.opthi.set m.coreIx (BitVec.ofNat 32 (s.opMs d / 2 ^ 32)) } := by
  simp [optimeRead, State.modSys]

theorem exec_optimeRead {s : State} {d : CDie} (m : Master) (hr : s.runs d.val = true) :
    exec (.optimeRead d m) s = .next (optimeRead d.val m s) := by
  show execOptimeRead d m s = _
  rw [execOptimeRead, onC_next hr]

/-- The address of PROMPT_OPTHI is a register of the die's own map, in every part. -/
theorem State.unmapped_opthi (s : State) : s.unmapped 0x4005001C = false := by
  have hr : inRegion 0x4005001C = true := by decide
  have hw : windowDie 0x4005001C = none := by decide
  simp [State.unmapped, hr, hw]

/-- A read of PROMPT_OPTHI answers the eight bits latched for the reading core. -/
theorem loadAt_opthi (d : Nat) (m : Master) (s : State) :
    (loadAt d m 0x4005001C s).1 = some (((s.c d).sys.opthi.at m.coreIx).toNat % 256) := by
  simp [loadAt, loadRaw, State.unmapped_opthi, mapLoad, drvAt, ownLoad]

theorem State.opMs_high (s : State) (d : Nat) :
    (BitVec.ofNat 32 (s.opMs d / 2 ^ 32)).toNat % 256 = s.opMs d / 2 ^ 32 := by
  have hlt : s.opMs d / 2 ^ 32 < 256 := Nat.div_lt_of_lt_mul (s.opMs_lt d)
  rw [BitVec.toNat_ofNat, Nat.mod_eq_of_lt (show _ < 2 ^ 32 by omega), Nat.mod_eq_of_lt hlt]

/-- Settles O8: PROMPT_OPTHI answers the latch of the reading core, and the read of PROMPT_OPTLO sets that one latch. -/
theorem operatingTimeReadLatches : Obligations.OperatingTimeReadLatches := by
  unfold Obligations.OperatingTimeReadLatches
  intro s d k mm hr
  refine ⟨_, exec_optimeRead (.core k mm) hr, ?_, ?_, ?_, ?_, ?_⟩
  · rw [sys_optimeRead, BitVec.toNat_ofNat]
  · rw [loadAt_opthi, sys_optimeRead, Tab.at_set_same, State.opMs_high]
  · intro j hj b
    have hne : j.val ≠ k.val := Fin.val_ne_of_ne hj
    rw [loadAt_opthi, loadAt_opthi, sys_optimeRead, Master.coreIx, Master.coreIx, Tab.at_set_other _ _ hne]
  · simp [optimeRead, State.modSys]
  · simp [optimeRead, State.modSys]

end Sys2Proof.Machine
end

section
/-! PROOFS. The statements of 00_scope about a step: every command completes, every step keeps the canonical form, the part
and the queue, an empty queue is one tick, and the state after reset. -/

namespace Sys2Proof.Machine

/-! ### Every command keeps and completes -/

/-- A command keeps what its meaning keeps: one case per row of the table, each the lemma of its operation. -/
theorem exec_kept {z : State} (c : Instr) (s : State) (h : Kept z s) : OutKept z (exec c s) := by
  match c with
  | .registerWrite d m addr v => exact execRegisterWrite_kept d m addr v s h
  | .narrowOrMisalignedAccess d m addr size write => exact execNarrowOrMisalignedAccess_kept d m addr size write s h
  | .unmappedAccess d m addr write => exact execUnmappedAccess_kept d m addr write s h
  | .stageTimeRead d m => exact execStageTimeRead_kept d m s h
  | .msipWrite d k v => exact execMsipWrite_kept d k v s h
  | .machineTimerInterrupt d k => exact execMachineTimerInterrupt_kept d k s h
  | .suppliesInRange => exact execSuppliesInRange_kept s h
  | .supplyLow r => exact execSupplyLow_kept r s h
  | .supplyRecovered r => exact execSupplyRecovered_kept r s h
  | .clockLoss d ref => exact execClockLoss_kept d ref s h
  | .crystalReferenceOk d => exact execCrystalReferenceOk_kept d s h
  | .pllLock d => exact execPllLock_kept d s h
  | .resetNAssert low => exact execResetNAssert_kept low s h
  | .sysRstctrlPkg d m => exact execSysRstctrlPkg_kept d m s h
  | .sysRstctrlDie d m => exact execSysRstctrlDie_kept d m s h
  | .peerOrderedReset d => exact execPeerOrderedReset_kept d s h
  | .dDieReset k => exact execDDieReset_kept k s h
  | .blockResetWrite d v => exact execBlockResetWrite_kept d v s h
  | .resetRelease i anchor rcvyN romOk => exact execResetRelease_kept i anchor rcvyN romOk s h
  | .pfailRecognised => exact execPfailRecognised_kept s h
  | .pfailFall => exact execPfailFall_kept s h
  | .rollCallC1Answer ctl pos step => exact execRollCallC1Answer_kept ctl pos step s h
  | .dLinkTrainingStart => exact execDLinkTrainingStart_kept s h
  | .dDieAnswer k pos step drv => exact execDDieAnswer_kept k pos step drv s h
  | .answerWindowExpiry i => exact execAnswerWindowExpiry_kept i s h
  | .microcodeReadback k ok => exact execMicrocodeReadback_kept k ok s h
  | .timeAlignCheck => exact execTimeAlignCheck_kept s h
  | .versionWindowResolve peerOk => exact execVersionWindowResolve_kept peerOk s h
  | .thermalHoldRecheck => exact execThermalHoldRecheck_kept s h
  | .nvmTempHoldRecheck d => exact execNvmTempHoldRecheck_kept d s h
  | .readinessItemMet d item => exact execReadinessItemMet_kept d item s h
  | .libLoad d m => exact execLibLoad_kept d m s h
  | .libReload d m ax => exact execLibReload_kept d m ax s h
  | .libRollback d m => exact execLibRollback_kept d m s h
  | .libAccept d m => exact execLibAccept_kept d m s h
  | .libAbort d m => exact execLibAbort_kept d m s h
  | .libStoreUd d m => exact execLibStoreUd_kept d m s h
  | .libClearUd d m => exact execLibClearUd_kept d m s h
  | .libVerifyDone => exact execLibVerifyDone_kept s h
  | .libStoreDone => exact execLibStoreDone_kept s h
  | .libConfigApply => exact execLibConfigApply_kept s h
  | .reloadTransfer news => exact execReloadTransfer_kept news s h
  | .acceptWindowExpiry => exact execAcceptWindowExpiry_kept s h
  | .directoryWriteRetry => exact execDirectoryWriteRetry_kept s h
  | .libTkAddrWrite d m v => exact execLibTkAddrWrite_kept d m v s h
  | .libTkKeyWrite d m v => exact execLibTkKeyWrite_kept d m v s h
  | .twoKeyTargetWrite d m v => exact execTwoKeyTargetWrite_kept d m v s h
  | .twoKeyTimeout d => exact execTwoKeyTimeout_kept d s h
  | .flitReceive i n w => exact execFlitReceive_kept i n w s h
  | .nakReceive i n seq => exact execNakReceive_kept i n seq s h
  | .linkLost i n => exact execLinkLost_kept i n s h
  | .linkRetrained i n => exact execLinkRetrained_kept i n s h
  | .resetNoticeReceive k => exact execResetNoticeReceive_kept k s h
  | .remoteWrite d m addr v => exact execRemoteWrite_kept d m addr v s h
  | .remoteRead d k machine addr => exact execRemoteRead_kept d k machine addr s h
  | .remoteReadResponse d k machine crcOk => exact execRemoteReadResponse_kept d k machine crcOk s h
  | .remoteReadTimeout d k machine => exact execRemoteReadTimeout_kept d k machine s h
  | .timeLoad i n => exact execTimeLoad_kept i n s h
  | .timeSyncSend d => exact execTimeSyncSend_kept d s h
  | .timeSyncReceive i n t => exact execTimeSyncReceive_kept i n t s h
  | .handover d m k => exact execHandover_kept d m k s h
  | .take d m k => exact execTake_kept d m k s h
  | .hoOfferReceive d => exact execHoOfferReceive_kept d s h
  | .hoReadyReceive d => exact execHoReadyReceive_kept d s h
  | .hoReadyDeadline d => exact execHoReadyDeadline_kept d s h
  | .hoCommitReceive k => exact execHoCommitReceive_kept k s h
  | .handoverBoundary k => exact execHandoverBoundary_kept k s h
  | .hoDoneReceive d k => exact execHoDoneReceive_kept d k s h
  | .hoCancel d code => exact execHoCancel_kept d code s h
  | .hoCancelReceive d k => exact execHoCancelReceive_kept d k s h
  | .takeReceive d k => exact execTakeReceive_kept d k s h
  | .cueSourceEvent d src => exact execCueSourceEvent_kept d src s h
  | .cueArrival d dst late bad => exact execCueArrival_kept d dst late bad s h
  | .softwareCue d v => exact execSoftwareCue_kept d v s h
  | .adcSequenceStart d g q => exact execAdcSequenceStart_kept d g q s h
  | .adcSwtrigStop d g mask => exact execAdcSwtrigStop_kept d g mask s h
  | .adcStepSample d g q n => exact execAdcStepSample_kept d g q n s h
  | .adcConversionDone d g e u => exact execAdcConversionDone_kept d g e u s h
  | .adcBurstSample d g u => exact execAdcBurstSample_kept d g u s h
  | .adcFifoRead d g => exact execAdcFifoRead_kept d g s h
  | .adcResultRead d g e => exact execAdcResultRead_kept d g e s h
  | .shuntStart k => exact execShuntStart_kept k s h
  | .shuntConversionDone k c0 c1 c2 => exact execShuntConversionDone_kept k c0 c1 c2 s h
  | .voltageStart k auto => exact execVoltageStart_kept k auto s h
  | .voltageSetFlit k c0 c1 c2 => exact execVoltageSetFlit_kept k c0 c1 c2 s h
  | .shuntBurstModeWrite d k v => exact execShuntBurstModeWrite_kept d k v s h
  | .shuntFlitReceive d k => exact execShuntFlitReceive_kept d k s h
  | .shuntFifoRead d k => exact execShuntFifoRead_kept d k s h
  | .adcSelfCalibrationStart => exact execAdcSelfCalibrationStart_kept s h
  | .adcSelfCalibrationDone d fails dfails => exact execAdcSelfCalibrationDone_kept d fails dfails s h
  | .adcGctrlCal d => exact execAdcGctrlCal_kept d s h
  | .adcGctrlZcap d => exact execAdcGctrlZcap_kept d s h
  | .zcapAtStandby d => exact execZcapAtStandby_kept d s h
  | .zcapDeferredStart d a => exact execZcapDeferredStart_kept d a s h
  | .zcapDone d caps => exact execZcapDone_kept d caps s h
  | .rotationPoint d => exact execRotationPoint_kept d s h
  | .engineHandoverMove d => exact execEngineHandoverMove_kept d s h
  | .inServiceSlice d code work => exact execInServiceSlice_kept d code work s h
  | .fbEnable d n v => exact execFbEnable_kept d n v s h
  | .encoderEdge d n a b held => exact execEncoderEdge_kept d n a b held s h
  | .encoderIndex d n held => exact execEncoderIndex_kept d n held s h
  | .hallStateChange d n st held => exact execHallStateChange_kept d n st held s h
  | .excitationPeriodStart d n => exact execExcitationPeriodStart_kept d n s h
  | .observerUpdate d n sin cos => exact execObserverUpdate_kept d n sin cos s h
  | .serialFrameRequest d n ready => exact execSerialFrameRequest_kept d n ready s h
  | .serialFrameDone d n raw wait => exact execSerialFrameDone_kept d n raw wait s h
  | .positionLatch d n index => exact execPositionLatch_kept d n index s h
  | .latchStatusRead d n => exact execLatchStatusRead_kept d n s h
  | .positionRead d n m => exact execPositionRead_kept d n m s h
  | .fbFaultClear d n => exact execFbFaultClear_kept d n s h
  | .emuEnable d m v => exact execEmuEnable_kept d m v s h
  | .emuStep d m => exact execEmuStep_kept d m s h
  | .engineModeWrite d n v => exact execEngineModeWrite_kept d n v s h
  | .engineStart d n kind k ecc atStep => exact execEngineStart_kept d n kind k ecc atStep s h
  | .waitfResume d n => exact execWaitfResume_kept d n s h
  | .waitfTimeout d n => exact execWaitfTimeout_kept d n s h
  | .engineRunEnd d n => exact execEngineRunEnd_kept d n s h
  | .heldWriteApply d n => exact execHeldWriteApply_kept d n s h
  | .bankSwap d n => exact execBankSwap_kept d n s h
  | .channelSoftwareWrite d c v => exact execChannelSoftwareWrite_kept d c v s h
  | .mirrorChannelWrite d c v => exact execMirrorChannelWrite_kept d c v s h
  | .setpointWrite d k v => exact execSetpointWrite_kept d k v s h
  | .weirEvaluate d w => exact execWeirEvaluate_kept d w s h
  | .weirInputStale d w j => exact execWeirInputStale_kept d w j s h
  | .weirManualValueWrite d w v => exact execWeirManualValueWrite_kept d w v s h
  | .weirEnableWrite d w v => exact execWeirEnableWrite_kept d w v s h
  | .twinStart d t ecc atStep => exact execTwinStart_kept d t ecc atStep s h
  | .fieldStart d a => exact execFieldStart_kept d a s h
  | .fieldStop d a => exact execFieldStop_kept d a s h
  | .fieldDisable d a => exact execFieldDisable_kept d a s h
  | .fieldBadCmd d a op => exact execFieldBadCmd_kept d a op s h
  | .spsetWrite d a v => exact execSpsetWrite_kept d a v s h
  | .catchDone d a => exact execCatchDone_kept d a s h
  | .catchNoVoltage d a => exact execCatchNoVoltage_kept d a s h
  | .alignDone d a => exact execAlignDone_kept d a s h
  | .polarityTest d a => exact execPolarityTest_kept d a s h
  | .stopComplete d a => exact execStopComplete_kept d a s h
  | .reversalDone d a => exact execReversalDone_kept d a s h
  | .reversalTimeout d a => exact execReversalTimeout_kept d a s h
  | .gridLock d a => exact execGridLock_kept d a s h
  | .gridLoss d a => exact execGridLoss_kept d a s h
  | .batteryTempStale d b => exact execBatteryTempStale_kept d b s h
  | .busBatteryWrite d m b j v => exact execBusBatteryWrite_kept d m b j v s h
  | .loadGroupEnable d g v => exact execLoadGroupEnable_kept d g v s h
  | .loadGroupStart d g => exact execLoadGroupStart_kept d g s h
  | .groupBoundary d g => exact execGroupBoundary_kept d g s h
  | .syncCue d k => exact execSyncCue_kept d k s h
  | .loadallArm d g => exact execLoadallArm_kept d g s h
  | .axisEnable d a => exact execAxisEnable_kept d a s h
  | .axisDisable d a => exact execAxisDisable_kept d a s h
  | .tripAssert d n level held => exact execTripAssert_kept d n level held s h
  | .tripInactive d n level held => exact execTripInactive_kept d n level held s h
  | .tripClear d v => exact execTripClear_kept d v s h
  | .tripBlankingEnd d n => exact execTripBlankingEnd_kept d n s h
  | .pwmLineRise d k c gate => exact execPwmLineRise_kept d k c gate s h
  | .pwmLineFall d k c isns toff tsw => exact execPwmLineFall_kept d k c isns toff tsw s h
  | .tcapArm k => exact execTcapArm_kept k s h
  | .telmaxRead d k c => exact execTelmaxRead_kept d k c s h
  | .levelWrite d k c v vdrv vneg => exact execLevelWrite_kept d k c v vdrv vneg s h
  | .floatingRailCharged k leg => exact execFloatingRailCharged_kept k leg s h
  | .lockoutEntry k rail => exact execLockoutEntry_kept k rail s h
  | .lockoutRelease k => exact execLockoutRelease_kept k s h
  | .scDetection k c cur held => exact execScDetection_kept k c cur held s h
  | .shuntDetection k leg mv held => exact execShuntDetection_kept k leg mv held s h
  | .softOffEnd k c peak => exact execSoftOffEnd_kept k c peak s h
  | .shootAttempt k leg => exact execShootAttempt_kept k leg s h
  | .gateSenseHold k c kind => exact execGateSenseHold_kept k c kind s h
  | .adtEarlyRelease k c => exact execAdtEarlyRelease_kept k c s h
  | .ucodeCommit d k v => exact execUcodeCommit_kept d k v s h
  | .ucodeBankSwitch k => exact execUcodeBankSwitch_kept k s h
  | .sequencerEntry k e => exact execSequencerEntry_kept k e s h
  | .stoTorqueOff k a b held => exact execStoTorqueOff_kept k a b held s h
  | .stoRun k a b held => exact execStoRun_kept k a b held s h
  | .stoDiscrepancy k => exact execStoDiscrepancy_kept k s h
  | .sluiceActive k x n => exact execSluiceActive_kept k x n s h
  | .sluiceClear k x n => exact execSluiceClear_kept k x n s h
  | .fclrSc d m k ch => exact execFclrSc_kept d m k ch s h
  | .fclrShunt d m k legs => exact execFclrShunt_kept d m k legs s h
  | .fclrShoot d m k legs => exact execFclrShoot_kept d m k legs s h
  | .fclrStoDisc d m k => exact execFclrStoDisc_kept d m k s h
  | .fclrGstuck d m k legs => exact execFclrGstuck_kept d m k legs s h
  | .statusFlitReceive k => exact execStatusFlitReceive_kept k s h
  | .vdcLoss d b => exact execVdcLoss_kept d b s h
  | .vdcPlausibility d b => exact execVdcPlausibility_kept d b s h
  | .chopperFault d b => exact execChopperFault_kept d b s h
  | .curtainEntry d a j => exact execCurtainEntry_kept d a j s h
  | .curtainRuleEvaluate d a => exact execCurtainRuleEvaluate_kept d a s h
  | .shortSideSwitch d a => exact execShortSideSwitch_kept d a s h
  | .safeReqWrite d v => exact execSafeReqWrite_kept d v s h
  | .safeClrAx d m axes => exact execSafeClrAx_kept d m axes s h
  | .safeClrPkg d m axes => exact execSafeClrPkg_kept d m axes s h
  | .packageCurtain d => exact execPackageCurtain_kept d s h
  | .peerCurtainReceive d => exact execPeerCurtainReceive_kept d s h
  | .dischargeResistor d m b => exact execDischargeResistor_kept d m b s h
  | .dischargeWinding d m b a => exact execDischargeWinding_kept d m b a s h
  | .dischargeStop d m b => exact execDischargeStop_kept d m b s h
  | .dischargeVendReached d b => exact execDischargeVendReached_kept d b s h
  | .dischargeTimeout d b => exact execDischargeTimeout_kept d b s h
  | .dischargeOvercurrent d b => exact execDischargeOvercurrent_kept d b s h
  | .keepAutoDischarge k => exact execKeepAutoDischarge_kept k s h
  | .tmonCheck d a emf spd ang => exact execTmonCheck_kept d a emf spd ang s h
  | .tmonZeroCheck d a => exact execTmonZeroCheck_kept d a s h
  | .tmonViolClear d a => exact execTmonViolClear_kept d a s h
  | .tmonEnable d a v => exact execTmonEnable_kept d a v s h
  | .replicatedRead d core machine addr csr data lag => exact execReplicatedRead_kept d core machine addr csr data lag s h
  | .trailingRead d p addr lag disagree ecc => exact execTrailingRead_kept d p addr lag disagree ecc s h
  | .interruptAccept d core kind r trailing => exact execInterruptAccept_kept d core kind r trailing s h
  | .protectedStore d core machine addr data be disagree ecc atomic => exact execProtectedStore_kept d core machine addr data be disagree ecc atomic s h
  | .protectedStoreTimeout d p => exact execProtectedStoreTimeout_kept d p s h
  | .checkpointWrite d core id full ctx xMiss yMiss disagree ecc => exact execCheckpointWrite_kept d core id full ctx xMiss yMiss disagree ecc s h
  | .checkpointTimeout d p => exact execCheckpointTimeout_kept d p s h
  | .checkpointMiss d p => exact execCheckpointMiss_kept d p s h
  | .resyncGo d m p lines => exact execResyncGo_kept d m p lines s h
  | .debugAttach d core => exact execDebugAttach_kept d core s h
  | .faultLatch d g i act => exact execFaultLatch_kept d g i act s h
  | .faultDeferExpiry d g => exact execFaultDeferExpiry_kept d g s h
  | .faultClear d m v => exact execFaultClear_kept d m v s h
  | .faultInject d m v => exact execFaultInject_kept d m v s h
  | .softwareFaultReport d v => exact execSoftwareFaultReport_kept d v s h
  | .plicClaim d core => exact execPlicClaim_kept d core s h
  | .plicComplete d ctx i => exact execPlicComplete_kept d ctx i s h
  | .bistStart => exact execBistStart_kept s h
  | .bistSliceDone i code units => exact execBistSliceDone_kept i code units s h
  | .bistSliceTimeout i => exact execBistSliceTimeout_kept i s h
  | .bistRequest d v => exact execBistRequest_kept d v s h
  | .thermalSample i vals => exact execThermalSample_kept i vals s h
  | .hwShutdownLocal k => exact execHwShutdownLocal_kept k s h
  | .tmodSample k mv => exact execTmodSample_kept k mv s h
  | .shutdownRecordWrite d => exact execShutdownRecordWrite_kept d s h
  | .thermalAck d m => exact execThermalAck_kept d m s h
  | .flumeStart d n => exact execFlumeStart_kept d n s h
  | .flumeAbort d n written accepted => exact execFlumeAbort_kept d n written accepted s h
  | .flumeDoorbell d n => exact execFlumeDoorbell_kept d n s h
  | .descriptorFetch d n ecc => exact execDescriptorFetch_kept d n ecc s h
  | .descriptorComplete d n => exact execDescriptorComplete_kept d n s h
  | .descriptorError d n written => exact execDescriptorError_kept d n written s h
  | .canHalt d n => exact execCanHalt_kept d n s h
  | .canStart d n bits => exact execCanStart_kept d n bits s h
  | .canBitTimingWrite d n data v => exact execCanBitTimingWrite_kept d n data v s h
  | .canFrameReceive d n frame => exact execCanFrameReceive_kept d n frame s h
  | .rxFifoRelease d n m i => exact execRxFifoRelease_kept d n m i s h
  | .txFifoQueue d n => exact execTxFifoQueue_kept d n s h
  | .mailboxRequest d n req => exact execMailboxRequest_kept d n req s h
  | .txCancel d n bits won => exact execTxCancel_kept d n bits won s h
  | .canStartOfFrame d n lost meas => exact execCanStartOfFrame_kept d n lost meas s h
  | .canFrameSent d n => exact execCanFrameSent_kept d n s h
  | .canAckError d n => exact execCanAckError_kept d n s h
  | .canErrorDetected d n code data weigh => exact execCanErrorDetected_kept d n code data weigh s h
  | .canBusOn d n seqs => exact execCanBusOn_kept d n seqs s h
  | .txEventRelease d n i => exact execTxEventRelease_kept d n i s h
  | .ttTrigger d n i => exact execTtTrigger_kept d n i s h
  | .ardCandidateWindow d n => exact execArdCandidateWindow_kept d n s h
  | .partnerCheck d n => exact execPartnerCheck_kept d n s h
  | .partnerTimeoutClear d n f => exact execPartnerTimeoutClear_kept d n f s h
  | .canErrorCountRead d n => exact execCanErrorCountRead_kept d n s h
  | .recordWrite d src blk code inst sev w0 w1 w2 w3 => exact execRecordWrite_kept d src blk code inst sev w0 w1 w2 w3 s h
  | .flushStart d => exact execFlushStart_kept d s h
  | .promptCtrlFlush d v => exact execPromptCtrlFlush_kept d v s h
  | .flushDone d => exact execFlushDone_kept d s h
  | .flushBlockedRetry d => exact execFlushBlockedRetry_kept d s h
  | .lastGaspFull d => exact execLastGaspFull_kept d s h
  | .promptClr d m => exact execPromptClr_kept d m s h
  | .softwareRecord d v => exact execSoftwareRecord_kept d v s h
  | .optimeRead d m => exact execOptimeRead_kept d m s h
  | .optimeSave => exact execOptimeSave_kept s h
  | .frameTick d dropped => exact execFrameTick_kept d dropped s h
  | .frameRefTimeout dropped => exact execFrameRefTimeout_kept dropped s h
  | .frameBoundary => exact execFrameBoundary_kept s h
  | .nvmUpdateOpen d => exact execNvmUpdateOpen_kept d s h
  | .nvmUpdateChunk d i => exact execNvmUpdateChunk_kept d i s h
  | .nvmUpdateResume d => exact execNvmUpdateResume_kept d s h
  | .nvmUpdateAbort d => exact execNvmUpdateAbort_kept d s h
  | .nvmUpdateArm d m => exact execNvmUpdateArm_kept d m s h
  | .nvmCommandDone d bad words => exact execNvmCommandDone_kept d bad words s h
  | .copyAtStart d => exact execCopyAtStart_kept d s h
  | .copyUnitDone d => exact execCopyUnitDone_kept d s h
  | .recoveryEntry d => exact execRecoveryEntry_kept d s h
  | .recoveryIdentify d => exact execRecoveryIdentify_kept d s h
  | .recoveryOpen d manifest => exact execRecoveryOpen_kept d manifest s h
  | .recoveryChunk d i bytes => exact execRecoveryChunk_kept d i bytes s h
  | .recoveryStatus d => exact execRecoveryStatus_kept d s h
  | .recoveryInstall d => exact execRecoveryInstall_kept d s h
  | .recoveryReset d => exact execRecoveryReset_kept d s h
  | .settingsWrite d => exact execSettingsWrite_kept d s h
  | .settingsCommit d => exact execSettingsCommit_kept d s h
  | .secRevoke d m slot => exact execSecRevoke_kept d m slot s h
  | .secLccmd d m target => exact execSecLccmd_kept d m target s h
  | .keyProgram d slot use_ data => exact execKeyProgram_kept d slot use_ data s h
  | .debugAuth d => exact execDebugAuth_kept d s h
  | .idcode d => exact execIdcode_kept d s h
  | .samplePreload d cells => exact execSamplePreload_kept d cells s h
  | .extest d => exact execExtest_kept d s h
  | .prov d target => exact execProv_kept d target s h
  | .debug d => exact execDebug_kept d s h
  | .auth d => exact execAuth_kept d s h
  | .scan d => exact execScan_kept d s h
  | .bypass d => exact execBypass_kept d s h
  | .effectiveSetpointUpdate d => exact execEffectiveSetpointUpdate_kept d s h

theorem execSupplyLow_completes (r : Rail) (s : State) : ∃ t, execSupplyLow r s = .next t := by
  cases r <;> exact ⟨_, rfl⟩

theorem execSupplyRecovered_completes (r : Rail) (s : State) : ∃ t, execSupplyRecovered r s = .next t := by
  cases r <;> exact ⟨_, rfl⟩

theorem execResetRelease_completes (i : DieIx) (anchor rcvyN romOk : Bool) (s : State) :
    ∃ t, execResetRelease i anchor rcvyN romOk s = .next t := by
  unfold execResetRelease
  split <;> exact ⟨_, rfl⟩

theorem execThermalSample_completes (i : DieIx) (vals : Readings) (s : State) :
    ∃ t, execThermalSample i vals s = .next t := by
  unfold execThermalSample
  split <;> exact ⟨_, rfl⟩

/-- Every meaning answers a next state; the four that look at an operand first do so in each of its cases. -/
theorem exec_completes (c : Instr) (s : State) : ∃ t, exec c s = .next t := by
  cases c
  case supplyLow r => exact execSupplyLow_completes r s
  case supplyRecovered r => exact execSupplyRecovered_completes r s
  case resetRelease i anchor rcvyN romOk => exact execResetRelease_completes i anchor rcvyN romOk s
  case thermalSample i vals => exact execThermalSample_completes i vals s
  all_goals exact ⟨_, rfl⟩

/-- Settles O3: a command completes, and its answer keeps the part and the queue of the state it is run on. -/
theorem everyCommandCompletes : Obligations.EveryCommandCompletes := by
  unfold Obligations.EveryCommandCompletes
  intro c s
  obtain ⟨t, ht⟩ := exec_completes c s
  have hk : Kept s t := exec_kept c s (kept_self s) t ht
  exact ⟨t, ht, hk.part, hk.pending⟩

/-! ### Every step keeps the state -/

theorem State.wf_iff (s : State) : s.wf = true ↔ s.tables = true ∧ s.ld = none := by
  simp [State.wf]

theorem Kept.wf {z s : State} (h : Kept z s) (hz : z.wf = true) : s.wf = true := by
  obtain ⟨htables, hld⟩ := z.wf_iff.mp hz
  exact s.wf_iff.mpr ⟨h.tables htables, h.ld hld⟩

theorem step_of_nil {s : State} (h : s.pending = []) : step s = .next (tick s) := by
  simp only [step, h]

theorem step_of_cons {s : State} {c : Instr} {cs : List Instr} (h : s.pending = c :: cs) :
    step s = exec c { s with pending := cs } := by
  simp only [step, h]

/-- Settles O4: the step is a tick or the front command on the rest of the queue, and both keep. -/
theorem everyStepKeepsTheState : Obligations.EveryStepKeepsTheState := by
  unfold Obligations.EveryStepKeepsTheState
  intro s t hwf hstep
  match hq : s.pending with
  | [] =>
    rw [step_of_nil hq] at hstep
    cases hstep
    have hk : Kept s (tick s) := tick_kept s (kept_self s)
    exact ⟨hk.wf hwf, hk.part, hk.pending.trans hq⟩
  | c :: cs =>
    rw [step_of_cons hq] at hstep
    have hk : Kept { s with pending := cs } t := exec_kept c _ (kept_self _) t hstep
    exact ⟨hk.wf hwf, hk.part, hk.pending⟩

/-- Settles O1. -/
theorem stepRunsFrontCommand : Obligations.StepRunsFrontCommand := by
  unfold Obligations.StepRunsFrontCommand
  intro c s
  exact step_of_cons rfl

/-! ### A tick of dies that nothing but their ROM runs -/

theorem overL_id {xs : List Nat} {f : Nat → State → State} {s : State} (h : ∀ i ∈ xs, f i s = s) : overL xs f s = s := by
  induction xs with
  | nil => rfl
  | cons i xs ih =>
    rw [overL_cons, h i (by simp)]
    exact ih (fun j hj => h j (by simp [hj]))

theorem overN_id {n : Nat} {f : Nat → State → State} {s : State} (h : ∀ i < n, f i s = s) : overN n f s = s :=
  overL_id (fun i hi => h i (List.mem_range.mp hi))

theorem overN_two (f : Nat → State → State) (s : State) : overN 2 f s = f 1 (f 0 s) := rfl

theorem tickD_of_not_runsD {k : Nat} {s : State} (h : s.runsD k = false) : tickD k s = s := by
  simp [tickD, h]

/-- A C die of the part that is out of reset. -/
def State.awake (s : State) (d : Nat) : Bool := s.hasC d && !(s.c d).sys.inReset

/-- One fabric cycle of a C die that only counts: its operating time and its stage time rise. -/
def countsUp (d : Nat) (s : State) : State :=
  (s.modSys d (fun y => { y with opCounts := y.opCounts + 1 })).modSys d (fun y => { y with stage := y.stage + 1 })

theorem countsUp_same (d : Nat) (s : State) : (countsUp d s).c d =
    { s.c d with sys := { (s.c d).sys with stage := (s.c d).sys.stage + 1, opCounts := (s.c d).sys.opCounts + 1 } } := by
  simp [countsUp, State.modSys]

theorem countsUp_other {d e : Nat} (h : e ≠ d) (s : State) : (countsUp d s).c e = s.c e := by
  rw [countsUp, State.modSys, State.c_modC_other h, State.modSys, State.c_modC_other h]

/-- A die out of reset that its ROM holds on its fabric clock. -/
def State.heldIfAwake (s : State) (d : Nat) : Prop := s.awake d = true → s.romHeld d = true ∧ s.fabric d = true

/-- A die that its ROM holds only counts (R85, R87). -/
theorem tickC_of_held {d : Nat} {s : State} (h : s.heldIfAwake d) :
    tickC d s = if s.awake d = true then countsUp d s else s := by
  unfold State.heldIfAwake at h
  by_cases ha : s.awake d = true
  · obtain ⟨hrom, hfab⟩ := h ha
    rw [if_pos ha]
    unfold State.awake at ha
    simp only [State.romHeld, State.fabric, Bool.not_eq_true', State.flag_false] at hrom hfab
    simp [tickC, ha, countsUp, State.fabric, State.flag, State.romHeld, State.modSys, hrom, hfab]
  · rw [if_neg ha]
    unfold State.awake at ha
    simp [tickC, ha]

/-- t is s after a tick that lets C dies only count: nothing else moved. -/
structure OnlyCounted (s t : State) : Prop where
  part : t.part = s.part
  pending : t.pending = s.pending
  pkg : t.pkg = s.pkg
  regs : t.regs = s.regs
  mem : t.mem = s.mem
  ddie : t.ddie = s.ddie

theorem tickC_onlyCounted {d : Nat} {s : State} (h : s.heldIfAwake d) : OnlyCounted s (tickC d s) := by
  rw [tickC_of_held h]
  split
  · constructor <;> simp [countsUp, State.modSys]
  · constructor <;> rfl

theorem tickC_c_other {d e : Nat} {s : State} (h : s.heldIfAwake d) (he : e ≠ d) : (tickC d s).c e = s.c e := by
  rw [tickC_of_held h]
  split
  · exact countsUp_other he s
  · rfl

theorem tickC_counts {d : Nat} {s : State} (h : s.heldIfAwake d) (ha : s.awake d = true) :
    ((tickC d s).c d).sys.stage = (s.c d).sys.stage + 1 ∧
      ((tickC d s).c d).sys.opCounts = (s.c d).sys.opCounts + 1 := by
  rw [tickC_of_held h, if_pos ha, countsUp_same]
  exact ⟨rfl, rfl⟩

theorem State.awake_congr {s t : State} {d : Nat} (hp : t.part = s.part) (hc : t.c d = s.c d) :
    t.awake d = s.awake d := by
  simp only [State.awake, State.hasC, hp, hc]

theorem State.heldIfAwake_congr {s t : State} {d : Nat} (h : OnlyCounted s t) (hc : t.c d = s.c d)
    (hs : s.heldIfAwake d) : t.heldIfAwake d := by
  have hrom : t.romHeld d = s.romHeld d := by simp only [State.romHeld, h.pkg, hc]
  have hfab : t.fabric d = s.fabric d := by simp only [State.fabric, State.flag, State.get, State.reg, h.regs]
  rw [State.heldIfAwake, State.awake_congr h.part hc, hrom, hfab]
  exact hs

/-- Settles O2: with no D die running the tick is that of C0, then that of C1, and each only counts. -/
theorem idleStepIsATick : Obligations.IdleStepIsATick := by
  unfold Obligations.IdleStepIsATick
  refine ⟨fun s hq => step_of_nil hq, fun s hq hD hC => ?_⟩
  have held : ∀ d < 2, s.heldIfAwake d := fun d hd ha => by
    simp only [State.awake, Bool.and_eq_true, Bool.not_eq_true'] at ha
    exact hC d hd ha.1 ha.2
  have h0 : s.heldIfAwake 0 := held 0 (by decide)
  have first : OnlyCounted s (tickC 0 s) := tickC_onlyCounted h0
  have c1 : (tickC 0 s).c 1 = s.c 1 := tickC_c_other h0 (by decide)
  have h1 : (tickC 0 s).heldIfAwake 1 := State.heldIfAwake_congr first c1 (held 1 (by decide))
  have second : OnlyCounted (tickC 0 s) (tickC 1 (tickC 0 s)) := tickC_onlyCounted h1
  have c0 : (tickC 1 (tickC 0 s)).c 0 = (tickC 0 s).c 0 := tickC_c_other h1 (by decide)
  have htick : tick s = tickC 1 (tickC 0 s) := by
    rw [tick, overN_two]
    refine overN_id (fun k hk => tickD_of_not_runsD ?_)
    rw [← hD k hk]
    simp only [State.runsD, State.hasD, State.dd, second.part, first.part, second.ddie, first.ddie]
  refine ⟨tickC 1 (tickC 0 s), (step_of_nil hq).trans (congrArg _ htick), second.pending.trans (first.pending.trans hq),
    second.part.trans first.part, second.regs.trans first.regs, second.mem.trans first.mem, fun d hd hc hr => ?_⟩
  have ha : s.awake d = true := by simp [State.awake, hc, hr]
  match d, hd with
  | 0, _ => rw [c0]; exact tickC_counts h0 ha
  | 1, _ =>
    rw [← c1]
    exact tickC_counts h1 ((State.awake_congr first.part c1).trans ha)

/-! ### The state after reset -/

/-- Settles O5: the five words listed at reset stand in order, each apart from its Reset column. -/
theorem resetIsCanonical : Obligations.ResetIsCanonical := by
  unfold Obligations.ResetIsCanonical
  exact ⟨by decide, rfl, rfl⟩

theorem State.reset_reg_listed : State.reset.reg 0 0x4 = 1 ∧ State.reset.reg 1 0x4 = 1 ∧
    State.reset.reg 0 0x7000C = 0x86 ∧ State.reset.reg 1 0x7000C = 0x86 := by
  decide

theorem State.reset_reg_unlisted {i o : Nat} (ho : o < 0x1000000)
    (h : (i, o) ∉ [(0, 0x4), (0, 0x50020), (0, 0x7000C), (1, 0x4), (1, 0x7000C)]) :
    State.reset.reg i o = resetWord (regKey i o) := by
  simp only [List.mem_cons, Prod.mk.injEq, List.not_mem_nil, or_false, not_or] at h
  simp only [State.reg, State.reset, Tab.read, Tab.find, regKey]
  repeat rw [if_neg (by omega)]
  rfl

theorem resetWord_eq {key i o : Nat} (hi : key / 0x1000000 = i) (ho : key % 0x1000000 = o) : resetWord key =
    match rowAt i o with
    | some r => BitVec.ofNat 32 (r.reset + resetExtra i o)
    | none => 0 := by
  subst hi ho
  rfl

/-- Settles O6: a register that State.reset does not list reads its Reset column; those it lists are read off. -/
theorem resetRegistersHoldTheirResetValues : Obligations.ResetRegistersHoldTheirResetValues := by
  unfold Obligations.ResetRegistersHoldTheirResetValues
  refine ⟨fun i o _ ho h => ?_, fun d hd => ?_⟩
  · have hi : regKey i o / 0x1000000 = i := by unfold regKey; omega
    have hlow : regKey i o % 0x1000000 = o := by unfold regKey; omega
    exact (State.reset_reg_unlisted ho h).trans (resetWord_eq hi hlow)
  · obtain ⟨cause0, cause1, hw0, hw1⟩ := State.reset_reg_listed
    match d, hd with
    | 0, _ => exact ⟨congrArg BitVec.toNat cause0, congrArg (Fld.ofWord _) hw0, rfl⟩
    | 1, _ => exact ⟨congrArg BitVec.toNat cause1, congrArg (Fld.ofWord _) hw1, rfl⟩

end Sys2Proof.Machine
end

section
/-! PROOFS. The statements of 01_architecture about stores: SRAM (Table 1-5), plain writes by access code (R8) and the writes
that only the safety master completes (R128, R129). -/

namespace Sys2Proof.Machine

/-! ### A store with no two-key sequence armed -/

theorem State.tkReady_of_unarmed {s : State} {d : Nat} (h : s.flag d F.LIB_TK_STAT_ARMED = false) (addr : Nat) :
    s.tkReady d addr = false := by
  simp [State.tkReady, h]

theorem tkDisturb_of_unarmed {s : State} {d : Nat} (h : s.flag d F.LIB_TK_STAT_ARMED = false) (addr : Nat) (m : Master) :
    tkDisturb d addr m s = s := by
  simp [tkDisturb, h]

theorem tkTrap_of_unarmed {s : State} {d : Nat} (h : s.flag d F.LIB_TK_STAT_ARMED = false) (m : Master) :
    tkTrap d m s = s := by
  simp [tkTrap, h]

theorem busError_regs (d : Nat) (m : Master) (addr : Nat) (write : Bool) (s : State) :
    (busError d m addr write s).regs = s.regs := by
  cases m <;> simp [busError, State.modSys]

theorem busTrap_of_unarmed {s : State} {d : Nat} (h : s.flag d F.LIB_TK_STAT_ARMED = false) (m : Master) (addr : Nat)
    (write : Bool) : busTrap d m addr write s = busError d m addr write s := by
  refine tkTrap_of_unarmed ?_ m
  rw [← h]
  simp only [State.flag, State.get, State.reg, busError_regs]

theorem storeAt_of_unarmed {s : State} {d : Nat} (h : s.flag d F.LIB_TK_STAT_ARMED = false) (m : Master) (addr : Nat)
    (v : Word) : storeAt d m addr v s = storeGo d m addr v s := by
  simp [storeAt, State.tkReady_of_unarmed h, tkDisturb_of_unarmed h]

theorem exec_registerWrite {s : State} {d : CDie} (m : Master) (addr v : Word) (hr : s.runs d.val = true)
    (h : s.flag d.val F.LIB_TK_STAT_ARMED = false) :
    exec (.registerWrite d m addr v) s = .next (storeGo d.val m addr.toNat v s) := by
  show execRegisterWrite d m addr v s = _
  rw [execRegisterWrite, onC_next hr, storeAt_of_unarmed h]

/-! ### A word of SRAM -/

/-- SRAM is mapped in every part. -/
theorem State.unmapped_of_sram (s : State) {a : Nat} (h : inSram a = true) : s.unmapped a = false := by
  simp only [inSram, Bool.and_eq_true, decide_eq_true_eq] at h
  have hr : inRegion a = true := by
    simp only [inRegion, busRegions, List.any_cons, List.any_nil, Bool.or_eq_true, Bool.and_eq_true, decide_eq_true_eq]
    omega
  have hw : windowDie a = none := by
    rw [windowDie, if_neg (by omega), if_neg (by omega)]
  simp [State.unmapped, hr, hw]

theorem storeGo_sram {a : Nat} (h : inSram a = true) (hring : inRing a = false) (d : Nat) (m : Master) (v : Word)
    (s : State) : storeGo d m a v s = s.wr32 d a v.toNat := by
  simp [storeGo, State.unmapped_of_sram s h, h, hring]

theorem storeGo_ring {a : Nat} (h : inSram a = true) (hring : inRing a = true) (d : Nat) (m : Master) (v : Word)
    (s : State) : storeGo d m a v s = busTrap d m a true s := by
  simp [storeGo, State.unmapped_of_sram s h, h, hring]

theorem loadAt_sram {a : Nat} (h : inSram a = true) (halign : a % 4 = 0) (d : Nat) (m : Master) (s : State) :
    loadAt d m a s = (some (s.rd32 d a), s) := by
  have hmap := State.unmapped_of_sram s h
  simp only [inSram, Bool.and_eq_true, decide_eq_true_eq] at h
  rw [loadAt, loadRaw, if_neg (by simp [hmap]), if_neg (by omega), if_neg (by omega), if_neg (by omega),
    if_pos (by omega)]

theorem State.rd32_wr32 (s : State) (i a w : Nat) (hw : w < 2 ^ 32) : (s.wr32 i a w).rd32 i a = w := by
  have h := State.rdLE_wrBytes (s := s) (i := i) (a := a) (k := 0) (n := 4) (bs := wordBytes w)
    (Nat.le_of_eq (wordBytes_length w).symm)
  rw [State.rd32, State.wr32]
  refine (h.trans ?_)
  simp only [fieldAt, wordBytes, List.drop_zero, List.take_succ_cons, List.take_zero, List.map_cons, List.map_nil,
    List.foldr_cons, List.foldr_nil]
  omega

theorem State.rdB_wr32_other {s : State} {i a e x w : Nat} (ha : a + 4 ≤ 0x100000000) (hx : x < 0x100000000)
    (h : e ≠ i ∨ x < a ∨ a + 4 ≤ x) : (s.wr32 i a w).rdB e x = s.rdB e x := by
  refine State.rdB_wrBytes_other (fun k hk => ?_)
  rw [wordBytes_length] at hk
  unfold memKey
  omega

theorem State.wrBytes_cdie (s : State) (i a : Nat) (bs : List Nat) : (s.wrBytes i a bs).cdie = s.cdie := by
  induction bs generalizing s a with
  | nil => rfl
  | cons b bs ih => rw [State.wrBytes, ih, State.wrB_cdie]

theorem State.wrBytes_ddie (s : State) (i a : Nat) (bs : List Nat) : (s.wrBytes i a bs).ddie = s.ddie := by
  induction bs generalizing s a with
  | nil => rfl
  | cons b bs ih => rw [State.wrBytes, ih, State.wrB_ddie]

/-- Settles O13: such a store writes the four bytes of its word, and one into the ring is the trap of O9. -/
theorem sramStoresReadBack : Obligations.SramStoresReadBack := by
  unfold Obligations.SramStoresReadBack
  intro s d k mm addr v hr hk halign
  refine ⟨fun lo hi => ?_, fun lo hi => ?_⟩
  · have hsram : inSram addr.toNat = true := by simp [inSram, lo]; omega
    have hring : inRing addr.toNat = false := by simp [inRing]; omega
    have hread : (s.wr32 d.val addr.toNat v.toNat).rd32 d.val addr.toNat = v.toNat := s.rd32_wr32 _ _ _ v.isLt
    refine ⟨s.wr32 d.val addr.toNat v.toNat, ?_, hread, ?_, fun e a ha ho => State.rdB_wr32_other (by omega) ha ho,
      State.wrBytes_regs .., State.wrBytes_cdie .., State.wrBytes_ddie ..⟩
    · rw [exec_registerWrite _ _ _ hr hk, storeGo_sram hsram hring]
    · rw [loadAt_sram hsram halign, hread]
  · have hsram : inSram addr.toNat = true := by simp [inSram, hi]; omega
    have hring : inRing addr.toNat = true := by simp [inRing, lo, hi]
    refine ⟨busTrap d.val (.core k mm) addr.toNat true s, ?_, busTrap_mem .., ?_, ?_⟩
    · rw [exec_registerWrite _ _ _ hr hk, storeGo_ring hsram hring]
    · rw [busTrap_of_unarmed hk, busError_regs]
    · rw [busTrap_core_busErr, Tab.at_mod_same]

/-! ### Plain writes by access code -/

theorem State.loading_of_wf {s : State} (h : s.wf = true) : s.loading = false := by
  simp [State.loading, (s.wf_iff.mp h).2]

/-- The word a plain write leaves in a register: RW bits and the RWL bits of a stopped block taken, W1C bits cleared by 1s. -/
def plainNew (r : RegRow) (old v : Word) (stopped : Bool) : Word :=
  clearW (mergeW old (r.rw + (if stopped then r.rwl else 0)) v) r.w1c v

/-- The bits of a register that a plain write may not change. -/
def plainShut (r : RegRow) (stopped : Bool) : Word := maskW (r.rwp + (if stopped then 0 else r.rwl))

/-- A plain write outside the loader, R8: the register takes its new word, and a refused bit is reported. -/
theorem plainWrite_eq {s : State} {i off : Nat} {r : RegRow} (hld : s.loading = false) (hrow : rowAt i off = some r)
    (v : Word) (stopped : Bool) : plainWrite i off v stopped s =
      if (v ^^^ s.reg i off) &&& plainShut r stopped = 0 then s.setReg i off (plainNew r (s.reg i off) v stopped)
      else refuseAt i off (s.setReg i off (plainNew r (s.reg i off) v stopped)) := by
  simp only [plainWrite, hrow, hld, Bool.or_false, Bool.false_eq_true, if_false, Nat.add_zero, bne_iff_ne]
  split <;> rename_i h <;> simp_all [plainShut, plainNew]

theorem refuseAt_eq {i off : Nat} {f : Fld} (h : wrrefOf i off = some f) (s : State) : refuseAt i off s = s.put i f 1 := by
  simp [refuseAt, h]

theorem plainWrite_mem (i off : Nat) (v : Word) (stopped : Bool) (s : State) :
    (plainWrite i off v stopped s).mem = s.mem := by
  unfold plainWrite
  split
  · rfl
  · dsimp only
    rw [apply_ite State.mem, refuseAt_mem, State.setReg_mem, ite_self]

/-- A one-bit field reads set once it was put to 1. -/
theorem State.flag_put_one (s : State) (i : Nat) {f : Fld} (hone : f.lo = f.hi) (h : f.hi < 32) :
    (s.put i f 1).flag i f = true := by
  rw [State.flag_true, State.get_put_same _ _ _ _ h, Fld.size, hone, Nat.add_sub_cancel_left]
  decide

/-- The plain registers of SYS. -/
theorem storeGo_plainSys {off : Nat} (h : off ∈ [0x10, 0x18, 0x1C, 0x20, 0x34, 0x38]) (d : Nat) (m : Master) (v : Word)
    (s : State) : storeGo d m (0x40000000 + off) v s = plainWrite d off v true s := by
  simp only [List.mem_cons, List.not_mem_nil, or_false] at h
  have hmap : s.unmapped (0x40000000 + off) = false := by
    have hr : inRegion (0x40000000 + off) = true := by
      simp only [inRegion, busRegions, List.any_cons, List.any_nil, Bool.or_eq_true, Bool.and_eq_true, decide_eq_true_eq]
      omega
    have hw : windowDie (0x40000000 + off) = none := by
      rw [windowDie, if_neg (by omega), if_neg (by omega)]
    simp [State.unmapped, hr, hw]
  have hgo : storeGo d m (0x40000000 + off) v s = sysWrite d m off v s := by
    have hsram : inSram (0x40000000 + off) = false := by simp [inSram]; omega
    have hdrv : drvAt off = none := by rw [drvAt, if_neg (by omega)]
    rw [storeGo, if_neg (by simp [hmap]), if_neg (by simp [hsram]), if_neg (by omega), if_neg (by omega),
      if_pos (by omega), Nat.add_sub_cancel_left, mapWrite, hdrv]
    show ownWrite d m off v s = _
    rw [ownWrite, if_neg (by omega), if_neg (by omega), if_neg (by omega), blockWrite, if_pos (by omega)]
  rw [hgo]
  rcases h with rfl | rfl | rfl | rfl | rfl | rfl <;> rfl

/-- Settles O11: the write is its register's new word, followed by the report where a protected bit was refused. -/
theorem plainWritesFollowTheAccessCodes : Obligations.PlainWritesFollowTheAccessCodes := by
  unfold Obligations.PlainWritesFollowTheAccessCodes
  intro s i off v stopped r hwf _ hoff hrow
  have heq := plainWrite_eq (State.loading_of_wf hwf) hrow v stopped
  refine ⟨fun hopen => ?_, fun hshut f href hf hone hhi => ?_, plainWrite_mem .., fun d m hr hk hmem hi hs => ?_⟩
  · have hopen' : (v ^^^ s.reg i off) &&& plainShut r stopped = 0 := hopen
    rw [heq, if_pos hopen']
    exact ⟨State.reg_setReg_same .., fun j o ho hne => State.reg_setReg_other hoff ho hne⟩
  · have hshut' : (v ^^^ s.reg i off) &&& plainShut r stopped ≠ 0 := hshut
    rw [heq, if_neg hshut', refuseAt_eq href]
    refine ⟨State.flag_put_one _ _ hone hhi, fun hne => ?_, fun j o ho hne => ?_⟩
    · rw [State.reg_put_other hf hoff (.inr hne.symm)]
      exact State.reg_setReg_same ..
    · rw [State.reg_put_other hf ho (hne.imp id And.right), State.reg_setReg_other hoff ho (hne.imp id And.left)]
  · subst hi hs
    have haddr : (BitVec.ofNat 32 (0x40000000 + off)).toNat = 0x40000000 + off := by
      rw [BitVec.toNat_ofNat]
      omega
    rw [exec_registerWrite _ _ _ hr hk, haddr, storeGo_plainSys hmem]

/-! ### Protected writes of another master -/

theorem tkWrite_of_other {s : State} {m : Master} (hld : s.loading = false) (hm : m.safety = false) (d addr i off : Nat)
    (v : Word) (stopped : Bool) (eff : State → State) :
    tkWrite d m addr i off v stopped eff s = plainWrite i off v stopped (tkDisturb d addr m s) := by
  simp [tkWrite, hld, hm]

theorem tkWriteThen_of_other {s : State} {m : Master} (hld : s.loading = false) (hm : m.safety = false)
    (d addr i off : Nat) (v : Word) (eff : State → State) :
    tkWriteThen d m addr i off v eff s = plainWrite i off v false (tkDisturb d addr m s) := by
  simp [tkWriteThen, hld, hm]

/-- Settles O12: each of the commands is a two-key write of its register, which another master does not complete. -/
theorem onlyTheSafetyMasterCompletesProtectedWrites : Obligations.OnlyTheSafetyMasterCompletesProtectedWrites := by
  unfold Obligations.OnlyTheSafetyMasterCompletesProtectedWrites
  intro s d m hwf hr hm
  have hld := State.loading_of_wf hwf
  have keys : ∀ off v eff, onC d.val (tkWrite d.val m (own off) d.val off v false eff) s =
      .next (plainWrite d.val off v false (tkDisturb d.val (own off) m s)) := fun off v eff => by
    rw [onC_next hr, tkWrite_of_other hld hm]
  have reset : ∀ v eff, onC d.val (tkWriteThen d.val m (own 8) d.val 8 v eff) s =
      .next (plainWrite d.val 8 v false (tkDisturb d.val (own 8) m s)) := fun v eff => by
    rw [onC_next hr, tkWriteThen_of_other hld hm]
  exact ⟨keys _ _ _, keys _ _ _, keys _ _ _, reset _ _, reset _ _, fun _ => keys _ _ _, fun _ => keys _ _ _,
    fun _ => ⟨keys _ _ _, keys _ _ _⟩, fun _ => ⟨keys _ _ _, keys _ _ _, fun _ => keys _ _ _⟩⟩

end Sys2Proof.Machine
end

section
/-! PROOFS. What the loops of the model keep, and numbers in their fields. -/

namespace Sys2Proof.Machine

/-! ### Loops -/

/-- What every round of a loop keeps holds after it. -/
theorem overL_inv {P : State → Prop} {xs : List Nat} {f : Nat → State → State} {s : State} (h : P s)
    (hstep : ∀ i ∈ xs, ∀ t, P t → P (f i t)) : P (overL xs f s) := by
  induction xs generalizing s with
  | nil => exact h
  | cons i xs ih =>
    rw [overL_cons]
    exact ih (hstep i (by simp) s h) (fun j hj => hstep j (by simp [hj]))

theorem overN_inv {P : State → Prop} {n : Nat} {f : Nat → State → State} {s : State} (h : P s)
    (hstep : ∀ i < n, ∀ t, P t → P (f i t)) : P (overN n f s) :=
  overL_inv h (fun i hi => hstep i (List.mem_range.mp hi))

/-- A value that every round of a loop leaves alone is the one from before it. -/
theorem overN_same {α : Type} (g : State → α) {n : Nat} {f : Nat → State → State} (s : State)
    (hstep : ∀ i < n, ∀ t, g (f i t) = g t) : g (overN n f s) = g s :=
  overN_inv (P := fun t => g t = g s) rfl (fun i hi t ht => (hstep i hi t).trans ht)

theorem onlyIf_same {α : Type} (g : State → α) (b : Bool) {f : State → State} (s : State) (h : ∀ t, g (f t) = g t) :
    g (onlyIf b f s) = g s := by
  cases b
  · rfl
  · exact h s

/-! ### Signed numbers in a field -/

theorem natCast_two_pow (n : Nat) : ((2 ^ n : Nat) : Int) = 2 ^ n := by norm_cast

/-- A signed number that fits a width is read back from its low bits. -/
theorem sxN_uxN {w : Nat} {z : Int} (hw : 0 < w) (lo : -2 ^ (w - 1) ≤ z) (hi : z < 2 ^ (w - 1)) : sxN w (uxN w z) = z := by
  obtain ⟨n, rfl⟩ : ∃ n, w = n + 1 := ⟨w - 1, by omega⟩
  have hcast : ((2 ^ n : Nat) : Int) = 2 ^ n := natCast_two_pow n
  have hpos : 0 < 2 ^ n := Nat.two_pow_pos n
  have hmod : Int.ofNat (2 ^ (n + 1)) = ((2 ^ n : Nat) : Int) * 2 := by
    rw [Int.ofNat_eq_natCast, Nat.pow_succ]
    omega
  rw [Nat.add_sub_cancel, ← hcast] at lo hi
  have hz : uxN (n + 1) z = (if z < 0 then z + ((2 ^ n : Nat) : Int) * 2 else z).toNat := by
    unfold uxN
    rw [hmod]
    congr 1
    split
    · rw [← Int.add_mul_emod_self_left z (((2 ^ n : Nat) : Int) * 2) 1, Int.mul_one]
      exact Int.emod_eq_of_lt (by omega) (by omega)
    · exact Int.emod_eq_of_lt (by omega) (by omega)
  have hlt : uxN (n + 1) z < 2 ^ (n + 1) := by
    rw [hz, Nat.pow_succ]
    split <;> omega
  unfold sxN
  rw [Nat.mod_eq_of_lt hlt, hz, hmod, Nat.add_sub_cancel]
  simp only [Int.ofNat_eq_natCast]
  split <;> split <;> omega

theorem sxN_range {w : Nat} (hw : 0 < w) (n : Nat) : -2 ^ (w - 1) ≤ sxN w n ∧ sxN w n < 2 ^ (w - 1) := by
  obtain ⟨k, rfl⟩ : ∃ k, w = k + 1 := ⟨w - 1, by omega⟩
  have hlt : n % 2 ^ (k + 1) < 2 ^ (k + 1) := Nat.mod_lt _ (Nat.two_pow_pos _)
  have hsucc : 2 ^ (k + 1) = 2 ^ k * 2 := Nat.pow_succ 2 k
  rw [Nat.add_sub_cancel, ← natCast_two_pow k]
  unfold sxN
  rw [hsucc] at hlt ⊢
  simp only [Nat.add_sub_cancel, Int.ofNat_eq_natCast]
  split <;> omega

theorem State.geti_range (s : State) (i : Nat) {f : Fld} (h : f.lo ≤ f.hi) :
    -2 ^ (f.hi - f.lo) ≤ s.geti i f ∧ s.geti i f < 2 ^ (f.hi - f.lo) := by
  have hr := sxN_range (w := f.hi + 1 - f.lo) (by omega) (s.get i f)
  rwa [show f.hi + 1 - f.lo - 1 = f.hi - f.lo by omega] at hr

/-- A signed number that fits a field is read back from it. -/
theorem State.geti_puti_same (s : State) (i : Nat) {f : Fld} {z : Int} (h : f.lo ≤ f.hi) (hhi : f.hi < 32)
    (lo : -2 ^ (f.hi - f.lo) ≤ z) (hi : z < 2 ^ (f.hi - f.lo)) : (s.puti i f z).geti i f = z := by
  have hlow : uxN (f.hi + 1 - f.lo) z % f.size = uxN (f.hi + 1 - f.lo) z := by
    refine Nat.mod_eq_of_lt ?_
    have hpos : (0 : Int) < Int.ofNat (2 ^ (f.hi + 1 - f.lo)) := Int.natCast_pos.mpr (Nat.two_pow_pos _)
    have hlt := Int.emod_lt_of_pos z hpos
    have hnonneg := Int.emod_nonneg z (Int.ne_of_gt hpos)
    unfold uxN Fld.size
    rw [Int.ofNat_eq_natCast] at hlt hnonneg ⊢
    omega
  rw [State.puti_eq, State.geti, State.get_put_same _ _ _ _ hhi, hlow]
  have hw : f.hi + 1 - f.lo - 1 = f.hi - f.lo := by omega
  exact sxN_uxN (by omega) (by rwa [hw]) (by rwa [hw])

end Sys2Proof.Machine
end

section
/-! PROOFS. The statement of 09_loop_fabric: the weir's lowest-select (R226, R229). -/

namespace Sys2Proof.Machine

/-! ### The winner of a weir -/

/-- One comparison of a weir: input j against the winner so far. -/
def pickLower (y : Nat → Int) (acc : Option Nat) (j : Nat) : Option Nat :=
  match acc with
  | none => some j
  | some i => if y j < y i then some j else some i

theorem State.weirWin_eq (s : State) (d w : Nat) :
    s.weirWin d w = ((List.range 4).filter (s.weirIn d w)).foldl (pickLower (s.weirY d w)) none := rfl

/-- The winner among inputs that all lie above a value is one of them, or there is none. -/
theorem foldl_pickLower_above {y : Nat → Int} {v : Int} {xs : List Nat} {acc : Option Nat} (hacc : ∀ i ∈ acc, v < y i)
    (h : ∀ i ∈ xs, v < y i) : ∀ i ∈ xs.foldl (pickLower y) acc, v < y i := by
  induction xs generalizing acc with
  | nil => exact hacc
  | cons x xs ih =>
    have hx : v < y x := h x (by simp)
    refine ih (fun i hi => ?_) (fun i hi => h i (by simp [hi]))
    cases acc with
    | none => simpa [pickLower, ← Option.mem_some.mp hi] using hx
    | some a =>
      have ha : v < y a := hacc a rfl
      simp only [pickLower] at hi
      split at hi <;> simp_all

/-- A winner that no later input undercuts stays. -/
theorem foldl_pickLower_stays {y : Nat → Int} {j : Nat} {xs : List Nat} (h : ∀ i ∈ xs, y j ≤ y i) :
    xs.foldl (pickLower y) (some j) = some j := by
  induction xs with
  | nil => rfl
  | cons x xs ih =>
    have hx : ¬ y x < y j := Int.not_lt.mpr (h x (by simp))
    rw [List.foldl_cons, pickLower, if_neg hx]
    exact ih (fun i hi => h i (by simp [hi]))

theorem State.weirWin_none {s : State} {d w : Nat} (h : ∀ j < 4, s.weirIn d w j = false) : s.weirWin d w = none := by
  rw [State.weirWin_eq, List.filter_eq_nil_iff.mpr (fun j hj => by simp [h j (List.mem_range.mp hj)])]
  rfl

/-- The lowest of the enabled inputs, of equal ones that with the lowest index, wins (R226). -/
theorem State.weirWin_lowest {s : State} {d w j : Nat} (hj : j < 4) (hin : s.weirIn d w j = true)
    (hle : ∀ i < 4, s.weirIn d w i = true → s.weirY d w j ≤ s.weirY d w i)
    (hlt : ∀ i < j, s.weirIn d w i = true → s.weirY d w j < s.weirY d w i) : s.weirWin d w = some j := by
  have hmem : j ∈ (List.range 4).filter (s.weirIn d w) := by simp [hj, hin]
  have hsorted : ((List.range 4).filter (s.weirIn d w)).Pairwise (· < ·) := List.pairwise_lt_range.filter _
  have hle' : ∀ i ∈ (List.range 4).filter (s.weirIn d w), s.weirIn d w i = true ∧ s.weirY d w j ≤ s.weirY d w i := by
    intro i hi
    rw [List.mem_filter, List.mem_range] at hi
    exact ⟨hi.2, hle i hi.1 hi.2⟩
  rw [State.weirWin_eq]
  obtain ⟨as, bs, hsplit⟩ := List.append_of_mem hmem
  rw [hsplit] at hsorted hle'
  have habove : ∀ i ∈ as, s.weirY d w j < s.weirY d w i := fun i hi =>
    hlt i ((List.pairwise_append.mp hsorted).2.2 i hi j (by simp)) (hle' i (by simp [hi])).1
  have hbefore := foldl_pickLower_above (acc := none) (by simp) habove
  have hat : pickLower (s.weirY d w) (as.foldl (pickLower (s.weirY d w)) none) j = some j := by
    cases hw : as.foldl (pickLower (s.weirY d w)) none with
    | none => rfl
    | some i => rw [pickLower, if_pos (hbefore i hw)]
  rw [hsplit, List.foldl_append, List.foldl_cons, hat]
  exact foldl_pickLower_stays (fun i hi => (hle' i (by simp [hi])).2)

/-! ### What an evaluation leaves in OUT -/

/-- What LOOP_WRw_OUT says of the selection: VALUE, SEL and EMPTY. -/
def State.weirOut (s : State) (d w : Nat) : Int × Nat × Nat :=
  (s.geti d (F.LOOP_WR_OUT_VALUE w), s.get d (F.LOOP_WR_OUT_SEL w), s.get d (F.LOOP_WR_OUT_EMPTY w))

theorem State.weirOut_modC (s : State) (e : Nat) (g : CtlDie → CtlDie) (d w : Nat) :
    (s.modC e g).weirOut d w = s.weirOut d w := by
  simp [State.weirOut, State.geti]

/-- The tracking flag of a weir stands beside its selection, or in another weir's register. -/
theorem State.weirOut_put_trkdown (s : State) {d w u : Nat} (hw : w < 64) (hu : u < 64) (v : Nat) :
    (s.put d (F.LOOP_WR_OUT_TRKDOWN u) v).weirOut d w = s.weirOut d w := by
  unfold State.weirOut State.geti
  by_cases h : w = u
  · subst h
    simp (disch := first | rfl | (dsimp only; omega)) only [State.get_put_bits]
  · simp (disch := first | rfl | (dsimp only; omega)) only [State.get_put_other]

/-- Tracking presets engines and shows its flag; no weir's selection changes. -/
theorem weirOut_weirTrack (s : State) {d w u : Nat} (hw : w < 64) (hu : u < 64) :
    (weirTrack d u s).weirOut d w = s.weirOut d w := by
  unfold weirTrack
  refine (overN_same (fun t => t.weirOut d w) _ (fun j _ t => ?_)).trans (State.weirOut_put_trkdown s hw hu _)
  dsimp only
  split
  · split
    · simp only [cancelPreset, State.modEng, State.weirOut_modC]
    · simp only [setPreset, State.modEng, State.weirOut_modC]
  · rfl

/-- An evaluation without the manual station: VALUE is the winner's Y, full scale with none; SEL names it (R226, R229). -/
theorem weirOut_weirEval {s : State} {d w : Nat} (hw : w < 64) (hen : s.flag d (F.LOOP_WR_CFG_EN w) = true)
    (hman : s.flag d (F.LOOP_WR_CFG_MANEN w) = false) {z : Int} (lo : -2 ^ 15 ≤ z) (hi : z < 2 ^ 15)
    (hz : ((s.weirWin d w).map (s.weirY d w)).getD 32767 = z) :
    (weirEval d w s).weirOut d w = (z, (s.weirWin d w).getD 0 % 4, b2n (s.weirWin d w).isNone) := by
  have hempty : b2n (s.weirWin d w).isNone % 2 = b2n (s.weirWin d w).isNone := by
    cases (s.weirWin d w).isNone <;> rfl
  rw [weirEval, hen, Bool.not_true, if_neg Bool.false_ne_true]
  refine (overN_same (fun t => t.weirOut d w) _ (fun u hu t => ?_)).trans ?_
  · split
    · exact weirOut_weirTrack t hw hu
    · rfl
  · rw [srcLater, State.modLoop, State.weirOut_modC, weirOut_weirTrack _ hw hw, hman, if_neg Bool.false_ne_true, hz]
    unfold State.weirOut State.geti
    simp (disch := first | rfl | (dsimp only; omega)) only [State.get_put_bits, State.get_put_same]
    exact Prod.ext (State.geti_puti_same _ _ (Nat.zero_le _) (by simp) lo hi) (Prod.ext rfl hempty)

/-- The state with weir w no longer due. -/
def weirUndue (d w : Nat) (s : State) : State :=
  s.modLoop d (fun l => { l with weirDue := l.weirDue.filter (· != w) })

theorem weirUndue_get (d w : Nat) (s : State) (i : Nat) (f : Fld) : (weirUndue d w s).get i f = s.get i f := by
  simp [weirUndue, State.modLoop]

theorem weirUndue_weirY (d w : Nat) (s : State) : (weirUndue d w s).weirY d w = s.weirY d w := by
  funext j
  have hstale : ((weirUndue d w s).c d).loop.weirStale = (s.c d).loop.weirStale := by simp [weirUndue, State.modLoop]
  simp only [State.weirY, State.geti, weirUndue_get, hstale]

theorem weirUndue_weirWin (d w : Nat) (s : State) : (weirUndue d w s).weirWin d w = s.weirWin d w := by
  have hin : (weirUndue d w s).weirIn d w = s.weirIn d w := by
    funext j
    simp only [State.weirIn, State.bitOf, weirUndue_get]
  rw [State.weirWin_eq, State.weirWin_eq, hin, weirUndue_weirY]

theorem exec_weirEvaluate {s : State} {d : CDie} {w : Fin 64} (hr : s.runs d.val = true)
    (hdue : (s.c d.val).loop.weirDue.contains w.val = true) :
    exec (.weirEvaluate d w) s = .next (weirEval d.val w.val (weirUndue d.val w.val s)) := by
  show execWeirEvaluate d w s = _
  rw [execWeirEvaluate, onC_next hr, weirTurn, if_pos hdue]
  rfl

theorem State.weirY_range (s : State) (d w j : Nat) : -2 ^ 15 ≤ s.weirY d w j ∧ s.weirY d w j < 2 ^ 15 := by
  unfold State.weirY
  split
  · exact s.geti_range d (f := F.LOOP_WR_IN_FB_FALLBACK w j) (Nat.zero_le _)
  · exact s.geti_range d (f := F.LOOP_WR_IN_VAL_Y w j) (Nat.zero_le _)

/-- Settles O31: the evaluation shows the winner, which is the lowest input, or none. -/
theorem weirSelectsTheLowestInput : Obligations.WeirSelectsTheLowestInput := by
  unfold Obligations.WeirSelectsTheLowestInput
  intro s d w hr hen hdue hman
  have heval : ∀ z : Int, -2 ^ 15 ≤ z → z < 2 ^ 15 → ((s.weirWin d.val w.val).map (s.weirY d.val w.val)).getD 32767 = z →
      (weirEval d.val w.val (weirUndue d.val w.val s)).weirOut d.val w.val =
        (z, (s.weirWin d.val w.val).getD 0 % 4, b2n (s.weirWin d.val w.val).isNone) := by
    intro z lo hi hz
    rw [← weirUndue_weirWin d.val w.val s] at hz ⊢
    rw [← weirUndue_weirY d.val w.val s] at hz
    refine weirOut_weirEval w.isLt ?_ ?_ lo hi hz
    · rwa [State.flag, weirUndue_get]
    · rwa [State.flag, weirUndue_get]
  refine ⟨_, exec_weirEvaluate hr hdue, fun hnone => ?_, fun j hj hin hle hlt => ?_⟩
  · have hwin := State.weirWin_none hnone
    have hout := heval 32767 (by decide) (by decide) (by rw [hwin]; rfl)
    simp only [State.weirOut, hwin, Prod.mk.injEq] at hout
    exact ⟨hout.1, hout.2.2⟩
  · have hwin := State.weirWin_lowest hj hin hle hlt
    obtain ⟨lo, hi⟩ := s.weirY_range d.val w.val j
    have hout := heval _ lo hi (by rw [hwin]; rfl)
    simp only [State.weirOut, hwin, Prod.mk.injEq, Option.getD_some, Nat.mod_eq_of_lt hj] at hout
    exact ⟨hout.1, hout.2.1, hout.2.2⟩

end Sys2Proof.Machine
end

section
/-! PROOFS. The statements of 12_gate_drive_protection: the sluice latches (R341) and the STO paths (R338). -/

namespace Sys2Proof.Machine

/-! ### Bits of a number -/

theorem bit_eq_testBit (n i : Nat) : bit n i = n.testBit i := by
  rw [bit, Nat.testBit_eq_decide_div_mod_eq]
  rfl

theorem bitsOf_succ (n : Nat) (p : Nat → Bool) : bitsOf (n + 1) p = bitsOf n p + if p n then 2 ^ n else 0 := by
  unfold bitsOf
  rw [List.range_succ, List.foldl_append, List.foldl_cons, List.foldl_nil]
  cases p n <;> rfl

theorem bitsOf_lt (n : Nat) (p : Nat → Bool) : bitsOf n p < 2 ^ n := by
  induction n with
  | zero => exact Nat.one_pos
  | succ n ih =>
    rw [bitsOf_succ, Nat.pow_succ]
    split <;> omega

/-- Bit i of the number built from p is p i, for the bits it has. -/
theorem testBit_bitsOf (n : Nat) (p : Nat → Bool) (i : Nat) : (bitsOf n p).testBit i = (decide (i < n) && p i) := by
  induction n with
  | zero => simp [bitsOf]
  | succ n ih =>
    rw [bitsOf_succ]
    have hlt : bitsOf n p < 2 ^ n := bitsOf_lt n p
    rcases Nat.lt_trichotomy i n with h | rfl | h
    · have hsame : (bitsOf n p + if p n then 2 ^ n else 0).testBit i = (bitsOf n p).testBit i := by
        split
        · rw [Nat.add_comm, Nat.testBit_two_pow_add_gt h]
        · rfl
      rw [hsame, ih]
      simp [h, Nat.lt_succ_of_lt h]
    · have hfalse : (bitsOf i p).testBit i = false := Nat.testBit_lt_two_pow hlt
      cases hp : p i
      · simp [hfalse]
      · rw [if_pos rfl, Nat.add_comm, Nat.testBit_two_pow_add_eq, hfalse]
        simp
    · have hsum : (bitsOf n p + if p n then 2 ^ n else 0) < 2 ^ i :=
        calc (bitsOf n p + if p n then 2 ^ n else 0) < 2 ^ (n + 1) := by
              rw [Nat.pow_succ]
              split <;> omega
          _ ≤ 2 ^ i := Nat.pow_le_pow_right (by decide) h
      rw [Nat.testBit_lt_two_pow hsum]
      simp [Nat.not_lt.mpr h]

theorem State.bitOf_eq (s : State) (i : Nat) (f : Fld) (b : Nat) : s.bitOf i f b = (s.get i f).testBit b :=
  bit_eq_testBit _ _

/-! ### What bringing the gates to rest changes -/

/-- t differs from s, as far as D die k's registers and record go, at most in the registers of its channels and legs, in the
channels' records and in the sequencer's entries. -/
structure OnlyGates (k : Nat) (s t : State) : Prop where
  reg : ∀ i o, o < 0x1000000 → (i ≠ dix k ∨ o < 0x110 ∨ 0x600 ≤ o) → t.reg i o = s.reg i o
  hid : { t.dd k with chans := default, seqDue := default } = { s.dd k with chans := default, seqDue := default }

theorem OnlyGates.refl (k : Nat) (s : State) : OnlyGates k s s := ⟨fun _ _ _ _ => rfl, rfl⟩

theorem OnlyGates.trans {k : Nat} {s t u : State} (h : OnlyGates k s t) (g : OnlyGates k t u) : OnlyGates k s u :=
  ⟨fun i o ho hi => (g.reg i o ho hi).trans (h.reg i o ho hi), g.hid.trans h.hid⟩

theorem OnlyGates.get {k : Nat} {s t : State} (h : OnlyGates k s t) (i : Nat) {f : Fld} (hf : f.off < 0x1000000)
    (ho : i ≠ dix k ∨ f.off < 0x110 ∨ 0x600 ≤ f.off) : t.get i f = s.get i f := by
  rw [State.get, State.get, h.reg i f.off hf ho]

theorem OnlyGates.flag {k : Nat} {s t : State} (h : OnlyGates k s t) (i : Nat) {f : Fld} (hf : f.off < 0x1000000)
    (ho : i ≠ dix k ∨ f.off < 0x110 ∨ 0x600 ≤ f.off) : t.flag i f = s.flag i f := by
  rw [State.flag, State.flag, h.get i hf ho]

theorem OnlyGates.sluice {k : Nat} {s t : State} (h : OnlyGates k s t) : (t.dd k).sluice = (s.dd k).sluice :=
  show _ = ({ s.dd k with chans := default, seqDue := default } : DieD).sluice from h.hid ▸ rfl

theorem OnlyGates.stoOff {k : Nat} {s t : State} (h : OnlyGates k s t) : t.stoOff k = s.stoOff k := by
  rw [State.stoOff, State.stoOff, h.flag _ (by decide) (.inr (by decide)), h.flag _ (by decide) (.inr (by decide))]

theorem onlyGates_put {k : Nat} {f : Fld} (v : Nat) (s : State) (lo : 0x110 ≤ f.off) (hi : f.off < 0x600) :
    OnlyGates k s (s.put (dix k) f v) :=
  ⟨fun _ _ ho hne => State.reg_put_other (by omega) ho (by omega), by rw [State.put_dd]⟩

theorem onlyGates_modD {k : Nat} {g : DieD → DieD} (s : State)
    (hg : ∀ x, { g x with chans := default, seqDue := default } = { x with chans := default, seqDue := default }) :
    OnlyGates k s (s.modD k g) :=
  ⟨fun _ _ _ _ => State.modD_reg .., by rw [State.dd_modD_same, hg]⟩

theorem onlyGates_seqRuns (k e named : Nat) (s : State) : OnlyGates k s (seqRuns k e named s) := by
  unfold seqRuns
  split
  · exact .refl k s
  · exact onlyGates_modD s (fun _ => rfl)

theorem onlyGates_modCh (k c : Nat) (g : ChanD → ChanD) (s : State) : OnlyGates k s (s.modCh k c g) :=
  onlyGates_modD s (fun _ => rfl)

theorem onlyGates_setCh {k c : Nat} (hc : c < 6) (st : Nat) (s : State) : OnlyGates k s (s.setCh k c st) :=
  onlyGates_put st s (by dsimp only; omega) (by dsimp only; omega)

theorem onlyGates_chDown {k c : Nat} (hc : c < 6) (st : Nat) (s : State) : OnlyGates k s (chDown k c st s) := by
  unfold chDown
  dsimp only
  split
  · exact (onlyGates_setCh hc st s).trans (onlyGates_seqRuns ..)
  · exact onlyGates_setCh hc st s

theorem onlyGates_chStop {k c : Nat} (hc : c < 6) (st : Nat) (s : State) : OnlyGates k s (chStop k c st s) :=
  (onlyGates_chDown hc st s).trans (onlyGates_modCh ..)

theorem onlyGates_chOn {k c : Nat} (hc : c < 6) (s : State) : OnlyGates k s (chOn k c s) :=
  ((onlyGates_setCh hc Ch.on s).trans (onlyGates_modCh ..)).trans (onlyGates_seqRuns ..)

theorem onlyGates_gateHold {k c : Nat} (hc : c < 6) (s : State) : OnlyGates k s (gateHold k c s) := by
  unfold gateHold
  split
  · exact .refl k s
  · exact (onlyGates_modCh ..).trans (onlyGates_put _ _ (by dsimp only; omega) (by dsimp only; omega))

/-- Whatever branch a channel takes, only gates change. -/
theorem onlyGates_settleCh {k c : Nat} (hc : c < 6) (s : State) : OnlyGates k s (settleCh k c s) := by
  unfold settleCh
  dsimp only
  split
  · exact onlyGates_chStop hc _ s
  · split
    · exact .refl k s
    · split
      · exact onlyGates_chStop hc _ s
      · split
        · split
          · exact .refl k s
          · exact onlyGates_chDown hc _ s
        · split
          · split
            · exact .refl k s
            · split
              · exact (onlyGates_setCh hc _ s).trans (onlyGates_gateHold hc _)
              · exact onlyGates_chOn hc s
          · exact onlyGates_chStop hc _ s

/-- STAT and SLST brought into agreement with what holds the die, before its channels settle. -/
def showHolds (k : Nat) (s : State) : State :=
  let i := dix k
  let s := s.put i F.DRV_D_STAT_SLUICE (b2n ((s.dd k).sluice != 0))
  let s := s.put i F.DRV_D_SLST_LATCH (bitsOf 3 (fun leg => s.sluiceHeld k leg))
  let s := s.put i F.DRV_D_STAT_STO_OFF (b2n (s.stoOff k))
  let s := s.put i F.DRV_D_SLST_PATHA (b2n (!s.flag i F.DRV_D_SLST_STO_A))
  let s := s.put i F.DRV_D_SLST_PATHB (b2n (!s.flag i F.DRV_D_SLST_STO_B))
  s.put i F.DRV_D_STAT_INHIBIT (b2n ((s.dd k).inhibit != 0))

theorem settle_eq (k : Nat) (s : State) : settle k s = overN 6 (settleCh k) (showHolds k s) := rfl

theorem onlyGates_settle (k : Nat) (s : State) : OnlyGates k (showHolds k s) (settle k s) :=
  overN_inv (.refl k _) (fun _ hc t ht => ht.trans (onlyGates_settleCh hc t))

theorem showHolds_dd (k : Nat) (s : State) : (showHolds k s).dd k = s.dd k := by
  simp [showHolds]

theorem showHolds_latch (k : Nat) (s : State) :
    (showHolds k s).get (dix k) F.DRV_D_SLST_LATCH = bitsOf 3 (fun leg => s.sluiceHeld k leg) := by
  have hheld : ∀ (v : Nat) (leg : Nat), (s.put (dix k) F.DRV_D_STAT_SLUICE v).sluiceHeld k leg = s.sluiceHeld k leg :=
    fun v leg => by simp [State.sluiceHeld]
  unfold showHolds
  simp (disch := first | rfl | (dsimp only; omega)) only [State.get_put_other, State.get_put_bits, State.get_put_same,
    hheld]
  exact Nat.mod_eq_of_lt (bitsOf_lt 3 _)

theorem showHolds_stoOff (k : Nat) (s : State) : (showHolds k s).stoOff k = s.stoOff k := by
  unfold showHolds State.stoOff State.flag
  simp (disch := first | rfl | (dsimp only; omega)) only [State.get_put_other, State.get_put_bits]

theorem settle_sluice (k : Nat) (s : State) : ((settle k s).dd k).sluice = (s.dd k).sluice := by
  rw [(onlyGates_settle k s).sluice, showHolds_dd]

/-- A leg that a sluice latch holds reads 1 in SLST.LATCH once the gates are at rest. -/
theorem settle_latch (k : Nat) (s : State) {leg : Nat} (hleg : leg < 3) :
    (settle k s).bitOf (dix k) F.DRV_D_SLST_LATCH leg = s.sluiceHeld k leg := by
  rw [State.bitOf_eq, (onlyGates_settle k s).get _ (by decide) (.inr (by decide)), showHolds_latch, testBit_bitsOf]
  simp [hleg]

/-! ### A sluice line goes active -/

theorem State.sluiceHeld_of_testBit {s : State} {k leg j : Nat} (hj : j < 8)
    (h : (s.dd k).sluice.testBit (8 * leg + j) = true) : s.sluiceHeld k leg = true := by
  have hbit : ((s.dd k).sluice / 256 ^ leg % 256).testBit j = true := by
    rw [show (256 : Nat) ^ leg = 2 ^ (8 * leg) from (Nat.pow_mul 2 8 leg).symm, show 256 = 2 ^ 8 by decide, Nat.testBit_mod_two_pow,
      Nat.testBit_div_two_pow, Nat.add_comm j, h]
    simp [hj]
  have hne : (s.dd k).sluice / 256 ^ leg % 256 ≠ 0 := fun h0 => by simp [h0] at hbit
  simp [State.sluiceHeld, hne]

/-- The latches that trip line l sets at D die k: those of the legs whose mask names it. -/
def State.sluiceMask (s : State) (k l : Nat) : Nat :=
  bitsOf 24 (fun j => j % 8 == l && s.bitOf (dix k) F.DRV_D_SLMASK j)

/-- The state in which the latches are set, before the gates come to rest. -/
def sluiceLatched (k l : Nat) (s : State) : State :=
  (s.putBit (dix k) F.DRV_D_SLST_LINES l true).modD k (fun y => { y with sluice := Nat.lor y.sluice (s.sluiceMask k l) })

theorem sluiceActive_eq (k x n : Nat) (s : State) :
    sluiceActive k x n s = settle k (sluiceLatched k (4 * x + n) s) := by
  have hmask : ∀ v, (s.put (dix k) F.DRV_D_SLST_LINES v).get (dix k) F.DRV_D_SLMASK = s.get (dix k) F.DRV_D_SLMASK :=
    fun v => State.get_put_other (by decide) (by decide) (.inr (by decide))
  simp only [sluiceActive, sluiceLatched, State.sluiceMask, State.putBit_eq, State.bitOf, hmask]

theorem sluiceLatched_testBit (k l : Nat) (s : State) {b : Nat} (hb : b < 24) :
    ((sluiceLatched k l s).dd k).sluice.testBit b =
      ((s.dd k).sluice.testBit b || (b % 8 == l && s.bitOf (dix k) F.DRV_D_SLMASK b)) := by
  have hd : ((sluiceLatched k l s).dd k).sluice = (s.dd k).sluice ||| s.sluiceMask k l := by
    simp [sluiceLatched]
  rw [hd, Nat.testBit_or, State.sluiceMask, testBit_bitsOf]
  simp [hb]

/-- A change that the owner hears of: the state after it, but for the STATUS flit that is due. -/
theorem drvAct_same {α : Type} (g : State → α) (k : Nat) (f : State → State) (s : State)
    (h : ∀ t, g (sendStatus k t) = g t) : g (drvAct k f s) = g (f s) := by
  unfold drvAct
  dsimp only
  split
  · rfl
  · exact h _

/-- Settles O37: the latches gain the masked legs of the line, the rest of the command keeps them and shows them. -/
theorem sluiceLatchHoldsTheLegs : Obligations.SluiceLatchHoldsTheLegs := by
  unfold Obligations.SluiceLatchHoldsTheLegs
  intro s k x n hrun hc hline
  have hexec : exec (.sluiceActive k x n) s = .next (drvAct k.val (sluiceActive k.val x.val n.val) s) := by
    show execSluiceActive k x n s = _
    rw [execSluiceActive, onDC_next hc hrun, if_pos hline]
  refine ⟨_, hexec, fun leg hleg j hj => ?_, fun leg hleg hmask => ?_⟩
  · rw [drvAct_same (fun t => bit (t.dd k.val).sluice (8 * leg + j)) _ _ _ (fun t => by simp [sendStatus]),
      sluiceActive_eq, settle_sluice, bit_eq_testBit, bit_eq_testBit, sluiceLatched_testBit _ _ _ (by omega),
      show (8 * leg + j) % 8 = j by omega]
  · rw [drvAct_same (fun t => t.bitOf (dix k.val) F.DRV_D_SLST_LATCH leg) _ _ _
        (fun t => by simp [sendStatus, State.bitOf]), sluiceActive_eq, settle_latch _ _ hleg]
    have hl : 4 * x.val + n.val < 8 := by omega
    refine State.sluiceHeld_of_testBit hl ?_
    rw [sluiceLatched_testBit _ _ _ (by omega), show (8 * leg + (4 * x.val + n.val)) % 8 = 4 * x.val + n.val by omega,
      ← Nat.add_assoc, hmask]
    simp

/-! ### STO -/

theorem ch_setCh_same (k c st : Nat) (s : State) : (s.setCh k c st).ch k c = st % 4 :=
  State.get_put_same _ _ _ _ (by simp)

theorem ch_modD (k : Nat) (g : DieD → DieD) (s : State) (c : Nat) : (s.modD k g).ch k c = s.ch k c := by
  simp [State.ch]

theorem ch_seqRuns (k e named : Nat) (s : State) (c : Nat) : (seqRuns k e named s).ch k c = s.ch k c := by
  unfold seqRuns
  split
  · rfl
  · exact ch_modD ..

theorem ch_chStop_same (k c st : Nat) (s : State) : (chStop k c st s).ch k c = st % 4 := by
  unfold chStop chDown State.modCh
  dsimp only
  rw [ch_modD]
  split
  · rw [ch_seqRuns, ch_setCh_same]
  · rw [ch_setCh_same]

theorem ch_chStop_other {k c b : Nat} (hc : c < 6) (hb : b < 6) (h : b ≠ c) (st : Nat) (s : State) :
    (chStop k c st s).ch k b = s.ch k b := by
  have hset : (s.setCh k c st).ch k b = s.ch k b :=
    State.get_put_other (by dsimp only; omega) (by dsimp only; omega) (.inr (by dsimp only; omega))
  unfold chStop chDown State.modCh
  dsimp only
  rw [ch_modD]
  split
  · rw [ch_seqRuns, hset]
  · exact hset

theorem State.forced_of_stoOff {s : State} {k : Nat} (h : s.stoOff k = true) : s.forced k = true := by
  simp [State.forced, h]

theorem settleCh_of_stoOff {s : State} {k : Nat} (h : s.stoOff k = true) (c : Nat) :
    settleCh k c s = chStop k c Ch.forcedOff s := by
  unfold settleCh
  dsimp only
  rw [if_pos (State.forced_of_stoOff h)]

/-- Channels below n are forced off. -/
def State.forcedBelow (s : State) (k n : Nat) : Prop := ∀ c < n, s.ch k c = Ch.forcedOff

/-- With an STO input at torque off, each round of the loop forces one more channel off. -/
theorem forcedBelow_overN {s : State} {k : Nat} (h : s.stoOff k = true) {n : Nat} (hn : n ≤ 6) :
    (overN n (settleCh k) s).stoOff k = true ∧ (overN n (settleCh k) s).forcedBelow k n := by
  induction n with
  | zero => exact ⟨h, fun c hc => absurd hc (Nat.not_lt_zero c)⟩
  | succ n ih =>
    obtain ⟨hsto, hbelow⟩ := ih (by omega)
    have hstep : overN (n + 1) (settleCh k) s = settleCh k n (overN n (settleCh k) s) := by
      simp only [overN, overL, List.range_succ, List.foldl_append, List.foldl_cons, List.foldl_nil]
    rw [hstep]
    refine ⟨(onlyGates_settleCh (by omega) _).stoOff.trans hsto, fun c hc => ?_⟩
    rw [settleCh_of_stoOff hsto]
    by_cases heq : c = n
    · subst heq
      exact ch_chStop_same ..
    · rw [ch_chStop_other (by omega) (by omega) heq]
      exact hbelow c (by omega)

theorem settle_stoOff (k : Nat) (s : State) : (settle k s).stoOff k = s.stoOff k :=
  (onlyGates_settle k s).stoOff.trans (showHolds_stoOff k s)

theorem settle_forces {s : State} {k : Nat} (h : s.stoOff k = true) : (settle k s).forcedBelow k 6 :=
  (forcedBelow_overN ((showHolds_stoOff k s).trans h) (Nat.le_refl 6)).2

theorem stoOff_put_other {s : State} {k : Nat} {f : Fld} (hf : f.off < 0x600) (v : Nat) :
    (s.put (dix k) f v).stoOff k = s.stoOff k := by
  unfold State.stoOff State.flag
  rw [State.get_put_other (by omega) (by decide) (.inr (by dsimp only; omega)),
    State.get_put_other (by omega) (by decide) (.inr (by dsimp only; omega))]

theorem stoOff_modD (k j : Nat) (g : DieD → DieD) (s : State) : (s.modD j g).stoOff k = s.stoOff k := by
  simp [State.stoOff, State.flag]

theorem stoOff_seqRuns (k e named : Nat) (s : State) : (seqRuns k e named s).stoOff k = s.stoOff k :=
  (onlyGates_seqRuns k e named s).stoOff

theorem stoOff_curtainLeg (k leg cmd : Nat) (s : State) : (curtainLeg k leg cmd s).stoOff k = s.stoOff k := by
  unfold curtainLeg
  dsimp only
  split
  · exact stoOff_modD ..
  · rw [stoOff_modD, State.modLeg, stoOff_modD]
    split
    · exact stoOff_put_other (by decide) _
    · rw [stoOff_seqRuns]
      exact overL_inv (P := fun t => t.stoOff k = s.stoOff k) (stoOff_put_other (by decide) _)
        (fun _ _ t ht => (stoOff_modD ..).trans ht)

theorem stoOff_orphanLeg (k leg cmd : Nat) (s : State) : (orphanLeg k leg cmd s).stoOff k = s.stoOff k := by
  unfold orphanLeg
  split
  · exact stoOff_modD ..
  · rw [State.modLeg, stoOff_modD]
    exact stoOff_put_other (by decide) _

/-- The held commands of the legs, applied with an STO input at torque off, leave every channel forced off. -/
theorem applyHeld_forces {s : State} {k : Nat} (h : s.stoOff k = true) : (applyHeld k s).forcedBelow k 6 := by
  unfold applyHeld
  refine settle_forces (overN_inv (P := fun t => t.stoOff k = true) h (fun leg _ t ht => ?_))
  split
  · exact ht
  · dsimp only
    split <;> split <;> simpa only [stoOff_orphanLeg, stoOff_curtainLeg] using ht

theorem stoOff_off_a (k : Nat) (s : State) : (s.off (dix k) F.DRV_D_SLST_STO_A).stoOff k = true := by
  have h : (s.put (dix k) F.DRV_D_SLST_STO_A 0).get (dix k) F.DRV_D_SLST_STO_A = 0 := State.get_put_same _ _ _ _ (by decide)
  simp [State.stoOff, State.flag, h]

theorem stoOff_off_b (k : Nat) (s : State) : (s.off (dix k) F.DRV_D_SLST_STO_B).stoOff k = true := by
  have h : (s.put (dix k) F.DRV_D_SLST_STO_B 0).get (dix k) F.DRV_D_SLST_STO_B = 0 := State.get_put_same _ _ _ _ (by decide)
  simp [State.stoOff, State.flag, h]

theorem stoTorqueOff_forces {k : Nat} {a b : Bool} (h : a = true ∨ b = true) (s : State) :
    (stoTorqueOff k a b s).forcedBelow k 6 := by
  have hoff : (if b then (if a then s.off (dix k) F.DRV_D_SLST_STO_A else s).off (dix k) F.DRV_D_SLST_STO_B
      else if a then s.off (dix k) F.DRV_D_SLST_STO_A else s).stoOff k = true := by
    cases b
    · rw [if_neg Bool.false_ne_true, if_pos (h.resolve_right Bool.false_ne_true)]
      exact stoOff_off_a k s
    · exact stoOff_off_b k _
  unfold stoTorqueOff
  dsimp only
  rw [if_pos (by simpa using h), settleHeld]
  refine applyHeld_forces ?_
  rw [settle_stoOff, stoOff_seqRuns, stoNote, stoOff_modD]
  exact hoff

/-- Settles O38: with an input at torque off, the settling that ends the command forces every channel. -/
theorem stoForcesEveryChannelOff : Obligations.StoForcesEveryChannelOff := by
  unfold Obligations.StoForcesEveryChannelOff
  intro s k a b held hrun hab hfilt
  have haccept : s.stoAccepts k.val held.toNat = true := by simpa [State.stoAccepts] using hfilt
  have hexec : exec (.stoTorqueOff k a b held) s = .next (drvAct k.val (stoTorqueOff k.val a b) s) := by
    show execStoTorqueOff k a b held s = _
    rw [execStoTorqueOff, onD_next hrun, if_pos haccept]
  refine ⟨_, hexec, fun c hc => ?_⟩
  rw [drvAct_same (fun t => t.ch k.val c) _ _ _ (fun t => ch_modD ..)]
  exact stoTorqueOff_forces hab s c hc

end Sys2Proof.Machine
end

section
/-! PROOFS. The statement of 13_dc_link_safe_states: the clear of an axis (R359). -/

namespace Sys2Proof.Machine

/-! ### Commands to the D dies leave the C dies' registers alone -/

/-- The registers of the C dies are those of s. -/
def CtlRegs (s t : State) : Prop := ∀ i o, i < 2 → o < 0x1000000 → t.reg i o = s.reg i o

theorem CtlRegs.refl (s : State) : CtlRegs s s := fun _ _ _ _ => rfl

theorem CtlRegs.trans {s t u : State} (h : CtlRegs s t) (g : CtlRegs t u) : CtlRegs s u :=
  fun i o hi ho => (g i o hi ho).trans (h i o hi ho)

theorem CtlRegs.get {s t : State} (h : CtlRegs s t) {i : Nat} {f : Fld} (hi : i < 2) (hf : f.off < 0x1000000) :
    t.get i f = s.get i f := by
  rw [State.get, State.get, h i f.off hi hf]

theorem two_le_dix (k : Nat) : 2 ≤ dix k := Nat.le_add_right 2 k

theorem ctlRegs_put (k : Nat) {f : Fld} (hf : f.off < 0x1000000) (v : Nat) (s : State) :
    CtlRegs s (s.put (dix k) f v) :=
  fun _ _ hi ho => State.reg_put_other hf ho (.inl (Nat.ne_of_lt (Nat.lt_of_lt_of_le hi (two_le_dix k))))

theorem ctlRegs_modD (k : Nat) (g : DieD → DieD) (s : State) : CtlRegs s (s.modD k g) :=
  fun _ _ _ _ => State.modD_reg ..

theorem OnlyGates.ctlRegs {k : Nat} {s t : State} (h : OnlyGates k s t) : CtlRegs s t :=
  fun i o hi ho => h.reg i o ho (.inl (Nat.ne_of_lt (Nat.lt_of_lt_of_le hi (two_le_dix k))))

theorem ctlRegs_showHolds (k : Nat) (s : State) : CtlRegs s (showHolds k s) :=
  (((((ctlRegs_put k (by decide) _ _).trans (ctlRegs_put k (by decide) _ _)).trans
    (ctlRegs_put k (by decide) _ _)).trans (ctlRegs_put k (by decide) _ _)).trans
    (ctlRegs_put k (by decide) _ _)).trans (ctlRegs_put k (by decide) _ _)

theorem ctlRegs_settle (k : Nat) (s : State) : CtlRegs s (settle k s) :=
  (ctlRegs_showHolds k s).trans (onlyGates_settle k s).ctlRegs

theorem ctlRegs_curtainLeg (k leg cmd : Nat) (s : State) : CtlRegs s (curtainLeg k leg cmd s) := by
  unfold curtainLeg
  dsimp only
  split
  · exact ctlRegs_modD k _ s
  · refine CtlRegs.trans (CtlRegs.trans ?_ (ctlRegs_modD k _ _)) (ctlRegs_modD k _ _)
    have hput := ctlRegs_put k (f := F.DRV_D_CURTAIN) (by decide)
      (putLeg (s.get (dix k) F.DRV_D_CURTAIN) leg cmd) s
    split
    · exact hput
    · refine CtlRegs.trans ?_ (onlyGates_seqRuns ..).ctlRegs
      exact overL_inv (P := CtlRegs s) hput (fun c _ t ht => ht.trans (onlyGates_modCh k c _ t).ctlRegs)

theorem ctlRegs_orphanLeg (k leg cmd : Nat) (s : State) : CtlRegs s (orphanLeg k leg cmd s) := by
  unfold orphanLeg
  split
  · exact ctlRegs_modD k _ s
  · exact (ctlRegs_put k (by decide) _ _).trans (ctlRegs_modD k _ _)

theorem ctlRegs_writeCurtain (d a cmd : Nat) (s : State) : CtlRegs s (writeCurtain d a cmd s) := by
  unfold writeCurtain
  refine overL_inv (P := CtlRegs s) ?_ (fun k _ t ht => ?_)
  · refine List.foldlRecOn (motive := CtlRegs s) _ _ (.refl s) (fun t ht x _ => ?_)
    split
    · exact ht.trans (ctlRegs_curtainLeg _ _ _ t)
    · exact ht
  · split
    · exact ht.trans (ctlRegs_settle k t)
    · exact ht

theorem writeCurtain_get {i : Nat} {f : Fld} (hi : i < 2) (hf : f.off < 0x1000000) (d a cmd : Nat) (s : State) :
    (writeCurtain d a cmd s).get i f = s.get i f :=
  CtlRegs.get (ctlRegs_writeCurtain d a cmd s) hi hf

theorem ctlRegs_writeOrphan (d a cmd : Nat) (s : State) :
    CtlRegs (s.put d (F.SAFE_AX_ORPH_CMD a) cmd) (writeOrphan d a cmd s) := by
  unfold writeOrphan
  refine List.foldlRecOn (motive := CtlRegs _) _ _ (.refl _) (fun t ht x _ => ?_)
  split
  · exact ht.trans (ctlRegs_orphanLeg _ _ _ t)
  · exact ht

theorem writeOrphan_get {d i a : Nat} {f : Fld} (hi : i < 2) (ha : a < 8) (hf : f.off < 0x1000000)
    (hne : f.off ≠ 0x18118 + 0x40 * a) (cmd : Nat) (s : State) : (writeOrphan d a cmd s).get i f = s.get i f := by
  rw [(ctlRegs_writeOrphan d a cmd s).get hi hf]
  exact State.get_put_other (by dsimp only; omega) hf (.inr hne)

/-! ### The completion of a two-key sequence writes the loader's registers and the prompt book -/

/-- A field outside LIB and PROMPT. -/
def Fld.apart (f : Fld) : Prop :=
  f.off < 0x1000000 ∧ (f.off < 0x50000 ∨ 0x60000 ≤ f.off) ∧ (f.off < 0xB0000 ∨ 0xC0000 ≤ f.off)

theorem get_put_lib {s : State} {j i : Nat} {f g : Fld} (hg : g.apart) (lo : 0xB0000 ≤ f.off) (hi : f.off < 0xC0000)
    (v : Nat) : (s.put j f v).get i g = s.get i g := by
  obtain ⟨hoff, _, hlib⟩ := hg
  exact State.get_put_other (by omega) hoff (.inr (by omega))

theorem recordEvent_get (d : Nat) (e : Event) (s : State) (i : Nat) {f : Fld} (hf : f.apart) :
    (recordEvent d e s).get i f = s.get i f :=
  (recordEvent_only d e s).get i f hf.1 (.inr hf.2.1)

theorem reloadCancel_get (a code : Nat) (s : State) (i : Nat) {f : Fld} (hf : f.apart) :
    (reloadCancel a code s).get i f = s.get i f := by
  unfold reloadCancel
  refine overN_same (fun t => t.get i f) s (fun e _ t => ?_)
  dsimp only
  split
  · rw [State.modLib, State.modC_get, get_put_lib hf (by decide) (by decide), get_put_lib hf (by decide) (by decide),
      get_put_lib hf (by decide) (by decide)]
    exact get_put_lib hf (by decide) (by decide) 0
  · rfl

theorem tkDone_get (d addr : Nat) (old new : Word) (s : State) (i : Nat) {f : Fld} (hf : f.apart) :
    (tkDone d addr old new s).get i f = s.get i f := by
  unfold tkDone
  dsimp only
  rw [recordEvent_get _ _ _ _ hf]
  have hput : ∀ g : TkC → TkC, ((((s.put d F.LIB_TK_STAT_SEQ ((s.get d F.LIB_TK_STAT_SEQ + 1) % 65536)).off d
      F.LIB_TK_STAT_ARMED).put d F.LIB_TK_STAT_CODE Tk.ok).modTk d g).get i f = s.get i f := fun g => by
    rw [State.modTk, State.modLib, State.modC_get, get_put_lib hf (by decide) (by decide), State.off_eq,
      get_put_lib hf (by decide) (by decide), get_put_lib hf (by decide) (by decide)]
  split
  · split
    · rw [reloadCancel_get _ _ _ _ hf, hput]
    · exact hput _
  · exact hput _

/-! ### The clear of an axis -/

/-- The fields that the clear of an axis names are outside LIB and PROMPT. -/
theorem clearFields_apart : (F.SAFE_AX_CAUSE_LATCHED 0).apart ∧ (F.SAFE_AX_CAUSE_ACTIVE 0).apart ∧
    (F.SAFE_AX_STAT_STATE 0).apart ∧ (F.FIELD_AX_STAT_PHASE 0).apart ∧ F.SAFE_CLRST_CODE.apart ∧ F.SAFE_CLRST_AX.apart ∧
    F.SAFE_CEVT_CLRREF.apart := by
  unfold Fld.apart
  decide

/-- What the clear of an axis asks of a state does not rest on what an earlier clear has reported. -/
theorem clrRefusal_put_clrst {s : State} {d : Nat} (v : Nat) (pkg : Bool) :
    (s.put d F.SAFE_CLRST_CODE v).clrRefusal d 0 pkg = s.clrRefusal d 0 pkg := by
  have hget : ∀ (i : Nat) (f : Fld), f.off < 0x1000000 → f.off ≠ 0x18008 →
      (s.put d F.SAFE_CLRST_CODE v).get i f = s.get i f :=
    fun i f hf hne => State.get_put_other (by decide) hf (.inr hne)
  have hflag : ∀ (i : Nat) (f : Fld), f.off < 0x1000000 → f.off ≠ 0x18008 →
      (s.put d F.SAFE_CLRST_CODE v).flag i f = s.flag i f :=
    fun i f hf hne => by rw [State.flag, State.flag, hget i f hf hne]
  have hgeti : ∀ (i : Nat) (f : Fld), f.off < 0x1000000 → f.off ≠ 0x18008 →
      (s.put d F.SAFE_CLRST_CODE v).geti i f = s.geti i f :=
    fun i f hf hne => by rw [State.geti, State.geti, hget i f hf hne]
  have hcurt : (s.put d F.SAFE_CLRST_CODE v).inCurtain d 0 = s.inCurtain d 0 := hflag _ _ (by decide) (by decide)
  have htype : (s.put d F.SAFE_CLRST_CODE v).axType d 0 = s.axType d 0 := hget _ _ (by decide) (by decide)
  have hfb : s.get d (F.FIELD_AX_CFG_FB 0) < 4 := s.get_lt d (F.FIELD_AX_CFG_FB 0)
  have hnow : (s.put d F.SAFE_CLRST_CODE v).now d = s.now d := by simp [State.now]
  have haxr : (s.put d F.SAFE_CLRST_CODE v).axr d 0 = s.axr d 0 := by simp only [State.axr, State.put_c]
  have haxc : (s.put d F.SAFE_CLRST_CODE v).axCurt d 0 = s.axCurt d 0 := by simp only [State.axCurt, State.put_c]
  have hdst : ∀ k, (s.put d F.SAFE_CLRST_CODE v).fieldDst d 0 k = s.fieldDst d 0 k := fun k => by
    simp only [State.fieldDst, State.put_c]
  have hspeed : (s.put d F.SAFE_CLRST_CODE v).speed d 0 = s.speed d 0 := by
    simp (disch := first | decide | (dsimp only; omega)) only [State.speed, State.fbAxisSpeed, hget, hgeti, htype,
      haxr, hdst]
  have hfield : (s.put d F.SAFE_CLRST_CODE v).fieldSpeed d 0 = s.fieldSpeed d 0 := by
    simp (disch := first | decide | (dsimp only; omega)) only [State.fieldSpeed, hget, hflag, hcurt, haxc, hspeed,
      hnow]
  have htmon : (s.put d F.SAFE_CLRST_CODE v).tmonSpeed d 0 = s.tmonSpeed d 0 := by
    simp (disch := first | decide | (dsimp only; omega)) only [State.tmonSpeed, hflag, hgeti]
  have hrule : (s.put d F.SAFE_CLRST_CODE v).ruleSpeed d 0 = s.ruleSpeed d 0 := by
    simp (disch := first | decide | (dsimp only; omega)) only [State.ruleSpeed, hget, hfield, htmon]
  have hshort : (s.put d F.SAFE_CLRST_CODE v).shortBySpeed d 0 = s.shortBySpeed d 0 := by
    simp (disch := first | decide | (dsimp only; omega)) only [State.shortBySpeed, State.speedTerm, hget, hgeti, hflag,
      htype, hrule]
  have hserves : ∀ k, (s.put d F.SAFE_CLRST_CODE v).serves k 0 = s.serves k 0 := fun k => by
    simp (disch := first | decide | (dsimp only; omega)) only [State.serves, State.legAx, State.put_hasD, hget]
  have howner : ∀ k, (s.put d F.SAFE_CLRST_CODE v).owner k = s.owner k := fun k => hget _ _ (by decide) (by decide)
  have hdies : (s.put d F.SAFE_CLRST_CODE v).dOf 0 = s.dOf 0 := by simp only [State.dOf, hserves]
  have hhome : (s.put d F.SAFE_CLRST_CODE v).home d 0 = s.home d 0 := by simp only [State.home, hdies, howner]
  have howns : ∀ e k, (s.put d F.SAFE_CLRST_CODE v).owns e k = s.owns e k := fun e k => by
    simp only [State.owns, State.orphan, State.put_hasD, State.put_dd, howner]
  simp (disch := first | decide | (dsimp only; omega)) only [State.clrRefusal, hget, hcurt, hhome, hdies, howns, hshort]

/-- The state once the keys have released the write, before its clears: the report is 0. -/
def clrBegun (d : Nat) (s : State) : State := s.put d F.SAFE_CLRST_CODE 0

/-- A write that names axis 0 alone clears it, or reports the code that refuses it. -/
theorem clrApply_axis0 (d : Nat) (s : State) : clrApply d 1#32 s =
    if s.clrRefusal d 0 false = 0 then clrAxis d 0 (clrBegun d s)
    else clrRefused d 0 (s.clrRefusal d 0 false) (clrBegun d s) := by
  have haxes : ∀ t : State, clrAxes d 1 t =
      if t.clrRefusal d 0 false == 0 then clrAxis d 0 t else clrRefused d 0 (t.clrRefusal d 0 false) t := fun t => rfl
  show clrAxes d 1 (clrBegun d s) = _
  rw [haxes, clrBegun, clrRefusal_put_clrst]
  simp only [beq_iff_eq]

theorem exec_safeClrAx_released {s : State} {d : CDie} {m : Master} (hwf : s.wf = true) (hr : s.runs d.val = true)
    (hm : m.safety = true) (hready : s.tkReady d.val (own 0x18004) = true) : ∃ old new,
    exec (.safeClrAx d m 1) s = .next (tkDone d.val (own 0x18004) old new (clrApply d.val 1#32 s)) := by
  refine ⟨s.reg d.val 0x18004, newWord d.val 0x18004 (s.reg d.val 0x18004) 1#32, ?_⟩
  show execSafeClrAx d m 1 s = _
  rw [execSafeClrAx, onC_next hr, safeClrWrite, tkWrite, if_neg (by simp [State.loading_of_wf hwf]),
    if_pos (by simp [hm, hready])]
  rfl

/-- What a cleared axis shows: no cause, no state, phase IDLE, and the report as it was (R359). -/
theorem clearCurtain_shows {d : Nat} (hd : d < 2) (s : State) :
    (clearCurtain d 0 s).get d (F.SAFE_AX_CAUSE_LATCHED 0) = 0 ∧ (clearCurtain d 0 s).get d (F.SAFE_AX_CAUSE_ACTIVE 0) = 0 ∧
      (clearCurtain d 0 s).get d (F.SAFE_AX_STAT_STATE 0) = 0 ∧ (clearCurtain d 0 s).phase d 0 = Ph.idle ∧
      (clearCurtain d 0 s).get d F.SAFE_CLRST_CODE = s.get d F.SAFE_CLRST_CODE := by
  obtain ⟨hlatched, hactive, hstate, hphase, hcode, -, -⟩ := clearFields_apart
  unfold clearCurtain State.phase
  dsimp only
  rw [recordEvent_get _ _ _ _ hlatched, recordEvent_get _ _ _ _ hactive, recordEvent_get _ _ _ _ hstate,
    recordEvent_get _ _ _ _ hphase, recordEvent_get _ _ _ _ hcode]
  simp (disch := first | rfl | omega | (dsimp only; omega)) only [writeOrphan_get, writeCurtain_get, State.modAx,
    State.modSafe, State.modC_get, State.off_eq, State.putBit_eq, State.get_put_other, State.get_put_bits,
    State.get_put_same, Nat.zero_mod, Ph.idle, and_self]

/-- Settles O41: the released write clears axis 0 or reports its refusal, and the sequence's end touches none of it. -/
theorem aClearedAxisFollowsAgain : Obligations.AClearedAxisFollowsAgain := by
  unfold Obligations.AClearedAxisFollowsAgain
  intro s d m hwf hr hcurt hm hready
  obtain ⟨old, new, hexec⟩ := exec_safeClrAx_released hwf hr hm hready
  obtain ⟨hlatched, hactive, hstate, hphase, hcode, hax, hrefused⟩ := clearFields_apart
  have hbegun : ∀ f : Fld, f.off < 0x1000000 → f.off ≠ 0x18008 → (clrBegun d.val s).get d.val f = s.get d.val f :=
    fun f hf hne => State.get_put_other (by decide) hf (.inr hne)
  have hcurt' : (clrBegun d.val s).inCurtain d.val 0 = true := by
    rw [State.inCurtain, hbegun _ (by decide) (by decide)]
    exact hcurt
  refine ⟨_, hexec, fun hno => ?_, fun hact => ?_⟩
  · have heq : clrApply d.val 1#32 s = clearCurtain d.val 0 (clrBegun d.val s) := by
      rw [clrApply_axis0, if_pos hno, clrAxis, if_pos hcurt']
    obtain ⟨l, a, st, p, c⟩ := clearCurtain_shows d.isLt (clrBegun d.val s)
    rw [heq, State.phase, tkDone_get _ _ _ _ _ _ hlatched, tkDone_get _ _ _ _ _ _ hactive,
      tkDone_get _ _ _ _ _ _ hstate, tkDone_get _ _ _ _ _ _ hphase, tkDone_get _ _ _ _ _ _ hcode]
    exact ⟨l, a, st, p, c.trans (State.get_put_same _ _ _ _ (by decide))⟩
  · have heq : clrApply d.val 1#32 s = clrRefused d.val 0 Cc.causeActive (clrBegun d.val s) := by
      rw [clrApply_axis0, hact, if_neg (by decide)]
    rw [heq, State.phase, State.phase, State.flag, tkDone_get _ _ _ _ _ _ hstate, tkDone_get _ _ _ _ _ _ hphase,
      tkDone_get _ _ _ _ _ _ hcode, tkDone_get _ _ _ _ _ _ hax, tkDone_get _ _ _ _ _ _ hrefused,
      ← hbegun (F.SAFE_AX_STAT_STATE 0) (by decide) (by decide),
      ← hbegun (F.FIELD_AX_STAT_PHASE 0) (by decide) (by decide), clrRefused]
    simp (disch := first | rfl | (dsimp only; omega)) only [State.on_eq, State.get_put_other, State.get_put_bits,
      State.get_put_same]
    decide

end Sys2Proof.Machine
end

section
/-! PROOFS. The statement of 14_redundant_execution_faults: the second arrival at a checkpoint (R388, R395, R396). -/

namespace Sys2Proof.Machine

theorem onCW_of_unarmed {s : State} {d : Nat} (hr : s.runs d = true) (h : s.flag d F.LIB_TK_STAT_ARMED = false)
    (addr : Nat) (f : State → State) : onCW d addr f s = .next (f s) := by
  rw [onCW, onC_next hr, tkDisturb_of_unarmed h]

/-- The drill that a comparison runs where neither comparator misses its lane, R396. -/
def drillPassed (d : Nat) (s : State) : State :=
  (s.put d F.CHK_CMPST_LANE (s.get d F.CHK_DRILLCNT % 32)).put d F.CHK_DRILLCNT (s.get d F.CHK_DRILLCNT + 1)

theorem drill_passed (d : Nat) (s : State) : drill d false false s = drillPassed d s := rfl

theorem chkEcc_clean (d p : Nat) (s : State) : chkEcc d p 0 s = s := rfl

theorem disagreed_false (d : Nat) (s : State) : disagreed d false s = s := rfl

/-- A clean comparison without a full context: it latches MISMATCH on a difference, and counts where both agree. -/
theorem checkpointVerdict_clean (d core : Nat) (e : CpEnt) (id digest : Nat) (ctx : CoreCtx) (s : State)
    (hfull : e.full = false) : checkpointVerdict d core e id digest false ctx false false false 0 s =
      let u := drillPassed d (modChk d (pairOf core) (fun x => { x with cp := none }) s)
      if e.id ≠ id ∨ e.digest ≠ digest then ckLatch d (pairOf core) 0 (u.put d (F.CHK_P_LASTID_MISS (pairOf core)) e.id)
      else (u.count d (F.CHK_P_CPCNT (pairOf core)) 1).put d (F.CHK_P_LASTID_MATCH (pairOf core)) e.id := by
  simp only [checkpointVerdict, chkEcc_clean, drill_passed, disagreed_false, hfull, Bool.or_false, Bool.false_and,
    Bool.false_eq_true, if_false, onlyIf_false, Nat.reduceBEq, Bool.or_eq_true, bne_iff_ne]

/-- The digest register of a core when it arrives at a checkpoint of an identifier, R387. -/
def State.cpDigest (s : State) (d core id : Nat) : Nat := [id % 256, id / 256 % 256].foldl crc32Byte (s.digest d core)

/-- The second arrival of an unsplit pair that does not stall brings the verdict. -/
theorem checkpoint_second {s : State} {d core : Nat} {e : CpEnt} (hsplit : s.split d (pairOf core) = false)
    (hheld : (s.chk d (pairOf core)).held = false) (hcp : (s.chk d (pairOf core)).cp = some e) (hne : e.core ≠ core)
    (id : Nat) (full : Bool) (ctx : CoreCtx) (xMiss yMiss disagree : Bool) (ecc : Nat) :
    checkpoint d core id full ctx xMiss yMiss disagree ecc s =
      checkpointVerdict d core e id (s.cpDigest d core id) full ctx xMiss yMiss disagree ecc
        (modChk d (pairOf core) (fun x => { x with cpAt := s.now d }) (putDigest d core digPreset s)) := by
  unfold checkpoint
  simp only [hsplit, hheld, hcp, Bool.or_false, Bool.false_eq_true, if_false, beq_iff_eq, if_neg hne]
  rfl

/-- Settles O46: the second arrival brings the verdict on a clean comparison. -/
theorem aMismatchedCheckpointLatches : Obligations.AMismatchedCheckpointLatches := by
  unfold Obligations.AMismatchedCheckpointLatches
  intro s d core id ctx e hr hk hsplit hheld hcp hne hfull
  have hexec : exec (.checkpointWrite d core id false ctx false false false 0) s = .next
      (checkpointVerdict d.val core.val e id.toNat (s.cpDigest d.val core.val id.toNat) false ctx false false false 0
        (modChk d.val (pairOf core.val) (fun x => { x with cpAt := s.now d.val })
          (putDigest d.val core.val digPreset s))) := by
    show execCheckpointWrite d core id false ctx false false false 0 s = _
    rw [execCheckpointWrite, onCW_of_unarmed hr hk, checkpoint_second hsplit hheld hcp hne]
    rfl
  rw [checkpointVerdict_clean _ _ _ _ _ _ _ hfull] at hexec
  refine ⟨fun hdiff => hexec.trans (congrArg Host.Outcome.next (if_pos hdiff)), fun hid hdg => ?_⟩
  have hsame : ¬(e.id ≠ id.toNat ∨ e.digest ≠ s.cpDigest d.val core.val id.toNat) := by
    rintro (h | h)
    · exact h hid
    · exact h hdg
  rw [← hid]
  exact hexec.trans (congrArg Host.Outcome.next (if_neg hsame))

end Sys2Proof.Machine
end

section
/-! PROOFS. The statement of 16_flume_dma: the bursts of a FILL that has the engine to itself, and its completion. -/

namespace Sys2Proof.Machine

/-! ### Records of the flume channels -/

@[simp] theorem modFl_regs (d n : Nat) (g : FlC → FlC) (s : State) : (modFl d n g s).regs = s.regs := by
  simp [modFl]

@[simp] theorem modFl_get (d n : Nat) (g : FlC → FlC) (s : State) (i : Nat) (f : Fld) :
    (modFl d n g s).get i f = s.get i f := by
  simp [modFl]

@[simp] theorem modFl_rdB (d n : Nat) (g : FlC → FlC) (s : State) (i a : Nat) :
    (modFl d n g s).rdB i a = s.rdB i a := by
  simp [modFl]

theorem State.fl_modFl_same (s : State) (d n : Nat) (g : FlC → FlC) : (modFl d n g s).fl d n = g (s.fl d n) := by
  simp [modFl, State.fl]

theorem State.fl_modFl_other {s : State} {d n m : Nat} {g : FlC → FlC} (h : m ≠ n) :
    (modFl d n g s).fl d m = s.fl d m := by
  simp [modFl, State.fl, Tab.at_mod_other _ _ h]

theorem State.fl_of_cdie {s t : State} (h : t.cdie = s.cdie) (d n : Nat) : t.fl d n = s.fl d n := by
  simp only [State.fl, State.c, h]

/-! ### Bytes the engine stores -/

/-- Bytes v 0, v 1, … stored from an address upward, below the prompt ring. -/
def flumeBytes (d a b : Nat) (v : Nat → Nat) (s : State) : State :=
  ((List.range b).map (fun i => (a + i, v i))).foldl (fun s e => flumeByte d e.1 e.2 s) s

theorem flumeBytes_succ (d a b : Nat) (v : Nat → Nat) (s : State) :
    flumeBytes d a (b + 1) v s = flumeByte d (a + b) (v b) (flumeBytes d a b v s) := by
  simp [flumeBytes, List.range_succ]

theorem flumeByte_below {a : Nat} (h : a < 0x205C0000) (d v : Nat) (s : State) : flumeByte d a v s = s.wrB d a v := by
  simp [flumeByte, inRing]
  omega

theorem flumeByte_regs (d a v : Nat) (s : State) : (flumeByte d a v s).regs = s.regs := by
  unfold flumeByte
  split <;> simp

theorem flumeByte_cdie (d a v : Nat) (s : State) : (flumeByte d a v s).cdie = s.cdie := by
  unfold flumeByte
  split <;> simp

theorem flumeBytes_regs (d a b : Nat) (v : Nat → Nat) (s : State) : (flumeBytes d a b v s).regs = s.regs := by
  induction b with
  | zero => rfl
  | succ b ih => rw [flumeBytes_succ, flumeByte_regs, ih]

theorem flumeBytes_cdie (d a b : Nat) (v : Nat → Nat) (s : State) : (flumeBytes d a b v s).cdie = s.cdie := by
  induction b with
  | zero => rfl
  | succ b ih => rw [flumeBytes_succ, flumeByte_cdie, ih]

theorem flumeBytes_rdB {a b : Nat} (h : a + b ≤ 0x205C0000) (d : Nat) (v : Nat → Nat) (s : State) {e y : Nat}
    (hy : y < 0x100000000) : (flumeBytes d a b v s).rdB e y =
      if e = d ∧ a ≤ y ∧ y < a + b then v (y - a) % 256 else s.rdB e y := by
  induction b with
  | zero =>
    rw [if_neg (by omega)]
    rfl
  | succ b ih =>
    rw [flumeBytes_succ, flumeByte_below (by omega)]
    by_cases hb : e = d ∧ y = a + b
    · obtain ⟨rfl, rfl⟩ := hb
      rw [State.rdB_wrB_same, if_pos (by omega), Nat.add_sub_cancel_left]
    · rw [State.rdB_wrB_other (by unfold memKey; omega), ih (by omega)]
      exact ite_congr (propext (by omega)) (fun _ => rfl) (fun _ => rfl)

/-! ### A burst of a FILL -/

/-- Byte k of a FILL's data. -/
def DescW.fillByte (x : DescW) (a : Nat) : Nat := x.src / 256 ^ (a % 4) % 256

/-- A FILL of plain memory below the prompt ring. -/
structure DescW.Fills (x : DescW) : Prop where
  mode : x.mode = 1
  lo : 0x20000000 ≤ x.dst
  hi : x.dst + x.n ≤ 0x205C0000

theorem State.mapped_of_fills (s : State) {x : DescW} (hx : x.Fills) : s.flumeNowhere x = false := by
  obtain ⟨hmode, lo, hi⟩ := hx
  have hsram : inSram x.dst = true := by simp [inSram, lo]; omega
  simp [State.flumeNowhere, State.unmapped_of_sram s hsram, hmode]

/-- A burst of a FILL: up to 32 bytes of the pattern from the first byte not moved. -/
theorem flumeBurst_fill {x : DescW} (hx : x.Fills) (d : Nat) (n : Fin 16) (s : State) :
    ∃ reg : Nat → Nat, flumeBurst d n x.n x s =
      flumeBytes d (x.dst + (s.fl d n.val).moved) (min 32 (x.n - (s.fl d n.val).moved))
        (fun i => x.fillByte (x.dst + (s.fl d n.val).moved + i))
        ((modFl d n.val (fun y => { y with
          moved := (s.fl d n.val).moved + min 32 (x.n - (s.fl d n.val).moved), crcReg := reg y.crcReg }) s).put d
          (F.FLUME_FL_REMAIN n.val) (x.n - ((s.fl d n.val).moved + min 32 (x.n - (s.fl d n.val).moved)))) := by
  have hmem : x.srcMem = true := by simp [DescW.srcMem, hx.mode]
  have hasc : x.descends = false := by simp [DescW.descends, hx.mode]
  have hoff : ∀ k, x.dstOff k = k := fun k => by simp [DescW.dstOff, hx.mode]
  have hdata : ∀ k, s.flumeData d x (0, []) k = x.fillByte (x.dst + k) := fun k => by
    simp [State.flumeData, hmem, DescW.byteAt, hx.mode, DescW.fillByte]
  have hdst : x.dst < 0x40000000 := by have := hx.hi; omega
  refine ⟨fun r => crcRun x.crc r ((List.range (min 32 (x.n - (s.fl d n.val).moved))).map
    (fun i => s.flumeData d x (0, []) ((s.fl d n.val).moved + i))), ?_⟩
  simp only [flumeBurst, State.mapped_of_fills s hx, hmem, hasc, Nat.min_self, if_true, Bool.false_eq_true, if_false,
    flumePut, if_pos hdst, hoff, flumeBytes, Nat.add_assoc]
  congr 1
  refine List.map_congr_left (fun i hi => ?_)
  have hi' := List.mem_range.mp hi
  rw [if_pos (by omega), Nat.add_sub_cancel_left, List.getD_eq_getElem?_getD, List.getElem?_map,
    List.getElem?_range hi']
  exact congrArg _ (hdata _)

/-! ### The bursts of a FILL that has the engine to itself -/

/-- Where channel n has moved k bytes of its FILL since state s, and nothing else has happened. -/
structure Filling (s : State) (d n : Nat) (x : DescW) (k : Nat) (t : State) : Prop where
  get : ∀ f : Fld, f.off < 0x1000000 → f.off ≠ 0x90018 + 0x40 * n → t.get d f = s.get d f
  desc : (t.fl d n).desc = some x
  moved : (t.fl d n).moved = k
  others : ∀ m, m ≠ n → t.fl d m = s.fl d m
  bytes : ∀ e a, a < 0x100000000 → t.rdB e a =
    if e = d ∧ x.dst + (s.fl d n).moved ≤ a ∧ a < x.dst + k then x.fillByte a else s.rdB e a

section
variable {s t : State} {d : Nat} {n : Fin 16} {x : DescW} {k : Nat}

/-- The engine's turn taken leaves the filling as it stands. -/
theorem Filling.turn (h : Filling s d n.val x k t) (m : Nat) :
    Filling s d n.val x k (t.modC d (fun c => { c with flumeLast := m })) := by
  have hfl : ∀ m', (t.modC d (fun c => { c with flumeLast := m })).fl d m' = t.fl d m' := fun m' => by simp [State.fl]
  exact ⟨fun f hf hne => (t.modC_get _ _ _ _).trans (h.get f hf hne), by rw [hfl]; exact h.desc,
    by rw [hfl]; exact h.moved, fun m' hm => (hfl m').trans (h.others m' hm),
    fun e a ha => (t.modC_rdB _ _ _ _).trans (h.bytes e a ha)⟩

/-- A burst moves up to 32 bytes more. -/
theorem Filling.burst (h : Filling s d n.val x k t) (hx : x.Fills) (hk : k < x.n) (hw : (s.fl d n.val).moved ≤ k) :
    Filling s d n.val x (k + min 32 (x.n - k)) (flumeBurst d n x.n x t) := by
  obtain ⟨reg, hreg⟩ := flumeBurst_fill hx d n t
  have hhi := hx.hi
  rw [hreg, h.moved]
  refine ⟨fun f hf hne => ?_, ?_, ?_, fun m hm => ?_, fun e a ha => ?_⟩
  · rw [State.get, State.reg, flumeBytes_regs]
    refine (State.get_put_other ?_ hf (.inr hne)).trans ((modFl_get ..).trans (h.get f hf hne))
    dsimp only
    omega
  · rw [State.fl_of_cdie (flumeBytes_cdie ..), State.fl_of_cdie (State.put_cdie ..), State.fl_modFl_same]
    exact h.desc
  · rw [State.fl_of_cdie (flumeBytes_cdie ..), State.fl_of_cdie (State.put_cdie ..), State.fl_modFl_same]
  · rw [State.fl_of_cdie (flumeBytes_cdie ..), State.fl_of_cdie (State.put_cdie ..), State.fl_modFl_other hm]
    exact h.others m hm
  · rw [flumeBytes_rdB (by omega) _ _ _ ha, State.put_rdB, modFl_rdB, h.bytes e a ha]
    by_cases hnew : e = d ∧ x.dst + k ≤ a ∧ a < x.dst + k + min 32 (x.n - k)
    · rw [if_pos hnew, if_pos (by omega), Nat.add_sub_cancel' hnew.2.1]
      exact Nat.mod_eq_of_lt (Nat.mod_lt _ (by omega))
    · rw [if_neg hnew]
      exact ite_congr (propext (by omega)) (fun _ => rfl) (fun _ => rfl)

theorem Filling.flRuns (h : Filling s d n.val x k t) (hrun : s.flState d n.val = 1) : t.flRuns d n.val = some x := by
  have hst : t.flState d n.val = 1 :=
    (h.get (F.FLUME_FL_STAT_STATE n.val) (by dsimp only; omega) (by dsimp only; omega)).trans hrun
  simp [State.flRuns, hst, h.desc]

theorem Filling.flWaits (h : Filling s d n.val x k t) (hrun : s.flState d n.val = 1) :
    t.flWaits d n.val = if k < x.n then some x else none := by
  simp [State.flWaits, h.flRuns hrun, h.moved]

theorem Filling.flWaits_other (h : Filling s d n.val x k t) {m : Nat} (hm : m ≠ n.val) (hlt : m < 16) :
    t.flWaits d m = s.flWaits d m := by
  have hst : t.flState d m = s.flState d m :=
    h.get (F.FLUME_FL_STAT_STATE m) (by dsimp only; omega) (by dsimp only; omega)
  simp only [State.flWaits, State.flRuns, hst, h.others m hm]

end

/-- A choice from a list of one number is that number. -/
theorem find_or_head_of_only {l : List Nat} {n : Nat} (hmem : n ∈ l) (honly : ∀ m ∈ l, m = n) (p : Nat → Bool) :
    (match l.find? p with
      | some m => some m
      | none => l.head?) = some n := by
  cases hfind : l.find? p with
  | some m => exact congrArg some (honly m (List.mem_of_find?_eq_some hfind))
  | none =>
    cases l with
    | nil => simp at hmem
    | cons m l => exact congrArg some (honly m (by simp))

/-- The only channel with data to move has the turn. -/
theorem State.flNext_of_only {s : State} {d : Nat} {n : Fin 16} (h : (s.flWaits d n.val).isSome = true)
    (honly : ∀ m < 16, m ≠ n.val → s.flWaits d m = none) : s.flNext d = some n.val := by
  refine find_or_head_of_only (List.mem_filter.mpr ⟨List.mem_map.mpr ?_, h⟩) (fun m hm => ?_) _
  · refine ⟨(n.val + 15 * ((s.c d).flumeLast + 1)) % 16, List.mem_range.mpr (by omega), ?_⟩
    have := n.isLt
    omega
  · obtain ⟨hm, hw⟩ := List.mem_filter.mp hm
    obtain ⟨i, _, rfl⟩ := List.mem_map.mp hm
    refine Decidable.byContradiction fun hne => ?_
    rw [honly _ (Nat.mod_lt _ (by omega)) hne] at hw
    exact Bool.false_ne_true hw

/-- Enough bursts move all the data. -/
theorem Filling.serve {s : State} {d : Nat} {n : Fin 16} {x : DescW} (hx : x.Fills) (hrun : s.flState d n.val = 1)
    (honly : ∀ m < 16, m ≠ n.val → s.flWaits d m = none) (fuel : Nat) {t : State} {k : Nat}
    (h : Filling s d n.val x k t) (hw : (s.fl d n.val).moved ≤ k) (hfuel : x.n ≤ k + 32 * fuel) :
    Filling s d n.val x (max x.n k) (flumeServe d n x.n fuel t) := by
  induction fuel generalizing t k with
  | zero => rwa [show max x.n k = k by omega]
  | succ fuel ih =>
    have hwait := h.flWaits hrun
    by_cases hk : k < x.n
    · rw [if_pos hk] at hwait
      have hnext : t.flNext d = some n.val := State.flNext_of_only (by rw [hwait]; rfl)
        (fun m hlt hm => (h.flWaits_other hm hlt).trans (honly m hlt hm))
      have hn : Fin.ofNat 16 n.val = n := Fin.ext (Nat.mod_eq_of_lt n.isLt)
      have hstep := ((h.turn n.val).burst hx hk hw)
      have hrest := ih hstep (by omega) (by omega)
      rw [show max x.n (k + min 32 (x.n - k)) = max x.n k by omega] at hrest
      have hserve : flumeServe d n x.n (fuel + 1) t = flumeServe d n x.n fuel (flumeBurst d n x.n x
          (t.modC d (fun c => { c with flumeLast := n.val }))) := by
        simp only [flumeServe, hwait, hnext, h.moved, if_neg (Nat.not_le.mpr hk), hn, if_true]
      rwa [hserve]
    · rw [if_neg hk] at hwait
      have hserve : flumeServe d n x.n (fuel + 1) t = t := by simp only [flumeServe, hwait]
      rwa [hserve, show max x.n k = k by omega]

theorem le_sum_of_mem {l : List Nat} {a : Nat} (h : a ∈ l) : a ≤ l.sum := by
  induction l with
  | nil => simp at h
  | cons x xs ih =>
    rw [List.sum_cons]
    rcases List.mem_cons.mp h with rfl | hxs
    · exact Nat.le_add_right ..
    · exact Nat.le_trans (ih hxs) (Nat.le_add_left ..)

/-- The bursts before the engine are at least those of a channel. -/
theorem State.le_flBursts {s : State} {d : Nat} (n : Fin 16) {x : DescW} (h : s.flWaits d n.val = some x) :
    (x.n - (s.fl d n.val).moved) / 32 + 1 ≤ s.flBursts d := by
  rw [State.flBursts, ← List.sum_eq_foldl]
  refine le_sum_of_mem (List.mem_map.mpr ⟨n.val, List.mem_range.mpr n.isLt, ?_⟩)
  rw [h]

/-! ### The end of a descriptor -/

/-- The write-back of a descriptor below the prompt ring is a store of its WB word. -/
theorem writeBack_below {s : State} {d n : Nat} (v : Nat) (hi : s.get d (F.FLUME_FL_CUR n) + 0x1C + 4 ≤ 0x205C0000) :
    writeBack d n v s = s.wr32 d (s.get d (F.FLUME_FL_CUR n) + 0x1C) v := by
  have : inRing (s.get d (F.FLUME_FL_CUR n)) = false := by simp [inRing]; omega
  simp [writeBack, this]

theorem storeCrc_of_none {x : DescW} (h : x.crc = 0) (d : Nat) (n : Fin 16) (s : State) : storeCrc d n x s = s := by
  have : x.crcLen = 0 := by simp [DescW.crcLen, h]
  simp [storeCrc, this]

theorem putFlState_get (d n st : Nat) (s : State) {f : Fld} (hlt : f.off < 0x1000000) (h : f.off ≠ 0x90010 + 0x40 * n)
    (h' : f.off ≠ 0x90800 ∧ f.off ≠ 0x90804) (hn : n < 16) (i : Nat) : (putFlState d n st s).get i f = s.get i f := by
  obtain ⟨h1, h2⟩ := h'
  simp only [putFlState, State.putBit_eq]
  rw [State.get_put_other (by decide) hlt (.inr h2), State.get_put_other (by decide) hlt (.inr h1),
    State.get_put_other (by decide) hlt (.inr h1), State.get_put_other (by dsimp only; omega) hlt (.inr h)]

/-- The fields beside STATE in a channel's own status register. -/
theorem putFlState_get_stat (d n st : Nat) (s : State) {f : Fld} (hn : n < 16) (ho : f.off = 0x90010 + 0x40 * n)
    (hhi : f.hi < 32) (hlo : 2 < f.lo) : (putFlState d n st s).get d f = s.get d f := by
  have hlt : f.off < 0x1000000 := by omega
  simp only [putFlState, State.putBit_eq]
  rw [State.get_put_other (by decide) hlt (.inr (by dsimp only; omega)),
    State.get_put_other (by decide) hlt (.inr (by dsimp only; omega)),
    State.get_put_other (by decide) hlt (.inr (by dsimp only; omega)), State.get_put_bits hhi ho (.inl hlo)]

theorem putFlState_flState (d n st : Nat) (s : State) (hn : n < 16) (hst : st < 8) :
    (putFlState d n st s).flState d n = st := by
  simp only [putFlState, State.putBit_eq, State.flState]
  rw [State.get_put_other (by decide) (by dsimp only; omega) (.inr (by dsimp only; omega)),
    State.get_put_other (by decide) (by dsimp only; omega) (.inr (by dsimp only; omega)),
    State.get_put_other (by decide) (by dsimp only; omega) (.inr (by dsimp only; omega)),
    State.get_put_same _ _ _ _ (by simp)]
  exact Nat.mod_eq_of_lt hst

theorem putFlState_mem (d n st : Nat) (s : State) : (putFlState d n st s).mem = s.mem := by
  simp [putFlState]

/-- A descriptor without CRC and cue completes: WB, the count, REMAIN and CODE. -/
theorem descDone_plain {x : DescW} (hcrc : x.crc = 0) (hcue : x.cue = false) (d n : Nat) (s : State) :
    ∃ g : FlC → FlC, descDone d n x s = modFl d n g ((((writeBack d n 0x80000000 s).count d (F.FLUME_FL_DCNT n) 1).put d
      (F.FLUME_FL_REMAIN n) 0).put d (F.FLUME_FL_STAT_CODE n) 0) :=
  ⟨_, by simp [descDone, hcrc, hcue]; rfl⟩

/-- A channel at the end of its list, with no doorbell pending, ends. -/
theorem follow_end {x : DescW} {d n : Nat} {s : State} (hnext : x.next % 2 = 1)
    (hdb : s.flag d (F.FLUME_FL_STAT_DBPEND n) = false) : follow d n x s = putFlState d n Fls.ended s := by
  simp [follow, hnext, hdb]

/-- What completion leaves of a channel whose FILL has moved all its data. -/
theorem Filling.complete {s t : State} {d : Nat} {n : Fin 16} {x : DescW} {k : Nat} (h : Filling s d n.val x k t)
    (hcrc : x.crc = 0) (hcue : x.cue = false) (hnext : x.next % 2 = 1)
    (hdb : s.flag d (F.FLUME_FL_STAT_DBPEND n.val) = false)
    (hwb : s.get d (F.FLUME_FL_CUR n.val) + 0x1C + 4 ≤ 0x205C0000) :
    ∃ u, follow d n.val x (descDone d n.val x t) = u ∧
      u.mem = (t.wr32 d (s.get d (F.FLUME_FL_CUR n.val) + 0x1C) 0x80000000).mem ∧
      u.flState d n.val = 2 ∧ u.get d (F.FLUME_FL_STAT_CODE n.val) = 0 ∧ u.get d (F.FLUME_FL_REMAIN n.val) = 0 := by
  have hcur : t.get d (F.FLUME_FL_CUR n.val) = s.get d (F.FLUME_FL_CUR n.val) :=
    h.get _ (by dsimp only; omega) (by dsimp only; omega)
  have hdbt : t.get d (F.FLUME_FL_STAT_DBPEND n.val) = 0 :=
    (h.get _ (by dsimp only; omega) (by dsimp only; omega)).trans (State.flag_false.mp hdb)
  obtain ⟨g, hg⟩ := descDone_plain hcrc hcue d n.val t
  rw [writeBack_below _ (by rwa [hcur]), hcur] at hg
  have hend : follow d n.val x (descDone d n.val x t) = putFlState d n.val Fls.ended (descDone d n.val x t) := by
    refine follow_end hnext (State.flag_false.mpr ?_)
    rw [hg, modFl_get, State.get_put_bits (f := F.FLUME_FL_STAT_CODE n.val) (g := F.FLUME_FL_STAT_DBPEND n.val)
        (by simp) rfl (.inl (by simp)),
      State.get_put_other (by dsimp only; omega) (by dsimp only; omega) (.inr (by dsimp only; omega)), State.count_eq,
      State.get_put_other (by dsimp only; omega) (by dsimp only; omega) (.inr (by dsimp only; omega)), State.wr32,
      State.wrBytes_get, hdbt]
  have hn := n.isLt
  refine ⟨_, hend, ?_, putFlState_flState _ _ _ _ hn (by decide), ?_, ?_⟩
  · rw [putFlState_mem, hg]
    simp [modFl]
  · rw [putFlState_get_stat _ _ _ _ hn rfl (by dsimp only; omega) (by dsimp only; omega), hg, modFl_get,
      State.get_put_same _ _ _ _ (by simp)]
    rfl
  · rw [putFlState_get _ _ _ _ (by dsimp only; omega) (by dsimp only; omega) (by dsimp only; omega) hn, hg, modFl_get,
      State.get_put_other (by dsimp only; omega) (by dsimp only; omega) (.inr (by dsimp only; omega)),
      State.get_put_same _ _ _ _ (by simp)]
    rfl

/-- Settles O50: the bursts of the only channel that waits are a filling, by as many bytes as are left; its completion
stores the WB word and ends the channel. -/
theorem aFilledBlockIsWritten : Obligations.AFilledBlockIsWritten := by
  unfold Obligations.AFilledBlockIsWritten
  intro s d n x hr hrun hdesc honly hmode hcrc hcue hnext lo hi hdb wb was hwlo hwhi hapart
  have hx : x.Fills := ⟨hmode, lo, hi⟩
  have h0 : Filling s d.val n.val x (s.fl d.val n.val).moved s :=
    ⟨fun _ _ _ => rfl, hdesc, rfl, fun _ _ => rfl, fun e a _ => by rw [if_neg (by omega)]⟩
  have hbursts : x.n ≤ (s.fl d.val n.val).moved + 32 * s.flBursts d.val := by
    by_cases hk : (s.fl d.val n.val).moved < x.n
    · have hwait := h0.flWaits hrun
      rw [if_pos hk] at hwait
      have := State.le_flBursts n hwait
      omega
    · omega
  have hall := h0.serve hx hrun honly _ (Nat.le_refl _) hbursts
  obtain ⟨u, hu, hmem, hst, hcode, hrem⟩ := hall.complete hcrc hcue hnext hdb hwhi
  have hbyte : ∀ e a, u.rdB e a = (State.wr32 (flumeUpTo d.val n x.n s) d.val wb 0x80000000).rdB e a := fun e a =>
    State.rdB_of_mem hmem e a
  have hexec : exec (.descriptorComplete d n) s = .next u := by
    show execDescriptorComplete d n s = _
    rw [execDescriptorComplete, onC_next hr]
    have hruns := hall.flRuns hrun
    rw [← flumeUpTo] at hruns
    simp only [descComplete, h0.flRuns hrun, hruns, Option.isNone_some, Bool.false_eq_true, if_false,
      storeCrc_of_none hcrc]
    exact congrArg _ hu
  refine ⟨u, hexec, fun a h1 h2 => ?_, ?_, fun e a ha ho => ?_, hst, hcode, hrem⟩
  · rw [hbyte, State.rdB_wr32_other (by omega) (by omega) (by omega), flumeUpTo, hall.bytes _ _ (by omega),
      if_pos ⟨rfl, h1, by omega⟩]
    rfl
  · have : u.rd32 d.val wb = (State.wr32 (flumeUpTo d.val n x.n s) d.val wb 0x80000000).rd32 d.val wb := by
      simp only [State.rd32, State.rdLE, State.rdBytes, hbyte]
    rw [this, State.rd32_wr32 _ _ _ _ (by decide)]
  · have hword : e ≠ d.val ∨ a < wb ∨ wb + 4 ≤ a := ho.imp id And.right
    rw [hbyte, State.rdB_wr32_other (by omega) ha hword, flumeUpTo, hall.bytes _ _ ha, if_neg]
    omega

end Sys2Proof.Machine
end

section
/-! PROOFS. The statement of 17_can about reception: a frame of a sound controller, stored in FIFO 0 (R455 to R457). -/

namespace Sys2Proof.Machine

/-! ### What a cue leaves alone -/

/-- The registers, the memory and the controllers of t are those of s. -/
structure SameCan (s t : State) : Prop where
  regs : t.regs = s.regs
  mem : t.mem = s.mem
  can : ∀ d n, t.can d n = s.can d n

theorem SameCan.refl (s : State) : SameCan s s := ⟨rfl, rfl, fun _ _ => rfl⟩

theorem SameCan.get {s t : State} (h : SameCan s t) (i : Nat) (f : Fld) : t.get i f = s.get i f := by
  simp only [State.get, State.reg, h.regs]

theorem SameCan.modHdr {s t : State} (h : SameCan s t) (d : Nat) (g : HdrC → HdrC) : SameCan s (t.modHdr d g) := by
  refine ⟨by simpa [State.modHdr] using h.regs, by simpa [State.modHdr] using h.mem, fun e n => ?_⟩
  rw [← h.can e n]
  by_cases he : e = d
  · subst he
    simp [State.can, State.modHdr]
  · simp [State.can, State.modHdr, State.c_modC_other he]

theorem SameCan.modLink {s t : State} (h : SameCan s t) (i n : Nat) (g : LinkC → LinkC) : SameCan s (t.modLink i n g) := by
  unfold State.modLink
  split
  · exact h.modHdr ..
  · exact ⟨h.regs, h.mem, h.can⟩

theorem SameCan.sent {s t : State} (h : SameCan s t) (i n src : Nat) : SameCan s (sendCue i n src t) :=
  have hl := h.modLink i n (fun l => { l with slots := cueSlots src t.freeWord ++ l.slots })
  ⟨hl.regs, hl.mem, hl.can⟩

theorem SameCan.noted {s t : State} (h : SameCan s t) (d way : Nat) : SameCan s (cueNote d way t) := by
  unfold cueNote
  exact h.modHdr ..

theorem SameCan.queued {s t : State} (h : SameCan s t) (d src : Nat) (peer : Bool) :
    SameCan s (queueCues d src peer t) := by
  unfold queueCues
  dsimp only
  refine overL_inv ?_ (fun n _ u hu => ?_)
  · split
    · exact h.noted ..
    · exact h
  · split
    · exact hu
    · refine SameCan.modHdr ?_ ..
      split
      · exact (hu.noted ..).sent ..
      · exact hu

/-- A cue source event only puts arrivals on their way. -/
theorem sameCan_fireCue (d src : Nat) (s : State) : SameCan s (fireCue d src s) := by
  have h : SameCan s (if s.runs d then queueCues d src false s else s) := by
    split
    · exact (SameCan.refl s).queued ..
    · exact SameCan.refl s
  revert h
  unfold fireCue
  generalize (if s.runs d then queueCues d src false s else s) = t
  intro h
  dsimp only
  split
  · refine SameCan.queued ?_ ..
    split
    · exact h.sent ..
    · exact h
  · exact h

/-! ### Words of memory -/

theorem State.rd32_congr {s t : State} {i a : Nat} (h : ∀ k < 4, t.rdB i (a + k) = s.rdB i (a + k)) :
    t.rd32 i a = s.rd32 i a := by
  simp only [State.rd32, State.rdLE, State.rdBytes, List.map_congr_left (fun k hk => h k (List.mem_range.mp hk))]

theorem State.rd32_wr32_other {s : State} {i a e x w : Nat} (ha : a + 4 ≤ 0x100000000) (hx : x + 4 ≤ 0x100000000)
    (h : e ≠ i ∨ x + 4 ≤ a ∨ a + 4 ≤ x) : (s.wr32 i a w).rd32 e x = s.rd32 e x :=
  State.rd32_congr (fun k _ => State.rdB_wr32_other ha (by omega) (by omega))

/-- A byte outside a row of bytes written is as it was. -/
theorem State.rdB_wrBytes_outside {s : State} {i a e x : Nat} {bs : List Nat} (ha : a + bs.length ≤ 0x100000000)
    (hx : x < 0x100000000) (h : e ≠ i ∨ x < a ∨ a + bs.length ≤ x) : (s.wrBytes i a bs).rdB e x = s.rdB e x := by
  refine State.rdB_wrBytes_other (fun k hk => ?_)
  unfold memKey
  omega

theorem State.rd32_wrBytes_below {s : State} {i a x : Nat} {bs : List Nat} (ha : a + bs.length ≤ 0x100000000)
    (h : x + 4 ≤ a) : (s.wrBytes i a bs).rd32 i x = s.rd32 i x :=
  State.rd32_congr (fun k _ => State.rdB_wrBytes_outside ha (by omega) (by omega))

/-! ### Reception -/

/-- The receive counter of a controller without errors falls to 0 and no flag changes (R462). -/
theorem canLower_clean {s : State} {d n : Nat} (hmode : s.canMode d n = 0) (hrx : s.get d (F.CAN_CAN_ERRC_RXCNT n) = 0)
    (htx : s.get d (F.CAN_CAN_ERRC_TXCNT n) = 0) (hwarn : s.get d (F.CAN_CAN_STAT_WARN n) = 0)
    (hpas : s.get d (F.CAN_CAN_STAT_PASSIVE n) = 0) (hn : n < 4) :
    canLower d n false s = (s.put d (F.CAN_CAN_ERRC_RXCNT n) 0).put d (F.CAN_CAN_ERRC_RXPASS n) 0 := by
  have hrx' : (s.put d (F.CAN_CAN_ERRC_RXCNT n) 0).get d (F.CAN_CAN_ERRC_RXCNT n) = 0 :=
    State.get_put_same _ _ _ _ (by simp)
  have htx' : (s.put d (F.CAN_CAN_ERRC_RXCNT n) 0).get d (F.CAN_CAN_ERRC_TXCNT n) = 0 :=
    (State.get_put_bits (f := F.CAN_CAN_ERRC_RXCNT n) (g := F.CAN_CAN_ERRC_TXCNT n) (by simp) (by simp)
      (.inl (by simp))).trans htx
  have hstat : ∀ f : Fld, f.off = 0x240004 + 0x10000 * n → s.get d f = 0 →
      ((s.put d (F.CAN_CAN_ERRC_RXCNT n) 0).put d (F.CAN_CAN_ERRC_RXPASS n) 0).flag d f = false := fun f hf h0 => by
    rw [State.flag_false, State.get_put_other (by dsimp only; omega) (by omega) (.inr (by dsimp only; omega)),
      State.get_put_other (by dsimp only; omega) (by omega) (.inr (by dsimp only; omega)), h0]
  have hw := hstat _ rfl hwarn
  have hp := hstat _ rfl hpas
  have hflags : canFlags d n (s.put d (F.CAN_CAN_ERRC_RXCNT n) 0) =
      (s.put d (F.CAN_CAN_ERRC_RXCNT n) 0).put d (F.CAN_CAN_ERRC_RXPASS n) 0 := by
    simp only [canFlags, htx', hrx', Nat.reduceLeDiff, decide_false, Bool.or_false, b2n, Bool.false_eq_true, if_false,
      hw, hp, beq_self_eq_true, if_true]
  rw [canLower, hmode, hrx]
  exact hflags

theorem canFilter_nomatch {s : State} {d n t : Nat} {x : RxFrame} (hrem : x.rem = false)
    (hused : s.get d (F.CAN_CAN_FLTCFG_USED n) = 0) (hno : s.get d (F.CAN_CAN_FLTCFG_NOMATCH n) = 1) :
    canFilter d n t x s = rxStore d n 0 t none x s := by
  simp [canFilter, hrem, hused, hno]

@[simp] theorem State.can_put (s : State) (i : Nat) (f : Fld) (v d n : Nat) : (s.put i f v).can d n = s.can d n := by
  simp [State.can, State.c]

theorem State.can_modCan_same (s : State) (d n : Nat) (g : CanC → CanC) : (modCan d n g s).can d n = g (s.can d n) := by
  simp [modCan, State.can]

@[simp] theorem modCan_get (d n : Nat) (g : CanC → CanC) (s : State) (i : Nat) (f : Fld) :
    (modCan d n g s).get i f = s.get i f := by
  simp [modCan]

@[simp] theorem modCan_mem (d n : Nat) (g : CanC → CanC) (s : State) : (modCan d n g s).mem = s.mem := by
  simp [modCan]

/-- A frame that ends with no halt waiting leaves the bus idle. -/
theorem canFrameEnd_running {s : State} {d n : Nat} (h : (s.can d n).haltReq = false) :
    canFrameEnd d n s = modCan d n (fun x => { x with tx := none }) (s.put d (F.CAN_CAN_STAT_ACTY n) 1) := by
  refine if_neg ?_
  rw [State.can_modCan_same, State.can_put]
  simp [h]

/-- The words of the element that a frame fills, R455. -/
def rxWord0 (x : RxFrame) : Nat := x.id + 2 ^ 29 * b2n x.ext + 2 ^ 30 * b2n x.rem + 2 ^ 31 * b2n x.fd
def rxWord1 (x : RxFrame) (flt : Option Nat) (t : Nat) : Nat :=
  x.len + 2 ^ 7 * b2n x.brs + 2 ^ 8 * b2n x.esi + 2 ^ 9 * flt.getD 0 + 2 ^ 18 * b2n flt.isNone + 2 ^ 19 * canTs t

/-- A frame written to an element of the message RAM. -/
def rxElement (d a t : Nat) (flt : Option Nat) (x : RxFrame) (s : State) : State :=
  ((s.wr32 d a (rxWord0 x)).wr32 d (a + 4) (rxWord1 x flt t)).wrBytes d (a + 8) x.data

theorem rxElement_get (d a t : Nat) (flt : Option Nat) (x : RxFrame) (s : State) (i : Nat) (f : Fld) :
    (rxElement d a t flt x s).get i f = s.get i f := by
  simp [rxElement, State.wr32]

/-- Storing in FIFO 0 with room: the element, LEVEL and FULL, the event, the cue 0xA1 + 4n. -/
theorem rxStore_room {s : State} {d n t : Nat} {flt : Option Nat} {x : RxFrame}
    (h : s.get d (F.CAN_CAN_RQST_LEVEL n 0) < 384) : rxStore d n 0 t flt x s =
      fireCue d (0xA1 + 4 * n) (canEvt d n CanEv.q0new
        (((rxElement d (canRam n (0x1000 + 72 * ((s.get d (F.CAN_CAN_RQST_RDIDX n 0) +
          s.get d (F.CAN_CAN_RQST_LEVEL n 0)) % 384))) t flt x s).put d
          (F.CAN_CAN_RQST_LEVEL n 0) (s.get d (F.CAN_CAN_RQST_LEVEL n 0) + 1)).put d (F.CAN_CAN_RQST_FULL n 0)
            (b2n (decide (384 ≤ s.get d (F.CAN_CAN_RQST_LEVEL n 0) + 1))))) := by
  simp only [rxStore, rxSize, rxBase, beq_self_eq_true, if_true, if_neg (Nat.not_le.mpr h), Nat.add_zero]
  rfl

/-- A controller in NORMAL mode without errors, filters and schedule, with no halt waiting, that stores in FIFO 0 what no
filter accepts. -/
structure State.CanSound (s : State) (d n : Nat) : Prop where
  mode : s.canMode d n = 0
  halt : (s.can d n).haltReq = false
  used : s.get d (F.CAN_CAN_FLTCFG_USED n) = 0
  fifo0 : s.get d (F.CAN_CAN_FLTCFG_NOMATCH n) = 1
  role : s.get d (F.CAN_CAN_TTCFG_ROLE n) = 0
  rxcnt : s.get d (F.CAN_CAN_ERRC_RXCNT n) = 0
  txcnt : s.get d (F.CAN_CAN_ERRC_TXCNT n) = 0
  warn : s.get d (F.CAN_CAN_STAT_WARN n) = 0
  passive : s.get d (F.CAN_CAN_STAT_PASSIVE n) = 0

/-- The state in which the element of a received frame is written: the error counters have been touched. -/
def canCounted (d n : Nat) (s : State) : State :=
  (s.put d (F.CAN_CAN_ERRC_RXCNT n) 0).put d (F.CAN_CAN_ERRC_RXPASS n) 0

theorem canCounted_get {d n : Nat} {s : State} {f : Fld} (hn : n < 4) (hf : f.off < 0x1000000)
    (h : f.off ≠ 0x240008 + 0x10000 * n) : (canCounted d n s).get d f = s.get d f := by
  unfold canCounted
  rw [State.get_put_other (by dsimp only; omega) hf (.inr h), State.get_put_other (by dsimp only; omega) hf (.inr h)]

theorem canCounted_mem (d n : Nat) (s : State) : (canCounted d n s).mem = s.mem := by
  simp [canCounted]

/-- FIFO 0 with the element of a frame after its last. -/
def rxStored (d n t : Nat) (x : RxFrame) (s : State) : State :=
  let lev := s.get d (F.CAN_CAN_RQST_LEVEL n 0)
  let a := canRam n (0x1000 + 72 * ((s.get d (F.CAN_CAN_RQST_RDIDX n 0) + lev) % 384))
  canEvt d n CanEv.q0new ((((rxElement d a t none x s).put d (F.CAN_CAN_RQST_LEVEL n 0) (lev + 1)).put d
    (F.CAN_CAN_RQST_FULL n 0) (b2n (decide (384 ≤ lev + 1)))))

theorem rxStored_can (d n t : Nat) (x : RxFrame) (s : State) (e m : Nat) : (rxStored d n t x s).can e m = s.can e m := by
  simp only [rxStored, canEvt, State.putBit_eq, State.can_put]
  simp only [State.can, State.c, rxElement, State.wr32, State.wrBytes_cdie]

/-- Storing changes FIFO 0's own status and the events. -/
theorem rxStored_get {d n t : Nat} {x : RxFrame} {s : State} {f : Fld} (hn : n < 4) (hf : f.off < 0x1000000)
    (hq : f.off ≠ 0x240028 + 0x10000 * n) (hev : f.off ≠ 0x240018 + 0x10000 * n) :
    (rxStored d n t x s).get d f = s.get d f := by
  simp only [rxStored, canEvt, State.putBit_eq]
  rw [State.get_put_other (by dsimp only; omega) hf (.inr hev),
    State.get_put_other (by dsimp only; omega) hf (.inr (by simpa using hq)),
    State.get_put_other (by dsimp only; omega) hf (.inr (by simpa using hq)), rxElement_get]

theorem rxStored_level (d n t : Nat) (x : RxFrame) (s : State) (hn : n < 4)
    (h : s.get d (F.CAN_CAN_RQST_LEVEL n 0) < 384) :
    (rxStored d n t x s).get d (F.CAN_CAN_RQST_LEVEL n 0) = s.get d (F.CAN_CAN_RQST_LEVEL n 0) + 1 := by
  simp only [rxStored, canEvt, State.putBit_eq]
  rw [State.get_put_other (by dsimp only; omega) (by dsimp only; omega) (.inr (by dsimp only; omega)),
    State.get_put_bits (f := F.CAN_CAN_RQST_FULL n 0) (g := F.CAN_CAN_RQST_LEVEL n 0) (by simp) rfl (.inr (by simp)),
    State.get_put_same _ _ _ _ (by simp)]
  simp only [Fld.size]
  omega

theorem rxStored_rdidx (d n t : Nat) (x : RxFrame) (s : State) (hn : n < 4) :
    (rxStored d n t x s).get d (F.CAN_CAN_RQST_RDIDX n 0) = s.get d (F.CAN_CAN_RQST_RDIDX n 0) := by
  simp only [rxStored, canEvt, State.putBit_eq]
  rw [State.get_put_other (by dsimp only; omega) (by dsimp only; omega) (.inr (by dsimp only; omega)),
    State.get_put_bits (f := F.CAN_CAN_RQST_FULL n 0) (g := F.CAN_CAN_RQST_RDIDX n 0) (by simp) rfl (.inl (by simp)),
    State.get_put_bits (f := F.CAN_CAN_RQST_LEVEL n 0) (g := F.CAN_CAN_RQST_RDIDX n 0) (by simp) rfl (.inl (by simp)),
    rxElement_get]

theorem canEvt_q0new (d n : Nat) (s : State) :
    (canEvt d n CanEv.q0new s).bitOf d (F.CAN_CAN_EVT n) CanEv.q0new = true := by
  rw [State.bitOf, canEvt, State.putBit_eq, State.get_put_same _ _ _ _ (by simp)]
  simp only [bit, setBit, Fld.size, CanEv.q0new, beq_iff_eq]
  split <;> simp_all
  omega

theorem rxStored_mem (d n t : Nat) (x : RxFrame) (s : State) : (rxStored d n t x s).mem = (rxElement d
    (canRam n (0x1000 + 72 * ((s.get d (F.CAN_CAN_RQST_RDIDX n 0) + s.get d (F.CAN_CAN_RQST_LEVEL n 0)) % 384))) t none
    x s).mem := by
  simp [rxStored, canEvt]

/-! ### Reading an element -/

section
variable {d a t : Nat} {flt : Option Nat} {x : RxFrame} {s : State}

theorem rxElement_word0 (ha : a + 8 + x.data.length ≤ 0x100000000) (h : rxWord0 x < 2 ^ 32) :
    (rxElement d a t flt x s).rd32 d a = rxWord0 x := by
  rw [rxElement, State.rd32_wrBytes_below ha (by omega), State.rd32_wr32_other (by omega) (by omega) (by omega),
    State.rd32_wr32 _ _ _ _ h]

theorem rxElement_word1 (ha : a + 8 + x.data.length ≤ 0x100000000) (h : rxWord1 x flt t < 2 ^ 32) :
    (rxElement d a t flt x s).rd32 d (a + 4) = rxWord1 x flt t := by
  rw [rxElement, State.rd32_wrBytes_below ha (by omega), State.rd32_wr32 _ _ _ _ h]

theorem rxElement_data {i : Nat} (hi : i < x.data.length) :
    (rxElement d a t flt x s).rdB d (a + 8 + i) = x.data[i] % 256 :=
  State.rdB_wrBytes_at hi

theorem rxElement_outside {e y : Nat} (ha : a + 8 + x.data.length ≤ 0x100000000) (hy : y < 0x100000000)
    (h : e ≠ d ∨ y < a ∨ a + 8 + x.data.length ≤ y) : (rxElement d a t flt x s).rdB e y = s.rdB e y := by
  rw [rxElement, State.rdB_wrBytes_outside ha hy (by omega), State.rdB_wr32_other (by omega) hy (by omega),
    State.rdB_wr32_other (by omega) hy (by omega)]

end

/-! ### The frame received -/

/-- A frame that a sound controller receives is stored, and what follows leaves the FIFO and the memory alone. -/
theorem canReceive_sound {s : State} {d n : Nat} (h : s.CanSound d n) (hn : n < 4) {x : RxFrame} (hrem : x.rem = false)
    (hlev : s.get d (F.CAN_CAN_RQST_LEVEL n 0) < 384) (t : Nat) : ∃ u, canReceive d n t x s = u ∧
      u.mem = (rxStored d n t x (canCounted d n s)).mem ∧
      ∀ f : Fld, f.off < 0x1000000 → f.off ≠ 0x240004 + 0x10000 * n →
        u.get d f = (rxStored d n t x (canCounted d n s)).get d f := by
  have hkeep : ∀ f : Fld, f.off < 0x1000000 → f.off ≠ 0x240008 + 0x10000 * n →
      (canCounted d n s).get d f = s.get d f := fun f => canCounted_get hn
  have hcounted : canLower d n false s = canCounted d n s :=
    canLower_clean h.mode h.rxcnt h.txcnt h.warn h.passive hn
  have href : (canCounted d n s).isRef d n x = false := by
    have hrole : (canCounted d n s).flag d (F.CAN_CAN_TTCFG_ROLE n) = false :=
      State.flag_false.mpr ((hkeep _ (by dsimp only; omega) (by dsimp only; omega)).trans h.role)
    simp [State.isRef, hrole]
  have hlev' : (canCounted d n s).get d (F.CAN_CAN_RQST_LEVEL n 0) < 384 := by
    rwa [hkeep _ (by dsimp only; omega) (by dsimp only; omega)]
  have hfilter : canFilter d n t x (canCounted d n s) =
      fireCue d (0xA1 + 4 * n) (rxStored d n t x (canCounted d n s)) :=
    (canFilter_nomatch hrem ((hkeep _ (by dsimp only; omega) (by dsimp only; omega)).trans h.used)
      ((hkeep _ (by dsimp only; omega) (by dsimp only; omega)).trans h.fifo0)).trans (rxStore_room hlev')
  have hcue := sameCan_fireCue d (0xA1 + 4 * n) (rxStored d n t x (canCounted d n s))
  have hhalt : ((fireCue d (0xA1 + 4 * n) (rxStored d n t x (canCounted d n s))).can d n).haltReq = false := by
    rw [hcue.can, rxStored_can, canCounted, State.can_put, State.can_put]
    exact h.halt
  have hmode : (canFrameEnd d n (fireCue d (0xA1 + 4 * n) (rxStored d n t x (canCounted d n s)))).canMode d n = 0 := by
    rw [State.canMode, canFrameEnd_running hhalt, modCan_get,
      State.get_put_other (by dsimp only; omega) (by dsimp only; omega) (.inr (by dsimp only; omega)), hcue.get,
      rxStored_get hn (by dsimp only; omega) (by dsimp only; omega) (by dsimp only; omega),
      hkeep _ (by dsimp only; omega) (by dsimp only; omega)]
    exact h.mode
  have hend : ∀ f : Fld, f.off < 0x1000000 → f.off ≠ 0x240004 + 0x10000 * n → (canFrameEnd d n (fireCue d (0xA1 + 4 * n)
      (rxStored d n t x (canCounted d n s)))).get d f = (rxStored d n t x (canCounted d n s)).get d f := fun f hf hne => by
    rw [canFrameEnd_running hhalt, modCan_get, State.get_put_other (by dsimp only; omega) hf (.inr hne), hcue.get]
  refine ⟨canFrameEnd d n (fireCue d (0xA1 + 4 * n) (rxStored d n t x (canCounted d n s))), ?_, ?_, hend⟩
  · simp [canReceive, hcounted, href, hfilter, ardFrame, hmode]
  · rw [canFrameEnd_running hhalt, modCan_mem, State.put_mem, hcue.mem]

/-- A base data frame as the controller stores it. -/
theorem rxOf_base {x : CanFrame} (hext : x.ext = false) (hrem : x.rem = false) (hfd : x.fd = false)
    (hlen : x.data.length = x.dlc.val) (h8 : x.dlc.val ≤ 8) :
    rxOf x = ⟨false, false, false, false, false, x.id.toNat % 2 ^ 11, x.data.map (·.toNat), x.dlc.val⟩ := by
  have hdata : (List.range x.dlc.val).map (fun i => (x.data.getD i 0).toNat) = x.data.map (·.toNat) := by
    refine List.ext_getElem (by simp [hlen]) (fun i hi _ => ?_)
    simp only [List.getElem_map, List.getElem_range, List.getD_eq_getElem?_getD]
    rw [List.getElem?_eq_getElem (by simpa [hlen] using hi)]
    rfl
  simp only [rxOf, hext, hrem, hfd, Bool.false_and, Bool.and_false, Bool.false_eq_true, if_false, canLen, if_pos h8, hdata]

/-- Settles O54: the frame is stored in FIFO 0 whole, and what follows its storing touches neither. -/
theorem aReceivedFrameIsStored : Obligations.AReceivedFrameIsStored := by
  unfold Obligations.AReceivedFrameIsStored
  intro s d n x hr hhear hmode hacty hhalt hused hno hrole hrx htx hwarn hpas hext hrem hfd hlen lev at_ hlev
  obtain ⟨hlen, h8⟩ := hlen
  have hn := n.isLt
  have hx := rxOf_base hext hrem hfd hlen h8
  have hsound : s.CanSound d.val n.val := ⟨hmode, hhalt, hused, hno, hrole, hrx, htx, hwarn, hpas⟩
  obtain ⟨u, hu, hmem, hget⟩ := canReceive_sound hsound hn (x := rxOf x) (by rw [hx]) hlev (s.can d.val n.val).busSof
  have hexec : exec (.canFrameReceive d n x) s = .next u := by
    show execCanFrameReceive d n x s = _
    rw [execCanFrameReceive, onC_next hr, if_pos (by simp [hhear, hacty, hfd]), hu]
  have hq : ∀ f : Fld, f.off = 0x240028 + 0x10000 * n.val →
      (canCounted d.val n.val s).get d.val f = s.get d.val f := fun f hf => canCounted_get hn (by omega) (by omega)
  have hbyte : ∀ e a, u.rdB e a = (rxElement d.val at_ (s.can d.val n.val).busSof none (rxOf x)
      (canCounted d.val n.val s)).rdB e a := fun e a => by
    rw [State.rdB_of_mem hmem, State.rdB_of_mem (rxStored_mem ..), hq _ rfl, hq _ rfl]
  have hword : ∀ a, u.rd32 d.val a = (rxElement d.val at_ (s.can d.val n.val).busSof none (rxOf x)
      (canCounted d.val n.val s)).rd32 d.val a := fun a => State.rd32_congr (fun k _ => hbyte _ _)
  have hdata : (rxOf x).data = x.data.map (·.toNat) := by rw [hx]
  have hat : at_ + 72 ≤ 0x100000000 := by
    have hdef : at_ = 0x50000000 + 0x10000 * n.val +
      (0x1000 + 72 * ((s.get d.val (F.CAN_CAN_RQST_RDIDX n.val 0) + lev) % 384)) := rfl
    omega
  have hfit : at_ + 8 + (rxOf x).data.length ≤ at_ + 72 := by
    rw [hdata, List.length_map]
    omega
  have hw0 : rxWord0 (rxOf x) = x.id.toNat % 2 ^ 11 := by simp [rxWord0, hx, b2n]
  have hw1 : rxWord1 (rxOf x) none (s.can d.val n.val).busSof =
      x.dlc.val + 2 ^ 18 + 2 ^ 19 * ((s.can d.val n.val).busSof / 2 ^ 14 % 2 ^ 13) := by
    simp [rxWord1, hx, b2n, canTs]
  refine ⟨u, hexec, ?_, ?_, ?_, ?_, fun i hi => ?_, ?_, fun e a ha ho => ?_⟩
  · rw [hget _ (by dsimp only; omega) (by dsimp only; omega), rxStored_level _ _ _ _ _ hn (by rwa [hq _ rfl]), hq _ rfl]
  · rw [hget _ (by dsimp only; omega) (by dsimp only; omega), rxStored_rdidx _ _ _ _ _ hn, hq _ rfl]
  · rw [hword, rxElement_word0 (by omega) (by omega), hw0]
  · rw [hword, rxElement_word1 (by omega) (by omega), hw1]
  · have hi' : i < (rxOf x).data.length := by rwa [hdata, List.length_map]
    rw [hbyte, rxElement_data hi']
    simp only [hdata, List.getElem_map]
    exact Nat.mod_eq_of_lt x.data[i].isLt
  · rw [State.bitOf, hget _ (by dsimp only; omega) (by dsimp only; omega)]
    exact canEvt_q0new ..
  · rw [hbyte, rxElement_outside (by omega) ha (by omega), State.rdB_of_mem (canCounted_mem ..)]

end Sys2Proof.Machine
end

section
/-! PROOFS. What the guard of a command at a die comes to, and the statements of 10_field_control about phases. -/

namespace Sys2Proof.Machine

/-- A command that is a write by a master it does not name first disturbs an armed sequence (R129). -/
theorem onCW_next {s : State} {d : Nat} (hr : s.runs d = true) (addr : Nat) (f : State → State) :
    onCW d addr f s = .next (f (tkDisturb d addr .debug s)) := by
  rw [onCW, onC_next hr]

/-! ### Phases of an axis -/

/-- Settles O33: the guards of REVERSAL_DONE and REVERSAL_TIMEOUT decide their last two clauses. -/
theorem fieldPhases : Obligations.FieldPhases := by
  unfold Obligations.FieldPhases
  refine ⟨fun s d a hr => Eq.trans (b := execCatchDone d a s) rfl (onC_next hr),
    fun s d a hr => Eq.trans (b := execCatchNoVoltage d a s) rfl (onC_next hr),
    fun s d a hr => Eq.trans (b := execAlignDone d a s) rfl (onC_next hr),
    fun s d a hr => Eq.trans (b := execPolarityTest d a s) rfl (onC_next hr),
    fun s d a hr => Eq.trans (b := execStopComplete d a s) rfl (onC_next hr),
    fun s d a hr => Eq.trans (b := execReversalDone d a s) rfl (onC_next hr),
    fun s d a hr => Eq.trans (b := execReversalTimeout d a s) rfl (onC_next hr),
    fun s d hr => Eq.trans (b := execEffectiveSetpointUpdate d s) rfl (onC_next hr),
    fun s d a hr hph hsp hv hst => ?_, fun s d a hr hlate => ?_⟩
  · show execReversalDone d a s = _
    rw [execReversalDone, onC_next hr]
    exact congrArg _ (if_pos (by simp [hph, hst, hsp, hv, Int.ne_of_gt hsp, Int.ne_of_gt hv]))
  · show execReversalTimeout d a s = _
    rw [execReversalTimeout, onC_next hr]
    refine congrArg _ (if_neg ?_)
    simp only [Bool.and_eq_true, decide_eq_true_eq, not_and]
    omega

end Sys2Proof.Machine
end

section
/-! PROOFS. The statements of 11_pwm: each command is its step under the guard of its rule. -/

namespace Sys2Proof.Machine

/-- The blanking of a trip is read from its own configuration and from the pair of its channel (R299). -/
theorem State.blanking_congr {s t : State} {d n : Nat} (hpair : ∀ k, t.pair d k = s.pair d k)
    (hen : t.get d (F.PWM_TRIP_CFG_BLKEN n) = s.get d (F.PWM_TRIP_CFG_BLKEN n))
    (hch : t.get d (F.PWM_TRIP_CFG_BLKCH n) = s.get d (F.PWM_TRIP_CFG_BLKCH n)) :
    t.blanking d n = s.blanking d n := by
  simp only [State.blanking, State.flag, hen, hch, hpair]

theorem State.blanking_tripst (s : State) (d n v : Nat) (hn : n < 4) :
    (s.put d F.PWM_TRIPST_ACTIVE v).blanking d n = s.blanking d n :=
  State.blanking_congr (fun k => by simp only [State.pair, State.c, State.put_cdie])
    (State.get_put_other (by decide) (by dsimp only; omega) (.inr (by dsimp only; omega)))
    (State.get_put_other (by decide) (by dsimp only; omega) (.inr (by dsimp only; omega)))

theorem State.blanking_modTrip (s : State) (d n m : Nat) (g : TripC → TripC) :
    (s.modTrip d m g).blanking d n = s.blanking d n :=
  State.blanking_congr (fun k => by simp [State.pair, State.modTrip, State.modPwm]) (State.modC_get ..)
    (State.modC_get ..)

/-- An input that is not blanked latches its trip, R296. -/
theorem tripActive_open {s : State} {d n : Nat} (hn : n < 4) (h : s.blanking d n = false) : tripActive d n s =
    tripLatch d n ((s.putBit d F.PWM_TRIPST_ACTIVE n true).modTrip d n
      (fun x => { x with active := true, blanked := false })) := by
  have hput : (s.putBit d F.PWM_TRIPST_ACTIVE n true).blanking d n = false :=
    (State.blanking_tripst _ _ _ _ hn).trans h
  unfold tripActive
  dsimp only
  rw [hput, State.blanking_modTrip, hput, if_neg Bool.false_ne_true]

/-- Settles O34: the guards of the enables and of the trip inputs decide their last three clauses. -/
theorem pwmCommands : Obligations.PwmCommands := by
  unfold Obligations.PwmCommands
  refine ⟨fun s d g v hr => Eq.trans (b := execLoadGroupEnable d g v s) rfl (onCW_next hr ..),
    fun s d g hr => Eq.trans (b := execLoadGroupStart d g s) rfl (onC_next hr),
    fun s d g hr => Eq.trans (b := execGroupBoundary d g s) rfl (onC_next hr),
    fun s d k hr => Eq.trans (b := execSyncCue d k s) rfl (onC_next hr),
    fun s d g hr => Eq.trans (b := execLoadallArm d g s) rfl (onC_next hr),
    fun s d a hr => Eq.trans (b := execAxisEnable d a s) rfl (onCW_next hr ..),
    fun s d a hr => Eq.trans (b := execAxisDisable d a s) rfl (onCW_next hr ..),
    fun s d n level held hr => Eq.trans (b := execTripAssert d n level held s) rfl (onC_next hr),
    fun s d n level held hr => Eq.trans (b := execTripInactive d n level held s) rfl (onC_next hr),
    fun s d v hr => Eq.trans (b := execTripClear d v s) rfl (onCW_next hr ..),
    fun s d n hr => Eq.trans (b := execTripBlankingEnd d n s) rfl (onC_next hr),
    fun s d g v hr hk hoff hon => ?_, fun s d a hr hk hdis hcode => ?_, fun s d n level held hr hlev hacc hact hbl => ?_⟩
  · intro u
    have hexec : exec (.loadGroupEnable d g v) s = .next (lgCfgWrite d.val g.val v s) :=
      Eq.trans (b := execLoadGroupEnable d g v s) rfl (onCW_of_unarmed hr hk ..)
    rw [hexec]
    refine ⟨fun hok => ?_, fun hok => ?_⟩
    · simp only [u] at hok
      simp [lgCfgWrite, hoff, hon, b2n, u, hok]
    · simp only [u] at hok
      simp [lgCfgWrite, hoff, hon, b2n, u, hok]
  · refine ⟨Eq.trans (b := execAxisEnable d a s) rfl ?_, Eq.trans (b := execAxisDisable d a s) rfl ?_⟩
    · rw [execAxisEnable, onCW_of_unarmed hr hk]
      simp [axisEnableWrite, enRequest, hdis, hcode, enNote, onlyIf]
    · rw [execAxisDisable, onCW_of_unarmed hr hk]
      simp [axisDisableWrite, hdis]
  · show execTripAssert d n level held s = _
    rw [execTripAssert, onC_next hr, if_pos (by simp [hlev, hacc, hact]), tripActive_open n.isLt hbl]

end Sys2Proof.Machine
end

section
/-! PROOFS. The statements of 17_can about control, queues and the bus: each command is its step under the guard of its
rule. -/

namespace Sys2Proof.Machine

/-- A write to a controller, which takes none while it is held in its block reset (R84). -/
theorem onCanW_next {s : State} {d : Nat} (hr : s.runs d = true) (n off : Nat) (f : State → State) :
    onCanW d n off f s = .next (
      let s := tkDisturb d (own (0x240000 + 0x10000 * n + off)) .debug s
      if s.bitOf d F.SYS_BRST_CAN n then s else f s) := by
  rw [onCanW, onCW_next hr]

theorem onCanW_open {s : State} {d n : Nat} (hr : s.runs d = true) (hk : s.flag d F.LIB_TK_STAT_ARMED = false)
    (hb : s.bitOf d F.SYS_BRST_CAN n = false) (off : Nat) (f : State → State) : onCanW d n off f s = .next (f s) := by
  rw [onCanW_next hr]
  dsimp only
  rw [tkDisturb_of_unarmed hk, hb, if_neg Bool.false_ne_true]

/-- Settles O51: the word that CAN_ERROR_COUNT_READ answers is the one before it clears TOTAL. -/
theorem canControlCommands : Obligations.CanControlCommands := by
  unfold Obligations.CanControlCommands
  refine ⟨fun s d n hr => Eq.trans (b := execCanHalt d n s) rfl (onCanW_next hr ..),
    fun s d n bits hr => Eq.trans (b := execCanStart d n bits s) rfl (onCanW_next hr ..),
    fun s d n data v hr => Eq.trans (b := execCanBitTimingWrite d n data v s) rfl (onCanW_next hr ..),
    fun s d n hr => Eq.trans (b := execPartnerCheck d n s) rfl (onC_next hr),
    fun s d n f hr => Eq.trans (b := execPartnerTimeoutClear d n f s) rfl (onCanW_next hr ..),
    fun s d n hr => Eq.trans (b := execCanErrorCountRead d n s) rfl (onC_next hr),
    fun s d n seqs hr => Eq.trans (b := execCanBusOn d n seqs s) rfl (onC_next hr),
    fun s d n hr => ⟨_, Eq.trans (b := execCanErrorCountRead d n s) rfl (onC_next hr), ?_, ?_, ?_⟩,
    fun s d n q hr hoff hlive hlt => ?_⟩
  · rw [State.off_eq, State.put_c, State.modSys, State.c_modC_same]
  · rw [State.off_eq, State.get_put_same _ _ _ _ (by simp), Nat.zero_mod]
  · rw [State.off_eq, State.get_put_bits (f := F.CAN_CAN_ERRC_TOTAL n.val) (g := F.CAN_CAN_ERRC_TXCNT n.val) (by simp) rfl
      (.inr (by simp)), State.modSys, State.modC_get]
  · show execCanBusOn d n q s = _
    rw [execCanBusOn, onC_next hr]
    dsimp only
    rw [if_pos (by rw [hoff, hlive]; rfl), Nat.min_eq_right (Nat.le_of_lt hlt), if_pos hlt]

/-- A request for one mailbox, R458. -/
theorem mbRequest_single (d n : Nat) (k : Fin 2) (s : State) : mbRequest d n (2 ^ k.val) s =
    if s.bitOf d (F.CAN_CAN_MBCTRL_PEND n) k.val then canEvt d n CanEv.wrref s
    else s.putBit d (F.CAN_CAN_MBCTRL_PEND n) k.val true := by
  obtain rfl | rfl : k = 0 ∨ k = 1 := by omega
  · rfl
  · rfl

/-- Settles O52: an index is held where its distance from RDIDX is below LEVEL. -/
theorem canQueueCommands : Obligations.CanQueueCommands := by
  unfold Obligations.CanQueueCommands
  refine ⟨fun s d n frame hr => Eq.trans (b := execCanFrameReceive d n frame s) rfl (onC_next hr),
    fun s d n m i hr => Eq.trans (b := execRxFifoRelease d n m i s) rfl (onCanW_next hr ..),
    fun s d n i hr => Eq.trans (b := execTxEventRelease d n i s) rfl (onCanW_next hr ..),
    fun s d n hr => Eq.trans (b := execTxFifoQueue d n s) rfl (onCanW_next hr ..),
    fun s d n req hr => Eq.trans (b := execMailboxRequest d n req s) rfl (onCanW_next hr ..),
    fun s d n bits won hr => Eq.trans (b := execTxCancel d n bits won s) rfl (onCanW_next hr ..),
    fun s d n i hr hk hb => ?_, fun s d n k hr hk hb => ?_⟩
  · intro lev k
    have hexec : exec (.txEventRelease d n i) s = .next (teqRelease d.val n.val i.toNat s) :=
      Eq.trans (b := execTxEventRelease d n i s) rfl (onCanW_open hr hk hb ..)
    have hi : ¬ 64 ≤ i.toNat := by have := i.isLt; omega
    rw [hexec, teqRelease, canRelease]
    refine ⟨fun hlt => congrArg _ (if_neg ?_), fun hle => congrArg _ (if_pos ?_)⟩
    · simp only [Bool.or_eq_true, decide_eq_true_eq]
      omega
    · simp only [Bool.or_eq_true, decide_eq_true_eq]
      omega
  · intro req
    have hexec : exec (.mailboxRequest d n req) s = .next (mbRequest d.val n.val req.toNat s) :=
      Eq.trans (b := execMailboxRequest d n req s) rfl (onCanW_open hr hk hb ..)
    have hreq : ∀ j : Fin 2, (BitVec.ofNat 2 (j.val + 1)).toNat = 2 ^ j.val := by decide
    rw [hexec, hreq k, mbRequest_single]
    exact ⟨fun hfree => congrArg _ (if_neg (by rw [hfree]; decide)), fun hpend => congrArg _ (if_pos hpend)⟩

/-- Settles O53: the guards of CAN_ACK_ERROR and CAN_START_OF_FRAME decide their last two clauses. -/
theorem canBusCommands : Obligations.CanBusCommands := by
  unfold Obligations.CanBusCommands
  refine ⟨fun s d n lost meas hr => Eq.trans (b := execCanStartOfFrame d n lost meas s) rfl (onC_next hr),
    fun s d n hr => Eq.trans (b := execCanFrameSent d n s) rfl (onC_next hr),
    fun s d n hr => Eq.trans (b := execCanAckError d n s) rfl (onC_next hr),
    fun s d n code data weigh hr => Eq.trans (b := execCanErrorDetected d n code data weigh s) rfl (onC_next hr),
    fun s d n i hr => Eq.trans (b := execTtTrigger d n i s) rfl (onC_next hr),
    fun s d n hr => Eq.trans (b := execArdCandidateWindow d n s) rfl (onC_next hr),
    fun s d n x hr htx hbus hmode => ?_, fun s d n hr hacty lost meas => ?_⟩
  · show execCanAckError d n s = _
    rw [execCanAckError, onC_next hr, htx]
    exact congrArg _ (if_neg (by simp [hmode]))
  · show execCanStartOfFrame d n lost meas s = _
    rw [execCanStartOfFrame, onC_next hr, if_neg (by simp [hacty])]

end Sys2Proof.Machine
end

section
/-! PROOFS. The statements of 09_loop_fabric, 10_field_control and 13_dc_link_safe_states about commands: each is its step under
the guard of its rule, and a two-key write is its effect once the keys have released it. -/

namespace Sys2Proof.Machine

/-- A two-key write of the safety master that its keys have released is its effect, recorded (R128 to R130). -/
theorem tkWrite_released {s : State} {m : Master} {d addr : Nat} (hwf : s.wf = true) (hm : m.safety = true)
    (h : s.tkReady d addr = true) (i off : Nat) (v : Word) (stopped : Bool) (eff : State → State) :
    tkWrite d m addr i off v stopped eff s = tkDone d addr (s.reg i off) (newWord i off (s.reg i off) v) (eff s) := by
  rw [tkWrite, if_neg (by simp [State.loading_of_wf hwf]), if_pos (by simp [hm, h])]

/-! ### Channels and weirs -/

/-- Settles O30: a writer that is not software and a broken tree are refused. -/
theorem weirAndChannelCommands : Obligations.WeirAndChannelCommands := by
  unfold Obligations.WeirAndChannelCommands
  refine ⟨fun s d c v hr => Eq.trans (b := execChannelSoftwareWrite d c v s) rfl (onCW_next hr ..),
    fun s d c v hr => Eq.trans (b := execMirrorChannelWrite d c v s) rfl (onC_next hr),
    fun s d k v hr => Eq.trans (b := execSetpointWrite d k v s) rfl (onCW_next hr ..),
    fun s d w hr => Eq.trans (b := execWeirEvaluate d w s) rfl (onC_next hr),
    fun s d w j hr => Eq.trans (b := execWeirInputStale d w j s) rfl (onC_next hr),
    fun s d w v hr => Eq.trans (b := execWeirManualValueWrite d w v s) rfl (onCW_next hr ..),
    fun s d w v hr => Eq.trans (b := execWeirEnableWrite d w v s) rfl (onCW_next hr ..),
    fun s d c v hr hk hw => ?_, fun s d w v hr hk => ?_⟩
  · show execChannelSoftwareWrite d c v s = _
    rw [execChannelSoftwareWrite, onCW_of_unarmed hr hk, chValWrite, if_neg (by simp [hw])]
  · intro en man hen hwas hld htree
    show execWeirEnableWrite d w v s = _
    rw [execWeirEnableWrite, onCW_of_unarmed hr hk, weirCfgWrite]
    refine congrArg _ (if_pos ?_)
    simp only [en, man] at hen hwas htree
    simp [hen, hwas, hld, htree]

/-! ### Axes -/

/-- The first command of a fabric cycle has come (R260). -/
def fieldBegun (d a : Nat) (s : State) : State :=
  (s.put d (F.FIELD_AX_CMD_OP a) 0).modAxr d a (fun x => { x with cmdAt := s.now d + 1, cmdPhase := s.phase d a })

section
variable {s : State} {d a : Nat} (hcmd : (s.axr d a).cmdAt ≠ s.now d + 1)
include hcmd

/-- In a curtain every command is refused with AXIS_CURTAIN. -/
theorem fieldCommand_curtain (hph : s.phase d a = Ph.curtain) (op : Nat) :
    fieldCommand d a op s = fieldReport d a 0x07 op (fieldBegun d a s) := by
  rw [fieldCommand, if_neg (by simpa using hcmd)]
  exact if_pos (by rw [hph]; rfl)

/-- STOP of an axis that does not run is refused with code 5. -/
theorem fieldCommand_stop_idle (hph : s.phase d a = Ph.idle) :
    fieldCommand d a 2 s = fieldReport d a 0x05 2 (fieldBegun d a s) := by
  rw [fieldCommand, if_neg (by simpa using hcmd)]
  dsimp only
  rw [hph, if_neg (by decide), if_neg (by decide), if_pos (by decide), if_neg (by decide), fieldBegun, hph]

/-- An operation that is no command is refused with BAD_CMD. -/
theorem fieldCommand_bad (hph : s.phase d a ≠ Ph.curtain) {op : Nat} (h1 : op ≠ 1) (h2 : op ≠ 2) (h3 : op ≠ 3) :
    fieldCommand d a op s = fieldReport d a 0x08 op (fieldBegun d a s) := by
  rw [fieldCommand, if_neg (by simpa using hcmd)]
  dsimp only
  rw [if_neg (by simpa using hph), if_neg (by simpa using h1), if_neg (by simpa using h2), if_neg (by simpa using h3)]
  rfl

end

/-- Settles O32: the phase and the operation decide what a command of FIELD does. -/
theorem fieldCommands : Obligations.FieldCommands := by
  unfold Obligations.FieldCommands
  refine ⟨fun s d a hr => Eq.trans (b := execFieldStart d a s) rfl (onCW_next hr ..),
    fun s d a hr => Eq.trans (b := execFieldStop d a s) rfl (onCW_next hr ..),
    fun s d a hr => Eq.trans (b := execFieldDisable d a s) rfl (onCW_next hr ..),
    fun s d a op hr => Eq.trans (b := execFieldBadCmd d a op s) rfl (onCW_next hr ..),
    fun s d a v hr => Eq.trans (b := execSpsetWrite d a v s) rfl (onCW_next hr ..),
    fun s d a hr => Eq.trans (b := execGridLock d a s) rfl (onC_next hr),
    fun s d a hr => Eq.trans (b := execGridLoss d a s) rfl (onC_next hr),
    fun s d b hr => Eq.trans (b := execBatteryTempStale d b s) rfl (onC_next hr),
    fun s d m b j v hr => Eq.trans (b := execBusBatteryWrite d m b j v s) rfl (onC_next hr),
    fun s d a hr hk hcmd => ?_, fun s d a v hr hk hcmd hruled hanti hpath => ?_⟩
  · intro u
    have hstart : exec (.fieldStart d a) s = .next (fieldCommand d.val a.val 1 s) :=
      Eq.trans (b := execFieldStart d a s) rfl (onCW_of_unarmed hr hk ..)
    have hstop : exec (.fieldStop d a) s = .next (fieldCommand d.val a.val 2 s) :=
      Eq.trans (b := execFieldStop d a s) rfl (onCW_of_unarmed hr hk ..)
    have hdis : exec (.fieldDisable d a) s = .next (fieldCommand d.val a.val 3 s) :=
      Eq.trans (b := execFieldDisable d a s) rfl (onCW_of_unarmed hr hk ..)
    have hbad : ∀ op : Fin 5, exec (.fieldBadCmd d a op) s =
        .next (fieldCommand d.val a.val (if op.val = 0 then 0 else op.val + 3) s) := fun op =>
      Eq.trans (b := execFieldBadCmd d a op s) rfl (onCW_of_unarmed hr hk ..)
    rw [hstart, hstop, hdis]
    refine ⟨fun hph => ?_, fun hph => ?_, fun hph op => ?_⟩
    · rw [fieldCommand_curtain hcmd hph, fieldCommand_curtain hcmd hph, fieldCommand_curtain hcmd hph]
      exact ⟨rfl, rfl, rfl⟩
    · rw [fieldCommand_stop_idle hcmd hph]
      rfl
    · rw [hbad, fieldCommand_bad hcmd hph (by split <;> omega) (by split <;> omega) (by split <;> omega)]
      rfl
  · show execSpsetWrite d a v s = _
    rw [execSpsetWrite, onCW_of_unarmed hr hk, spsetWrite]
    dsimp only
    rw [if_neg (by simp [hcmd]), if_pos (by simp [hruled, hanti, hpath])]

/-! ### Safe states -/

/-- Settles O40: an axis enters its curtain state where it was in none, and only an axis in one has a rule to evaluate. -/
theorem curtainCommands : Obligations.CurtainCommands := by
  unfold Obligations.CurtainCommands
  refine ⟨fun s d a j hr => Eq.trans (b := execCurtainEntry d a j s) rfl (onC_next hr),
    fun s d a hr => Eq.trans (b := execCurtainRuleEvaluate d a s) rfl (onC_next hr),
    fun s d a hr => Eq.trans (b := execShortSideSwitch d a s) rfl (onC_next hr),
    fun s d v hr => Eq.trans (b := execSafeReqWrite d v s) rfl (onCW_next hr ..),
    fun s d m axes hr => Eq.trans (b := execSafeClrAx d m axes s) rfl (onC_next hr),
    fun s d m axes hr => Eq.trans (b := execSafeClrPkg d m axes s) rfl (onC_next hr),
    fun s d hr => Eq.trans (b := execPackageCurtain d s) rfl (onC_next hr),
    fun s d hr => Eq.trans (b := execPeerCurtainReceive d s) rfl (onC_next hr),
    fun s d a j hr hholds hhome hin => ?_, fun s d a hr hin => ?_, fun s d m ax hwf hr hm hready => ?_⟩
  · show execCurtainEntry d a j s = _
    rw [execCurtainEntry, onC_next hr, if_pos hholds, enterCurtain, if_pos (by rw [hr, hhome]; rfl),
      if_neg (by rw [hin]; exact Bool.false_ne_true)]
  · show execCurtainRuleEvaluate d a s = _
    rw [execCurtainRuleEvaluate, onC_next hr, evalCurtain, if_neg (by rw [hin]; exact Bool.false_ne_true)]
  · intro fin
    refine ⟨Eq.trans (b := execSafeClrAx d m ax s) rfl ?_, Eq.trans (b := execSafeClrPkg d m ax s) rfl ?_⟩
    · rw [execSafeClrAx, onC_next hr, safeClrWrite, tkWrite_released hwf hm hready]
    · rw [execSafeClrPkg, onC_next hr, safeClrWrite, tkWrite_released hwf hm hready]

/-- Settles O42: a discharge that runs, of its kind, is what ends, and the released command starts one. -/
theorem busCommands : Obligations.BusCommands := by
  unfold Obligations.BusCommands
  refine ⟨fun s d b hr => Eq.trans (b := execVdcLoss d b s) rfl (onC_next hr),
    fun s d b hr => Eq.trans (b := execVdcPlausibility d b s) rfl (onC_next hr),
    fun s d b hr => Eq.trans (b := execChopperFault d b s) rfl (onC_next hr),
    fun s k hr => Eq.trans (b := execKeepAutoDischarge k s) rfl (atD_next hr),
    fun s d m b hr => Eq.trans (b := execDischargeResistor d m b s) rfl (onC_next hr),
    fun s d m b a hr => Eq.trans (b := execDischargeWinding d m b a s) rfl (onC_next hr),
    fun s d m b hr => Eq.trans (b := execDischargeStop d m b s) rfl (onC_next hr),
    fun s d b hr => Eq.trans (b := execDischargeVendReached d b s) rfl (onC_next hr),
    fun s d b hr => Eq.trans (b := execDischargeTimeout d b s) rfl (onC_next hr),
    fun s d b hr => Eq.trans (b := execDischargeOvercurrent d b s) rfl (onC_next hr),
    fun s d b hr hidle => ?_, fun s d b hr hres => ?_, fun s d m b hwf hr hm hready hok => ?_⟩
  · have hst : (s.get d.val (F.DISCH_BUS_STAT_STATE b.val) == Ds.resistor) = false ∧
        (s.get d.val (F.DISCH_BUS_STAT_STATE b.val) == Ds.winding) = false := by
      simpa [State.discharging] using hidle
    obtain ⟨hres, hwind⟩ := hst
    refine ⟨Eq.trans (b := execDischargeVendReached d b s) rfl ?_, Eq.trans (b := execDischargeTimeout d b s) rfl ?_,
      Eq.trans (b := execDischargeOvercurrent d b s) rfl ?_⟩
    · rw [execDischargeVendReached, onC_next hr]
      exact congrArg _ (if_neg (by simp [hres, hwind]))
    · rw [execDischargeTimeout, onC_next hr]
      exact congrArg _ (if_neg (by simp [hidle]))
    · rw [execDischargeOvercurrent, onC_next hr]
      exact congrArg _ (if_neg (by simp [hres]))
  · show execDischargeOvercurrent d b s = _
    rw [execDischargeOvercurrent, onC_next hr]
    exact congrArg _ (if_pos (by simp [hres]))
  · show execDischargeResistor d m b s = _
    rw [execDischargeResistor, onC_next hr, dcmdWrite, tkWrite_released hwf hm hready]
    have hop : (F.DISCH_BUS_DCMD_OP b.val).ofWord 1#32 = 1 := by simp [Fld.ofWord]
    have hax : (F.DISCH_BUS_DCMD_AX b.val).ofWord 1#32 = 0 := by simp [Fld.ofWord]
    rw [hop, hax, dischCommand, hok]
    rfl

end Sys2Proof.Machine
end

section
/-! PROOFS. The statement of 03_supplies_clocks_reset about supplies: each command is the reaction of its rail, and a device that
powers up passes to RESET with its dies. -/

namespace Sys2Proof.Machine

/-! ### What the reset of a die leaves alone -/

theorem Tab.find_filter_key {α : Type} {q : Nat → Bool} {k : Nat} (h : q k = true) (m : Tab α) :
    Tab.find k (m.filter (fun e => q e.1)) = Tab.find k m := by
  induction m with
  | nil => rfl
  | cons e m ih =>
    obtain ⟨j, v⟩ := e
    by_cases hq : q j = true
    · simp only [List.filter_cons, hq, if_true, Tab.find, ih]
    · have hne : ¬ j = k := fun hjk => hq (hjk ▸ h)
      simp only [List.filter_cons, hq, Bool.false_eq_true, if_false, Tab.find, if_neg hne, ih]

/-- The registers of another die index survive a wipe. -/
theorem wipeRegs_reg {i j : Nat} (h : j ≠ i) (keep : Nat → Bool) (s : State) {o : Nat} (ho : o < 0x1000000) :
    (wipeRegs i keep s).reg j o = s.reg j o := by
  have hkey : (decide (regKey j o / 0x1000000 ≠ i) || keep (regKey j o % 0x1000000)) = true := by
    have : regKey j o / 0x1000000 = j := by unfold regKey; omega
    simp [this, h]
  simp only [State.reg, wipeRegs, Tab.read, Tab.find_filter_key (q := fun e =>
    decide (e / 0x1000000 ≠ i) || keep (e % 0x1000000)) hkey]

/-- The package of t is that of s. -/
theorem watchCut_pkg (s : State) : (watchCut s).pkg = s.pkg :=
  overN_same State.pkg s (fun d _ t => by simp [apply_ite State.pkg, State.modLib])

theorem settleCh_pkg (k c : Nat) (s : State) : (settleCh k c s).pkg = s.pkg := by
  simp [settleCh, chStop, chDown, chOn, gateHold, seqRuns, State.setCh, State.modCh, apply_ite State.pkg]

theorem settle_pkg (k : Nat) (s : State) : (settle k s).pkg = s.pkg := by
  rw [settle_eq, overN_same State.pkg _ (fun c _ t => settleCh_pkg k c t)]
  simp [showHolds]

theorem clearSensors_pkg (k : Nat) (s : State) : (clearSensors k s).pkg = s.pkg := by
  refine overN_same State.pkg s (fun d _ t => ?_)
  rw [apply_ite State.pkg, overN_same State.pkg _ (fun j _ u => by simp)]
  simp

theorem syncOwn_pkg (s : State) : s.syncOwn.pkg = s.pkg := by
  refine overN_same State.pkg s (fun d _ t => ?_)
  rw [apply_ite State.pkg]
  dsimp only
  rw [overN_same State.pkg _ (fun j _ u => by simp)]
  simp

theorem refreshInact_pkg (d : Nat) (s : State) : (refreshInact d s).pkg = s.pkg :=
  overN_same State.pkg s (fun m _ t => by simp)

theorem resetD_pkg (k : Nat) (lone : Bool) (s : State) : (resetD k lone s).pkg = s.pkg := by
  unfold resetD
  dsimp only
  rw [overN_same State.pkg _ (fun d _ t => by rw [apply_ite State.pkg, refreshInact_pkg, ite_self]), syncOwn_pkg,
    clearSensors_pkg, settle_pkg]
  simp [wipeRegs, watchCut_pkg]

theorem newNonce_pkg (d : Nat) (s : State) : (newNonce d s).pkg = s.pkg :=
  overN_same State.pkg s (fun i _ t => by simp)

theorem retain_pkg (d cause dev : Nat) (por : Bool) (s : State) : (retain d cause dev por s).pkg = s.pkg := by
  simp [retain, apply_ite State.pkg]

theorem resetC_pkg (d cause : Nat) (por : Bool) (s : State) : (resetC d cause por s).pkg = s.pkg := by
  unfold resetC
  dsimp only
  rw [State.modC_pkg, newNonce_pkg]
  simp [onlyIf_same State.pkg, retain_pkg, wipeRegs, holdSession, apply_ite State.pkg, watchCut_pkg]

/-! ### The reset of a C die, seen from the other -/

/-- The registers and the clocks and resets of every die but C die d are in t as in s. -/
structure SameBeside (d : Nat) (s t : State) : Prop where
  reg : ∀ e, e ≠ d → ∀ o, o < 0x1000000 → t.reg e o = s.reg e o
  sys : ∀ e, e ≠ d → (t.c e).sys = (s.c e).sys

section
variable {d : Nat} {s t : State}

theorem SameBeside.refl (d : Nat) (s : State) : SameBeside d s s := ⟨fun _ _ _ _ => rfl, fun _ _ => rfl⟩

theorem SameBeside.setReg (h : SameBeside d s t) {o : Nat} (ho : o < 0x1000000) (w : Word) :
    SameBeside d s (t.setReg d o w) :=
  ⟨fun e he o' ho' => (State.reg_setReg_other ho ho' (.inl he)).trans (h.reg e he o' ho'),
    fun e he => by rw [State.setReg_c, h.sys e he]⟩

theorem SameBeside.put (h : SameBeside d s t) {f : Fld} (hf : f.off < 0x1000000) (v : Nat) :
    SameBeside d s (t.put d f v) := h.setReg hf _

theorem SameBeside.wiped (h : SameBeside d s t) (keep : Nat → Bool) : SameBeside d s (wipeRegs d keep t) :=
  ⟨fun e he o ho => (wipeRegs_reg he keep t ho).trans (h.reg e he o ho), fun e he => h.sys e he⟩

theorem SameBeside.modC (h : SameBeside d s t) (g : CtlDie → CtlDie) : SameBeside d s (t.modC d g) :=
  ⟨fun e he o ho => (State.modC_reg ..).trans (h.reg e he o ho), fun e he => by
    rw [State.c_modC_other he, h.sys e he]⟩

/-- Neither memory nor the free values nor the loader at work matter. -/
theorem SameBeside.of_eq {u : State} (h : SameBeside d s t) (hregs : u.regs = t.regs) (hcdie : u.cdie = t.cdie) :
    SameBeside d s u :=
  ⟨fun e he o ho => by rw [State.reg, hregs]; exact h.reg e he o ho,
    fun e he => by rw [State.c, hcdie]; exact h.sys e he⟩

theorem SameBeside.nonce (h : SameBeside d s t) : SameBeside d s (newNonce d t) :=
  overN_inv h (fun _ hi u hu => (hu.put (by dsimp only; omega) _).of_eq rfl rfl)

theorem SameBeside.retained (h : SameBeside d s t) (cause dev : Nat) (por : Bool) :
    SameBeside d s (retain d cause dev por t) := by
  unfold retain
  split
  · exact (((h.setReg (by decide) _).setReg (by decide) _).put (by decide) _).put (by decide) _
  · have hcause := ((h.setReg (o := 0) (by decide) (BitVec.ofNat 32 0)).put (f := F.SYS_DSTATE_PREV) (by decide) dev)
    dsimp only
    split
    · exact ((hcause.setReg (by decide) _).put (by decide) _).put (by decide) _
    · exact hcause.setReg (by decide) _

theorem SameBeside.held (h : SameBeside d s t) : SameBeside d s (holdSession d t) := by
  unfold holdSession
  refine SameBeside.put ?_ (by decide) _
  split
  · exact h.put (by decide) _
  · exact h

end

theorem onlyIf_inv {P : State → Prop} {b : Bool} {f : State → State} {s : State} (h : P s) (hf : P (f s)) :
    P (onlyIf b f s) := by
  cases b
  · exact h
  · exact hf

/-- The reset of a C die is no matter of the other, but for the window that every reset cuts (R123). -/
theorem sameBeside_resetC (d cause : Nat) (por : Bool) (s : State) :
    SameBeside d (watchCut (holdSession d s)) (resetC d cause por s) := by
  have hclk := ((((SameBeside.refl d (watchCut (holdSession d s))).wiped keepOff).retained cause s.dev por).put
    (f := F.SYS_CLKST_ON_BACKUP) (by decide) 0).put (f := F.SYS_CLKST_FWD_OK) (by decide) 0
  unfold resetC
  dsimp only
  refine SameBeside.modC (SameBeside.nonce (SameBeside.put (f := F.SYS_SUPST_VIOC_OK) ?_ (by decide) _)) _
  refine SameBeside.put (f := F.SYS_SUPST_VIOB_OK) ?_ (by decide) _
  refine SameBeside.of_eq (t := State.eraseMem _ d 0x20000000 0x205FFFFF)
    (SameBeside.of_eq (onlyIf_inv hclk ?_) (State.eraseMem_regs ..) (State.eraseMem_cdie ..)) rfl rfl
  exact hclk.put (f := F.PROMPT_PCYCLE) (by decide) _

theorem watchCut_sys (s : State) (e : Nat) : ((watchCut s).c e).sys = (s.c e).sys := by
  refine overN_same (fun t => (t.c e).sys) s (fun d _ t => ?_)
  split
  · by_cases he : e = d
    · subst he
      simp [State.modLib]
    · simp [State.modLib, State.c_modC_other he]
  · rfl

theorem watchCut_dstate (s : State) (e : Nat) : (watchCut s).get e F.SYS_DSTATE_STATE = s.get e F.SYS_DSTATE_STATE := by
  refine overN_same (fun t => t.get e F.SYS_DSTATE_STATE) s (fun d _ t => ?_)
  split
  · rw [State.modLib, State.modC_get, State.off_eq, State.off_eq, State.get_put_other (by decide) (by decide)
      (.inr (by decide)), State.get_put_other (by decide) (by decide) (.inr (by decide))]
  · rfl

/-! ### A device that powers up -/

/-- A C die that powers up: a power-on reset, its supplies counted as good, its device in RESET. -/
def powerUp (d : Nat) (s : State) : State :=
  if s.hasC d then putDev d Dev.reset (railsUp d (resetC d 0 true s)) else s

theorem powerUp_pkg (d : Nat) (s : State) : (powerUp d s).pkg = s.pkg := by
  unfold powerUp
  split
  · simp [putDev, railsUp, State.modSys, resetC_pkg]
  · rfl

theorem powerUp_hasC (d : Nat) (s : State) (e : Nat) : (powerUp d s).hasC e = s.hasC e := by
  unfold powerUp
  split
  · simp only [putDev, railsUp, State.modSys, State.put_hasC, State.modC_hasC]
    rw [State.hasC, (resetC_kept _ _ _ _ (kept_self s)).part, State.hasC]
  · rfl

theorem resetC_inReset (d cause : Nat) (por : Bool) (s : State) : ((resetC d cause por s).c d).sys.inReset = true := by
  unfold resetC
  dsimp only
  rw [State.c_modC_same]

/-- A C die is in reset with its device in RESET. -/
def State.down (s : State) (d : Nat) : Prop := (s.c d).sys.inReset = true ∧ s.get d F.SYS_DSTATE_STATE = Dev.reset

theorem powerUp_down {d : Nat} {s : State} (h : s.hasC d = true) : (powerUp d s).down d := by
  rw [powerUp, if_pos h, State.down, putDev, State.put_c, State.get_put_same _ _ _ _ (by decide), railsUp, State.modSys,
    State.c_modC_same]
  exact ⟨resetC_inReset .., rfl⟩

theorem powerUp_down_other {d e : Nat} {s : State} (he : e ≠ d) (h : s.down e) : (powerUp d s).down e := by
  unfold powerUp
  split
  · have hb := sameBeside_resetC d 0 true s
    have hheld := (SameBeside.refl d s).held
    obtain ⟨hreset, hdev⟩ := h
    refine ⟨?_, ?_⟩
    · rw [putDev, State.put_c, railsUp, State.modSys, State.c_modC_other he, hb.sys e he, watchCut_sys, hheld.sys e he]
      exact hreset
    · rw [putDev, State.get_put_other (by decide) (by decide) (.inl he), railsUp, State.modSys, State.modC_get, State.get,
        hb.reg e he _ (by decide)]
      refine (watchCut_dstate (holdSession d s) e).trans ?_
      rw [State.get, hheld.reg e he _ (by decide)]
      exact hdev
  · exact h

/-- The D dies of a device that powers up. -/
def powerUpDrv (s : State) : State :=
  overN 6 (fun k s => if s.hasD k then
    (resetD k false s).modD k (fun x => { x with vdrvLow := false, vkeepLow := false }) else s) s

theorem powerUpDrv_pkg (s : State) : (powerUpDrv s).pkg = s.pkg :=
  overN_same State.pkg s (fun k _ t => by simp [apply_ite State.pkg, resetD_pkg])

theorem powerUpDrv_hasC (s : State) (d : Nat) : (powerUpDrv s).hasC d = s.hasC d := by
  refine overN_same (fun t => t.hasC d) s (fun k _ t => ?_)
  split
  · rw [State.modD_hasC, State.hasC, (resetD_kept _ _ _ (kept_self t)).part, State.hasC]
  · rfl

theorem exec_suppliesInRange {s : State} (h : s.pkg.off = true) : exec .suppliesInRange s =
    .next (powerUp 1 (powerUp 0 (powerUpDrv { s with pkg := { s.pkg with off := false, inReset := true } }))) := by
  show execSuppliesInRange s = _
  rw [execSuppliesInRange, if_pos h]
  rfl

/-- Settles O15: the two C dies power up one after the other, neither undoing the other's reset. -/
theorem supplyCommands : Obligations.SupplyCommands := by
  unfold Obligations.SupplyCommands
  have low : ∀ (s : State) (r : Rail), exec (.supplyLow r) s = execSupplyLow r s := fun _ _ => rfl
  have recovered : ∀ (s : State) (r : Rail), exec (.supplyRecovered r) s = execSupplyRecovered r s := fun _ _ => rfl
  refine ⟨fun s => rfl, fun s d hd => ?_, fun s k hk => ?_, fun s d hd => ?_, fun s k hk => ?_,
    fun s hoff => ⟨_, exec_suppliesInRange hoff, ?_, Fin.forall_fin_two.mpr ⟨fun hd => ?_, fun hd => ?_⟩⟩⟩
  · simp only [low, execSupplyLow, atC_next hd, and_self]
  · simp only [low, execSupplyLow, atD_next hk, and_self]
  · simp only [recovered, execSupplyRecovered, atC_next hd, and_self]
  · simp only [recovered, execSupplyRecovered, atD_next hk, and_self]
  · rw [powerUp_pkg, powerUp_pkg, powerUpDrv_pkg]
  · exact powerUp_down_other (by decide) (powerUp_down ((powerUpDrv_hasC ..).trans hd))
  · exact powerUp_down ((powerUp_hasC ..).trans ((powerUpDrv_hasC ..).trans hd))

end Sys2Proof.Machine
end

section
/-! PROOFS. The statement of 03_supplies_clocks_reset about clocks, resets and power-fail. -/

namespace Sys2Proof.Machine

/-! ### Power-fail -/

/-- A field outside LIB and PROMPT, the clocks and resets of the C dies, the package and the part are in t as in s. -/
structure SameApart (s t : State) : Prop where
  get : ∀ (i : Nat) (f : Fld), f.apart → t.get i f = s.get i f
  sys : ∀ e, (t.c e).sys = (s.c e).sys
  pkg : t.pkg = s.pkg
  part : t.part = s.part

theorem SameApart.refl (s : State) : SameApart s s := ⟨fun _ _ _ => rfl, fun _ => rfl, rfl, rfl⟩

theorem SameApart.trans {s t u : State} (h : SameApart s t) (g : SameApart t u) : SameApart s u :=
  ⟨fun i f hf => (g.get i f hf).trans (h.get i f hf), fun e => (g.sys e).trans (h.sys e), g.pkg.trans h.pkg,
    g.part.trans h.part⟩

theorem SameApart.flag {s t : State} (h : SameApart s t) (i : Nat) {f : Fld} (hf : f.apart) : t.flag i f = s.flag i f := by
  rw [State.flag, State.flag, h.get i f hf]

theorem SameApart.runs {s t : State} (h : SameApart s t) (e : Nat) : t.runs e = s.runs e := by
  simp only [State.runs, State.hasC, State.romHeld, h.sys e, h.part, h.pkg]

theorem OnlyPrompt.apart {d : Nat} {s t : State} (h : OnlyPrompt d s t) : SameApart s t :=
  ⟨fun i f hf => h.get i f hf.1 (.inr hf.2.1), h.sys, h.pkg, h.part⟩

theorem sameApart_put_lib {f : Fld} (lo : 0xB0000 ≤ f.off) (hi : f.off < 0xC0000) (i v : Nat) (s : State) :
    SameApart s (s.put i f v) :=
  ⟨fun _ _ hg => get_put_lib hg lo hi v, fun _ => by rw [State.put_c], State.put_pkg .., State.put_part ..⟩

theorem sameApart_modC {g : CtlDie → CtlDie} (hg : ∀ c, (g c).sys = c.sys) (d : Nat) (s : State) :
    SameApart s (s.modC d g) := by
  refine ⟨fun _ _ _ => State.modC_get .., fun e => ?_, State.modC_pkg .., State.modC_part ..⟩
  by_cases he : e = d
  · subst he
    rw [State.c_modC_same, hg]
  · rw [State.c_modC_other he]

theorem sameApart_modLib (d : Nat) (g : LibC → LibC) (s : State) : SameApart s (s.modLib d g) :=
  sameApart_modC (g := fun c => { c with lib := g c.lib }) (fun _ => rfl) d s

theorem sameApart_storeCut (d : Nat) (s : State) : SameApart s (storeCut d s) := by
  unfold storeCut
  split
  · refine SameApart.trans ?_ (sameApart_modLib d _ _)
    refine SameApart.trans ?_ (sameApart_put_lib (by decide) (by decide) ..)
    refine SameApart.trans ?_ (sameApart_put_lib (by decide) (by decide) ..)
    exact onlyIf_inv (.refl s) (sameApart_put_lib (by decide) (by decide) ..)
  · exact .refl s

theorem sameApart_nvmCut (d code : Nat) (s : State) : SameApart s (nvmCut d code s) := by
  refine sameApart_modC (fun c => ?_) d s
  split
  · split <;> rfl
  · rfl

/-- The state in which PFAIL is noted: its status, and the refusal of MRAM writes. -/
def pfailNoted (d : Nat) (s : State) : State :=
  (((s.on d F.SYS_PFST_PFAIL).on d F.SYS_PFST_PF_SEEN).off d F.SYS_PFST_FLUSH_DONE).modSys d
    (fun y => { y with mramRefuse := true, pfFlush := true, pfRise := y.stage.toNat - 400 })

/-- PFAIL noted and recorded, what runs to MRAM cut, and a flush. -/
def pfailFlushed (d : Nat) (s : State) : State :=
  let u := pfailNoted d s
  flushStart d (nvmCut d 3 (storeCut d
    (note d Blk.sys 0x0003 2 0 (u.wd d 0x28) (u.get d F.PROMPT_STAT_UNFL) 0 u)))

theorem sameApart_pfailFlushed (d : Nat) (s : State) : SameApart (pfailNoted d s) (pfailFlushed d s) :=
  (((note_only d _ _ _ _ _ _ _ _).apart.trans (sameApart_storeCut ..)).trans (sameApart_nvmCut ..)).trans
    (flushStart_only ..).apart

theorem pfailNoted_flag (d : Nat) (s : State) {f : Fld} (hf : f.off < 0x1000000) (hne : f.off ≠ 0x2C) :
    (pfailNoted d s).flag d f = s.flag d f := by
  rw [State.flag, State.flag, pfailNoted, State.modSys, State.modC_get, State.off_eq, State.on_eq, State.on_eq,
    State.get_put_other (by decide) hf (.inr hne), State.get_put_other (by decide) hf (.inr hne),
    State.get_put_other (by decide) hf (.inr hne)]

/-- Where no bus discharges at PFAIL and REACT keeps the package out of its curtain, nothing follows the flush. -/
theorem pfailOn_quiet {s : State} {d : Nat} (hreact : s.flag d F.SYS_PFCFG_REACT = true)
    (hdis : ∀ b < 3, s.flag d (F.DISCH_BUS_CFG_PFDIS b) = false) : pfailOn d s = pfailFlushed d s := by
  have hflag : ∀ f : Fld, f.apart → f.off ≠ 0x2C → (pfailFlushed d s).flag d f = s.flag d f := fun f hf hne =>
    ((sameApart_pfailFlushed d s).flag d hf).trans (pfailNoted_flag d s hf.1 hne)
  have hloop : overN 3 (fun b t =>
      if t.flag d (F.DISCH_BUS_CFG_PFDIS b) && t.flag d (F.DISCH_BUS_CFG_EN b) &&
        t.get d (F.DISCH_BUS_CFG_DDIE b) != 7 && t.get d (F.DISCH_BUS_STAT_STATE b) != Ds.resistor then
      resistorStart d b t else t) (pfailFlushed d s) = pfailFlushed d s := overN_id (fun b hb => by
    rw [hflag (F.DISCH_BUS_CFG_PFDIS b) ⟨by dsimp only; omega, .inr (by dsimp only; omega), .inr (by dsimp only; omega)⟩
      (by dsimp only; omega), hdis b hb]
    rfl)
  show (let t := overN 3 _ (pfailFlushed d s); if t.flag d F.SYS_PFCFG_REACT then t else _) = _
  rw [hloop]
  exact if_pos ((hflag _ ⟨by decide, .inl (by decide), .inl (by decide)⟩ (by decide)).trans hreact)

/-- Where C1 does not run, PFAIL is C0's alone. -/
theorem exec_pfailRecognised_alone {s : State} (h0 : s.runs 0 = true) (h1 : s.runs 1 = false)
    (hreact : s.flag 0 F.SYS_PFCFG_REACT = true) (hdis : ∀ b < 3, s.flag 0 (F.DISCH_BUS_CFG_PFDIS b) = false) :
    exec .pfailRecognised s = .next (pfailFlushed 0 s) := by
  have hsys : ((pfailNoted 0 s).c 1).sys = (s.c 1).sys := by
    rw [pfailNoted, State.modSys, State.c_modC_other (by decide)]
    simp
  have hruns : (pfailFlushed 0 s).runs 1 = false := by
    rw [(sameApart_pfailFlushed 0 s).runs]
    have : (pfailNoted 0 s).runs 1 = s.runs 1 := by
      simp only [State.runs, State.hasC, State.romHeld, hsys]
      simp [pfailNoted, State.modSys]
    rw [this, h1]
  show execPfailRecognised s = _
  rw [execPfailRecognised, overN_two, h0, if_pos rfl, pfailOn_quiet hreact hdis, hruns, if_neg Bool.false_ne_true]

/-- What PFAIL shows and refuses once it is noted. -/
theorem pfailNoted_shows (d : Nat) (s : State) : (pfailNoted d s).get d F.SYS_PFST_PFAIL = 1 ∧
    (pfailNoted d s).get d F.SYS_PFST_PF_SEEN = 1 ∧ (pfailNoted d s).get d F.SYS_PFST_FLUSH_DONE = 0 ∧
    ((pfailNoted d s).c d).sys.mramRefuse = true := by
  refine ⟨?_, ?_, ?_, ?_⟩
  · simp (disch := first | rfl | (dsimp only; omega)) [pfailNoted, State.modSys, State.get_put_bits, State.get_put_same,
      Fld.size]
  · simp (disch := first | rfl | (dsimp only; omega)) [pfailNoted, State.modSys, State.get_put_bits, State.get_put_same,
      Fld.size]
  · simp (disch := first | rfl | (dsimp only; omega)) [pfailNoted, State.modSys, State.get_put_same,
      Fld.size]
  · simp [pfailNoted, State.modSys]

/-! ### The release of a reset -/

theorem exec_resetRelease_c {s : State} {i : DieIx} (hi : i.val < 2) (h : s.hasC i.val = true) (a r o : Bool) :
    exec (.resetRelease i a r o) s = .next (
      if (s.c i.val).sys.inReset then
        if !s.mayRun i.val || s.pkg.resetNLow || s.pkg.off then s
        else if s.pkg.inReset then
          if i.val == 0 && s.pkgMayRun then releaseAnchor a r o s else s
        else if s.romHeld 0 || (i.val == 1 && s.flag 0 F.BIST_MARK0_C1) then s
        else releaseC i.val s
      else if i.val == 0 && s.dev == Dev.rollCall && s.get 0 F.HDR_RC_STATUS_PHASE == 0 && !(s.c 0).sys.romHold then
        bootRom a r o s
      else s) := by
  show execResetRelease i a r o s = _
  rw [execResetRelease, if_pos hi]
  exact atC_next h

/-- Settles O16: the state of the die and of the package picks the branch of RESET_RELEASE, and PFAIL's reactions touch none of
the fields that show it. -/
theorem clockAndResetCommands : Obligations.ClockAndResetCommands := by
  unfold Obligations.ClockAndResetCommands
  refine ⟨fun s d ref hr => Eq.trans (b := execClockLoss d ref s) rfl (atC_next hr),
    fun s d hr => Eq.trans (b := execCrystalReferenceOk d s) rfl (atC_next hr),
    fun s d hr => Eq.trans (b := execPllLock d s) rfl (atC_next hr),
    fun s low => rfl,
    fun s d m hr => Eq.trans (b := execSysRstctrlPkg d m s) rfl (onC_next hr),
    fun s d m hr => Eq.trans (b := execSysRstctrlDie d m s) rfl (onC_next hr),
    fun s d hr => Eq.trans (b := execPeerOrderedReset d s) rfl (onC_next hr),
    fun s k hr => Eq.trans (b := execDDieReset k s) rfl (onD_next hr),
    fun s d v hr => Eq.trans (b := execBlockResetWrite d v s) rfl (onCW_next hr ..),
    fun s i a r o hi hd => ⟨fun hin hmay hlow hoff => ⟨fun hpkg h0 hready => ?_, fun hpkg hrom hmark => ?_⟩,
      fun hin hwait => ?_, fun hin h0 hdev hphase hrom => ?_⟩,
    fun s k a r o i hi hk => ?_, fun s => rfl, fun s => rfl, fun s h0 h1 hreact hdis => ?_⟩
  · rw [exec_resetRelease_c hi hd, if_pos hin, if_neg (by simp [hmay, hlow, hoff]), if_pos hpkg,
      if_pos (by simp [h0, hready])]
  · rw [exec_resetRelease_c hi hd, if_pos hin, if_neg (by simp [hmay, hlow, hoff]), if_neg (by simp [hpkg]),
      if_neg (by simp [hrom, hmark])]
  · rw [exec_resetRelease_c hi hd, if_pos hin, if_pos]
    rcases hwait with h | h | h <;> simp [h]
  · rw [exec_resetRelease_c hi hd, if_neg (by simp [hin]), if_pos (by simp [h0, hdev, hphase, hrom])]
  · show execResetRelease i a r o s = _
    rw [execResetRelease, if_neg (by omega), hi, Nat.add_sub_cancel_left]
    exact atD_next hk
  · obtain ⟨hpf, hseen, hdone, href⟩ := pfailNoted_shows 0 s
    have hsame := sameApart_pfailFlushed 0 s
    have happ : ∀ f : Fld, f.off = 0x2C → f.apart := fun f hf => ⟨by omega, .inl (by omega), .inl (by omega)⟩
    exact ⟨_, exec_pfailRecognised_alone h0 h1 hreact hdis, (hsame.get 0 _ (happ _ rfl)).trans hpf,
      (hsame.get 0 _ (happ _ rfl)).trans hseen, (hsame.get 0 _ (happ _ rfl)).trans hdone, by rw [hsame.sys, href]⟩

end Sys2Proof.Machine
end

section
/-! PROOFS. The statement of 04_roll_call_startup: the steps of roll call and what C0 shows of them. -/

namespace Sys2Proof.Machine

/-! ### Loops that reach a number -/

/-- What one round brings about and every round keeps holds after the loop. -/
theorem overL_reach {P Q : State → Prop} {xs : List Nat} {k : Nat} {f : Nat → State → State} {s : State} (hk : k ∈ xs)
    (h : P s) (hP : ∀ i ∈ xs, ∀ t, P t → P (f i t)) (hset : ∀ t, P t → Q (f k t))
    (hkeep : ∀ i ∈ xs, ∀ t, P t → Q t → Q (f i t)) : Q (overL xs f s) := by
  induction xs generalizing s with
  | nil => simp at hk
  | cons i xs ih =>
    rw [overL_cons]
    by_cases hik : i = k
    · subst hik
      exact (overL_inv (P := fun t => P t ∧ Q t) ⟨hP i (by simp) s h, hset s h⟩ (fun j hj t ht =>
        ⟨hP j (by simp [hj]) t ht.1, hkeep j (by simp [hj]) t ht.1 ht.2⟩)).2
    · exact ih (by simpa [Ne.symm hik] using hk) (hP i (by simp) s h) (fun j hj => hP j (by simp [hj]))
        (fun j hj => hkeep j (by simp [hj]))

theorem overN_reach {P Q : State → Prop} {n k : Nat} {f : Nat → State → State} {s : State} (hk : k < n)
    (h : P s) (hP : ∀ i < n, ∀ t, P t → P (f i t)) (hset : ∀ t, P t → Q (f k t))
    (hkeep : ∀ i < n, ∀ t, P t → Q t → Q (f i t)) : Q (overN n f s) :=
  overL_reach (List.mem_range.mpr hk) h (fun i hi => hP i (List.mem_range.mp hi)) hset
    (fun i hi => hkeep i (List.mem_range.mp hi))

/-! ### The registers that a change keeps -/

/-- The registers of s that P picks (by die and offset) are in t as in s. -/
def SameRegs (P : Nat → Nat → Prop) (s t : State) : Prop := ∀ i o, o < 0x1000000 → P i o → t.reg i o = s.reg i o

section
variable {P : Nat → Nat → Prop} {s t u : State}

theorem SameRegs.refl (s : State) : SameRegs P s s := fun _ _ _ _ => rfl

theorem SameRegs.trans (h : SameRegs P s t) (g : SameRegs P t u) : SameRegs P s u :=
  fun i o ho hp => (g i o ho hp).trans (h i o ho hp)

theorem SameRegs.get (h : SameRegs P s t) {i : Nat} {f : Fld} (hp : P i f.off) (hf : f.off < 0x1000000 := by decide) :
    t.get i f = s.get i f := by
  rw [State.get, State.get, h i f.off hf hp]

theorem sameRegs_put {d : Nat} {f : Fld} (h : ∀ i o, P i o → i ≠ d ∨ o ≠ f.off) (hf : f.off < 0x1000000) (v : Nat)
    (s : State) : SameRegs P s (s.put d f v) :=
  fun i o ho hp => State.reg_put_other hf ho (h i o hp)

theorem SameRegs.put (g : SameRegs P s t) {d : Nat} {f : Fld} (h : ∀ i o, P i o → i ≠ d ∨ o ≠ f.off)
    (hf : f.off < 0x1000000) (v : Nat) : SameRegs P s (t.put d f v) :=
  g.trans (sameRegs_put h hf v t)

theorem sameRegs_of_regs (h : t.regs = s.regs) : SameRegs P s t :=
  fun _ _ _ _ => by rw [State.reg, h, State.reg]

theorem OnlyPrompt.sameRegs {d : Nat} (h : OnlyPrompt d s t) (hP : ∀ i o, P i o → o < 0x50000 ∨ 0x60000 ≤ o) :
    SameRegs P s t :=
  fun i o ho hp => h.regs i o ho (.inr (hP i o hp))
end

/-! ### Roll-call registers -/

theorem State.runs_put (s : State) (i : Nat) (f : Fld) (v d : Nat) : (s.put i f v).runs d = s.runs d := by
  simp [State.runs, State.romHeld]

theorem State.runs_modHdr (s : State) (e : Nat) (g : HdrC → HdrC) (d : Nat) : (s.modHdr e g).runs d = s.runs d := by
  have hsys : ((s.modHdr e g).c d).sys = (s.c d).sys := by
    by_cases h : d = e
    · subst h
      simp [State.modHdr]
    · simp [State.modHdr, State.c_modC_other h]
  simp only [State.runs, State.romHeld, hsys]
  simp [State.modHdr]

/-- A field that every running C die takes, as C0 reads it. -/
theorem rcBoth_put_get {s : State} (h : s.runs 0 = true) (f : Fld) (v : Nat → State → Nat) (hhi : f.hi < 32)
    (hoff : f.off < 0x1000000) : (rcBoth (fun d t => t.put d f (v d t)) s).get 0 f = v 0 s % f.size := by
  rw [rcBoth, overN_two, if_pos h]
  split
  · rw [State.get_put_other hoff hoff (.inl (by decide)), State.get_put_same _ _ _ _ hhi]
  · rw [State.get_put_same _ _ _ _ hhi]

theorem rcBoth_put_get_other (s : State) {f g : Fld} (v : Nat → State → Nat) (hg : g.hi < 32) (hoff : f.off < 0x1000000)
    (hgoff : g.off < 0x1000000) (h : g.off ≠ f.off ∨ (f.hi < g.lo ∨ g.hi < f.lo)) (i : Nat) :
    (rcBoth (fun d t => t.put d f (v d t)) s).get i g = s.get i g := by
  have hput : ∀ d t, (State.put t d f (v d t)).get i g = t.get i g := fun d t => by
    by_cases hi : i = d
    · subst hi
      by_cases ho : g.off = f.off
      · exact State.get_put_bits hg ho (h.resolve_left (fun hne => hne ho))
      · exact State.get_put_other hoff hgoff (.inr ho)
    · exact State.get_put_other hoff hgoff (.inl hi)
  refine overN_same (fun t => t.get i g) s (fun d _ t => ?_)
  split
  · exact hput d t
  · rfl

/-! ### The exchange of identities -/

theorem onlyIf_sameRegs {P : Nat → Nat → Prop} {b : Bool} {f : State → State} {s : State} (h : SameRegs P s (f s)) :
    SameRegs P s (onlyIf b f s) := onlyIf_inv (P := SameRegs P s) (.refl s) h

theorem modLink_regs (i n : Nat) (g : LinkC → LinkC) (s : State) : (s.modLink i n g).regs = s.regs := by
  unfold State.modLink
  split <;> rfl

theorem linkFresh_sameRegs (P : Nat → Nat → Prop) (i n : Nat) (s : State) : SameRegs P s (linkFresh i n s) :=
  sameRegs_of_regs (modLink_regs ..)

/-- A trained link as HDR_Ln_STAT and HDR_Ln_DELAY show it. -/
def linkShown (d n : Nat) (s : State) : State :=
  ((s.on d (F.HDR_L_STAT_UP n)).put d (F.HDR_L_STAT_LANES n) (lanesOf d n)).put d (F.HDR_L_DELAY n) s.freeWord

theorem drawn_sameRegs (P : Nat → Nat → Prop) (s : State) : SameRegs P s s.drawn := sameRegs_of_regs rfl

theorem linkUp_shown (P : Nat → Nat → Prop) (d n : Nat) (s : State) : SameRegs P (linkShown d n s) (linkUp d n s) := by
  show SameRegs P _ (linkFresh d n (onlyIf (n != 0) (linkFresh (n + 1) d) (linkShown d n s).drawn))
  exact ((drawn_sameRegs P _).trans (onlyIf_sameRegs (linkFresh_sameRegs P _ _ _))).trans (linkFresh_sameRegs P _ _ _)

theorem linkUp_sameRegs (d n : Nat) (s : State) (hn : n < 8) :
    SameRegs (fun i o => i ≠ d ∨ (o ≠ 0xA0000 + 0x40 * n ∧ o ≠ 0xA000C + 0x40 * n)) s (linkUp d n s) := by
  refine .trans ?_ (linkUp_shown _ d n s)
  refine .trans (.trans ?_ (sameRegs_put ?_ ?_ _ _)) (sameRegs_put ?_ ?_ _ _)
  · exact sameRegs_put (fun i o h => by dsimp only; omega) (by dsimp only; omega) 1 s
  all_goals dsimp only; omega

theorem linkUp_up (d n : Nat) (s : State) (hn : n < 8) : (linkUp d n s).get d (F.HDR_L_STAT_UP n) = 1 := by
  rw [(linkUp_shown (fun _ _ => True) d n s).get trivial (by dsimp only; omega), linkShown,
    State.get_put_other (by dsimp only; omega) (by dsimp only; omega) (.inr (by dsimp only; omega)),
    State.get_put_bits (f := F.HDR_L_STAT_LANES n) (g := F.HDR_L_STAT_UP n) (by simp) rfl (by simp), State.on,
    State.get_put_same _ _ _ _ (by simp)]
  rfl

theorem takeOptime_sameRegs {P : Nat → Nat → Prop} (hP : ∀ i o, P i o → o < 0x50000 ∨ 0x60000 ≤ o) (s : State) :
    SameRegs P s (takeOptime s) :=
  .trans (t := s.modSys 1 _) (sameRegs_of_regs rfl) (sameRegs_put (fun i o h => by
    have := hP i o h
    dsimp only
    omega) (by decide) _ _)


theorem lcReconcile_sameRegs {P : Nat → Nat → Prop} (hP : ∀ i o, P i o → o < 0x50000 ∨ 0x80000 ≤ o) (s : State) :
    SameRegs P s (lcReconcile s) := by
  unfold lcReconcile
  dsimp only
  split
  · exact .refl s
  · refine .trans ?_ (OnlyPrompt.sameRegs (recordRom_only ..) fun i o h => by have := hP i o h; omega)
    refine .trans (sameRegs_put (fun i o h => ?_) (by decide) _ s) (sameRegs_put (fun i o h => ?_) (by decide) _ _)
    all_goals
      have := hP i o h
      dsimp only
      omega

/-- C0 and C1 as the exchange of identities leaves them, before the protocol versions. -/
def c1Known (step : Nat) (s : State) : State :=
  let s := (s.putBit 0 F.HDR_RC_DIEMAP_PRESENT 1 true).put 0 (F.HDR_RC_STEP_STEP 1) step
  let s := linkUp 1 0 (linkUp 0 0 s)
  let s := s.put 1 F.HDR_RC_DIEMAP_EXPECTED (s.get 0 F.HDR_RC_DIEMAP_EXPECTED)
  let s := s.put 1 F.HDR_RC_DIEMAP_PRESENT 3
  (s.put 1 (F.HDR_RC_STEP_STEP 0) 0xB0).put 1 (F.HDR_RC_STEP_STEP 1) step

/-- The rest of the exchange. -/
def c1Agreed (s : State) : State :=
  let a := (s.protoOf 0).1
  let b := (s.protoOf 1).1
  let s := (s.put 0 F.HDR_RC_PROTO_OWN a).put 0 F.HDR_RC_PROTO_PEER b
  let s := (s.put 1 F.HDR_RC_PROTO_OWN b).put 1 F.HDR_RC_PROTO_PEER a
  lcReconcile (takeOptime s)

/-- A register of HDR other than RC_PROTO. -/
abbrev HdrBesideProto (_ o : Nat) : Prop := 0xA0000 ≤ o ∧ o ≠ 0xAF008

theorem c1Agreed_sameRegs (s : State) : SameRegs HdrBesideProto s (c1Agreed s) := by
  refine .trans ?_ (lcReconcile_sameRegs (fun i o h => .inr (by have := h.1; omega)) _)
  refine .trans ?_ (takeOptime_sameRegs (fun i o h => .inr (by have := h.1; omega)) _)
  have hP : ∀ d i o, HdrBesideProto i o → i ≠ d ∨ o ≠ 0xAF008 := fun _ _ _ h => .inr h.2
  exact ((((SameRegs.refl s).put (hP 0) (by decide) _).put (hP 0) (by decide) _).put (hP 1) (by decide) _).put (hP 1)
    (by decide) _

theorem setBit_one_lt {n : Nat} (h : n < 256) : setBit n 1 true < 256 := by
  simp only [setBit, bit]
  split <;> simp_all
  omega

theorem c1Known_shows (s : State) :
    (c1Known 0xB0 s).get 0 F.HDR_RC_DIEMAP_PRESENT = setBit (s.get 0 F.HDR_RC_DIEMAP_PRESENT) 1 true ∧
      (c1Known 0xB0 s).get 0 (F.HDR_L_STAT_UP 0) = 1 ∧ (c1Known 0xB0 s).get 1 (F.HDR_L_STAT_UP 0) = 1 ∧
      (c1Known 0xB0 s).get 1 F.HDR_RC_DIEMAP_PRESENT = 3 ∧
      (c1Known 0xB0 s).get 1 (F.HDR_RC_STEP_STEP 1) = 0xB0 := by
  have h0 : ∀ u f, f.off < 0x1000000 → f.off ≠ 0xA0000 → f.off ≠ 0xA000C →
      (linkUp 1 0 (linkUp 0 0 u)).get 0 f = u.get 0 f := by
    intro u f hf h1 h2
    rw [(linkUp_sameRegs 1 0 _ (by decide)).get (.inl (by decide)) hf,
      (linkUp_sameRegs 0 0 u (by decide)).get (.inr ⟨h1, h2⟩) hf]
  refine ⟨?_, ?_, ?_, ?_, ?_⟩
  · simp (disch := decide) only [c1Known, State.get_put_other, h0, State.putBit, State.get_put_same]
    exact Nat.mod_eq_of_lt (setBit_one_lt (State.get_lt ..))
  · simp (disch := decide) only [c1Known, State.get_put_other]
    rw [(linkUp_sameRegs 1 0 _ (by decide)).get (.inl (by decide)), linkUp_up _ _ _ (by decide)]
  · simp (disch := decide) only [c1Known, State.get_put_other]
    exact linkUp_up _ _ _ (by decide)
  · simp (disch := decide) only [c1Known, State.get_put_other, State.get_put_same]
    rfl
  · simp (disch := decide) only [c1Known, State.get_put_same]
    rfl

/-! ### The D dies given to C0 -/

/-- Only C dies' registers and state differ: the part, the D dies and their registers are those of s. -/
structure OnlyCtl (s t : State) : Prop where
  part : t.part = s.part
  ddie : t.ddie = s.ddie
  reg : ∀ i o, 2 ≤ i → o < 0x1000000 → t.reg i o = s.reg i o

theorem OnlyCtl.refl (s : State) : OnlyCtl s s := ⟨rfl, rfl, fun _ _ _ _ => rfl⟩

theorem OnlyCtl.put {s t : State} (h : OnlyCtl s t) {d : Nat} (hd : d < 2) {f : Fld} (hf : f.off < 0x1000000) (v : Nat) :
    OnlyCtl s (t.put d f v) :=
  ⟨by rw [State.put_part, h.part], by rw [State.put_ddie, h.ddie], fun i o hi ho => by
    rw [State.reg_put_other hf ho (.inl (by omega)), h.reg i o hi ho]⟩

theorem OnlyCtl.modHdr {s t : State} (h : OnlyCtl s t) (d : Nat) (g : HdrC → HdrC) : OnlyCtl s (t.modHdr d g) :=
  ⟨h.part, h.ddie, h.reg⟩

theorem OnlyCtl.get {s t : State} (h : OnlyCtl s t) (k : Nat) {f : Fld} (hf : f.off < 0x1000000) :
    t.get (dix k) f = s.get (dix k) f := by
  rw [State.get, State.get, h.reg _ _ (two_le_dix k) hf]

theorem OnlyCtl.hasD {s t : State} (h : OnlyCtl s t) (k : Nat) : t.hasD k = s.hasD k := by
  rw [State.hasD, State.hasD, h.part]

theorem OnlyCtl.dd {s t : State} (h : OnlyCtl s t) (k : Nat) : t.dd k = s.dd k := by
  rw [State.dd, State.dd, h.ddie]

theorem OnlyCtl.owns {s t : State} (h : OnlyCtl s t) (d k : Nat) : t.owns d k = s.owns d k := by
  simp only [State.owns, State.owner, State.orphan, h.hasD, h.dd, h.get k (f := F.DRV_D_ID_OWNER) (by decide)]

theorem OnlyCtl.rcBoth {s : State} {f : Nat → State → State} (h : ∀ d < 2, ∀ t, OnlyCtl s t → OnlyCtl s (f d t)) :
    OnlyCtl s (rcBoth f s) :=
  overN_inv (.refl s) (fun d hd t ht => by
    split
    · exact h d hd t ht
    · exact ht)

theorem onlyCtl_refreshInact {s t : State} (h : OnlyCtl s t) {d : Nat} (hd : d < 2) : OnlyCtl s (refreshInact d t) :=
  overN_inv h (fun _ hm _ hu => hu.put hd (by dsimp only; omega) _)

theorem onlyCtl_syncOwn {s t : State} (h : OnlyCtl s t) : OnlyCtl s t.syncOwn :=
  overN_inv h (fun d hd u hu => by
    dsimp only
    split
    · refine overN_inv ?_ (fun _ hk _ hv => hv.put hd (by dsimp only; omega) _)
      exact (((hu.put hd (by decide) _).put hd (by decide) _).put hd (by decide) _).put hd (by decide) _
    · exact hu)

/-- A D die that training need not reset: no orphan, and no notice of a reset on its way. -/
def State.calm (s : State) (k : Nat) : Prop := s.inOrphan k = false ∧ s.orphan k = false ∧ (s.dd k).noticeDue = false

theorem setOwner_get_other {j k : Nat} (h : k ≠ j) (d : Nat) (s : State) {f : Fld} (hf : f.off < 0x1000000) :
    (setOwner j d s).get (dix k) f = s.get (dix k) f := by
  have hne : dix k ≠ dix j := by simpa [dix] using h
  rw [setOwner, State.modD_get, State.off, State.get_put_other (by decide) hf (.inl hne),
    State.get_put_other (by decide) hf (.inl hne)]

theorem setOwner_dd_other {j k : Nat} (h : k ≠ j) (d : Nat) (s : State) : (setOwner j d s).dd k = s.dd k := by
  rw [setOwner, State.dd_modD_other h, State.off, State.put_dd, State.put_dd]

theorem setOwner_inOrphan (k d : Nat) (s : State) : (setOwner k d s).inOrphan k = false := by
  rw [State.inOrphan, State.flag, setOwner, State.modD_get, State.off, State.get_put_same _ _ _ _ (by decide)]
  rfl

theorem setOwner_calm {s : State} {k : Nat} (j d : Nat) (h : s.calm k) : (setOwner j d s).calm k := by
  obtain ⟨hin, horphan, hnotice⟩ := h
  by_cases hk : k = j
  · subst hk
    exact ⟨setOwner_inOrphan .., by simp [State.orphan, setOwner], by simp [setOwner, State.off, hnotice]⟩
  · refine ⟨?_, ?_, ?_⟩
    · rw [State.inOrphan, State.flag, setOwner_get_other hk _ _ (by decide)]
      exact hin
    · rw [State.orphan, setOwner_dd_other hk]
      exact horphan
    · rw [setOwner_dd_other hk]
      exact hnotice

theorem setOwner_part (k d : Nat) (s : State) : (setOwner k d s).part = s.part := by
  simp [setOwner, State.off]

theorem setOwner_owns {s : State} {k : Nat} (h : s.hasD k = true) : (setOwner k 0 s).owns 0 k = true := by
  have howner : (setOwner k 0 s).owner k = 0 := by
    rw [State.owner, setOwner, State.modD_get, State.off, State.get_put_other (by decide) (by decide) (.inr (by decide)),
      State.get_put_same _ _ _ _ (by decide), Nat.zero_mod]
  have horphan : (setOwner k 0 s).orphan k = false := by simp [State.orphan, setOwner]
  have hD : (setOwner k 0 s).hasD k = s.hasD k := by rw [State.hasD, setOwner_part, State.hasD]
  simp [State.owns, howner, horphan, hD, h]

theorem setOwner_owns_other {s : State} {j k : Nat} (h : k ≠ j) (d e : Nat) : (setOwner j d s).owns e k = s.owns e k := by
  simp only [State.owns, State.owner, State.orphan, State.hasD, setOwner_part, setOwner_dd_other h,
    setOwner_get_other h (f := F.DRV_D_ID_OWNER) d s (by decide)]

theorem setOwner_ctlRegs (k d : Nat) (s : State) : CtlRegs s (setOwner k d s) :=
  ((ctlRegs_put k (f := F.DRV_D_ID_OWNER) (by decide) _ s).trans
    (ctlRegs_put k (f := F.DRV_D_STAT_ORPHAN) (by decide) _ _)).trans (ctlRegs_modD _ _ _)

/-- The loop of training over the D dies. -/
def trainD (k : Nat) (s : State) : State :=
  if s.hasD k then
    setOwner k 0 (if s.inOrphan k || s.orphan k || (s.dd k).noticeDue then resetD k false s else s)
  else s

/-- No D die of the part is to be reset by training. -/
def State.allCalm (s z : State) : Prop := s.part = z.part ∧ ∀ k < 6, z.hasD k = true → s.calm k

theorem State.allCalm.round {s z : State} (h : s.allCalm z) {k : Nat} (hk : k < 6) :
    trainD k s = if z.hasD k then setOwner k 0 s else s := by
  have hD : s.hasD k = z.hasD k := by rw [State.hasD, State.hasD, h.1]
  rw [trainD, hD]
  split
  case isTrue hz =>
    obtain ⟨hin, horphan, hnotice⟩ := h.2 k hk hz
    simp [hin, horphan, hnotice]
  case isFalse => rfl

theorem State.allCalm.kept {s z : State} (h : s.allCalm z) {k : Nat} (hk : k < 6) : (trainD k s).allCalm z := by
  rw [h.round hk]
  split
  · exact ⟨(setOwner_part ..).trans h.1, fun j hj hz => setOwner_calm k 0 (h.2 j hj hz)⟩
  · exact h

theorem trainD_owns {z : State} (hz : z.allCalm z) {k : Nat} (hk : k < 6) (hD : z.hasD k = true) :
    (overN 6 trainD z).owns 0 k = true := by
  refine overN_reach (P := fun t => t.allCalm z) (Q := fun t => t.owns 0 k = true) hk hz (fun i hi t ht => ht.kept hi)
    (fun t ht => ?_) (fun i hi t ht howns => ?_)
  · rw [ht.round hk, if_pos hD]
    exact setOwner_owns (by rw [State.hasD, ht.1]; exact hD)
  · rw [ht.round hi]
    split
    · by_cases hki : k = i
      · subst hki
        exact setOwner_owns (by rw [State.hasD, ht.1]; exact hD)
      · rw [setOwner_owns_other hki, howns]
    · exact howns

theorem trainD_ctlRegs {z : State} (hz : z.allCalm z) : CtlRegs z (overN 6 trainD z) :=
  (overN_inv (P := fun t => CtlRegs z t ∧ t.allCalm z) ⟨.refl z, hz⟩ (fun i hi t ht => by
    refine ⟨?_, ht.2.kept hi⟩
    rw [ht.2.round hi]
    split
    · exact ht.1.trans (setOwner_ctlRegs _ _ _)
    · exact ht.1)).1

/-- The ownership registers of the C dies brought up to date. -/
def ownShown (s : State) : State := overN 2 (fun d s => if s.runs d then refreshInact d s else s) s.syncOwn

theorem ownShown_onlyCtl (s : State) : OnlyCtl s (ownShown s) :=
  overN_inv (onlyCtl_syncOwn (.refl s)) (fun d hd t ht => by
    split
    · exact onlyCtl_refreshInact ht hd
    · exact ht)

theorem ownShown_rc (s : State) : SameRegs (fun _ o => o = 0xAF000) s (ownShown s) := by
  have hP : ∀ {d f v t}, SameRegs (fun _ o => o = 0xAF000) s t → f.off < 0x1000000 → f.off ≠ 0xAF000 →
      SameRegs (fun _ o => o = 0xAF000) s (State.put t d f v) := fun h hf hne =>
    h.put (fun i o ho => .inr (by omega)) hf _
  have hsync : SameRegs (fun _ o => o = 0xAF000) s s.syncOwn := overN_inv (.refl s) (fun d hd u hu => by
    dsimp only
    split
    · refine overN_inv ?_ (fun _ hk _ hv => hP hv (by dsimp only; omega) (by dsimp only; omega))
      exact hP (hP (hP (hP hu (by decide) (by decide)) (by decide) (by decide)) (by decide) (by decide)) (by decide)
        (by decide)
    · exact hu)
  refine overN_inv hsync (fun d _ t ht => ?_)
  split
  · exact overN_inv ht (fun _ hm _ hu => hP hu (by dsimp only; omega) (by dsimp only; omega))
  · exact ht

/-- Phase 2 of roll call, its answer window opened. -/
def rolledTo2 (s : State) : State :=
  (rcPhaseTo 2 s).modHdr 0 (fun h => { h with winD := (rcPhaseTo 2 s).now 0 })

theorem rolledTo2_onlyCtl (s : State) : OnlyCtl s (rolledTo2 s) :=
  (OnlyCtl.rcBoth (fun _ hd _ ht => ht.put hd (by decide) _)).modHdr 0 _

theorem OnlyCtl.calm {s t : State} (h : OnlyCtl s t) {k : Nat} (hk : s.calm k) : t.calm k := by
  obtain ⟨hin, horphan, hnotice⟩ := hk
  refine ⟨?_, ?_, ?_⟩
  · rw [State.inOrphan, State.flag, h.get k (by decide)]
    exact hin
  · rw [State.orphan, h.dd]
    exact horphan
  · rw [h.dd]
    exact hnotice

theorem exec_dLinkTrainingStart {s : State} (hroll : s.rolling = true) (hph : s.rcPhase = 1) (hc1 : s.c1Settled = true) :
    exec .dLinkTrainingStart s = .next (ownShown (overN 6 trainD (rolledTo2 s))) := by
  show execDLinkTrainingStart s = _
  rw [execDLinkTrainingStart]
  exact congrArg _ (if_pos (by simp [hroll, hph, hc1]))

theorem rolledTo2_phase {s : State} (h : s.runs 0 = true) : (rolledTo2 s).get 0 F.HDR_RC_STATUS_PHASE = 2 := by
  rw [rolledTo2, State.modHdr, State.modC_get, rcPhaseTo, rcBoth_put_get h _ (fun _ _ => 2) (by decide) (by decide)]
  rfl

theorem dLinkTraining_shows {s : State} (hroll : s.rolling = true) (hcalm : ∀ k < 6, s.hasD k = true → s.calm k) :
    (ownShown (overN 6 trainD (rolledTo2 s))).get 0 F.HDR_RC_STATUS_PHASE = 2 ∧
      ∀ k < 6, s.hasD k = true → (ownShown (overN 6 trainD (rolledTo2 s))).owns 0 k = true := by
  have hctl := rolledTo2_onlyCtl s
  have hall : (rolledTo2 s).allCalm (rolledTo2 s) := ⟨rfl, fun k hk hD =>
    hctl.calm (hcalm k hk ((hctl.hasD k).symm.trans hD))⟩
  have hr : s.runs 0 = true := by simp [State.rolling] at hroll; exact hroll.1
  constructor
  · rw [(ownShown_rc _).get rfl, (trainD_ctlRegs hall).get (by decide) (by decide), rolledTo2_phase hr]
  · intro k hk hD
    rw [(ownShown_onlyCtl _).owns]
    exact trainD_owns hall hk ((hctl.hasD k).trans hD)

/-! ### Findings -/

theorem State.runs_of_rolling {s : State} (h : s.rolling = true) : s.runs 0 = true := by
  simp only [State.rolling, Bool.and_eq_true] at h
  exact h.1

theorem rcCode_get {s : State} (h : s.runs 0 = true) (hcode : s.get 0 F.HDR_RC_STATUS_CODE = 0) (c : Nat) :
    (rcCode c s).get 0 F.HDR_RC_STATUS_CODE = c % 16 := by
  rw [rcCode, if_pos (by simp [hcode]), rcBoth_put_get h _ (fun _ _ => c) (by decide) (by decide)]
  rfl

theorem rcBoth_runs (f : Fld) (v : Nat → State → Nat) (s : State) (d : Nat) :
    (rcBoth (fun e t => t.put e f (v e t)) s).runs d = s.runs d :=
  overN_same (fun t => t.runs d) s (fun e _ t => by
    split
    · exact State.runs_put ..
    · rfl)

theorem rcCode_get_mismatch (c : Nat) (s : State) : (rcCode c s).get 0 F.HDR_RC_DIEMAP_MISMATCH =
    s.get 0 F.HDR_RC_DIEMAP_MISMATCH := by
  unfold rcCode
  split
  · exact rcBoth_put_get_other s (fun _ _ => c) (by decide) (by decide) (by decide) (.inl (by decide)) 0
  · rfl

theorem rcBoth_put_c (f : Fld) (v : Nat → State → Nat) (s : State) (e : Nat) :
    (rcBoth (fun d t => t.put d f (v d t)) s).c e = s.c e :=
  overN_same (fun t => t.c e) s (fun _ _ t => by
    split
    · exact State.put_c ..
    · rfl)

theorem rcCode_c (c : Nat) (s : State) (e : Nat) : (rcCode c s).c e = s.c e := by
  unfold rcCode
  split
  · exact rcBoth_put_c F.HDR_RC_STATUS_CODE (fun _ _ => c) s e
  · rfl

/-- MISMATCH of die index i on the running C dies. -/
def mismatched (i : Nat) (s : State) : State :=
  rcBoth (fun d t => t.put d F.HDR_RC_DIEMAP_MISMATCH (setBit (t.get d F.HDR_RC_DIEMAP_MISMATCH) i true)) s

theorem rcMismatch_eq (i : Nat) (s : State) : rcMismatch i s = rcCode 2 (mismatched i s) := rfl

theorem rcMismatch_shows {s : State} (h : s.runs 0 = true) (hcode : s.get 0 F.HDR_RC_STATUS_CODE = 0) :
    (rcMismatch 1 s).get 0 F.HDR_RC_DIEMAP_MISMATCH = setBit (s.get 0 F.HDR_RC_DIEMAP_MISMATCH) 1 true ∧
      (rcMismatch 1 s).get 0 F.HDR_RC_STATUS_CODE = 2 := by
  have hruns : (mismatched 1 s).runs 0 = true := (rcBoth_runs _ (fun d t => _) s 0).trans h
  have hkeep : (mismatched 1 s).get 0 F.HDR_RC_STATUS_CODE = 0 :=
    (rcBoth_put_get_other s (fun d t => setBit (t.get d F.HDR_RC_DIEMAP_MISMATCH) 1 true) (by decide) (by decide)
      (by decide) (.inl (by decide)) 0).trans hcode
  rw [rcMismatch_eq]
  refine ⟨?_, rcCode_get hruns hkeep 2⟩
  rw [rcCode_get_mismatch, mismatched,
    rcBoth_put_get h _ (fun d t => setBit (t.get d F.HDR_RC_DIEMAP_MISMATCH) 1 true) (by decide) (by decide)]
  exact Nat.mod_eq_of_lt (setBit_one_lt (State.get_lt ..))

/-- Settles O17: the branches of each step, by the guards of the execs; the fields after the exchange of identities and
after training from what the linked puts keep. -/
theorem rollCallCommands : Obligations.RollCallCommands := by
  refine ⟨fun s ctl pos step hr => Eq.trans (b := execRollCallC1Answer ctl pos step s) rfl (atC_next hr),
    fun s => rfl,
    fun s k pos step drv hr => Eq.trans (b := execDDieAnswer k pos step drv s) rfl (atD_next hr),
    fun s i => rfl,
    fun s k ok hr => Eq.trans (b := execMicrocodeReadback k ok s) rfl (atD_next hr),
    fun s => rfl,
    fun s peerOk => rfl,
    fun s d item hr => Eq.trans (b := execReadinessItemMet d item s) rfl (onC_next hr),
    fun s hc hroll hph hr hp hmiss hwin => ?_,
    fun s ctl pos step hc hroll hph hr hp hmiss hwin hcode hbad => ?_,
    fun s hroll hph hset hcalm => ⟨_, exec_dLinkTrainingStart hroll hph hset, dLinkTraining_shows hroll hcalm⟩,
    fun s i hi hdie hroll hph hp hcode hwin => ?_⟩
  · refine ⟨c1Agreed (c1Known 0xB0 s), ?_, ?_⟩
    · show execRollCallC1Answer true 1 0xB0#8 s = _
      rw [execRollCallC1Answer, atC_next hc]
      exact congrArg _ ((if_pos (by simp [hroll, hph, hr, hp, hmiss, hwin])).trans (if_neg (by decide)))
    · have h := c1Agreed_sameRegs (c1Known 0xB0 s)
      rw [h.get (by decide), h.get (by decide), h.get (by decide), h.get (by decide), h.get (by decide)]
      exact c1Known_shows s
  · refine ⟨rcMismatch 1 ((s.putBit 0 F.HDR_RC_DIEMAP_PRESENT 1 true).put 0 (F.HDR_RC_STEP_STEP 1) step.toNat), ?_, ?_⟩
    · show execRollCallC1Answer ctl pos step s = _
      rw [execRollCallC1Answer, atC_next hc]
      exact congrArg _ ((if_pos (by simp [hroll, hph, hr, hp, hmiss, hwin])).trans (if_pos (by simpa [or_assoc] using hbad)))
    · have hcode' : ((s.putBit 0 F.HDR_RC_DIEMAP_PRESENT 1 true).put 0 (F.HDR_RC_STEP_STEP 1) step.toNat).get 0
          F.HDR_RC_STATUS_CODE = 0 := by
        rw [State.get_put_other (by decide) (by decide) (.inr (by decide)), State.putBit,
          State.get_put_other (by decide) (by decide) (.inr (by decide)), hcode]
      have h := rcMismatch_shows (by simpa [State.putBit, State.runs_put] using State.runs_of_rolling hroll) hcode'
      rwa [State.get_put_other (by decide) (by decide) (.inr (by decide)), State.putBit,
        State.get_put_bits (f := F.HDR_RC_DIEMAP_PRESENT) (g := F.HDR_RC_DIEMAP_MISMATCH) (by decide) rfl (by decide)] at h
  · have hmiss : (State.modHdr s 0 (fun h => { h with c1Missing := true })).runs 0 = true :=
      (State.runs_modHdr ..).trans (State.runs_of_rolling hroll)
    refine ⟨rcCode 1 (s.modHdr 0 (fun h => { h with c1Missing := true })), ?_, ?_, ?_⟩
    · show execAnswerWindowExpiry i s = _
      rw [execAnswerWindowExpiry, hi]
      exact congrArg _ ((if_pos (by simp [hroll, hdie, hp])).trans (if_pos (by simp [hph, hwin])))
    · exact rcCode_get hmiss ((State.modC_get ..).trans hcode) 1
    · rw [rcCode_c]
      simp [State.modHdr]

end Sys2Proof.Machine
end

section
/-! PROOFS. The statements of 05_libretto: the two-key sequence, the commands of the loader and its own events. -/

namespace Sys2Proof.Machine

theorem cmdWord_fields : ∀ (cmd : Fin 8) (ax : Fin 8), F.LIB_CMD_CMD.ofWord (cmdWord cmd.val ax.val) = cmd.val ∧
    F.LIB_CMD_AXSEL.ofWord (cmdWord cmd.val ax.val) = ax.val := by decide

/-- A command of LIB_CMD that the two keys have released is carried out and recorded (R117, R130). -/
theorem libCmdWrite_released {s : State} {m : Master} (hwf : s.wf = true) (hm : m.safety = true)
    (hk : s.tkReady 0 0x400B0004 = true) (cmd ax : Fin 8) : libCmdWrite 0 m (cmdWord cmd.val ax.val) s =
    tkDone 0 0x400B0004 (s.reg 0 0xB0004) (newWord 0 0xB0004 (s.reg 0 0xB0004) (cmdWord cmd.val ax.val))
      (libCommand 0 cmd.val ax.val s) := by
  obtain ⟨hcmd, hax⟩ := cmdWord_fields cmd ax
  unfold libCmdWrite
  dsimp only
  rw [hcmd, hax, if_neg (by simp), if_pos hm]
  exact tkWrite_released hwf hm hk ..

/-- Settles O18: a released command by the rule of two-key writes, a key by the branches of its write. -/
theorem loaderCommands : Obligations.LoaderCommands := by
  refine ⟨fun s d m hr => Eq.trans (b := execLibLoad d m s) rfl (onC_next hr),
    fun s d m ax hr => Eq.trans (b := execLibReload d m ax s) rfl (onC_next hr),
    fun s d m hr => Eq.trans (b := execLibRollback d m s) rfl (onC_next hr),
    fun s d m hr => Eq.trans (b := execLibAccept d m s) rfl (onC_next hr),
    fun s d m hr => Eq.trans (b := execLibAbort d m s) rfl (onC_next hr),
    fun s d m hr => Eq.trans (b := execLibStoreUd d m s) rfl (onC_next hr),
    fun s d m hr => Eq.trans (b := execLibClearUd d m s) rfl (onC_next hr),
    fun s d m v hr => Eq.trans (b := execLibTkAddrWrite d m v s) rfl (onC_next hr),
    fun s d m v hr => Eq.trans (b := execLibTkKeyWrite d m v s) rfl (onC_next hr),
    fun s d m v hr => Eq.trans (b := execTwoKeyTargetWrite d m v s) rfl (onC_next hr),
    fun s d hr => Eq.trans (b := execTwoKeyTimeout d s) rfl (onC_next hr),
    fun s m hwf hr hm hk => ?_,
    fun s d m v hr => ⟨fun hm => ?_, fun hm => ?_⟩,
    fun s d m v hr hm ha => ⟨fun hkeys hv => ?_, fun hkeys hv => ?_, fun hkeys hv => ?_⟩⟩
  · intro fin
    have run : ∀ cmd ax : Fin 8, onC 0 (libCmdWrite 0 m (cmdWord cmd.val ax.val)) s = fin cmd.val ax.val := fun cmd ax =>
      (onC_next hr).trans (congrArg _ (libCmdWrite_released hwf hm hk cmd ax))
    exact ⟨Eq.trans (b := execLibLoad 0 m s) rfl (run 1 0), fun ax => Eq.trans (b := execLibReload 0 m ax s) rfl (run 2 ax),
      Eq.trans (b := execLibRollback 0 m s) rfl (run 3 0), Eq.trans (b := execLibAccept 0 m s) rfl (run 4 0),
      Eq.trans (b := execLibAbort 0 m s) rfl (run 5 0), Eq.trans (b := execLibStoreUd 0 m s) rfl (run 6 0),
      Eq.trans (b := execLibClearUd 0 m s) rfl (run 7 0)⟩
  · show execLibTkAddrWrite d m v s = _
    rw [execLibTkAddrWrite, onC_next hr]
    exact congrArg _ (if_pos hm)
  · show execLibTkAddrWrite d m v s = _
    rw [execLibTkAddrWrite, onC_next hr]
    exact congrArg _ (if_neg (by simp [hm]))
  all_goals
    show execLibTkKeyWrite d m v s = _
    rw [execLibTkKeyWrite, onC_next hr]
    unfold tkKeyWrite
    simp [hm, ha, hkeys, hv, State.tkKey, State.on]

theorem watchClose_runs (d e : Nat) (s : State) : (watchClose d s).runs e = s.runs e := by
  have hstat := sameApart_put_lib (f := F.LIB_STAT_WATCH) (by decide) (by decide) d 0 s
  have hremain := sameApart_put_lib (f := F.LIB_WATCH_REMAIN) (by decide) (by decide) d 0 (s.off d F.LIB_STAT_WATCH)
  exact ((hstat.trans hremain).trans (sameApart_modLib d _ _)).runs e

/-- The acceptance window of one C die closed if it has run out (R123). -/
def watchExpires (d : Nat) (s : State) : State :=
  if s.runs d && s.flag d F.LIB_STAT_WATCH &&
    (s.c d).lib.watchFrom + 400000000 * s.get d F.LIB_WATCH_WIN ≤ s.now d then watchClose d s else s

theorem exec_acceptWindowExpiry (s : State) : exec .acceptWindowExpiry s = .next (watchExpires 1 (watchExpires 0 s)) :=
  congrArg Host.Outcome.next (overN_two watchExpires s)

/-- Settles O19: with C0 alone running, the loop of the acceptance window has one round. -/
theorem loaderEvents : Obligations.LoaderEvents := by
  refine ⟨fun s => rfl, fun s => rfl, fun s => rfl, fun s news => rfl, fun s => rfl, fun s => rfl,
    fun s h0 h1 hwatch hwin => ?_⟩
  have hfirst : watchExpires 0 s = watchClose 0 s := if_pos (by simp [h0, hwatch, hwin])
  have hsecond : watchExpires 1 (watchClose 0 s) = watchClose 0 s := if_neg (by simp [watchClose_runs, h1])
  rw [exec_acceptWindowExpiry, hfirst, hsecond]

end Sys2Proof.Machine
end

section
/-! PROOFS. The statements of 06_headrace_cue_matrix: links, time, remote accesses, cues, handovers and takeovers. -/

namespace Sys2Proof.Machine

/-- A command at a link end of a running die is its step. -/
theorem onLink_next {s : State} {i n : Nat} (hl : s.hasLink i n = true) (hr : s.dieRuns i = true) (f : State → State) :
    onLink i n f s = .next (f s) := by
  rw [onLink, if_pos (by simp [hl, hr])]

/-! ### Links and time -/

/-- Settles O20: the branches of each command at a link end that the part has, of a die that runs. -/
theorem headraceLinkCommands : Obligations.HeadraceLinkCommands := by
  refine ⟨fun s i n w hl hr => ?_,
    fun s i n seq hl hr => Eq.trans (b := execNakReceive i n seq s) rfl (onLink_next hl hr _),
    fun s i n hl hr => Eq.trans (b := execLinkLost i n s) rfl (onLink_next hl hr _),
    fun s i n hl hr => Eq.trans (b := execLinkRetrained i n s) rfl (onLink_next hl hr _),
    fun s i n hl hr => ?_,
    fun s d hr => Eq.trans (b := execTimeSyncSend d s) rfl (onC_next hr),
    fun s i n t hl hr => Eq.trans (b := execTimeSyncReceive i n t s) rfl (onLink_next hl hr _),
    fun s k hr => Eq.trans (b := execResetNoticeReceive k s) rfl (onD_next hr)⟩
  · intro u
    have run : exec (.flitReceive i n w) s = _ := Eq.trans (b := execFlitReceive i n w s) rfl (onLink_next hl hr _)
    refine ⟨fun hbad => run.trans (congrArg _ (if_pos (by simp [hbad]))), fun hok ht => ?_, fun hok ht => ?_,
      fun hok hidle hnak => ?_⟩
    all_goals refine run.trans (congrArg _ ((if_neg (by simp [hok])).trans ?_))
    · exact if_pos (by simp [ht])
    · exact (if_neg (by simp [ht, Fl.nak, Fl.idle])).trans (if_pos (by simp [ht]))
    · exact (if_neg (by simp [hidle])).trans (if_neg (by simp [hnak]))
  · have run : exec (.timeLoad i n) s = _ := Eq.trans (b := execTimeLoad i n s) rfl (onLink_next hl hr _)
    rw [run]
    refine ⟨fun ht => ?_, fun v ht hno => ?_, fun v ht hyes hi => ?_, fun v ht hyes hi => ⟨_, rfl, ?_⟩⟩
    · rw [ht]
    · rw [ht]
      exact congrArg _ (if_pos (by simp [hno]))
    · rw [ht]
      exact congrArg _ ((if_neg (by simp [hyes])).trans (if_neg (by simp; omega)))
    · rw [ht]
      intro u hu
      refine (if_neg (by simp [hyes])).trans (if_neg fun hall => ?_)
      simp only [Bool.and_eq_true, beq_iff_eq] at hall
      obtain ⟨⟨⟨⟨-, hn⟩, hrole⟩, -⟩, -⟩ := hall
      exact hu.elim (· hn) (· hrole)

/-! ### Accesses through the windows, and cues -/

theorem windowDie_drv (k : DDie) : windowDie (drvAddr k.val 0) = some (dix k.val) := by
  revert k
  decide

theorem inRegion_drv (k : DDie) : inRegion (drvAddr k.val 0) = true := by
  revert k
  decide

theorem dix_lt (k : DDie) : dix k.val < 8 := Nat.add_lt_add_left k.isLt 2

theorem State.unmapped_drv {s : State} {k : DDie} (h : s.hasD k.val = true) : s.unmapped (drvAddr k.val 0) = false := by
  have hdie : s.hasDie (dix k.val) = true := by
    rw [State.hasDie, if_neg (Nat.not_lt.mpr (two_le_dix k.val))]
    simpa [dix] using h
  have hlt : ¬ 8 ≤ dix k.val := Nat.not_le.mpr (dix_lt k)
  simp [State.unmapped, windowDie_drv, inRegion_drv, hdie, hlt]

theorem drvAddr_word : ∀ k : DDie, (BitVec.ofNat 32 (drvAddr k.val 0)).toNat = drvAddr k.val 0 := by decide

theorem drvAddr_aligned : ∀ k : DDie, drvAddr k.val 0 % 4 = 0 := by decide

/-- A read of a D die whose link is down (R138). -/
theorem remoteRead_linkDown {s : State} {d : CDie} {c : Fin 4} {k : DDie} (hD : s.hasD k.val = true)
    (hlink : s.linkD d.val k.val = false) (hidle : ((s.c d.val).hdr.reads.at c.val).active = false) (mm : Bool) :
    remoteRead d.val c mm (drvAddr k.val 0) s = busTrap d.val (.core c mm) (drvAddr k.val 0) false
      (accErr d.val Acc.linkDown (dix k.val) 0 (drvAddr k.val 0) false s) := by
  have hne : ¬ dix k.val = d.val := by have := two_le_dix k.val; have := d.isLt; omega
  have hge : ¬ dix k.val < 2 := Nat.not_lt.mpr (two_le_dix k.val)
  have hsub : dix k.val - 2 = k.val := by simp [dix]
  unfold remoteRead
  rw [windowDie_drv]
  dsimp only
  rw [if_neg (by simp [State.unmapped_drv hD, drvAddr_aligned]), if_neg (by simp [hidle])]
  exact if_pos (by simp [hne, hge, hsub, hlink])

/-- The answer to the read that core k has under way (R138). -/
def readAnswered (d : Nat) (k : Fin 4) (machine : Bool) (s : State) : State :=
  let r := (s.c d).hdr.reads.at k.val
  match r.active, r.rsp with
  | true, some (data, st) =>
    let s := readEnd d k.val s
    if st == 0 then s.modSys d (fun y => { y with rdata := BitVec.ofNat 32 data })
    else busTrap d (.core k machine) r.addr false (accErr d Acc.remoteErr r.die st r.addr false s)
  | _, _ => s

theorem exec_remoteReadResponse {s : State} {d : CDie} (hr : s.runs d.val = true) (c : Fin 5) (mm ok : Bool) :
    (c.val = 4 → exec (.remoteReadResponse d c mm ok) s = .next (takeAnswer d.val ok s)) ∧
      ∀ k : Fin 4, c.val = k.val → exec (.remoteReadResponse d c mm ok) s = .next (readAnswered d.val k mm s) := by
  have run : exec (.remoteReadResponse d c mm ok) s = _ :=
    Eq.trans (b := execRemoteReadResponse d c mm ok s) rfl (onC_next hr)
  refine ⟨fun hc => run.trans (congrArg _ (dif_neg (by omega))), fun k hck => ?_⟩
  obtain ⟨c, hc⟩ := c
  obtain ⟨k, hk⟩ := k
  obtain rfl : c = k := hck
  exact run.trans (congrArg _ (dif_pos hk))

theorem State.now_modHdr (s : State) (e : Nat) (g : HdrC → HdrC) (d : Nat) : (s.modHdr e g).now d = s.now d := by
  rw [State.now, State.now, State.modHdr]
  by_cases h : d = e
  · subst h
    rw [State.c_modC_same]
  · rw [State.c_modC_other h]

theorem exec_cueArrival {s : State} {d : CDie} (hr : s.runs d.val = true) (dst : Byte) (late bad : Bool) :
    exec (.cueArrival d dst late bad) s = .next (
      match s.cueTo d.val dst.toNat with
      | none => s
      | some c =>
        if s.now d.val < c.due then s
        else
          let s := s.modHdr d.val (fun h => { h with cues := h.cues.erase c })
          let late := late || c.crowded || decide (c.due < s.now d.val)
          let s := onlyIf (c.cross && (late || bad)) (cueLate d.val) s
          if c.cross && bad then s else cueAct d.val dst.toNat s) :=
  Eq.trans (b := execCueArrival d dst late bad s) rfl (onC_next hr)

/-- Settles O21: the branches of each command, by the guards of its rule. -/
theorem remoteAndCueCommands : Obligations.RemoteAndCueCommands := by
  refine ⟨fun s d m addr v hr => Eq.trans (b := execRemoteWrite d m addr v s) rfl (onC_next hr),
    fun s d k machine addr hr => Eq.trans (b := execRemoteRead d k machine addr s) rfl (onC_next hr),
    fun s d c mm k hr hD hlink hidle => ?_,
    fun s d c mm ok hr => ⟨fun hc => ?_, fun k hck => ?_⟩,
    fun s d k machine hr => Eq.trans (b := execRemoteReadTimeout d k machine s) rfl (onC_next hr),
    fun s d src hr => Eq.trans (b := execCueSourceEvent d src s) rfl (onC_next hr),
    fun s d v hr => Eq.trans (b := execSoftwareCue d v s) rfl (onCW_next hr ..),
    fun s d dst late bad hr => ⟨fun hcue => ?_, fun c hcue hdue => ?_, fun c hcue hdue => ?_⟩⟩
  · show execRemoteRead d c mm _ s = _
    rw [execRemoteRead, onC_next hr, drvAddr_word, remoteRead_linkDown hD hlink hidle]
  · exact (exec_remoteReadResponse hr c mm ok).1 hc
  · intro r
    rw [(exec_remoteReadResponse hr c mm ok).2 k hck]
    unfold readAnswered
    dsimp only
    refine ⟨fun h => ?_, fun x hact hrsp => ?_, fun x e hact hrsp he => ?_⟩
    · rcases h with h | h
      · rw [h]
      · rw [h]
        cases r.active <;> rfl
    · rw [hact, hrsp]
      rfl
    · rw [hact, hrsp]
      exact congrArg _ (if_neg (by simp [he]))
  · rw [exec_cueArrival hr, hcue]
  · rw [exec_cueArrival hr, hcue]
    exact congrArg _ (if_pos hdue)
  · intro u
    rw [exec_cueArrival hr, hcue]
    dsimp only
    rw [if_neg (Nat.not_lt.mpr hdue)]
    refine ⟨fun hcross => ?_, fun hcross hbad => ?_, fun hcross hbad hlate => ?_⟩
    · simp [hcross, onlyIf, u]
    · simp [hcross, hbad, onlyIf, u]
    · have hnow : u.now d.val = s.now d.val := State.now_modHdr ..
      have hcount : (late || c.crowded || decide (c.due < u.now d.val)) = true := by
        simpa [or_assoc, hnow] using hlate
      have hbads : (c.cross && bad) = false := by simp [hbad]
      have hnote : ((c.cross && (late || c.crowded || decide (c.due < u.now d.val) || bad))) = true := by
        simp [hcross, hcount]
      rw [hbads]
      exact congrArg _ ((if_neg (by decide)).trans (congrArg (cueAct d.val dst.toNat) (if_pos hnote)))

/-! ### Handovers and takeovers -/

theorem hoWord_fields : ∀ k : Fin 8, F.HDR_HO_CMD_OP.ofWord (BitVec.ofNat 32 (k.val + 16)) = 1 ∧
    F.HDR_HO_CMD_DIE.ofWord (BitVec.ofNat 32 (k.val + 16)) = k.val := by decide

/-- A HANDOVER that the two keys have released is the try of it, recorded (R140, R130). -/
theorem exec_handover_released {s : State} {d : CDie} {m : Master} (hwf : s.wf = true) (hr : s.runs d.val = true)
    (hm : m.safety = true) (hk : s.tkReady d.val 0x400A0210 = true) (k : Fin 8) : exec (.handover d m k) s =
    .next (tkDone d.val 0x400A0210 (s.reg d.val 0xA0210)
      (newWord d.val 0xA0210 (s.reg d.val 0xA0210) (BitVec.ofNat 32 (k.val + 16))) (hoTry d.val k.val false false s)) := by
  obtain ⟨hop, hdie⟩ := hoWord_fields k
  have run : exec (.handover d m k) s = _ := Eq.trans (b := execHandover d m k s) rfl (onC_next hr)
  have heff : hoCmd d.val (BitVec.ofNat 32 (k.val + 16)) s = hoTry d.val k.val false false s := by
    unfold hoCmd
    rw [hop, hdie]
    rfl
  have hwrite : hoCmdWrite d.val m (BitVec.ofNat 32 (k.val + 16)) s = _ := tkWrite_released hwf hm hk ..
  rw [run, hwrite, heff]

/-- Settles O22: a handover that the keys have released starts or is refused by the rule of two-key writes. -/
theorem handoverCommands : Obligations.HandoverCommands := by
  refine ⟨fun s d m k hr => Eq.trans (b := execHandover d m k s) rfl (onC_next hr),
    fun s d m k hr => Eq.trans (b := execTake d m k s) rfl (onC_next hr),
    fun s d hr => Eq.trans (b := execHoOfferReceive d s) rfl (onC_next hr),
    fun s d hr => Eq.trans (b := execHoReadyReceive d s) rfl (onC_next hr),
    fun s d hr => Eq.trans (b := execHoReadyDeadline d s) rfl (onC_next hr),
    fun s k hr => Eq.trans (b := execHoCommitReceive k s) rfl (onD_next hr),
    fun s k hr => Eq.trans (b := execHandoverBoundary k s) rfl (onD_next hr),
    fun s d k hr hk => Eq.trans (b := execHoDoneReceive d k s) rfl (onCD_next hr hk),
    fun s d code hr => Eq.trans (b := execHoCancel d code s) rfl (onC_next hr),
    fun s d k hr hk => Eq.trans (b := execHoCancelReceive d k s) rfl (onDC_next hr hk),
    fun s d k hr hk => Eq.trans (b := execTakeReceive d k s) rfl (onDC_next hr hk),
    fun s d m k hwf hr hm hk => ?_⟩
  intro fin
  rw [exec_handover_released hwf hr hm hk]
  refine ⟨fun hok => ?_, fun hno => ?_⟩
  · rw [hoTry, if_pos (by simp [hok, Ho.ok])]
  · rw [hoTry, if_neg (by simpa [Ho.ok] using hno)]

end Sys2Proof.Machine
end

section
/-! PROOFS. The statements of 07_adc and 15_bist_thermal: calibration and the zero-current capture, self-test and rotation. -/

namespace Sys2Proof.Machine

/-! ### The registers that a change keeps, with the clocks and resets -/

/-- The registers that P picks, the clocks and resets of the C dies, the package and the part are in t as in s. -/
structure SameCore (P : Nat → Nat → Prop) (s t : State) : Prop where
  regs : SameRegs P s t
  sys : ∀ e, (t.c e).sys = (s.c e).sys
  pkg : t.pkg = s.pkg
  part : t.part = s.part

section
variable {P : Nat → Nat → Prop} {s t u : State}

theorem SameCore.refl (s : State) : SameCore P s s := ⟨.refl s, fun _ => rfl, rfl, rfl⟩

theorem SameCore.trans (h : SameCore P s t) (g : SameCore P t u) : SameCore P s u :=
  ⟨h.regs.trans g.regs, fun e => (g.sys e).trans (h.sys e), g.pkg.trans h.pkg, g.part.trans h.part⟩

theorem SameCore.put (g : SameCore P s t) {d : Nat} {f : Fld} (h : ∀ i o, P i o → i ≠ d ∨ o ≠ f.off)
    (hf : f.off < 0x1000000) (v : Nat) : SameCore P s (t.put d f v) :=
  ⟨g.regs.put h hf v, fun e => by rw [State.put_c, g.sys], by rw [State.put_pkg, g.pkg], by rw [State.put_part, g.part]⟩

theorem SameCore.modC (h : SameCore P s t) {g : CtlDie → CtlDie} (hg : ∀ c, (g c).sys = c.sys) (d : Nat) :
    SameCore P s (t.modC d g) := by
  refine ⟨h.regs.trans (sameRegs_of_regs (State.modC_regs ..)), fun e => ?_, (State.modC_pkg ..).trans h.pkg,
    (State.modC_part ..).trans h.part⟩
  by_cases he : e = d
  · subst he
    rw [State.c_modC_same, hg, h.sys]
  · rw [State.c_modC_other he, h.sys]

theorem SameCore.group (h : SameCore P s t) (d g : Nat) (f : AgC → AgC) : SameCore P s (t.modAg d g f) :=
  h.modC (g := fun c => { c with adc := { c.adc with groups := c.adc.groups.mod g f } }) (fun _ => rfl) d

theorem SameCore.drew (h : SameCore P s t) : SameCore P s t.drawn := ⟨h.regs, h.sys, h.pkg, h.part⟩

theorem SameCore.runs (h : SameCore P s t) (e : Nat) : t.runs e = s.runs e := by
  simp only [State.runs, State.hasC, State.romHeld, h.sys e, h.part, h.pkg]

theorem SameCore.dev (h : SameCore P s t) (h0 : P 0 0) (h1 : P 1 0) : t.dev = s.dev := by
  have hlead : t.lead = s.lead := by rw [State.lead, State.lead, h.sys, h.runs]
  rw [State.dev, State.dev, hlead]
  refine h.regs.get ?_
  unfold State.lead
  split
  · exact h1
  · exact h0

theorem SameCore.mono {Q : Nat → Nat → Prop} (h : SameCore P s t) (hQ : ∀ i o, Q i o → P i o) : SameCore Q s t :=
  ⟨fun i o ho hq => h.regs i o ho (hQ i o hq), h.sys, h.pkg, h.part⟩
end

/-! ### Self-calibration -/

/-- SYS_DSTATE and ADC_GSTAT of the C dies. -/
abbrev GroupFree (i o : Nat) : Prop := i < 2 ∧ (o = 0 ∨ o = 0x110004)

/-- SYS_DSTATE of the C dies. -/
abbrev DevRegs (i o : Nat) : Prop := i < 2 ∧ o = 0

theorem sameCore_slConst {s t : State} (h : SameCore GroupFree s t) {d g j : Nat} (hg : g < 4) (hj : j < 8) :
    SameCore GroupFree s (slConst d g j t) := by
  have hP : ∀ i o, GroupFree i o → i ≠ d ∨ o ≠ 0x100600 + 0x4000 * g + 0x4 * j := fun i o ho => .inr (by omega)
  exact (((h.drew.put hP (by dsimp only; omega) _).put hP (by dsimp only; omega) _).put hP (by dsimp only; omega) _).put hP
    (by dsimp only; omega) _

/-- A group whose slices all pass: what it shows beside. -/
theorem sameCore_groupCalDone {s t : State} (h : SameCore GroupFree s t) {d g : Nat} (hg : g < 4) :
    SameCore GroupFree s (groupCalDone d g 0 t) := by
  have hP : ∀ i o, GroupFree i o → i ≠ d ∨ o ≠ 0x100004 + 0x4000 * g := fun i o ho => .inr (by omega)
  have hsl : SameCore GroupFree s (overN 8 (fun j s => if bit 0 j then s else slConst d g j s) t) :=
    overN_inv h (fun j hj u hu => by
      rw [if_neg (by simp [bit])]
      exact sameCore_slConst hu hg hj)
  have hbad : (List.range 8).filter (fun j => bit 0 j) = [] := by decide
  unfold groupCalDone
  rw [hbad]
  exact ((hsl.put (f := F.ADC_AG_STAT_CALBUSY g) hP (by dsimp only; omega) _).group d g _).put
    (f := F.ADC_AG_STAT_US g) hP (by dsimp only; omega) _

theorem sameCore_shuntCalDone {P : Nat → Nat → Prop} (hP : ∀ i o, P i o → i < 2) {s t : State} (h : SameCore P s t)
    (k : Nat) :
    SameCore P s (shuntCalDone k false t) := by
  have hne : ∀ f : Fld, ∀ i o, P i o → i ≠ dix k ∨ o ≠ f.off := fun f i o ho => .inl (by
    have := hP i o ho
    have := two_le_dix k
    omega)
  refine overN_inv ((h.put (hne F.DRV_D_SHCSTAT_CALDONE) (by decide) _).put (hne F.DRV_D_SHCSTAT_CALFAIL) (by decide) _)
    (fun j hj u hu => ?_)
  exact ((hu.drew.put (hne (F.DRV_D_SHCTRIM_OFS j)) (by dsimp only; omega) _).put (hne (F.DRV_D_SHCTRIM_GTRIM j))
    (by dsimp only; omega) _).put (hne (F.DRV_D_SHCTRIM_VALID j)) (by dsimp only; omega) _

theorem setBit_zero_false (k : Nat) : setBit 0 k false = 0 := by
  simp [setBit, bit]

/-- No fail mask of C die d is set, and the device state is that of s. -/
structure NoCalFail (d : Nat) (s t : State) : Prop where
  core : SameCore DevRegs s t
  calfail : t.get d F.ADC_GSTAT_CALFAIL = 0
  dcalfail : t.get d F.ADC_GSTAT_DCALFAIL = 0

/-- The masks cleared and every group calibrated. -/
def groupsCalibrated (d : Nat) (s : State) : State :=
  overN 4 (fun g s => groupCalDone d g 0 s) ((s.put d F.ADC_GSTAT_CALFAIL 0).put d F.ADC_GSTAT_DCALFAIL 0)

theorem groupsCalibrated_noFail {d : Nat} (hd : d < 2) (s : State) : NoCalFail d s (groupsCalibrated d s) := by
  have hP : ∀ i o, DevRegs i o → i ≠ d ∨ o ≠ 0x110004 := fun i o ho => .inr (by omega)
  have hclear : SameCore DevRegs s ((s.put d F.ADC_GSTAT_CALFAIL 0).put d F.ADC_GSTAT_DCALFAIL 0) :=
    ((SameCore.refl s).put hP (by decide) _).put hP (by decide) _
  have h : SameCore GroupFree ((s.put d F.ADC_GSTAT_CALFAIL 0).put d F.ADC_GSTAT_DCALFAIL 0) (groupsCalibrated d s) :=
    overN_inv (.refl _) (fun g hg t ht => sameCore_groupCalDone ht hg)
  refine ⟨hclear.trans (h.mono fun i o ho => ⟨ho.1, .inl ho.2⟩), ?_, ?_⟩
  · rw [h.regs.get ⟨hd, .inr rfl⟩, State.get_put_bits (f := F.ADC_GSTAT_DCALFAIL) (g := F.ADC_GSTAT_CALFAIL) (by decide)
      rfl (by decide), State.get_put_same _ _ _ _ (by decide), Nat.zero_mod]
  · rw [h.regs.get ⟨hd, .inr rfl⟩, State.get_put_same _ _ _ _ (by decide), Nat.zero_mod]

/-- The shunt converters of the owned D dies calibrated without a failure. -/
def shuntsCalibrated (d : Nat) (s : State) : State :=
  overN 6 (fun k s =>
    if s.owns d k then shuntCalDone k (bit 0 k) (s.putBit d F.ADC_GSTAT_DCALFAIL k (bit 0 k)) else s) s

theorem shuntsCalibrated_noFail {d : Nat} (hd : d < 2) {s t : State} (h : NoCalFail d s t) :
    NoCalFail d s (shuntsCalibrated d t) := by
  refine overN_inv h (fun k hk u hu => ?_)
  split
  · have hbit : bit 0 k = false := by simp [bit]
    have hP : ∀ i o, DevRegs i o → i ≠ d ∨ o ≠ 0x110004 := fun i o ho => .inr (by omega)
    have hsh : SameCore (fun i _ => i < 2) (u.putBit d F.ADC_GSTAT_DCALFAIL k false)
        (shuntCalDone k false (u.putBit d F.ADC_GSTAT_DCALFAIL k false)) :=
      sameCore_shuntCalDone (fun _ _ ho => ho) (.refl _) k
    rw [hbit]
    refine ⟨?_, ?_, ?_⟩
    · exact (hu.core.put hP (by decide) _).trans (hsh.mono fun _ _ ho => ho.1)
    · rw [hsh.regs.get hd, State.putBit, State.get_put_bits (f := F.ADC_GSTAT_DCALFAIL) (g := F.ADC_GSTAT_CALFAIL)
        (by decide) rfl (by decide), hu.calfail]
    · rw [hsh.regs.get hd, State.putBit, State.get_put_same _ _ _ _ (by decide), hu.dcalfail, setBit_zero_false,
        Nat.zero_mod]
  · exact hu

/-- What follows the measurements of a self-calibration, R99. -/
def calEnds (d : Nat) (s : State) : State :=
  let s := s.off d F.ADC_GSTAT_CALBUSY
  let failed := s.flag d F.ADC_GSTAT_CALFAIL || s.flag d F.ADC_GSTAT_DCALFAIL
  let s := if failed then s.put d F.ADC_GSTAT_CODE 5 else s
  let s := if failed && !s.flag d F.LIB_STAT_K4 then s else s.on d F.ADC_GSTAT_CALDONE
  configEnds s

theorem calEnds_noFail {d : Nat} {s t : State} (h : NoCalFail d s t) : calEnds d t =
    configEnds ((t.off d F.ADC_GSTAT_CALBUSY).on d F.ADC_GSTAT_CALDONE) := by
  have hcal : (t.off d F.ADC_GSTAT_CALBUSY).flag d F.ADC_GSTAT_CALFAIL = false := by
    rw [State.flag, State.off, State.get_put_bits (f := F.ADC_GSTAT_CALBUSY) (g := F.ADC_GSTAT_CALFAIL) (by decide) rfl
      (by decide), h.calfail]
    rfl
  have hdcal : (t.off d F.ADC_GSTAT_CALBUSY).flag d F.ADC_GSTAT_DCALFAIL = false := by
    rw [State.flag, State.off, State.get_put_bits (f := F.ADC_GSTAT_CALBUSY) (g := F.ADC_GSTAT_DCALFAIL) (by decide) rfl
      (by decide), h.dcalfail]
    rfl
  unfold calEnds
  dsimp only
  rw [hcal, hdcal]
  rfl

theorem groups_clean (d : Nat) : (fun (g : Nat) (s : State) => groupCalDone d g ((0 : BitVec 32).toNat / 256 ^ g % 256) s) =
    fun g s => groupCalDone d g 0 s := by
  simp

theorem exec_adcSelfCalibrationDone_zero {s : State} {d : CDie} (hr : s.runs d.val = true)
    (hbusy : s.flag d.val F.ADC_GSTAT_CALBUSY = true) :
    exec (.adcSelfCalibrationDone d 0 0) s = .next (calEnds d.val (shuntsCalibrated d.val (groupsCalibrated d.val s))) := by
  have run : exec (.adcSelfCalibrationDone d 0 0) s = _ :=
    Eq.trans (b := execAdcSelfCalibrationDone d 0 0 s) rfl (onC_next hr)
  refine run.trans (congrArg _ ((if_pos hbusy).trans ?_))
  rw [groupsCalibrated, ← groups_clean]
  rfl

/-- A self-calibration without a failure, outside CONFIG. -/
def calDone (d : Nat) (s : State) : State :=
  ((shuntsCalibrated d (groupsCalibrated d s)).off d F.ADC_GSTAT_CALBUSY).on d F.ADC_GSTAT_CALDONE

theorem calDone_shows {d : Nat} (hd : d < 2) (s : State) : (calDone d s).get d F.ADC_GSTAT_CALBUSY = 0 ∧
    (calDone d s).get d F.ADC_GSTAT_CALDONE = 1 ∧ (calDone d s).get d F.ADC_GSTAT_CALFAIL = 0 ∧
    (calDone d s).get d F.ADC_GSTAT_DCALFAIL = 0 := by
  have h := shuntsCalibrated_noFail hd (groupsCalibrated_noFail hd s)
  refine ⟨?_, ?_, ?_, ?_⟩
  · rw [calDone, State.on, State.get_put_bits (f := F.ADC_GSTAT_CALDONE) (g := F.ADC_GSTAT_CALBUSY) (by decide) rfl
      (by decide), State.off, State.get_put_same _ _ _ _ (by decide), Nat.zero_mod]
  · rw [calDone, State.on, State.get_put_same _ _ _ _ (by decide)]
    rfl
  · rw [calDone, State.on, State.get_put_bits (f := F.ADC_GSTAT_CALDONE) (g := F.ADC_GSTAT_CALFAIL) (by decide) rfl
      (by decide), State.off, State.get_put_bits (f := F.ADC_GSTAT_CALBUSY) (g := F.ADC_GSTAT_CALFAIL) (by decide) rfl
      (by decide), h.calfail]
  · rw [calDone, State.on, State.get_put_bits (f := F.ADC_GSTAT_CALDONE) (g := F.ADC_GSTAT_DCALFAIL) (by decide) rfl
      (by decide), State.off, State.get_put_bits (f := F.ADC_GSTAT_CALBUSY) (g := F.ADC_GSTAT_DCALFAIL) (by decide) rfl
      (by decide), h.dcalfail]

theorem exec_adcSelfCalibrationDone_clean {s : State} {d : CDie} (hr : s.runs d.val = true)
    (hbusy : s.flag d.val F.ADC_GSTAT_CALBUSY = true) (hdev : s.dev ≠ 4) :
    exec (.adcSelfCalibrationDone d 0 0) s = .next (calDone d.val s) := by
  have h := shuntsCalibrated_noFail d.isLt (groupsCalibrated_noFail d.isLt s)
  have hP : ∀ i o, DevRegs i o → i ≠ d.val ∨ o ≠ 0x110004 := fun i o ho => .inr (by omega)
  have hcore : SameCore DevRegs s (calDone d.val s) := (h.core.put hP (by decide) _).put hP (by decide) _
  have hend : configEnds (calDone d.val s) = calDone d.val s :=
    if_neg (by simp [hcore.dev ⟨by decide, rfl⟩ ⟨by decide, rfl⟩, hdev, Dev.config])
  rw [exec_adcSelfCalibrationDone_zero hr hbusy, calEnds_noFail h]
  exact congrArg _ hend

theorem calBegin_runs (d e : Nat) (s : State) : (calBegin d s).runs e = s.runs e := by
  have hP : ∀ f : Fld, ∀ i o : Nat, False → i ≠ d ∨ o ≠ f.off := fun _ _ _ => False.elim
  have h : SameCore (fun _ _ => False) s (calBegin d s) :=
    overN_inv (((SameCore.refl s).put (hP F.ADC_GSTAT_CALBUSY) (by decide) _).put (hP F.ADC_GSTAT_CALDONE) (by decide) _)
      (fun g hg t ht => ht.put (hP (F.ADC_AG_STAT_CALBUSY g)) (by dsimp only; omega) _)
  exact h.runs e

/-- Settles O25: a calibration without a failure clears the masks and keeps them so; the starts and refusals of ADC_GCTRL
by the branches of its write. -/
theorem calibrationCommands : Obligations.CalibrationCommands := by
  refine ⟨fun s => rfl,
    fun s d fails dfails hr => Eq.trans (b := execAdcSelfCalibrationDone d fails dfails s) rfl (onC_next hr),
    fun s d hr => Eq.trans (b := execAdcGctrlCal d s) rfl (onCW_next hr ..),
    fun s d hr => Eq.trans (b := execAdcGctrlZcap d s) rfl (onCW_next hr ..),
    fun s d hr => Eq.trans (b := execZcapAtStandby d s) rfl (onC_next hr),
    fun s d a hr => Eq.trans (b := execZcapDeferredStart d a s) rfl (onC_next hr),
    fun s d caps hr => Eq.trans (b := execZcapDone d caps s) rfl (onC_next hr),
    fun s hdev h0 h1 hheld => ?_,
    fun s d hr hbusy hdev => ⟨_, exec_adcSelfCalibrationDone_clean hr hbusy hdev, calDone_shows d.isLt s⟩,
    fun s d hr hk => ?_⟩
  · show execAdcSelfCalibrationStart s = _
    rw [execAdcSelfCalibrationStart, if_pos (by simp [hdev, Dev.config, h0, hheld]), overN_two, if_pos h0,
      if_neg (by simp [calBegin_runs, h1])]
  · have hcal : exec (.adcGctrlCal d) s = .next (gctrlWrite d.val 1 s) :=
      Eq.trans (b := execAdcGctrlCal d s) rfl (onCW_of_unarmed hr hk _ _)
    have hzcap : exec (.adcGctrlZcap d) s = .next (gctrlWrite d.val 2 s) :=
      Eq.trans (b := execAdcGctrlZcap d s) rfl (onCW_of_unarmed hr hk _ _)
    rw [hcal, hzcap]
    refine ⟨fun h => ?_, fun h => ?_, fun h => ?_, fun h => ?_⟩
    · simp [gctrlWrite, bit, h]
    · simp [gctrlWrite, bit, h]
    · simp [gctrlWrite, bit, h]
    · simp [gctrlWrite, bit, h]

/-! ### Self-test -/

/-- A command about a die of the part is its step. -/
theorem atDie_next {s : State} {i : Nat} (h : s.hasDie i = true) (f : State → State) : atDie i f s = .next (f s) :=
  congrArg _ (if_pos h)

/-- An in-service slice that passes, before the last of its test. -/
theorem inService_pass {s : State} {d t u : Nat} {xs : List (Nat × Nat)} (htests : (s.c d).bist.tests = (t, u) :: xs)
    (hlast : s.get d F.BIST_ROTST_DONE + 1 < (if t = 0 then 10 else 6)) :
    inService d 0 s = s.put d F.BIST_ROTST_DONE (s.get d F.BIST_ROTST_DONE + 1) := by
  rw [inService, htests]
  exact (if_neg (by decide)).trans (if_pos (by simpa using hlast))

/-- Settles O26: the branches of the start of BIST, the thermal hold and an in-service slice. -/
theorem selfTestCommands : Obligations.SelfTestCommands := by
  refine ⟨fun s => rfl,
    fun s => rfl,
    fun s i code units hr => Eq.trans (b := execBistSliceDone i code units s) rfl (atDie_next hr _),
    fun s i hr => Eq.trans (b := execBistSliceTimeout i s) rfl (atDie_next hr _),
    fun s d hr => Eq.trans (b := execRotationPoint d s) rfl (onC_next hr),
    fun s d hr => Eq.trans (b := execEngineHandoverMove d s) rfl (onC_next hr),
    fun s d code work hr => Eq.trans (b := execInServiceSlice d code work s) rfl (onC_next hr),
    fun s d v hr => Eq.trans (b := execBistRequest d v s) rfl (onCW_next hr ..),
    fun s hr hdev hph hhold hhot => ?_,
    fun s hr hdev hhold hhot hat => ?_,
    fun s d t u xs hr htests hlast => ?_⟩
  · show execBistStart s = _
    rw [execBistStart]
    exact congrArg _ ((if_pos (by simp [hr, hdev, hph, hhold, Dev.bist])).trans (if_neg (by simp [hhot])))
  · show execThermalHoldRecheck s = _
    rw [execThermalHoldRecheck]
    exact congrArg _ ((if_pos (by simp [hr, hdev, hhold, hat, Dev.bist])).trans (if_neg (by simp [hhot])))
  · intro b hfirst hfrom hto
    show execInServiceSlice d 0 4 s = _
    rw [execInServiceSlice, onC_next hr]
    have hslice : serviceSlice d.val 0 s = inService d.val (if b + 12000 < s.now d.val then 2 else 0)
        (modBist d.val (fun x => { x with svcAt := b + 1 }) s) :=
      if_neg (by simpa [b] using ⟨hfirst, hfrom⟩)
    refine congrArg _ ((if_neg (by decide)).trans (hslice.trans ?_))
    rw [if_neg (Nat.not_lt.mpr hto), inService_pass (t := t) (u := u) (xs := xs) ?_ ?_, modBist, State.modC_get]
    · rw [modBist, State.c_modC_same]
      exact htests
    · rw [modBist, State.modC_get]
      exact hlast

end Sys2Proof.Machine
end

section
/-! PROOFS. The statement of 08_position_feedback about latches, the clear of a fault and the encoder emulators. -/

namespace Sys2Proof.Machine

/-! ### Latches -/

/-- The latch of this cycle begins, R199: its cycle is noted, and a latch that nobody has read is reported. -/
def latchAsked (d n : Nat) (s : State) : State :=
  let s := s.modFb d n (fun x => { x with latchAt := s.now d + 1 })
  if s.flag d (F.FB_FB_LSTAT_NEW n) then s.on d (F.FB_FB_EVT_LOVR n) else s

/-- The position, the angle and the speed latched. -/
def latchTaken (d n w : Nat) (s : State) : State :=
  let s := (s.put d (F.FB_FB_LPOSLO n) (w % 2 ^ 32)).put d (F.FB_FB_LPOSHI n) (w / 2 ^ 32)
  let s := s.put d (F.FB_FB_LANGLE n) (s.fbElec d n + 2 ^ 16 * s.fbMech d n)
  s.put d (F.FB_FB_LSPD n) (ux16 (s.fbSpeed d n) + 2 ^ 16 * ux16 (s.fbAccel d n))

/-- The latch's time and status. -/
def latchStamped (d n src t : Nat) (s : State) : State :=
  let s := (s.put d (F.FB_FB_LSTLO n) (t % 2 ^ 32)).put d (F.FB_FB_LSTHI n) (t / 2 ^ 32)
  let s := s.put d (F.FB_FB_LSTAT_SEQ n) ((s.get d (F.FB_FB_LSTAT_SEQ n) + 1) % 256)
  let s := s.put d (F.FB_FB_LSTAT_SRC n) src
  let s := s.put d (F.FB_FB_LSTAT_SLIM n) (b2n (s.flag d (F.FB_FB_STAT_SLIM_LO n) || s.flag d (F.FB_FB_STAT_SLIM_HI n)))
  let s := s.put d (F.FB_FB_LSTAT_VALID n) (s.get d (F.FB_FB_STAT_VALID n))
  s.on d (F.FB_FB_LSTAT_NEW n)

theorem posLatch_first {s : State} {d n : Nat} (hrun : s.fbRun d n = true) (hfirst : (s.fb d n).latchAt ≠ s.now d + 1)
    (src : Nat) : posLatch d n src s =
      latchStamped d n src (s.now d) (latchTaken d n (uxN 48 (s.fbReport d n).1) (latchAsked d n s)) := by
  unfold posLatch
  rw [if_neg (by simp [hrun]), if_neg (by simpa using hfirst)]
  rfl

theorem posLatch_joined {s : State} {d n : Nat} (hrun : s.fbRun d n = true) (hsame : (s.fb d n).latchAt = s.now d + 1)
    (src : Nat) : posLatch d n src s = s.put d (F.FB_FB_LSTAT_SRC n) (s.get d (F.FB_FB_LSTAT_SRC n) ||| src) := by
  unfold posLatch
  rw [if_neg (by simp [hrun]), if_pos (by simp [hsame])]

theorem latchStamped_shows {d n src t : Nat} (hn : n < 4) (hsrc : src < 4) (s : State) :
    (latchStamped d n src t s).get d (F.FB_FB_LSTAT_NEW n) = 1 ∧
      (latchStamped d n src t s).get d (F.FB_FB_LSTAT_SRC n) = src ∧
      (latchStamped d n src t s).get d (F.FB_FB_LSTAT_SEQ n) = (s.get d (F.FB_FB_LSTAT_SEQ n) + 1) % 256 ∧
      (latchStamped d n src t s).get d (F.FB_FB_LSTLO n) = t % 2 ^ 32 := by
  unfold latchStamped
  refine ⟨?_, ?_, ?_, ?_⟩
  · rw [State.on, State.get_put_same _ _ _ _ (by simp)]
    rfl
  · simp (disch := first | rfl | (dsimp only; omega)) only [State.on, State.get_put_bits, State.get_put_same]
    exact Nat.mod_eq_of_lt hsrc
  · simp (disch := first | rfl | (dsimp only; omega)) only [State.on, State.get_put_bits, State.get_put_same,
      State.get_put_other]
    exact Nat.mod_mod ..
  · simp (disch := first | rfl | (dsimp only; omega)) only [State.on, State.get_put_same, State.get_put_other]
    exact Nat.mod_mod ..

/-- The registers of the latches, LPOSLO to LSTAT, and EVT of interface n of C die d are excepted. -/
abbrev LatchFree (d n i o : Nat) : Prop :=
  i ≠ d ∨ (o ≠ 0x200010 + 0x1000 * n ∧ (o < 0x200060 + 0x1000 * n ∨ 0x200078 + 0x1000 * n < o))

/-- What a change of the latch of an interface keeps. -/
theorem SameRegs.latchPut {d n : Nat} {s t : State} (h : SameRegs (LatchFree d n) s t) {f : Fld} (hf : f.off < 0x1000000)
    (hr : 0x200060 + 0x1000 * n ≤ f.off ∧ f.off ≤ 0x200078 + 0x1000 * n) (v : Nat) :
    SameRegs (LatchFree d n) s (t.put d f v) :=
  h.put (fun i o ho => by unfold LatchFree at ho; omega) hf v

theorem latchAsked_sameRegs {d n : Nat} (hn : n < 4) (s : State) : SameRegs (LatchFree d n) s (latchAsked d n s) := by
  have hmod : ∀ g : FbC → FbC, SameRegs (LatchFree d n) s (s.modFb d n g) := fun g => sameRegs_of_regs rfl
  unfold latchAsked
  dsimp only
  split
  · exact (hmod _).put (fun i o ho => by unfold LatchFree at ho; dsimp only; omega) (by dsimp only; omega) 1
  · exact hmod _

theorem latchTaken_sameRegs {d n : Nat} (hn : n < 4) (w : Nat) (s : State) :
    SameRegs (LatchFree d n) s (latchTaken d n w s) :=
  ((((SameRegs.refl s).latchPut (f := F.FB_FB_LPOSLO n) (by dsimp only; omega) (by dsimp only; omega) _).latchPut
    (f := F.FB_FB_LPOSHI n) (by dsimp only; omega) (by dsimp only; omega) _).latchPut
    (f := F.FB_FB_LANGLE n) (by dsimp only; omega) (by dsimp only; omega) _).latchPut
    (f := F.FB_FB_LSPD n) (by dsimp only; omega) (by dsimp only; omega) _

theorem latchStamped_sameRegs {d n : Nat} (hn : n < 4) (src t : Nat) (s : State) :
    SameRegs (LatchFree d n) s (latchStamped d n src t s) := by
  have hstat : ∀ {u v} {f : Fld}, SameRegs (LatchFree d n) s u → f.off = 0x200078 + 0x1000 * n →
      SameRegs (LatchFree d n) s (u.put d f v) := fun h ho => h.latchPut (by omega) (by omega) _
  have htime := ((SameRegs.refl s).latchPut (n := n) (d := d) (f := F.FB_FB_LSTLO n) (by dsimp only; omega)
    (by dsimp only; omega) (t % 2 ^ 32)).latchPut (f := F.FB_FB_LSTHI n) (by dsimp only; omega) (by dsimp only; omega)
    (t / 2 ^ 32)
  exact hstat (hstat (hstat (hstat (hstat htime rfl) rfl) rfl) rfl) rfl

theorem posLatch_sameRegs {d n : Nat} (hn : n < 4) (src : Nat) (s : State) :
    SameRegs (LatchFree d n) s (posLatch d n src s) := by
  by_cases hrun : s.fbRun d n = true
  · by_cases hsame : (s.fb d n).latchAt = s.now d + 1
    · rw [posLatch_joined hrun hsame]
      exact (SameRegs.refl s).latchPut (by dsimp only; omega) (by dsimp only; omega) _
    · rw [posLatch_first hrun hsame]
      exact ((latchAsked_sameRegs hn s).trans (latchTaken_sameRegs hn _ _)).trans (latchStamped_sameRegs hn _ _ _)
  · rw [posLatch, if_pos (by simp [hrun])]
    exact .refl s

/-- In every mode but SERIAL the latch cue is a latch alone (R188). -/
theorem latchCue_latch {s : State} {d n : Nat} (hn : n < 4) (hmode : s.fbMode d n ≠ Fbm.serial) :
    latchCue d n s = posLatch d n 1 s := by
  have hkeep : (posLatch d n 1 s).fbMode d n = s.fbMode d n :=
    (posLatch_sameRegs hn 1 s).get (by dsimp only [LatchFree]; omega) (by dsimp only; omega)
  rw [latchCue, serialRequest, if_pos (by simp [hkeep, hmode])]

/-- A command at an interface of a running C die is its step, but in block reset or with its clock stopped. -/
theorem onFb_next {s : State} {d : Nat} (hr : s.runs d = true) (n : Nat) (f : State → State) : onFb d n f s =
    .next (if s.bitOf d F.SYS_BRST_FB n || !s.bitOf d F.SYS_CLKGATE_FB n then s else f s) := onC_next hr

theorem exec_positionLatch_cue {s : State} {d : CDie} {n : Fin 4} (hr : s.runs d.val = true)
    (hbrst : s.bitOf d.val F.SYS_BRST_FB n.val = false) (hclk : s.bitOf d.val F.SYS_CLKGATE_FB n.val = true)
    (hmode : s.fbMode d.val n.val ≠ Fbm.serial) (hk : s.flag d.val F.LIB_TK_STAT_ARMED = false) :
    exec (.positionLatch d n false) s = .next (posLatch d.val n.val 1 s) := by
  show execPositionLatch d n false s = _
  rw [execPositionLatch, onFb_next hr, if_neg (by simp [hbrst, hclk]), if_neg (by decide), tkDisturb_of_unarmed hk,
    latchCue_latch n.isLt hmode]

theorem latchAsked_seq {d n : Nat} (hn : n < 4) (s : State) :
    (latchAsked d n s).get d (F.FB_FB_LSTAT_SEQ n) = s.get d (F.FB_FB_LSTAT_SEQ n) := by
  unfold latchAsked
  dsimp only
  split
  · rw [State.on, State.get_put_other (by dsimp only; omega) (by dsimp only; omega) (.inr (by dsimp only; omega)),
      State.modFb, State.modC_get]
  · rw [State.modFb, State.modC_get]

theorem exec_positionLatch_new {s : State} {d : CDie} {n : Fin 4} (hr : s.runs d.val = true)
    (hbrst : s.bitOf d.val F.SYS_BRST_FB n.val = false) (hclk : s.bitOf d.val F.SYS_CLKGATE_FB n.val = true)
    (hmode : s.fbMode d.val n.val ≠ Fbm.serial) (hk : s.flag d.val F.LIB_TK_STAT_ARMED = false)
    (hrun : s.fbRun d.val n.val = true) (hfirst : (s.fb d.val n.val).latchAt ≠ s.now d.val + 1) :
    ∃ t, exec (.positionLatch d n false) s = .next t ∧ t.get d.val (F.FB_FB_LSTAT_NEW n.val) = 1 ∧
      t.get d.val (F.FB_FB_LSTAT_SRC n.val) = 1 ∧
      t.get d.val (F.FB_FB_LSTAT_SEQ n.val) = (s.get d.val (F.FB_FB_LSTAT_SEQ n.val) + 1) % 256 ∧
      t.get d.val (F.FB_FB_LSTLO n.val) = s.now d.val % 2 ^ 32 := by
  have hn := n.isLt
  have hseq : (latchTaken d.val n.val (uxN 48 (s.fbReport d.val n.val).1) (latchAsked d.val n.val s)).get d.val
      (F.FB_FB_LSTAT_SEQ n.val) = s.get d.val (F.FB_FB_LSTAT_SEQ n.val) := by
    unfold latchTaken
    simp (disch := first | rfl | (dsimp only; omega)) only [State.get_put_other]
    exact latchAsked_seq hn s
  refine ⟨_, (exec_positionLatch_cue hr hbrst hclk hmode hk).trans (congrArg _ (posLatch_first hrun hfirst 1)), ?_⟩
  rw [← hseq]
  exact latchStamped_shows hn (by decide) _

/-! ### The clear of a fault -/

/-- A plain write of 0 to a register of no RW, RWL and RWP bits changes nothing (R8). -/
theorem plainWrite_zero {i off : Nat} {r : RegRow} (hrow : rowAt i off = some r) (hrw : r.rw = 0) (hrwl : r.rwl = 0)
    (hrwp : r.rwp = 0) (stopped : Bool) (s : State) : plainWrite i off 0#32 stopped s = s.setReg i off (s.reg i off) := by
  have hones : ∀ w : Word, w &&& 4294967295#32 = w := fun _ => BitVec.and_allOnes
  simp [plainWrite, hrow, hrw, hrwl, hrwp, mergeW, clearW, maskW, hones]

theorem State.get_setReg_self (s : State) (i off : Nat) (j : Nat) (f : Fld) :
    (s.setReg i off (s.reg i off)).get j f = s.get j f := by
  rw [State.get, State.get]
  by_cases h : regKey j f.off = regKey i off
  · rw [State.reg, State.setReg, h, Tab.read_write_same, State.reg, State.reg, h]
  · rw [State.reg_setReg_key h]

/-- FB_FBn_EVT holds no RW, RWL and RWP bits. -/
theorem fbEvt_row : ∀ (n : Fin 4) (d : CDie), (rowAt d.val (0x200010 + 0x1000 * n.val)).any
    (fun r => r.rw == 0 && r.rwl == 0 && r.rwp == 0) = true := by
  decide

theorem fbEvt_keeps (n : Fin 4) (d : CDie) (s : State) : plainWrite d.val (0x200010 + 0x1000 * n.val) 0#32 true s =
    s.setReg d.val (0x200010 + 0x1000 * n.val) (s.reg d.val (0x200010 + 0x1000 * n.val)) := by
  have h := fbEvt_row n d
  cases hrow : rowAt d.val (0x200010 + 0x1000 * n.val) with
  | none => simp [hrow] at h
  | some r =>
    simp only [hrow, Option.any_some, Bool.and_eq_true, beq_iff_eq] at h
    obtain ⟨⟨hrw, hrwl⟩, hrwp⟩ := h
    exact plainWrite_zero hrow hrw hrwl hrwp true s

theorem fbFault_mask : ∀ n : Fin 4, (F.FB_FB_EVT_FAULT n.val).into (F.FB_FB_EVT_FAULT n.val).mask 0 = 0#32 ∧
    (F.FB_FB_EVT_FAULT n.val).ofWord (F.FB_FB_EVT_FAULT n.val).mask = 1 := by
  decide

theorem fbEvtWrite_refused {s : State} {d : CDie} {n : Fin 4} (hfault : s.flag d.val (F.FB_FB_EVT_FAULT n.val) = true)
    (hconsec : s.get d.val (F.FB_FB_ERRCNT_CONSEC n.val) ≠ 0) :
    fbEvtWrite d.val n.val (F.FB_FB_EVT_FAULT n.val).mask s =
      (s.setReg d.val (0x200010 + 0x1000 * n.val) (s.reg d.val (0x200010 + 0x1000 * n.val))).put d.val
        (F.FB_FB_EVT_CLRREF n.val) 1 := by
  obtain ⟨hzero, hone⟩ := fbFault_mask n
  unfold fbEvtWrite
  dsimp only
  rw [if_pos (by rw [hone]; simp [hfault]), if_pos (by simpa using hconsec), hzero, fbEvt_keeps]
  rfl

theorem fbFaultClear_refused {s : State} {d : CDie} {n : Fin 4} (hr : s.runs d.val = true)
    (hbrst : s.bitOf d.val F.SYS_BRST_FB n.val = false) (hk : s.flag d.val F.LIB_TK_STAT_ARMED = false)
    (hfault : s.flag d.val (F.FB_FB_EVT_FAULT n.val) = true) (hconsec : s.get d.val (F.FB_FB_ERRCNT_CONSEC n.val) ≠ 0) :
    ∃ t, exec (.fbFaultClear d n) s = .next t ∧
      t.get d.val (F.FB_FB_EVT_FAULT n.val) = s.get d.val (F.FB_FB_EVT_FAULT n.val) ∧
      t.get d.val (F.FB_FB_EVT_CLRREF n.val) = 1 := by
  have run : exec (.fbFaultClear d n) s = _ := Eq.trans (b := execFbFaultClear d n s) rfl (onCW_of_unarmed hr hk _ _)
  refine ⟨_, run.trans (congrArg _ ((if_pos (by simp [hbrst])).trans (fbEvtWrite_refused hfault hconsec))), ?_, ?_⟩
  · rw [State.get_put_bits (f := F.FB_FB_EVT_CLRREF n.val) (g := F.FB_FB_EVT_FAULT n.val) (by simp) rfl (by simp),
      State.get_setReg_self]
  · rw [State.get_put_same _ _ _ _ (by simp)]
    rfl

/-- Settles O28: a latch writes its status once, a refused clear keeps FAULT, a source that is not valid stops the step. -/
theorem latchAndEmulatorCommands : Obligations.LatchAndEmulatorCommands := by
  refine ⟨fun s d n index hr => Eq.trans (b := execPositionLatch d n index s) rfl (onFb_next hr _ _),
    fun s d n hr => Eq.trans (b := execLatchStatusRead d n s) rfl (onC_next hr),
    fun s d n m hr => Eq.trans (b := execPositionRead d n m s) rfl (onC_next hr),
    fun s d n hr => Eq.trans (b := execFbFaultClear d n s) rfl (onCW_next hr ..),
    fun s d m v hr => Eq.trans (b := execEmuEnable d m v s) rfl (onCW_next hr ..),
    fun s d m hr => Eq.trans (b := execEmuStep d m s) rfl (onC_next hr),
    fun s d n hr hbrst hclk hrun hmode hk => ⟨fun hfirst =>
      exec_positionLatch_new hr hbrst hclk hmode hk hrun hfirst, fun hsame =>
      (exec_positionLatch_cue hr hbrst hclk hmode hk).trans (congrArg _ (posLatch_joined hrun hsame 1))⟩,
    fun s d n hr hbrst hk hfault hconsec => fbFaultClear_refused hr hbrst hk hfault hconsec,
    fun s d m hr hrun hvalid => ?_⟩
  show execEmuStep d m s = _
  rw [execEmuStep, onC_next hr]
  exact congrArg _ ((if_neg (by simp [hrun])).trans (if_pos (by simp [hvalid])))

end Sys2Proof.Machine
end

section
/-! PROOFS. The statements of 18_prompt_book_statistics: records, flushes, the operating time and the supervisory frames. -/

namespace Sys2Proof.Machine

/-! ### The save of the operating time -/

/-- A word read back from among the bytes written. -/
theorem State.rd32_wrBytes_word {s : State} {i a w : Nat} (xs ys : List Nat) (hw : w < 2 ^ 32) :
    (s.wrBytes i a (xs ++ wordBytes w ++ ys)).rd32 i (a + xs.length) = w := by
  have hlen : xs.length + 4 ≤ (xs ++ wordBytes w ++ ys).length := by simp [wordBytes_length]
  have h := State.rdLE_wrBytes (s := s) (i := i) (a := a) hlen
  rw [State.rd32, h, fieldAt, List.append_assoc, List.drop_left]
  simp only [wordBytes, List.cons_append, List.take_succ_cons, List.take_zero, List.map_cons, List.map_nil,
    List.foldr_cons, List.foldr_nil]
  omega

/-- The bytes of the save, R472. -/
def State.saveBytes (s : State) : List Nat :=
  wordBytes (s.opMs 0 % 2 ^ 32) ++ [s.opMs 0 / 2 ^ 32 % 256, 0, 0, 0] ++ wordBytes (s.get 0 F.PROMPT_PCYCLE)

theorem State.saveBytes_modPrompt (s : State) (g : PromptC → PromptC) : (s.modPrompt 0 g).saveBytes = s.saveBytes := by
  rw [State.saveBytes, State.saveBytes, State.opMs, State.opMs, State.modPrompt, State.c_modC_same, State.modC_get]

theorem optimeSave_open {s : State} (h : s.nvmWindow 0 = true) : optimeSave 0 s =
    (s.wrBytes 0 0x10B80040 s.saveBytes).modPrompt 0 (fun p => { p with saveWaits := false }) :=
  (if_pos rfl).trans (if_pos h)

/-- The save point noted. -/
def savePoint (s : State) : State := s.modPrompt 0 (fun p => { p with saveAt := s.now 0 })

/-- The save, written. -/
def optimeSaved (s : State) : State :=
  ((savePoint s).wrBytes 0 0x10B80040 s.saveBytes).modPrompt 0 (fun p => { p with saveWaits := false })

theorem exec_optimeSave {s : State} (hr : s.runs 0 = true) (hdue : (s.c 0).prompt.saveAt + 24000000000 ≤ s.now 0)
    (hwin : s.nvmWindow 0 = true) : exec .optimeSave s = .next (optimeSaved s) := by
  have hopen : (savePoint s).nvmWindow 0 = true := (congrArg (· != 0) (State.modC_get ..)).trans hwin
  show execOptimeSave s = _
  rw [execOptimeSave, onC_next hr, if_pos hdue]
  refine congrArg _ ((optimeSave_open hopen).trans ?_)
  rw [savePoint, State.saveBytes_modPrompt]
  rfl

theorem savePoint_mem (s : State) : (savePoint s).mem = s.mem := State.modC_mem ..

theorem optimeSaved_mem (s : State) : (optimeSaved s).mem = ((savePoint s).wrBytes 0 0x10B80040 s.saveBytes).mem :=
  State.modC_mem ..

theorem optimeSaved_shows (s : State) : (optimeSaved s).rd32 0 0x10B80040 = s.opMs 0 % 2 ^ 32 ∧
    (optimeSaved s).rdB 0 0x10B80044 = s.opMs 0 / 2 ^ 32 % 256 ∧
    (optimeSaved s).rd32 0 0x10B80048 = s.get 0 F.PROMPT_PCYCLE ∧
    (∀ e a, a < 0x100000000 → (e ≠ 0 ∨ a < 0x10B80040 ∨ 0x10B8004C ≤ a) → (optimeSaved s).rdB e a = s.rdB e a) ∧
    (optimeSaved s).regs = s.regs := by
  have hpc : s.get 0 F.PROMPT_PCYCLE < 2 ^ 32 := Nat.lt_of_lt_of_le (State.get_lt ..) (by decide)
  refine ⟨?_, ?_, ?_, fun e a ha h => ?_, ?_⟩
  · rw [State.rd32, State.rdLE_of_mem (optimeSaved_mem s), State.saveBytes, List.append_assoc]
    exact State.rd32_wrBytes_word (a := 0x10B80040) [] _ (by omega)
  · rw [State.rdB_of_mem (optimeSaved_mem s), State.rdB_wrBytes_at (a := 0x10B80040) (k := 4)
      (by simp [State.saveBytes, wordBytes])]
    simp [State.saveBytes, wordBytes]
  · rw [State.rd32, State.rdLE_of_mem (optimeSaved_mem s), State.saveBytes,
      ← List.append_nil (_ ++ wordBytes (s.get 0 F.PROMPT_PCYCLE))]
    exact State.rd32_wrBytes_word (a := 0x10B80040)
      (wordBytes (s.opMs 0 % 2 ^ 32) ++ [s.opMs 0 / 2 ^ 32 % 256, 0, 0, 0]) [] hpc
  · have hlen : s.saveBytes.length = 12 := by simp [State.saveBytes, wordBytes]
    rw [State.rdB_of_mem (optimeSaved_mem s), State.rdB_wrBytes_outside (by omega) ha (by rw [hlen]; exact h),
      State.rdB_of_mem (savePoint_mem s)]
  · rw [optimeSaved, State.modPrompt, State.modC_regs, State.wrBytes_regs, savePoint, State.modPrompt, State.modC_regs]

/-- A trigger during a flush starts nothing (R478). -/
theorem flushStart_flushing {s : State} {d : Nat} (h : s.flag d F.PROMPT_STAT_FLUSHING = true) : flushStart d s = s :=
  if_pos (by simp [h])

/-- Settles O55: the save writes its twelve bytes within the window, and a flush that runs takes no trigger. -/
theorem recordAndFlushCommands : Obligations.RecordAndFlushCommands := by
  refine ⟨fun s d src blk code inst sev w0 w1 w2 w3 hr =>
      Eq.trans (b := execRecordWrite d src blk code inst sev w0 w1 w2 w3 s) rfl (onC_next hr),
    fun s d hr => Eq.trans (b := execFlushStart d s) rfl (onC_next hr),
    fun s d v hr => Eq.trans (b := execPromptCtrlFlush d v s) rfl (onCW_next hr ..),
    fun s d hr => Eq.trans (b := execFlushDone d s) rfl (onC_next hr),
    fun s d hr => Eq.trans (b := execLastGaspFull d s) rfl (onC_next hr),
    fun s d hr => Eq.trans (b := execFlushBlockedRetry d s) rfl (onC_next hr),
    fun s d m hr => Eq.trans (b := execPromptClr d m s) rfl (onC_next hr),
    fun s d v hr => Eq.trans (b := execSoftwareRecord d v s) rfl (onCW_next hr ..),
    fun s d m hr => Eq.trans (b := execOptimeRead d m s) rfl (onC_next hr),
    fun s hr => Eq.trans (b := execOptimeSave s) rfl (onC_next hr),
    fun s d hr hk hflush => ⟨?_, ?_⟩,
    fun s hr hdue hwin => ⟨_, exec_optimeSave hr hdue hwin, optimeSaved_shows s⟩⟩
  · show execFlushStart d s = _
    rw [execFlushStart, onC_next hr, flushStart_flushing hflush]
  · show execPromptCtrlFlush d 1 s = _
    rw [execPromptCtrlFlush, onCW_of_unarmed hr hk, promptCtrl, if_pos (by decide), flushStart_flushing hflush]

/-! ### Supervisory frames -/

/-- Settles O57: the boundary does nothing where none is due, and a reference message too soon is reported. -/
theorem frameCommands : Obligations.FrameCommands := by
  refine ⟨fun s d dropped hr => Eq.trans (b := execFrameTick d dropped s) rfl (onC_next hr),
    fun s dropped hr => Eq.trans (b := execFrameRefTimeout dropped s) rfl (onC_next hr),
    fun s => rfl,
    fun s hdue => ?_,
    fun s dropped hr hfab hsrc href hdue hsoon => ?_⟩
  · have hnone : (List.range 2).any s.boundaryDue = false := by
      simpa [List.any_eq_false] using hdue
    have hloop : overN 2 (fun d t => if t.boundaryDue d then boundaryOn d t else t) s = s :=
      overN_id (fun d hd => by simp [hdue d hd])
    show execFrameBoundary s = _
    rw [execFrameBoundary, hnone, hloop]
    rfl
  · show execFrameTick 0 dropped s = _
    rw [execFrameTick, onC_next (d := (0 : CDie).val) hr]
    refine congrArg _ ((if_neg (by simp [hfab])).trans ((if_neg (by decide)).trans ((if_pos hsrc).trans ?_)))
    exact (if_neg (by simp [href, hdue])).trans (if_pos hsoon)

end Sys2Proof.Machine
end

section
/-! PROOFS. The statements of 19_update_security about recovery, security commands and the test access port. -/

namespace Sys2Proof.Machine

/-! ### Recovery -/

theorem answer_nvm (d byte code : Nat) (more : List Nat) (s : State) :
    ((answer d byte code more s).nvm d).answer = (byte + 0x40) :: code :: more := by
  rw [answer, modNvm, State.nvm, State.c_modC_same]

/-- Settles O59: outside RECOVERY every service is the identity, and IDENTIFY begins its answer with the hardware type. -/
theorem recoveryCommands : Obligations.RecoveryCommands := by
  refine ⟨fun s d hr => Eq.trans (b := execCopyAtStart d s) rfl (onC_next hr),
    fun s d hr => Eq.trans (b := execCopyUnitDone d s) rfl (onC_next hr),
    fun s d hr => Eq.trans (b := execNvmTempHoldRecheck d s) rfl (onC_next hr),
    fun s d hr => Eq.trans (b := execRecoveryEntry d s) rfl (onC_next hr),
    fun s d hr => Eq.trans (b := execRecoveryIdentify d s) rfl (onC_next hr),
    fun s d manifest hr => Eq.trans (b := execRecoveryOpen d manifest s) rfl (onC_next hr),
    fun s d i bytes hr => Eq.trans (b := execRecoveryChunk d i bytes s) rfl (onC_next hr),
    fun s d hr => Eq.trans (b := execRecoveryStatus d s) rfl (onC_next hr),
    fun s d hr => Eq.trans (b := execRecoveryInstall d s) rfl (onC_next hr),
    fun s d hr => Eq.trans (b := execRecoveryReset d s) rfl (onC_next hr),
    fun s d hr hno => ?_,
    fun s d hr hyes => ?_⟩
  · have stays : ∀ f : State → State, Host.Outcome.next (φ := Fault) (ρ := Refusal)
        (if s.recovering d.val then f s else s) = .next s := fun f => congrArg _ (if_neg (by simp [hno]))
    refine ⟨Eq.trans (b := execRecoveryIdentify d s) rfl ((onC_next hr).trans (stays _)),
      Eq.trans (b := execRecoveryStatus d s) rfl ((onC_next hr).trans (stays _)),
      Eq.trans (b := execRecoveryInstall d s) rfl ((onC_next hr).trans (congrArg _ (if_pos (by simp [hno])))),
      Eq.trans (b := execRecoveryReset d s) rfl ((onC_next hr).trans (congrArg _ (if_neg (by simp [hno])))),
      fun m => Eq.trans (b := execRecoveryOpen d m s) rfl ((onC_next hr).trans (stays _)),
      fun i bs => Eq.trans (b := execRecoveryChunk d i bs s) rfl ((onC_next hr).trans (stays _))⟩
  · have run : exec (.recoveryIdentify d) s = _ := Eq.trans (b := execRecoveryIdentify d s) rfl (onC_next hr)
    refine ⟨_, run.trans (congrArg _ (if_pos hyes)), ?_⟩
    rw [answer_nvm]
    rfl

/-! ### Security and the test access port -/

/-- The port after an instruction is selected: BYPASS in place of one that is not open (R508). -/
theorem tapSelect_port (d op : Nat) (s : State) : ((tapSelect d op s).port d).ir = (if s.tapOpens d op then op else 0xFF) ∧
    ((tapSelect d op s).port d).drives = (s.tapOpens d op && op == Ti.extest) ∧
    ((tapSelect d op s).port d).cells = (s.port d).cells := by
  have hport : (tapSelect d op s).port d = { s.port d with
      ir := if s.tapOpens d op then op else Ti.bypass, drives := s.tapOpens d op && op == Ti.extest } := by
    unfold State.port tapSelect modTap
    dsimp only
    rw [Tab.at_mod_same]
  rw [hport]
  exact ⟨rfl, rfl, rfl⟩

theorem tapSelect_regs (d op : Nat) (s : State) : (tapSelect d op s).regs = s.regs := rfl

/-- Settles O60: DBGCMD is refused or answers LOCKED by its branches; an instruction that is not open selects BYPASS. -/
theorem securityCommands : Obligations.SecurityCommands := by
  refine ⟨fun s d m slot hr => Eq.trans (b := execSecRevoke d m slot s) rfl (onC_next hr),
    fun s d m target hr => Eq.trans (b := execSecLccmd d m target s) rfl (onC_next hr),
    fun s d slot use_ data hr => Eq.trans (b := execKeyProgram d slot use_ data s) rfl (atC_next hr),
    fun s d hr => Eq.trans (b := execDebugAuth d s) rfl (onCW_next hr ..),
    fun s d hr => Eq.trans (b := execIdcode d s) rfl (atC_next hr),
    fun s d cells hr => Eq.trans (b := execSamplePreload d cells s) rfl (atC_next hr),
    fun s d hr => Eq.trans (b := execExtest d s) rfl (atC_next hr),
    fun s d target hr => Eq.trans (b := execProv d target s) rfl (atC_next hr),
    fun s d hr => Eq.trans (b := execDebug d s) rfl (atC_next hr),
    fun s d hr => Eq.trans (b := execAuth d s) rfl (atC_next hr),
    fun s d hr => Eq.trans (b := execScan d s) rfl (atC_next hr),
    fun s d hr => Eq.trans (b := execBypass d s) rfl (atC_next hr),
    fun s d hr hk => ?_,
    fun s d hc => ?_⟩
  · have run : exec (.debugAuth d) s = _ := Eq.trans (b := execDebugAuth d s) rfl (onCW_of_unarmed hr hk _ _)
    exact ⟨fun hlc => run.trans (congrArg _ (if_pos (by simp [hlc]))), fun hlc hlocked =>
      run.trans (congrArg _ ((if_neg (by simp [hlc])).trans (if_pos hlocked)))⟩
  · have bypass : exec (.bypass d) s = _ := Eq.trans (b := execBypass d s) rfl (atC_next hc)
    have extest : exec (.extest d) s = _ := Eq.trans (b := execExtest d s) rfl (atC_next hc)
    have hbypass : s.tapOpens d.val Ti.bypass = false := rfl
    obtain ⟨hirB, hdrivesB, -⟩ := tapSelect_port d.val Ti.bypass s
    obtain ⟨hirE, hdrivesE, hcellsE⟩ := tapSelect_port d.val Ti.extest s
    refine ⟨⟨_, bypass, ?_, ?_, tapSelect_regs ..⟩, fun hopen => ⟨_, extest, ?_, ?_, hcellsE, tapSelect_regs ..⟩,
      fun hshut => ⟨_, extest, ?_, ?_, tapSelect_regs ..⟩⟩
    · rw [hirB, hbypass]; rfl
    · rw [hdrivesB, hbypass]; rfl
    · rw [hirE, hopen]; rfl
    · rw [hdrivesE, hopen]; rfl
    · rw [hirE, hshut]; rfl
    · rw [hdrivesE, hshut]; rfl

end Sys2Proof.Machine
end
